-- ==== Sys2Proof/Word.lean ====
section
/-! DEFINITION. The word types of the model and their plainest arithmetic. -/

namespace Sys2Proof

/-- A register: 32 bits (R505). -/
abbrev Word := BitVec 32

/-- One byte of a memory. -/
abbrev Byte := BitVec 8

/-- A count of a timebase, a date or a captured pair of registers: 64 bits (R34). -/
abbrev Count := BitVec 64

/-- A result, a quality figure or an event copy as it travels and is stored: 128 bits (R374). -/
abbrev Rec := BitVec 128

end Sys2Proof
end

