-- ==== Sys2Proof/Syntax.lean ====
section
/-! DEFINITION. The commands: one constructor for each row of the command table. Operands are named as the meanings name
them; an index is of a type that holds no other. -/

namespace Sys2Proof

/-- What a Skein port sees on its pins of one frame (R386, R390, R394): whether the host-driven part is complete, the byte
of its CRC phase, and whether the host clocks all the words of the reply that the frame carries; `same` says that its
select release falls in the core cycle of the other port's last one (R29). -/
structure Wire where
  complete : Bool
  crc : BitVec 8
  clocked : Bool
  same : Bool
  deriving DecidableEq, Repr

/-- A command. Agents `ag`: 0 Skein A, 1 Skein B, 2 the Bear core. Hosts `h` and ports `p` of frames and packets: 0 the
line-card host on Skein A, 1 the package host on Skein B. Trunks `t`, hubs `h` and leaves `leaf` of the Sett; engines `n`
with registers `x`, `y`, `z`; spindles and converters `n`, converter `c` of quad or group `q` where two name it; written words
`v`, none in an access that reads. A modulator's clock has its phase to the local counter beside the converter or network that
it clocks; beside a hub stand the command, by its place on the wire, and the bits of its word that arrive wrong; beside a
position of a frame, the privileged heads that are lowered before its grant; a commit ends with its segments that read back
wrong and whether it fails. -/
inductive Instr where
  /-- COLD_RESET (R11): VDD_AON rises above 0.72 V from unpowered or after falling below 0.70 V, and every field takes its reset value. -/
  | coldReset
  /-- POWER_GOOD (R467): All rails have been in range long enough, and the power controller powers domains 1–51 except those PWR_OFF names. -/
  | powerGood
  /-- CORE_LOSS (R469): A THERM, SUPPLY or CLOCK cause powers down domains 1–51, stops every trunk clock and records the cause. -/
  | coreLoss
  /-- CORE_RETURN (R469): A new power-good after a CORE loss starts the start-up as at cold start. -/
  | coreReturn
  /-- PWR_OFF_WRITE (R464): A write to PWR_OFF powers gateable domains down or up in ascending number. -/
  | pwrOffWrite (hi : Bool) (v : Word)
  /-- SUPPLY_EXCURSION (R444): A rail has been outside its monitor limit for 1 µs, setting UNDER or OVER and applying the consequences of Table 18.3. -/
  | supplyExcursion (i : Fin 8) (isOver : Bool) (mv : BitVec 12)
  /-- SUPPLY_RECOVERED (R468): A rail has been back in range for 1 ms and the consequence of its excursion ends. -/
  | supplyRecovered (i : Fin 8) (mv : BitVec 12)
  /-- CLOCK_FAULT (R445): A clock monitor reports a fault and the consequences of R466 apply. -/
  | clockFault (i : Fin 4)
  /-- CLOCK_FAULT_END (R466): 1 ms after a clock monitor last reported its fault, its consequence ends. -/
  | clockFaultEnd (i : Fin 4)
  /-- GOVERNOR_EVALUATE (R480): Every 1 ms the governor forms the power estimate and enters or leaves NORMAL, CAP or HOLD. -/
  | governorEvaluate (fox pos : Nat)
  /-- AON_SENSOR_SAMPLE (R481): Every 32 µs the AON sensor is read and the thermal power-off is judged. -/
  | aonSensorSample (v : BitVec 16) (invalid : Bool)
  /-- SS_RESET (R478): A write to SS_RESET puts the named subsystems into reset in one core cycle. -/
  | ssReset (v : Word)
  /-- SUBSYSTEM_RESET_COMPLETE (R478): A subsystem reset reaches its completion time and its SS_BUSY bit clears. -/
  | subsystemResetComplete (n : Fin 17)
  /-- RST_HONOURED_LOW (R472): The RST# filter accepts a low, and the ports, interpreter and Bear core are held in reset. -/
  | rstHonouredLow
  /-- RST_RELEASE (R473): RST# is seen high for 1 µs, ending the honoured low and restarting the ports, interpreter and Bear core. -/
  | rstRelease
  /-- STUCK_RESET (R475): RST# has been honoured low for the stuck-reset time, and Ralnex judges the pin failed and enters autonomous mode. -/
  | stuckReset
  /-- RST_HIGH_10MS (R476): After a judgement, RST# has stayed high for 10 ms and the pin is armed again. -/
  | rstHigh10ms
  /-- EXTEST (R504): The EXTEST instruction takes effect, driving boundary cells and stopping every trunk. -/
  | extest (cells : Option (BitVec 63)) (pins : BitVec 63) (a b : Bool)
  /-- SAMPLE (R501): The SAMPLE instruction selects the boundary register with functional outputs. -/
  | sample (pins : BitVec 63)
  /-- PRELOAD (R501): The PRELOAD instruction selects the boundary register with functional outputs. -/
  | preload (cells : BitVec 63)
  /-- IDCODE (R501): The IDCODE instruction selects the 32-bit identification register. -/
  | idcode
  /-- CLAMP (R504): The CLAMP instruction drives outputs from the boundary register, selects bypass and stops every trunk. -/
  | clamp (a b : Bool)
  /-- HIGHZ (R504): The HIGHZ instruction releases every driver and stops every trunk. -/
  | highz (a b : Bool)
  /-- BYPASS (R501): BYPASS, or a private or reserved code, selects the bypass register with functional outputs. -/
  | bypass
  /-- TEST_LOGIC_RESET (R501): The TAP controller enters Test-Logic-Reset and the functional paths return, retraining every trunk. -/
  | testLogicReset
  /-- REGISTER_WRITE (R507): A write to a register that has no row of its own is performed field by field by its access codes. -/
  | registerWrite (ag : Fin 3) (a : Fin 65536) (v : Word)
  /-- READ_LO_CAPTURE (R52): A read of an RO _LO register returns the low half and captures the high half for that reader. -/
  | readLoCapture (ag : Fin 3) (a : Fin 65536)
  /-- LINE_BLOCK (R368): A LINE control block gives a superframe marker to the line timebase, which lands it, re-seats or advances its lock state. -/
  | lineBlock (blk : BitVec 64)
  /-- MARKER_MISSING (R37): A marker has not arrived 64 ticks after its predicted instant, counting as missing and moving the timebase toward HOLDOVER or LOST. -/
  | markerMissing (w : Fin 4)
  /-- LINE_CTL_WRITE (R37): A write of LINE_CTL with EN = 0 puts the line timebase in UNLOCKED. -/
  | lineCtlWrite (w : Fin 4) (v : Word)
  /-- QW_PACKET (R39): A QW packet brings a quiet-window table in force for its superframe, or is discarded with QW_FAULT. -/
  | qwPacket (ws : List (BitVec 64)) (valid : Bool)
  /-- TONE_PACKET (R44): A TONE report gives the mains frequency and phase, and the mains timebase tracks it when usable. -/
  | tonePacket (ws : List (BitVec 64)) (valid : Bool)
  /-- MAINS_EDGE (R46): A usable reference edge on the MAINS input is tracked and tested for half-cycle agreement. -/
  | mainsEdge
  /-- MAINS_CYCLE_MISSING (R48): No usable reference arrives within 1.25 predicted periods, counting a missing cycle and entering HOLDOVER at the third. -/
  | mainsCycleMissing
  /-- MAINS_CTL_WRITE (R42): A write of MAINS_CTL changes the mains source, form or loop settings from the next reference. -/
  | mainsCtlWrite (v : Word)
  /-- MAINS_PHASE_OFS_WRITE (R47): A write of MAINS_PHASE_OFS moves the reported mains count by the change in one core cycle. -/
  | mainsPhaseOfsWrite (v : Word)
  /-- SNAP (R53): A write of 1 to TB_CTL.SNAP captures every timebase and state into the SNAP registers. -/
  | snap
  /-- SCH_CTL_WRITE (R55): A write of SCH_CTL arms or disarms a schedule entry, refusing a bad arm. -/
  | schCtlWrite (n : Fin 64) (v : Word)
  /-- SCH_TIME_WRITE (R58): A write of SCH_AT or SCH_PERIOD is performed, or ignored while the entry is armed. -/
  | schTimeWrite (n : Fin 64) (i : Fin 3) (v : Word)
  /-- SCHED_FIRE (R56): A schedule entry's instant is reached and the entry fires its action and advances or disarms. -/
  | schedFire (n : Fin 64)
  /-- XB_LINE_RETRY (R65): An entry waiting for a crosspoint line tries again in an AFE_SEQ cycle and takes a line when one is available. -/
  | xbLineRetry
  /-- XB_PIN_WRITE (R67): A write of XB_PIN requests a pin or unpins the line. -/
  | xbPinWrite (l : Fin 16) (v : Word)
  /-- XB_PIN_APPLY (R67): A line with a pending pin next has no users and is pinned to its code. -/
  | xbPinApply (l : Fin 16)
  /-- OW_PRECHECK_START (R80): A pre-check begins on a ball once no other entry settles or samples on it, switching on the burnout current. -/
  | owPrecheckStart (n : Fin 48)
  /-- OW_PRECHECK_SAMPLE (R77): At cycle 3,072 the comparators sample, the current switches off and OW_NOW is written. -/
  | owPrecheckSample (n : Fin 48) (vSource vSink : Nat)
  /-- SETTLE_END (R68): An entry's settle time runs out and it may begin sampling. -/
  | settleEnd (n : Fin 48)
  /-- INPUT_OVERRANGE (R74): An input becomes overranged, flagging results whose span contains it and raising OVERRANGE. -/
  | inputOverrange (n : Fin 48) (isOver : Bool)
  /-- CLAMP_CONDUCT (R73): An AIN clamp conducts and sets its CLAMP_LATCH bit. -/
  | clampConduct (b : Fin 64)
  /-- REF_OK_FALL (R85): A reference source's OK falls and REF_OK of its users falls, with failover by R88. -/
  | refOkFall (r : Fin 4)
  /-- REF_OK_RISE (R85): A reference source has stayed within its window long enough and its OK rises. -/
  | refOkRise (r : Fin 4)
  /-- REF_SEL_WRITE (R86): A write of REF_SEL that changes SRC starts the 200 µs switch of the quad or group. -/
  | refSelWrite (u : Fin 12) (v : Word)
  /-- REF_SWITCH_SETTLED (R86): 200 µs after a source change, REF_OK of the quad or group may rise. -/
  | refSwitchSettled (u : Fin 12)
  /-- REF_CTL_WRITE (R85): A write of REF_CTL enables or disables REF_A, REF_B or REF_EXT. -/
  | refCtlWrite (v : Word)
  /-- FINE_QCLK_WRITE (R96): A write that changes FINE_QCLK.MODE sets PENDING and stops new entries on the quad. -/
  | fineQclkWrite (q : Fin 8) (v : Word)
  /-- FINE_CLOCK_SWITCH (R96): No entry is in progress on a pending quad, so its modulator clock switches and waiting entries begin. -/
  | fineClockSwitch (q : Fin 8)
  /-- FINE_SAMPLING_START (R99): A Fine entry begins sampling at a modulator edge after its settle, REF_OK and trigger, clearing the decimator. -/
  | fineSamplingStart (k : Fin 32 × Fin 15625)
  /-- SWIFT_SAMPLING_START (R123): A Swift entry begins sampling at a sample edge after its settle, REF_OK and trigger, clearing its stages. -/
  | swiftSamplingStart (j : Fin 16)
  /-- GROUP_EDGE (R102): At a trigger group's edge each armed member samples, carries SETTLING, or misses the trigger. -/
  | groupEdge (g : Fin 32) (net : Fin 3 × Fin 15625)
  /-- FINE_RESULT (R154): The Fine chain completes a result, which the spindle stamps and delivers to its FIFO or Ply queue. -/
  | fineResult (q : Fin 8) (c : Fin 4) (ms : List Int)
  /-- SWIFT_RESULT (R160): The Swift chain completes a result or I/Q pair, which the spindle stamps and delivers. -/
  | swiftResult (q : Fin 4) (c : Fin 4) (ms : List Int)
  /-- FINE_CALREQ_GO (R109): A write of FINE_CALREQ with GO = 1 queues a calibration conversion or is refused. -/
  | fineCalreqGo (k : Fin 32) (v : Word)
  /-- FINE_CAL_START (R109): A queued Fine calibration conversion begins at the converter's next gap, stopping a continuous run if needed. -/
  | fineCalStart (k : Fin 32)
  /-- FINE_CAL_DONE (R109): A Fine calibration conversion completes, writing CALRES and setting DONE. -/
  | fineCalDone (k : Fin 32) (ms : List Int)
  /-- SWIFT_CALREQ_GO (R129): A write of SWIFT_CALREQ with GO = 1 queues a calibration conversion or is refused. -/
  | swiftCalreqGo (j : Fin 16) (v : Word)
  /-- SWIFT_CAL_START (R129): A queued Swift calibration conversion begins at the converter's next gap. -/
  | swiftCalStart (j : Fin 16)
  /-- SWIFT_CAL_DONE (R129): A Swift calibration conversion averages its samples into CALRES and sets DONE. -/
  | swiftCalDone (j : Fin 16) (ms : List Int)
  /-- NCO_LOAD (R131): A write of SWIFT_NCO_LOAD sets the named accumulators to 0 at the next sample edge and records T0. -/
  | ncoLoad (v : Word)
  /-- NCO_FREQ_WRITE (R130): A write of SWIFT_NCO_FREQ sets the NCO frequency at the next sample edge, or is ignored out of range. -/
  | ncoFreqWrite (j : Fin 16) (v : Word)
  /-- FILT_COEF_DATA_ACCESS (R157): An access of FILT_COEF_DATA reads or writes a bank coefficient and advances TAP. -/
  | filtCoefDataAccess (ag : Fin 3) (v : Option Word)
  /-- SP_START (R167): The START command advances EPOCH and starts a stopped spindle, or cancels a stop. -/
  | spStart (n : Fin 48)
  /-- SP_START_ONCE (R167): The START_ONCE command starts a spindle for one pass, or puts a running spindle in STOPPING. -/
  | spStartOnce (n : Fin 48)
  /-- SP_STOP_PASS (R167): The STOP_PASS command puts a running spindle in STOPPING. -/
  | spStopPass (n : Fin 48)
  /-- SP_STOP_NOW (R167): The STOP_NOW command aborts the run in progress and stops the spindle. -/
  | spStopNow (n : Fin 48)
  /-- RUN_START (R166): A spindle starts its next run, judging the entry and taking its line, or holds it under STALL. -/
  | runStart (n : Fin 48)
  /-- SEQ_IDX_WRITE (R171): A write of SEQ_IDX selects an entry and loads the staging buffer. -/
  | seqIdxWrite (ag : Fin 3) (v : Word)
  /-- SEQ_DATA_ACCESS (R171): An access of SEQ_DATA stages or commits a definition word and advances the index. -/
  | seqDataAccess (ag : Fin 3) (v : Option Word)
  /-- SP_CFG_WRITE (R172): A write of SP_CFG is performed only while the spindle is STOPPED. -/
  | spCfgWrite (n : Fin 48) (v : Word)
  /-- TG_FIRE (R173): A write of TG_FIRE raises a trigger of each named group. -/
  | tgFire (v : Word)
  /-- SP_URGENT (R175): A write of SP_URGENT raises an urgent request to a spindle. -/
  | spUrgent (v : Word)
  /-- URGENT_REGISTER (R175): An urgent request is registered and accepted, queued, merged or refused, aborting the run in progress. -/
  | urgentRegister (n : Fin 48)
  /-- ENTRY_RESTART (R105): After an urgent entry's last result, the aborted run or a queued urgent entry starts. -/
  | entryRestart (n : Fin 48)
  /-- FIFO_ENABLE (R178): A write of FIFO_CFG.EN enables a FIFO if its region is valid, clearing its pointers and notices. -/
  | fifoEnable (f : Fin 48) (v : Word)
  /-- FIFO_RP_WRITE (R180): A write of FIFO_RP advances the read pointer, or is ignored and sets RP_BAD. -/
  | fifoRpWrite (f : Fin 48) (v : Word)
  /-- FIFO_NOTICE_CLEAR (R181): A write of 1 clears a FIFO notice and resets PEAK, setting it again if the level still crosses. -/
  | fifoNoticeClear (f : Fin 48) (v : Word)
  /-- MIGRATE_SWITCH (R184): A spindle migration's switch instant is reached and the sequence passes to the other spindle, which starts. -/
  | migrateSwitch (a : Fin 48)
  /-- FRM_BANK_CHANGE (R186): After the pass following a completed load, a forerunner-mode spindle changes banks and advances EPOCH. -/
  | frmBankChange (n : Fin 48)
  /-- IDLE (R198): An IDLE command has no effect at the hub. -/
  | idle (t : Fin 12) (h : Fin 64)
  /-- WRITE_SHADOW (R198): A hub sets a node's shadow trim to the code. -/
  | writeShadow (t : Fin 12) (h : Fin 64) (leaf : Fin 16384) (code : Fin 4096)
  /-- WRITE_SHADOW_INCR (R194): A hub adds a signed increment to a shadow trim, clamped to the kind's limits. -/
  | writeShadowIncr (t : Fin 12) (h : Fin 64) (leaf : Fin 16384) (inc : Fin 4096)
  /-- READ_SHADOW (R198): A hub returns a node's shadow code in a DATA slot. -/
  | readShadow (t : Fin 12) (h : Fin 64) (leaf : Fin 16384) (tag : Fin 64)
  /-- READ_ACTIVE (R198): A hub returns a node's active code in a DATA slot. -/
  | readActive (t : Fin 12) (h : Fin 64) (leaf : Fin 16384) (tag : Fin 64)
  /-- COPY_ACTIVE_TO_SHADOW (R198): A hub copies active to shadow for a node or all nodes, clearing TAINT with ALL = 1. -/
  | copyActiveToShadow (t : Fin 12) (h : Fin 64) (leaf : Fin 16384) (all : Bool)
  /-- STEP_ARM (R198): A hub sets or clears a step's bit in its armed set. -/
  | stepArm (t : Fin 12) (h : Fin 64) (step : Fin 32) (disarm : Bool)
  /-- STEP_FIRE (R198): A hub performs a node fire, moving one node's shadow to active at once. -/
  | stepFire (t : Fin 12) (h : Fin 64) (leaf : Fin 16384)
  /-- SENSE_SELECT (R213): Every hub opens its tap and the named hub connects the node's sense tap to TS. -/
  | senseSelect (t : Fin 12) (h : Fin 64) (leaf : Fin 16384) (tag : Fin 64)
  /-- SENSE_RELEASE (R213): Every hub of the trunk opens its tap and the sense pair is tied off. -/
  | senseRelease (t : Fin 12)
  /-- HUB_STATUS (R198): A hub returns a status word of Table 8.9. -/
  | hubStatus (t : Fin 12) (h : Fin 64) (word : Fin 4) (tag : Fin 64)
  /-- HOLD_SILENT (R198): A hub stops sending in its slot and discards its queued replies. -/
  | holdSilent (t : Fin 12) (h : Fin 64)
  /-- RELEASE_SILENT (R198): A hub sends in its slot again. -/
  | releaseSilent (t : Fin 12) (h : Fin 64)
  /-- TRAIN_ALIGN (R198): A hub shifts its slot start by VALUE and replies with a TRAIN slot. -/
  | trainAlign (t : Fin 12) (h : Fin 64) (value : Fin 4096) (tag : Fin 64)
  /-- TRAIN_FLIGHT (R208): A hub sets its fire delay FLIGHT. -/
  | trainFlight (t : Fin 12) (h : Fin 64) (value : Fin 4096)
  /-- TRAIN_LIMIT (R198): A hub sets the LO or HI limit of a kind. -/
  | trainLimit (t : Fin 12) (h kind : Fin 64) (sgn hi : Bool) (value : Fin 4096)
  /-- FWD_CHECK_FAIL (R199): A hub discards a command with a bad CHECK, sets TAINT and counts FWD_ERR. -/
  | fwdCheckFail (t : Fin 12) (h : Fin 64 × Nat × BitVec 48)
  /-- HUB_MARKER_RECEIVE (R197): A hub re-aligns to a valid marker and takes its fire or disarm, or discards a bad marker with MARKER_ERR. -/
  | hubMarkerReceive (t : Fin 12) (h : Fin 64) (flips : Word)
  /-- HUB_FIRE (R208): FIRE_AT plus FLIGHT after the marker, an armed hub brings its shadow trims into force, or refuses if tainted. -/
  | hubFire (t : Fin 12) (h : Fin 64)
  /-- HUB_MARKER_TIMEOUT (R209): A hub that has seen no valid marker for 4 frame times clears its armed set. -/
  | hubMarkerTimeout (t : Fin 12) (h : Fin 64)
  /-- MARKER_FORM (R207): The Sett forms a frame's marker 8 ns before it, fixing the fire or disarm it carries. -/
  | markerForm (sub : Fin 3)
  /-- WHORL_DECIDE (R228): In a load cycle the arbiter grants the position by Table 9.2, or carries IDLE or a Sett command. -/
  | whorlDecide (t : Fin 12) (p : Fin 42 × BitVec 5)
  /-- WHORL_WITHDRAW (R229): A privileged requester withdraws its grant and the position is decided again. -/
  | whorlWithdraw (t : Fin 12) (p : Fin 42)
  /-- MASK_ASSERT (R226): A sideband mask is asserted and the requester's heads and queue are discarded. -/
  | maskAssert (r : Fin 23)
  /-- SLOT_RECEIVE (R216): A return slot is received and taken, marked drifted, discarded as collision or bad CHECK, or delivered as a reply. -/
  | slotReceive (t : Fin 12) (h : Fin 64) (off : Int) (flips : BitVec 64) (due early : Bool)
  /-- SLOT_MISSING (R215): A hub's slot carries no preamble, counting toward LOST after 8. -/
  | slotMissing (t : Fin 12) (h : Fin 64)
  /-- REPLY_TIMEOUT (R204): No reply has arrived 32 slots after the grant, and the transaction is retried or completes NO_REPLY. -/
  | replyTimeout (t : Fin 12) (h : Fin 64) (i : Fin 15)
  /-- STEP_REPORT_TIMEOUT (R211): A hub reports no fire within 16 of its slots and the step becomes PARTIAL. -/
  | stepReportTimeout (i : Fin 32) (t : Fin 12) (h : Fin 64)
  /-- STEP_OPEN (R206): A write of STEP_CTL.OPEN opens a step for the writing agent, or waits for disarms, or is refused. -/
  | stepOpen (ag : Fin 3) (i : Fin 32) (v : Word)
  /-- STEP_OPEN_COMPLETE (R209): Every disarm of a step has been sent and a waiting open proceeds to OPEN. -/
  | stepOpenComplete (i : Fin 32)
  /-- STEP_SEAL (R206): A write of STEP_CTL.SEAL by the owner seals the step, or cancels it with cause EMPTY. -/
  | stepSeal (ag : Fin 3) (i : Fin 32) (v : Word)
  /-- STEP_CANCEL (R210): A write of STEP_CTL.CANCEL cancels the step with cause REQUEST and sends its disarms. -/
  | stepCancel (ag : Fin 3) (i : Fin 32) (v : Word)
  /-- STEP_EXPIRE (R210): A step stays SEALED beyond MAXWAIT and is cancelled with cause EXPIRED. -/
  | stepExpire (i : Fin 32)
  /-- HUB_RELEASE (R217): HUB_CMD RELEASE sends RELEASE_SILENT and retrains a quarantined hub. -/
  | hubRelease (ag : Fin 3)
  /-- HUB_RETRAIN (R215): HUB_CMD RETRAIN puts the hub in TRAINING. -/
  | hubRetrain (ag : Fin 3)
  /-- HUB_QUARANTINE (R217): HUB_CMD QUARANTINE puts the hub in QUARANTINED. -/
  | hubQuarantine (ag : Fin 3)
  /-- QUARANTINE_AUTO_RELEASE (R217): AUTO_REL ms after a quarantine, firmware releases the hub and it is retrained. -/
  | quarantineAutoRelease (t : Fin 12) (h : Fin 64)
  /-- TRAINING_COMPLETE (R215): Training of a hub ends and it becomes ACTIVE or MISMATCH, setting FLAT and RLAT. -/
  | trainingComplete (t : Fin 12) (h : Fin 64) (flight rlat : Nat)
  /-- PARTNER_DIE_POWER_LOSS (R218): A partner die loses power and its hubs stop sending. -/
  | partnerDiePowerLoss (d : Fin 5)
  /-- PARTNER_DIE_POWER_UP (R218): A partner die returns and its hubs send IDLE with FRESH at node-kind defaults. -/
  | partnerDiePowerUp (d : Fin 5)
  /-- PARTNER_RESTORE (R218): Firmware has the restore requester rewrite a returned hub's shadow trims and seal a restore step. -/
  | partnerRestore (d : Fin 5)
  /-- TAINT_RECOVERY (R199): Firmware issues COPY_ACTIVE_TO_SHADOW with ALL = 1 to a tainted hub. -/
  | taintRecovery (t : Fin 12) (h : Fin 64)
  /-- TRK_EN_WRITE (R219): A write of SETT_CTL.TRK_EN starts a trunk's frames and training, or stops it and cancels its steps. -/
  | trkEnWrite (v : Word)
  /-- KIND_WRITE (R193): A write of KIND_DEF or KIND_LIM sets a kind, or is ignored while the trunk is enabled or invalid. -/
  | kindWrite (ag : Fin 3) (lim : Bool) (v : Word)
  /-- KMAP_DATA_ACCESS (R193): An access of KMAP_DATA reads or writes a leaf's kind and advances LEAF. -/
  | kmapDataAccess (ag : Fin 3) (v : Option Word)
  /-- SWAP (R232): A write of WH_CTL.SWAP sets SWAP_PENDING. -/
  | swap (t : Fin 12)
  /-- TABLE_SWAP (R232): At the first position of slot 0 the written bank becomes active. -/
  | tableSwap (t : Fin 12)
  /-- WH_TDATA_ACCESS (R232): An access of WH_TDATA reads or writes a time-table slot of the inactive bank and advances SLOT. -/
  | whTdataAccess (ag : Fin 3) (v : Option Word)
  /-- WH_RDATA_ACCESS (R233): An access of WH_RDATA reads or writes a ranking entry and advances RANK. -/
  | whRdataAccess (ag : Fin 3) (v : Option Word)
  /-- WATCH_CLEAR (R236): A write of 1 to WSTAT.STARVED clears it and resets PEAK. -/
  | watchClear (t : Fin 12) (w : Fin 4)
  /-- HALT (R264): HALT issues when the queue, pending registers and buffer are empty, and the engine enters HALTED. -/
  | halt (n : Fin 16)
  /-- NOP (R252): NOP does nothing. -/
  | nop (n : Fin 16)
  /-- SYNC (R251): SYNC issues when the write buffer is empty, every earlier store being visible. -/
  | sync (n : Fin 16)
  /-- GETS (R252): GETS reads a special register into sX. -/
  | gets (n x : Fin 16) (k : Fin 64)
  /-- TEMP_RD (R252): TEMP.RD reads a sensor's temperature into sX. -/
  | tempRd (n x : Fin 16) (k : Fin 64)
  /-- ADD (R252): sX receives sY + sZ. -/
  | add (n x y z : Fin 16)
  /-- SUB (R252): sX receives sY − sZ. -/
  | sub (n x y z : Fin 16)
  /-- AND (R252): sX receives the bitwise AND. -/
  | and (n x y z : Fin 16)
  /-- OR (R252): sX receives the bitwise OR. -/
  | or (n x y z : Fin 16)
  /-- XOR (R252): sX receives the bitwise XOR. -/
  | xor (n x y z : Fin 16)
  /-- SHL (R252): sX receives sY shifted left. -/
  | shl (n x y z : Fin 16)
  /-- SHR (R252): sX receives sY shifted right logically. -/
  | shr (n x y z : Fin 16)
  /-- SAR (R252): sX receives sY shifted right arithmetically. -/
  | sar (n x y z : Fin 16)
  /-- LT (R252): sX receives the signed comparison. -/
  | lt (n x y z : Fin 16)
  /-- LTU (R252): sX receives the unsigned comparison. -/
  | ltu (n x y z : Fin 16)
  /-- MUL (R252): sX receives the low 32 bits of the product. -/
  | mul (n x y z : Fin 16)
  /-- MULHS (R252): sX receives the high 32 bits of the signed product. -/
  | mulhs (n x y z : Fin 16)
  /-- MIN (R252): sX receives the signed minimum. -/
  | min (n x y z : Fin 16)
  /-- MAX (R252): sX receives the signed maximum. -/
  | max (n x y z : Fin 16)
  /-- DIV (R252): sX receives the signed quotient truncated toward 0. -/
  | div (n x y z : Fin 16)
  /-- ADDK (R252): sX receives sY + IMM. -/
  | addk (n x y : Fin 16) (imm : BitVec 18)
  /-- ANDK (R252): sX receives sY AND zero-extended IMM. -/
  | andk (n x y : Fin 16) (imm : BitVec 18)
  /-- ORK (R252): sX receives sY OR zero-extended IMM. -/
  | ork (n x y : Fin 16) (imm : BitVec 18)
  /-- XORK (R252): sX receives sY XOR zero-extended IMM. -/
  | xork (n x y : Fin 16) (imm : BitVec 18)
  /-- SHIFTK (R252): sX receives sY shifted by an immediate amount in the mode IMM selects. -/
  | shiftk (n x y : Fin 16) (imm : BitVec 18)
  /-- LTK (R252): sX receives the signed comparison of sY with IMM. -/
  | ltk (n x y : Fin 16) (imm : BitVec 18)
  /-- HIGHK (R252): sX receives IMM × 2^10. -/
  | highk (n x : Fin 16) (imm : BitVec 22)
  /-- LOAD32 (R242): sX receives the 32-bit word at sY + IMM. -/
  | load32 (n x y : Fin 16) (imm : BitVec 18)
  /-- LOAD16S (R242): sX receives the sign-extended halfword. -/
  | load16s (n x y : Fin 16) (imm : BitVec 18)
  /-- LOAD16U (R242): sX receives the zero-extended halfword. -/
  | load16u (n x y : Fin 16) (imm : BitVec 18)
  /-- LOAD8S (R242): sX receives the sign-extended byte. -/
  | load8s (n x y : Fin 16) (imm : BitVec 18)
  /-- LOAD8U (R242): sX receives the zero-extended byte. -/
  | load8u (n x y : Fin 16) (imm : BitVec 18)
  /-- STORE32 (R249): The word of sX is stored, to scratch at once or through the write buffer. -/
  | store32 (n x y : Fin 16) (imm : BitVec 18)
  /-- STORE16 (R249): The low halfword of sX is stored. -/
  | store16 (n x y : Fin 16) (imm : BitVec 18)
  /-- STORE8 (R249): The low byte of sX is stored. -/
  | store8 (n x y : Fin 16) (imm : BitVec 18)
  /-- VLOAD (R243): vX receives 32 aligned bytes. -/
  | vload (n x y : Fin 16) (imm : BitVec 18)
  /-- VSTORE (R243): 32 aligned bytes receive vX. -/
  | vstore (n x y : Fin 16) (imm : BitVec 18)
  /-- IFEQ (R252): Branch when sX equals sY. -/
  | ifeq (n x y : Fin 16) (off : BitVec 18)
  /-- IFNE (R252): Branch when sX differs from sY. -/
  | ifne (n x y : Fin 16) (off : BitVec 18)
  /-- IFLT (R252): Branch when sX is signed less than sY. -/
  | iflt (n x y : Fin 16) (off : BitVec 18)
  /-- IFGE (R252): Branch when sX is signed greater or equal. -/
  | ifge (n x y : Fin 16) (off : BitVec 18)
  /-- IFLO (R252): Branch when sX is unsigned lower. -/
  | iflo (n x y : Fin 16) (off : BitVec 18)
  /-- IFHS (R252): Branch when sX is unsigned higher or same. -/
  | ifhs (n x y : Fin 16) (off : BitVec 18)
  /-- CALL (R252): sX receives the return address and control jumps to the target. -/
  | call (n x : Fin 16) (off : BitVec 22)
  /-- CALLR (R252): sX receives the return address and control jumps to sY + IMM. -/
  | callr (n x y : Fin 16) (imm : BitVec 18)
  /-- VADD (R253): Lanes of vX receive vY + vZ. -/
  | vadd (n x y z : Fin 16)
  /-- VSUB (R253): Lanes of vX receive vY − vZ. -/
  | vsub (n x y z : Fin 16)
  /-- VADDS (R253): Saturating lane addition. -/
  | vadds (n x y z : Fin 16)
  /-- VSUBS (R253): Saturating lane subtraction. -/
  | vsubs (n x y z : Fin 16)
  /-- VMUL (R253): Lanes receive the low bits of the product. -/
  | vmul (n x y z : Fin 16)
  /-- VMULQ (R253): Lanes receive the product rounded by 15, saturating. -/
  | vmulq (n x y z : Fin 16)
  /-- VMIN (R253): Lanes receive the signed minimum. -/
  | vmin (n x y z : Fin 16)
  /-- VMAX (R253): Lanes receive the signed maximum. -/
  | vmax (n x y z : Fin 16)
  /-- VAND (R253): Lanes receive the bitwise AND. -/
  | vand (n x y z : Fin 16)
  /-- VOR (R253): Lanes receive the bitwise OR. -/
  | vor (n x y z : Fin 16)
  /-- VXOR (R253): Lanes receive the bitwise XOR. -/
  | vxor (n x y z : Fin 16)
  /-- VCLT (R253): Lanes receive an all-ones mask where vY < vZ. -/
  | vclt (n x y z : Fin 16)
  /-- VCEQ (R253): Lanes receive an all-ones mask where vY = vZ. -/
  | vceq (n x y z : Fin 16)
  /-- VSEL (R253): Lanes select vY or vZ by the mask in vX. -/
  | vsel (n x y z : Fin 16)
  /-- VSAR (R253): Lanes receive vY shifted right arithmetically by sZ. -/
  | vsar (n x y z : Fin 16)
  /-- VSHL (R253): Lanes receive vY shifted left by sZ. -/
  | vshl (n x y z : Fin 16)
  /-- VSPLAT (R253): Every lane of vX receives sY[15:0]. -/
  | vsplat (n x y : Fin 16)
  /-- VEXT (R253): sX receives one sign-extended lane of vY. -/
  | vext (n x y z : Fin 16)
  /-- VINS (R253): One lane of vX receives sY[15:0]. -/
  | vins (n x y z : Fin 16)
  /-- VSUM (R253): sX receives the sum of the lanes of vY. -/
  | vsum (n x y : Fin 16)
  /-- VIDX (R253): Lane l of vX receives l. -/
  | vidx (n x : Fin 16)
  /-- VCLAMP (R253): Lanes of vX are clamped between vY and vZ. -/
  | vclamp (n x y z : Fin 16)
  /-- AMAC (R253): aX accumulates vY × vZ. -/
  | amac (n x y z : Fin 16)
  /-- AMSU (R253): aX subtracts vY × vZ. -/
  | amsu (n x y z : Fin 16)
  /-- AMUL (R253): aX receives vY × vZ. -/
  | amul (n x y z : Fin 16)
  /-- ACLR (R253): aX is cleared. -/
  | aclr (n x : Fin 16)
  /-- AADDV (R253): aX accumulates vY. -/
  | aaddv (n x y : Fin 16)
  /-- ALDV (R253): aX receives vY sign-extended. -/
  | aldv (n x y : Fin 16)
  /-- AMACS (R253): aX accumulates vY × sZ. -/
  | amacs (n x y z : Fin 16)
  /-- AOUT (R253): vX receives aY rounded and saturated. -/
  | aout (n x y z : Fin 16)
  /-- ASUM (R253): sX receives the rounded sum of the lanes of aY. -/
  | asum (n x y z : Fin 16)
  /-- NODE_WR (R254): A WRITE_SHADOW is queued on the node's trunk. -/
  | nodeWr (n x y : Fin 16)
  /-- NODE_INC (R254): A WRITE_SHADOW_INCR is queued. -/
  | nodeInc (n x y : Fin 16)
  /-- NODE_WRV (R254): One WRITE_SHADOW per lane is queued at a stride. -/
  | nodeWrv (n x y z lanes : Fin 16)
  /-- NODE_INCV (R254): One WRITE_SHADOW_INCR per lane is queued at a stride. -/
  | nodeIncv (n x y z lanes : Fin 16)
  /-- NODE_RD (R255): A READ_ACTIVE or READ_SHADOW is queued and sX becomes pending. -/
  | nodeRd (n x y : Fin 16) (shadow : Bool)
  /-- NODE_SENSE (R255): A SENSE_SELECT or SENSE_RELEASE is queued and sX becomes pending. -/
  | nodeSense (n x y : Fin 16) (release : Bool)
  /-- NODE_FENCE (R257): NODE.FENCE issues once earlier transactions complete and returns the completion counts. -/
  | nodeFence (n x : Fin 16)
  /-- NODE_COMPLETION (R255): A node transaction of an engine completes, writing a pending register and counting in NCNT. -/
  | nodeCompletion (n : Fin 16)
  /-- STEP_ARM_OPEN (R258): STEP.ARM OPEN opens a step on a timebase for the engine. -/
  | stepArmOpen (n x y z : Fin 16) (tb : Fin 8)
  /-- STEP_ARM_ARM (R258): STEP.ARM ARM queues a STEP_ARM to a hub. -/
  | stepArmArm (n x y z : Fin 16)
  /-- STEP_ARM_SEAL (R258): STEP.ARM SEAL seals the step once its arms are granted. -/
  | stepArmSeal (n x y : Fin 16)
  /-- STEP_ARM_CANCEL (R258): STEP.ARM CANCEL cancels the step with cause REQUEST. -/
  | stepArmCancel (n x y : Fin 16)
  /-- STEP_ARM_STATUS (R258): STEP.ARM STATUS reads STEP_STAT into sX. -/
  | stepArmStatus (n x y : Fin 16)
  /-- WAIT_LOCAL (R259): WAIT releases when the local count reaches the instant. -/
  | waitLocal (n x y z : Fin 16)
  /-- WAIT_MAINS (R259): WAIT releases when the mains count reaches the instant. -/
  | waitMains (n x y z : Fin 16)
  /-- WAIT_LINE (R259): WAIT releases at the start of the first qualifying quiet window. -/
  | waitLine (n x z : Fin 16) (w : Fin 4)
  /-- WAIT_EVENT (R259): WAIT releases when a named event latch is set, consuming it. -/
  | waitEvent (n x z : Fin 16) (mask : BitVec 8)
  /-- WAIT_SIGNAL (R259): WAIT releases when the signal latch is set, consuming it. -/
  | waitSignal (n x z : Fin 16)
  /-- WAIT_TIMEOUT (R259): A WAIT's timeout runs out first and it completes with sX[31] set. -/
  | waitTimeout (n : Fin 16)
  /-- STAT_PULL (R261): STAT.PULL copies the oldest ready block of a stream into scratch. -/
  | statPull (n x y z : Fin 16) (units : Fin 1024) (wait : Bool)
  /-- QF_PUT (R262): QF.PUT forms a quality-figure record into the ring and Ply queue and raises FX_QF. -/
  | qfPut (n x y : Fin 16) (flags : Fin 256)
  /-- WRITE_BUFFER_DRAIN (R249): A buffered store of an engine is performed at its bank. -/
  | writeBufferDrain (n : Fin 16) (i : Fin 8)
  /-- FX_START (R266): The START command advances EPOCH and runs the engine from FX_START. -/
  | fxStart (m : BitVec 16)
  /-- FX_STOP (R266): The STOP command ends issue, discards queued transactions and halts the engine. -/
  | fxStop (m : BitVec 16)
  /-- FX_STOP_DRAIN (R266): The STOP_DRAIN command ends issue and puts the engine in DRAINING. -/
  | fxStopDrain (m : BitVec 16)
  /-- FX_DRAIN_COMPLETE (R266): A DRAINING engine's queue, pending registers and buffer empty and it enters HALTED. -/
  | fxDrainComplete (n : Fin 16)
  /-- FX_DBG_DATA_ACCESS (R268): An access of FX_DBG_DATA reads or writes an engine register and advances SEL. -/
  | fxDbgDataAccess (ag : Fin 3) (v : Option Word)
  /-- RING_ENABLE (R263): A write of FX_QFRING.EN enables a quality-figure ring if its region is valid. -/
  | ringEnable (n : Fin 16) (v : Word)
  /-- FOX_MIGRATE_SWITCH (R272): A Fox migration's switch instant is reached and engine A stops issuing and enters MIGRATING. -/
  | foxMigrateSwitch
  /-- FOX_MIGRATE_COPY_DONE (R272): The copy into engine B completes and B runs under the new epoch while A drains. -/
  | foxMigrateCopyDone
  /-- TEMP_EVALUATE (R282): Every 10 ms firmware compares each domain's sensor with its reference and requests a run. -/
  | tempEvaluate
  /-- DEN_REQ_TAKE (R434): Every 10 ms firmware takes and clears the Den's request set. -/
  | denReqTake
  /-- DOMAIN_MIN_GAP (R283): MIN_GAP has passed and a PENDING domain becomes WAITING. -/
  | domainMinGap (d : Fin 1024)
  /-- DOMAIN_RUN_START (R285): Firmware starts a WAITING domain's run on its engine. -/
  | domainRunStart (d : Fin 1024)
  /-- DOMAIN_RUN_END (R286): A run ends by HALT or another cause, and firmware journals it or records the cause. -/
  | domainRunEnd (d : Fin 1024) (m : List Int)
  /-- WINDOW_DECISION (R303): A window's trip condition has held QUAL + 1 cycles, its latch sets and it takes its actions. -/
  | windowDecision (w : Fin 256)
  /-- W_CFG_WRITE (R299): A write of W_CFG configures a window, or is ignored for a PT, invalid or reserved setting. -/
  | wCfgWrite (w : Fin 256) (v : Word)
  /-- W_THR_WRITE (R300): A write of W_THR sets the thresholds, or is ignored when LO > HI. -/
  | wThrWrite (w : Fin 256) (v : Word)
  /-- LATCH_CLEAR (R304): A write of 1 to OWL_LATCH clears a window latch. -/
  | latchClear (i : Fin 8) (v : Word)
  /-- OWL_ARM (R308): OWL_GCMD ARM sets a window's guard arm. -/
  | owlArm (w : Fin 256)
  /-- OWL_DISARM (R308): OWL_GCMD DISARM clears a window's guard arm. -/
  | owlDisarm (w : Fin 256)
  /-- SUSPEND_END (R305): A window's suspension ends and its class is taken from the plain thresholds. -/
  | suspendEnd (w : Fin 256) (v : Int)
  /-- SELF_CHECK_TIE (R311): A TIE self-check connects a level and samples the class. -/
  | selfCheckTie (c : Fin 4)
  /-- SELF_CHECK_SWAP (R311): A SWAP self-check exchanges the tap wires and samples both classes. -/
  | selfCheckSwap (swapped normal : Fin 4)
  /-- SELF_CHECK_END (R312): A self-check ends, sets DONE and judges a TIE result. -/
  | selfCheckEnd
  /-- AUTO_VISIT (R313): Every PERIOD µs the unit runs TIE checks on the next included window. -/
  | autoVisit
  /-- MACRO_READ (R320): A READ frame reads words from a Hoard macro. -/
  | macroRead (m : Fin 8) (a : Fin 0x600000) (n : Fin 4097) (ce : Nat) (bad : List Nat)
  /-- MACRO_WRITE (R320): A WRITE frame programs words of a Hoard macro. -/
  | macroWrite (m : Fin 8) (a : Fin 0x600000) (bs : List Byte) (err : Bool)
  /-- MACRO_STATUS (R320): A STATUS frame returns BUSY and error bits, making a write durable. -/
  | macroStatus (m : Fin 8)
  /-- MACRO_RESET (R320): MACRO_RESET ends any programming in progress. -/
  | macroReset (m : Fin 8)
  /-- MACRO_IDENT (R320): IDENT returns 8 bytes of macro identity. -/
  | macroIdent (m : Fin 8)
  /-- JOURNAL_APPEND (R333): Firmware appends a journal record, or marks the domain dirty when the budget refuses it. -/
  | journalAppend
  /-- COMMIT_BEGIN (R336): Firmware begins a commit into the non-current working image, invalidating its header. -/
  | commitBegin
  /-- COMMIT_DONE (R337): The new header is read back and the target becomes current, or the commit is abandoned. -/
  | commitDone (ended : List Nat × Bool)
  /-- RESTORE (R339): The restore requester takes each hub's codes from the first good image and the journal and writes the hubs. -/
  | restore
  /-- CONFIG_ITEM_WRITE (R343): Firmware writes a configuration item record, copying halves when full. -/
  | configItemWrite (it : Fin 65536) (v : List Byte)
  /-- WEAR_FLUSH (R346): At each commit and every 4 h the wear metadata and counters are flushed. -/
  | wearFlush
  /-- WEAR_FORECAST (R348): Every 24 h firmware forecasts DAYS_ROW and DAYS_SPARE. -/
  | wearForecast
  /-- RETENTION_UPDATE (R350): Every 1 s firmware adds retention age to each region and refreshes those at 16 years. -/
  | retentionUpdate
  /-- WRITE_DEFER (R352): The temperature reaches 120 °C and firmware stops Hoard writes. -/
  | writeDefer
  /-- WRITE_RESUME (R352): The temperature falls below 115 °C and writes resume with deferred deltas. -/
  | writeResume
  /-- LANE_LOCK (R366): A Ply lane receives 64 valid sync headers and locks. -/
  | laneLock (i : Fin 16) (bad : Nat)
  /-- LANE_DOWN (R366): A Ply lane receives 64 invalid sync headers or loses clock and goes down. -/
  | laneDown (i : Fin 16) (bad : Nat) (clock : Bool)
  /-- LINK_TRAIN (R367): A Ply link trains, choosing its width and measuring latency, or stays DOWN and retries every 100 µs. -/
  | linkTrain (d : Fin 2) (trip turn : Nat)
  /-- PLY_RETRAIN (R367): A write of PLY_CTL.RETRAIN trains both links. -/
  | plyRetrain (v : Word)
  /-- STAT_PACKET (R371): A STAT part is written into its block's slot and the block becomes ready after the last part. -/
  | statPacket (ws : List (BitVec 64)) (valid : Bool)
  /-- STREAM_ENABLE (R370): A write of PLY_STREAM.EN enables or disables a statistics stream. -/
  | streamEnable (k : Fin 64) (v : Word)
  /-- OUTBOUND_SEND (R374): An outbound queue reaches its count or gather time and sends a packet. -/
  | outboundSend (q : Fin 3)
  /-- REPEAT (R391): A REPEAT frame carries the held reply again. -/
  | repeatFrame (p : Fin 2) (n : Fin 65536) (w : Wire)
  /-- NOP_FRAME (R383): A NOP frame takes effect with no action. -/
  | nopFrame (p : Fin 2) (op : Fin 256) (n : Fin 65536) (w : Wire)
  /-- STATUS (R383): A STATUS frame snapshots SK_PSTAT as its reply. -/
  | status (p : Fin 2) (n : Fin 65536) (w : Wire)
  /-- REG_RD (R384): A REG_RD frame reads n registers at select release. -/
  | regRd (p : Fin 2) (addr : Word) (n : Fin 65536) (w : Wire)
  /-- REG_WR (R384): A REG_WR frame writes n registers at select release. -/
  | regWr (p : Fin 2) (addr : Word) (ws : List Word) (w : Wire)
  /-- MEM_RD (R385): A MEM_RD frame reads 4n bytes at select release. -/
  | memRd (p : Fin 2) (addr : Word) (n : Fin 65536) (w : Wire)
  /-- MEM_WR (R385): A MEM_WR frame writes 4n bytes at select release. -/
  | memWr (p : Fin 2) (addr : Word) (ws : List Word) (w : Wire)
  /-- PKT_POST (R403): A PKT_POST frame posts a packet to the port's queue. -/
  | pktPost (p : Fin 2) (ws : List Word) (w : Wire)
  /-- PKT_FETCH (R392): A PKT_FETCH frame selects the oldest ready packet reply. -/
  | pktFetch (p : Fin 2) (n : Fin 65536) (w : Wire)
  /-- FMT_SET (R393): An FMT_SET frame changes SK_FMT from the next frame. -/
  | fmtSet (p : Fin 2) (n : Fin 65536) (v : Word) (w : Wire)
  /-- FMT_RECOVER (R393): A recovery frame returns SK_FMT to its reset value. -/
  | fmtRecover (p : Fin 2)
  /-- SEL_TIMEOUT (R387): SEL# stays low beyond SK_TMO and the frame is aborted. -/
  | selTimeout (p : Fin 2) (op : Fin 256) (clocked : Bool)
  /-- REPLY_READY (R390): A held reply's data is collected and it becomes ready. -/
  | replyReady (p : Fin 2)
  /-- ATTN_PULSE_END (R398): 200 ns after a PULSE release, ATTN is driven low again. -/
  | attnPulseEnd (p : Fin 2)
  /-- PACKET_ACK (R409): The interpreter judges a posted packet, making any refusal or interim reply ready and placing it in a lane. -/
  | packetAck (h : Fin 2)
  /-- PACKET_TIMEOUT (R410): Firmware has not taken a packet within FW_WAIT and it completes with TIMEOUT. -/
  | packetTimeout (h : Fin 2)
  /-- PING (R403): PING returns the local count. -/
  | ping (h : Fin 2)
  /-- CLAIM (R413): CLAIM releases and claims units for the host. -/
  | claim (h : Fin 2)
  /-- DISCARD (R413): DISCARD discards the host's queued packets and ready replies, freeing tags. -/
  | discard (h : Fin 2)
  /-- IDENT (R403): IDENT returns identity, revision and firmware version. -/
  | ident (h : Fin 2)
  /-- CONFIG_SAVE (R414): CONFIG_SAVE writes register snapshot items of the named subsystems. -/
  | configSave (h : Fin 2)
  /-- ITEM_READ (R414): ITEM_READ returns a configuration item. -/
  | itemRead (h : Fin 2)
  /-- ITEM_WRITE (R414): ITEM_WRITE stores an allowed configuration item. -/
  | itemWrite (h : Fin 2)
  /-- SPINDLE_CMD (R415): SPINDLE_CMD performs a spindle command on every spindle named. -/
  | spindleCmd (h : Fin 2)
  /-- FIFO_READ (R415): FIFO_READ returns records and advances RP. -/
  | fifoRead (h : Fin 2)
  /-- MIGRATE (R416): MIGRATE schedules a spindle or engine migration at a switch instant. -/
  | migrate (h : Fin 2)
  /-- MIGRATE_CANCEL (R417): MIGRATE_CANCEL cancels a pending migration of the host. -/
  | migrateCancel (h : Fin 2)
  /-- SEQ_LOAD (R418): SEQ_LOAD commits spindle entry definitions. -/
  | seqLoad (h : Fin 2)
  /-- FOX_LOAD (R418): FOX_LOAD writes programme or scratch memory of a stopped engine. -/
  | foxLoad (h : Fin 2)
  /-- NODE_WRITE (R419): NODE_WRITE queues WRITE_SHADOW transactions as the host's requester. -/
  | nodeWrite (h : Fin 2)
  /-- NODE_INCR (R419): NODE_INCR queues WRITE_SHADOW_INCR transactions. -/
  | nodeIncr (h : Fin 2)
  /-- NODE_READ (R419): NODE_READ queues reads and returns the codes in node order. -/
  | nodeRead (h : Fin 2)
  /-- SENSE (R419): SENSE queues a SENSE_SELECT or SENSE_RELEASE. -/
  | sense (h : Fin 2)
  /-- STEP_PKT_OPEN (R421): The STEP packet OPEN function opens a step for the host. -/
  | stepPktOpen (h : Fin 2)
  /-- STEP_PKT_ARM (R421): The STEP packet ARM function queues STEP_ARM per hub listed. -/
  | stepPktArm (h : Fin 2)
  /-- STEP_PKT_SEAL (R421): The STEP packet SEAL function seals the step. -/
  | stepPktSeal (h : Fin 2)
  /-- STEP_PKT_CANCEL (R421): The STEP packet CANCEL function cancels the step. -/
  | stepPktCancel (h : Fin 2)
  /-- STEP_PKT_STATUS (R421): The STEP packet STATUS function returns STEP_STAT. -/
  | stepPktStatus (h : Fin 2)
  /-- ONESHOT (R421): The STEP packet ONESHOT function opens, arms and seals a step. -/
  | oneshot (h : Fin 2)
  /-- HUB_STATUS_PACKET (R419): The HUB_STATUS packet queues a HUB_STATUS transaction and returns its payload. -/
  | hubStatusPacket (h : Fin 2)
  /-- CAL_RUN (R422): CAL_RUN gives a domain a host request. -/
  | calRun (h : Fin 2)
  /-- DOMAIN_SET (R422): DOMAIN_SET stores a domain record. -/
  | domainSet (h : Fin 2)
  /-- DOMAIN_GET (R280): DOMAIN_GET returns the stored domain record. -/
  | domainGet (h : Fin 2)
  /-- DOMAIN_STATUS (R292): DOMAIN_STATUS returns the domain status of Table 16.11. -/
  | domainStatus (h : Fin 2)
  /-- PARAM_SET (R422): PARAM_SET stores a parameter set. -/
  | paramSet (h : Fin 2)
  /-- CAL_SETUP (R423): CAL_SETUP writes the step pool and calibration area item. -/
  | calSetup (h : Fin 2)
  /-- FOX_CMD (R424): FOX_CMD writes START and ARG and performs a command on the named engines. -/
  | foxCmd (h : Fin 2)
  /-- IMAGE_RESTORE (R426): IMAGE_RESTORE writes every hub from a stored image and makes it persistent. -/
  | imageRestore (h : Fin 2)
  /-- DOMAIN_RESTORE (R426): DOMAIN_RESTORE writes a domain's nodes from a stored image and steps them. -/
  | domainRestore (h : Fin 2)
  /-- COMMIT (R427): COMMIT requests an image commit. -/
  | commit (h : Fin 2)
  /-- KEEP_NODES (R427): KEEP_NODES reads active codes and journals them as a HOST record. -/
  | keepNodes (h : Fin 2)
  /-- HOARD_READ (R427): HOARD_READ returns words from the Hoard. -/
  | hoardRead (h : Fin 2)
  /-- TRAIL_READ (R458): TRAIL_READ returns Trail slots as stored. -/
  | trailRead (h : Fin 2)
  /-- TRAIL_CLEAR (R457): TRAIL_CLEAR starts a new first-fault generation. -/
  | trailClear (h : Fin 2)
  /-- FIGURE_READ (R459): FIGURE_READ returns entries of the figure log. -/
  | figureRead (h : Fin 2)
  /-- COUNTERS_READ (R353): COUNTERS_READ returns the lifetime counters. -/
  | countersRead (h : Fin 2)
  /-- FW_BEGIN (R428): FW_BEGIN opens an update for the host. -/
  | fwBegin (h : Fin 2)
  /-- FW_DATA (R428): FW_DATA writes words of the update object. -/
  | fwData (h : Fin 2)
  /-- FW_CHECK (R428): FW_CHECK verifies the object and installs or checks it. -/
  | fwCheck (h : Fin 2)
  /-- FW_ACTIVATE (R429): FW_ACTIVATE starts a trial of the checked slot and restarts the Bear core. -/
  | fwActivate (h : Fin 2)
  /-- GUARD_ARM (R430): GUARD_ARM arms or disarms every named window. -/
  | guardArm (h : Fin 2)
  /-- GUARD_STORE (R430): GUARD_STORE stores the windows armed at start-up. -/
  | guardStore (h : Fin 2)
  /-- MEM_FILL (R362): MEM_FILL writes a pattern over a range of the result memory. -/
  | memFill (h : Fin 2)
  /-- FRM_MODE (R431): FRM_MODE enables or disables forerunner mode on a stopped unit. -/
  | frmMode (h : Fin 2)
  /-- FRM_LOAD_FOX (R431): FRM_LOAD_FOX writes the inactive programme half. -/
  | frmLoadFox (h : Fin 2)
  /-- FRM_LOAD_SEQ (R431): FRM_LOAD_SEQ writes the inactive sequence bank. -/
  | frmLoadSeq (h : Fin 2)
  /-- FRM_NODES (R431): FRM_NODES queues writes as requester 22. -/
  | frmNodes (h : Fin 2)
  /-- LOOPBACK (R403): LOOPBACK returns its parameter words. -/
  | loopback (h : Fin 2)
  /-- EVENT_INJECT (R461): EVENT_INJECT raises a source on every event path. -/
  | eventInject (h : Fin 2)
  /-- BEAR_RESTART (R436): The Bear core is restarted for one of its causes and runs within 3 ms. -/
  | bearRestart (cause : Fin 16)
  /-- BOOT_SELECT (R438): The boot programme verifies and selects a firmware slot, retrying every 1 s when none verifies. -/
  | bootSelect
  /-- FW_CONFIRM (R439): Trial firmware has run 10 s and confirms its slot as PRIMARY. -/
  | fwConfirm
  /-- WDT_KICK (R441): A write of the kick value restarts the watchdog count. -/
  | wdtKick (ag : Fin 3) (v : Word)
  /-- WDT_EXPIRE (R441): The watchdog count expires and restarts the Bear core. -/
  | wdtExpire
  /-- SENSOR_SAMPLE (R442): Every 125 µs the digital sensors are sampled, DEN_TJ updated and TEMP_HIGH judged. -/
  | sensorSample (l : List (Option (BitVec 16)))
  /-- SENSOR_SCAN (R443): Every 1 ms the scanner reads sensors 24–59. -/
  | sensorScan (l : List (BitVec 16))
  /-- EVENT_RAISE (R449): An event source is raised and delivered on each enabled path within its budget. -/
  | eventRaise (src : Fin 1036) (d : Nat)
  /-- INTERVAL_END (R452): At each 10 ms interval boundary the controller sheds counts and forms summaries. -/
  | intervalEnd
  /-- EV_PEND_CLEAR (R450): A write of 1 clears pending bits on an attention path. -/
  | evPendClear (ag : Fin 3) (h : Fin 2) (i : Fin 33) (v : Word)
  /-- EV_BUDGET_WRITE (R451): A write of EV_BUDGET sets a path's limits, or is ignored if not nested. -/
  | evBudgetWrite (p : Fin 4) (v : Word)
  /-- EV_FWRAISE (R461): A firmware write of EV_FWRAISE raises a Den source. -/
  | evFwraise (ag : Fin 3) (v : Word)
  /-- EV_CNT_READ (R508): A read of EV_CNT_DATA returns a source's counters and advances the index. -/
  | evCntRead (ag : Fin 3)
  /-- TRAIL_WRITE (R456): Firmware writes a staged record to the Trail ring and first-fault region and frees it. -/
  | trailWrite
  /-- TRAIL_SCAN (R458): At each start firmware reads the Trail to find the last record and FF_FILL. -/
  | trailScan
  /-- WINDOW_CLASS_CHANGE (R302): In an OWL cycle a window's input crosses a threshold (with hysteresis) and its class changes among BELOW, INSIDE and ABOVE, updating OWL_ABOVE and OWL_BELOW and starting or breaking the qualification count. -/
  | windowClassChange (w : Fin 256) (v : Int)
  deriving DecidableEq, Repr

end Sys2Proof
end

