-- ==== Sys2Proof/Decode.lean ====
section
/-! DEFINITION. The commands that the command table spells in bits. No row of it gives bits, so no word spells a command.
The words of the Fox engines, which the spec does encode, are in Machine/FoxWord.lean. -/

namespace Sys2Proof

/-- The command that the word `w` of `nbits` bits spells by the command table: none. -/
def decodeTableWord (_nbits _w : Nat) : Option Instr := none

end Sys2Proof
end

