-- ==== Sys2Proof/Machine/Crc.lean ====
section
/-! DEFINITION. The CRC-32 of R325 and the byte orders of R10. -/

namespace Sys2Proof.Machine

/-- One bit of the reflected CRC-32: polynomial 0x04C1_1DB7 reflected is 0xEDB8_8320. -/
def crcBit (c : Word) : Word := if c.getLsbD 0 then (c >>> 1) ^^^ 0xEDB88320#32 else c >>> 1

/-- One byte of the CRC-32. -/
def crcByte (c : Word) (b : Byte) : Word := Nat.repeat crcBit 8 (c ^^^ b.setWidth 32)

/-- The CRC-32 of a list of bytes (R325). -/
def crc32 (bs : List Byte) : Word := (bs.foldl crcByte 0xFFFFFFFF#32) ^^^ 0xFFFFFFFF#32

/-- The bytes of a 32-bit word, little-endian. -/
def wordBytes (w : Word) : List Byte := (List.range 4).map (fun i => w.extractLsb' (8 * i) 8)

/-- The bytes of a 64-bit word from its most significant byte (Table 14.4). -/
def beBytes (w : Count) : List Byte := (List.range 8).map (fun i => w.extractLsb' (8 * (7 - i)) 8)

/-- The 32-bit word of four bytes, little-endian; missing bytes read 0. -/
def bytesWord (bs : List Byte) : Word :=
  (bs.getD 3 0) ++ (bs.getD 2 0) ++ (bs.getD 1 0) ++ (bs.getD 0 0)

/-- One bit of a CRC of `n` bits with polynomial `poly` (its term x^`n` left out), the first bit sent first. -/
def crcStep (n poly c : Nat) (b : Bool) : Nat :=
  let c2 := 2 * c % 2 ^ n
  if (c / 2 ^ (n - 1) % 2 == 1) != b then Nat.xor c2 poly else c2

/-- The CRC of bits `hi` to `lo` of `w`, most significant bit first, from the initial value `init`. -/
def crcOf (n poly init w hi lo : Nat) : Nat :=
  (List.range (hi + 1 - lo)).foldl (fun c i => crcStep n poly c (w / 2 ^ (hi - i) % 2 == 1)) init

/-- CHK of a marker: CRC-3 of bits 31 to 3 (R197). -/
def crc3 (w : Nat) : Nat := crcOf 3 3 0 w 31 3

/-- CHECK of a trunk command: CRC-6 of bits 47 to 6 (R198). -/
def crc6 (w : Nat) : Nat := crcOf 6 3 0 w 47 6

/-- CHECK of a return slot: CRC-8 of bits 63 to 18 (Table 8.7). -/
def crc8 (w : Nat) : Nat := crcOf 8 7 0 w 63 18

/-- The signature of a kind map: the CRC-16 of its six-bit kinds in ascending leaf order (Table 8.9). -/
def kindSignature (kind : Nat → Nat) (leaves : Nat) : Nat :=
  (List.range leaves).foldl (fun c l => (List.range 6).foldl (fun c i => crcStep 16 0x1021 c (kind l / 2 ^ (5 - i) % 2 == 1)) c)
    0xFFFF

end Sys2Proof.Machine
end

