-- ==== Sys2Proof/Machine/Flags.lean ====
section
/-! DEFINITION. Bit fields, signed readings, rounding and saturation: the arithmetic every chapter shares. -/

namespace Sys2Proof.Machine

/-- Bits `hi` to `lo` of a word, as a number (R10). -/
def bitsOf {n : Nat} (w : BitVec n) (hi lo : Nat) : Nat := (w.toNat / 2 ^ lo) % 2 ^ (hi - lo + 1)

/-- Bit `i` of a number. -/
def bitOf (w i : Nat) : Bool := w / 2 ^ i % 2 == 1

/-- `w` with bits `hi` to `lo` replaced by the low bits of `v`. -/
def withBits {n : Nat} (w : BitVec n) (hi lo v : Nat) : BitVec n :=
  BitVec.ofNat n (w.toNat - bitsOf w hi lo * 2 ^ lo + v % 2 ^ (hi - lo + 1) * 2 ^ lo)

/-- The number `v` of `n` bits read as two's complement. -/
def signed (n v : Nat) : Int := if v % 2 ^ n < 2 ^ (n - 1) then (v % 2 ^ n : Nat) else (v % 2 ^ n : Nat) - (2 ^ n : Nat)

/-- The low `n` bits of an integer. -/
def toBits (n : Nat) (x : Int) : Nat := (x % (2 ^ n : Nat)).toNat

/-- The nearest integer to `num / den`, halves upward. -/
def roundDiv (num den : Int) : Int := (2 * num + den) / (2 * den)

/-- `x` limited to `lo … hi`. -/
def clampInt (lo hi x : Int) : Int := if x < lo then lo else if hi < x then hi else x

/-- `x` limited to the codes of `n` bits, two's complement. -/
def saturate (n : Nat) (x : Int) : Int := clampInt (-(2 ^ (n - 1) : Nat)) ((2 ^ (n - 1) : Nat) - 1) x

/-- Increment of a field of `width` bits that saturates. -/
def satAdd (width a b : Nat) : Nat := if a + b < 2 ^ width then a + b else 2 ^ width - 1

/-- An unsigned quotient rounded up. -/
def ceilDiv (a b : Nat) : Nat := (a + b - 1) / b

end Sys2Proof.Machine
end

