-- ==== Sys2Proof/Config.lean ====
section
/-! DEFINITION. What the spec leaves open. Every constant here is opaque: nothing can be proved about its value, so a
statement about the machine holds whatever it is. A value that changes from use to use is applied to the counter
`free` of the state. -/

namespace Sys2Proof.Config

/-- The fused number of TOP_UID (R510: an opaque value, distinct for every die). -/
opaque uid : Count

/-- A byte of the result memory that was never written since power-up (R360), and the other values the spec leaves
open that are bytes. -/
opaque freeByte : Nat → Byte

/-- An open value of 32 bits (the log entries name where each is drawn). -/
opaque freeWord : Nat → Word

/-- An open natural number (an index the spec does not fix, a rounded estimate it does not give). -/
opaque freeNat : Nat → Nat

/-- Coefficient `t` of FIR-A of order `k` at 128 k + t, and of FIR-B at 128 k + 64 + t, in 2^-30 (R146: fixed; its value is not
given). -/
opaque firCoef : Nat → Int

/-- Coefficient `t` of stock Swift bank `b` at 32 b + t (R157: fixed and the same in every device; its value is not
given). -/
opaque stockCoef : Nat → BitVec 20

/-- The last bit of the 24-bit fraction `a` of R150 for DC_K = `k`. -/
opaque dcRound : Nat → Nat

/-- The kind of leaf `l` of trunk `t` by the hubs' own kind map, at 16384 t + l (R193, R512: package data). -/
opaque hubKind : Nat → BitVec 6

/-- The limits that a hub of trunk `t` holds for kind `k` before TRAIN LIMIT gives it any: at 128 t + 2 k the LO, at
128 t + 2 k + 1 the HI, SIGNED in bit 12 (R193: package data). -/
opaque hubLimit : Nat → BitVec 13

/-- The SHA-384 digest of the public key of fuse slot `i`, and whether the slot is revoked (R326). -/
opaque fuseDigest : Nat → Nat
opaque fuseRevoked : Nat → Bool

/-- The byte at a Hoard offset as manufacture leaves it: firmware, factory image, library, configuration (R324). -/
opaque hoardByte : Nat → Byte

/-- The byte at a Hoard offset of the wear metadata after a number of flushes (R346: its layout is not given). -/
opaque metaByte : Nat → Nat → Byte

/-- The node map of the package, items 0x0700–0x070B (Table 13.10: their layout is not given): the kind of leaf `l` of
trunk `t` at 16384 t + l, and KIND_DEF and KIND_LIM of kind `k` at 64 t + k. -/
opaque mapKind : Nat → BitVec 6
opaque mapDef : Nat → Word
opaque mapLim : Nat → Word

/-- The stored reference ratio of channel `c` at a temperature of 1/8 °C, × 2^32 (R112, item 0x0710). -/
opaque storedRatio : Nat → Int → Nat

end Sys2Proof.Config
end

