-- ==== Sys2Proof/Machine/Bank.lean ====
section
/-! DEFINITION. Sparse collections: a list of (key, value) pairs in one canonical form. Keys rise strictly and no
entry equals what an unlisted key reads as, so equal collections are equal lists. What an unlisted key reads as is
the argument `d` of every operation. -/

namespace Sys2Proof.Machine

/-- A sparse collection of values by key. -/
abbrev Bank (α : Type) := List (Nat × α)

/-- The value at key `k`; `d k` where nothing is listed. -/
def Bank.get {α : Type} (d : Nat → α) : Bank α → Nat → α
  | [], k => d k
  | (j, v) :: t, k => if j = k then v else Bank.get d t k

/-- The list with `(k, v)` in its place, replacing an entry for `k`. -/
def Bank.insert {α : Type} : Bank α → Nat → α → Bank α
  | [], k, v => [(k, v)]
  | (j, w) :: t, k, v =>
    if k < j then (k, v) :: (j, w) :: t
    else if k = j then (k, v) :: t
    else (j, w) :: Bank.insert t k v

/-- The list without an entry for `k`. -/
def Bank.erase {α : Type} : Bank α → Nat → Bank α
  | [], _ => []
  | (j, w) :: t, k => if j = k then Bank.erase t k else (j, w) :: Bank.erase t k

/-- Key `k` reads `v` from now on. A value equal to the default removes the entry. -/
def Bank.set {α : Type} [DecidableEq α] (d : Nat → α) (b : Bank α) (k : Nat) (v : α) : Bank α :=
  if v = d k then Bank.erase b k else Bank.insert b k v

/-- The list with the keys from `lo` up to, not including, `hi` as in `src`. -/
def Bank.copyRange {α : Type} (dst src : Bank α) (lo hi : Nat) : Bank α :=
  dst.filter (fun p => decide (p.1 < lo)) ++ src.filter (fun p => decide (lo ≤ p.1) && decide (p.1 < hi)) ++
    dst.filter (fun p => decide (hi ≤ p.1))

/-- Every value listed becomes `f` of it. -/
def Bank.mapVals {α : Type} [DecidableEq α] (d : Nat → α) (b : Bank α) (f : α → α) : Bank α :=
  (b.map (fun p => (p.1, f p.2))).filter (fun p => decide (p.2 ≠ d p.1))

/-- The keys from `lo` up read the values of `vs`, in order. -/
def Bank.putRun {α : Type} [DecidableEq α] (d : Nat → α) (b : Bank α) (lo : Nat) (vs : List α) : Bank α :=
  b.filter (fun p => decide (p.1 < lo)) ++
    ((vs.zipIdx lo).map (fun p => (p.2, p.1))).filter (fun p => decide (p.2 ≠ d p.1)) ++
    b.filter (fun p => decide (lo + vs.length ≤ p.1))

/-- The value listed at key `k`. -/
def Bank.find {α : Type} : Bank α → Nat → Option α
  | [], _ => none
  | (j, v) :: t, k => if j = k then some v else Bank.find t k

/-- The keys from `lo` up list the values of `vs`, in order. -/
def Bank.fill {α : Type} (b : Bank α) (lo : Nat) (vs : List α) : Bank α :=
  b.filter (fun p => decide (p.1 < lo)) ++ (vs.zipIdx lo).map (fun p => (p.2, p.1)) ++
    b.filter (fun p => decide (lo + vs.length ≤ p.1))

/-- The keys of the list rise strictly, from `lo` at least. -/
def Bank.rising {α : Type} : Nat → Bank α → Bool
  | _, [] => true
  | lo, (j, _) :: t => decide (lo ≤ j) && Bank.rising (j + 1) t

/-- Every key of the list is above `lo`, the keys rise strictly, and no entry equals its default. -/
def Bank.wfFrom {α : Type} [DecidableEq α] (d : Nat → α) : Nat → Bank α → Bool
  | _, [] => true
  | lo, (j, v) :: t => decide (lo ≤ j) && decide (v ≠ d j) && Bank.wfFrom d (j + 1) t

/-- The canonical form. -/
def Bank.wf {α : Type} [DecidableEq α] (d : Nat → α) (b : Bank α) : Bool := Bank.wfFrom d 0 b

end Sys2Proof.Machine
end

