-- ==== Sys2Proof/Machine/Regs.lean ====
section
/-! DEFINITION. The register space (chapter 20): the address of every register of the block maps, every named
field of their field tables, and the table of access codes and reset values (R11, R505). Addresses are Skein byte
addresses; an array's index letters are those of its block map. -/

namespace Sys2Proof.Machine

/-- A field of a register: the register's address and the field's bits (R10: NAME[hi:lo]). -/
structure Fld where
  addr : Nat
  hi : Nat
  lo : Nat
  deriving DecidableEq, Repr

/-- How many bits a field has. -/
def Fld.width (f : Fld) : Nat := f.hi - f.lo + 1

namespace Reg

/-! Block 0, TOP/ID (Table 20.4). -/

def TOP_ID : Nat := 0x0
def TOP_ID_VERSION : Fld := ⟨TOP_ID, 31, 28⟩
def TOP_ID_PART : Fld := ⟨TOP_ID, 27, 12⟩
def TOP_ID_MFR : Fld := ⟨TOP_ID, 11, 1⟩
def TOP_ID_ONE : Fld := ⟨TOP_ID, 0, 0⟩

def TOP_REV : Nat := 0x4
def TOP_REV_MASK : Fld := ⟨TOP_REV, 11, 4⟩
def TOP_REV_VERSION : Fld := ⟨TOP_REV, 3, 0⟩

def TOP_PLANES : Nat := 0x8
def TOP_PLANES_DIE_DOWN : Fld := ⟨TOP_PLANES, 6, 6⟩
def TOP_PLANES_DEFERRING : Fld := ⟨TOP_PLANES, 5, 5⟩
def TOP_PLANES_HOLD : Fld := ⟨TOP_PLANES, 4, 4⟩
def TOP_PLANES_CAP : Fld := ⟨TOP_PLANES, 3, 3⟩
def TOP_PLANES_AUTO : Fld := ⟨TOP_PLANES, 2, 2⟩
def TOP_PLANES_FW_RUNNING : Fld := ⟨TOP_PLANES, 1, 1⟩
def TOP_PLANES_CMD_UP : Fld := ⟨TOP_PLANES, 0, 0⟩

def TOP_PEND : Nat := 0xC
def TOP_PEND_SUB : Fld := ⟨TOP_PEND, 16, 1⟩

def TOP_UID_LO : Nat := 0x10

def TOP_UID_HI : Nat := 0x14

def TOP_SCRATCH (i : Nat) : Nat := 0x20 + 0x4 * i

/-! Block 1, SKEIN/CMD (Table 15.9). -/

def SK_FMT : Nat := 0x1000
def SK_FMT_CRC_EN : Fld := ⟨SK_FMT, 24, 24⟩
def SK_FMT_DATA_LANES : Fld := ⟨SK_FMT, 23, 22⟩
def SK_FMT_DUMMY : Fld := ⟨SK_FMT, 21, 16⟩
def SK_FMT_ADDR_LANES : Fld := ⟨SK_FMT, 15, 14⟩
def SK_FMT_ADDR_BITS : Fld := ⟨SK_FMT, 13, 8⟩
def SK_FMT_CMD_LANES : Fld := ⟨SK_FMT, 7, 6⟩
def SK_FMT_CMD_BITS : Fld := ⟨SK_FMT, 5, 0⟩

def SK_PSTAT : Nat := 0x1004
def SK_PSTAT_AUTO : Fld := ⟨SK_PSTAT, 26, 26⟩
def SK_PSTAT_HELD : Fld := ⟨SK_PSTAT, 25, 24⟩
def SK_PSTAT_NEXT_LEN : Fld := ⟨SK_PSTAT, 23, 16⟩
def SK_PSTAT_READY : Fld := ⟨SK_PSTAT, 13, 8⟩
def SK_PSTAT_QLEVEL : Fld := ⟨SK_PSTAT, 5, 0⟩

def SK_ABORT : Nat := 0x1008
def SK_ABORT_RECOVER_SEEN : Fld := ⟨SK_ABORT, 19, 19⟩
def SK_ABORT_LOST_SEEN : Fld := ⟨SK_ABORT, 18, 18⟩
def SK_ABORT_CRC_SEEN : Fld := ⟨SK_ABORT, 17, 17⟩
def SK_ABORT_ABORT_SEEN : Fld := ⟨SK_ABORT, 16, 16⟩
def SK_ABORT_OPCODE : Fld := ⟨SK_ABORT, 15, 8⟩
def SK_ABORT_REASON : Fld := ⟨SK_ABORT, 3, 0⟩

def SK_ATTN_CFG : Nat := 0x100C
def SK_ATTN_CFG_ASSERTED : Fld := ⟨SK_ATTN_CFG, 3, 3⟩
def SK_ATTN_CFG_PULSE : Fld := ⟨SK_ATTN_CFG, 2, 2⟩
def SK_ATTN_CFG_RPL_EN : Fld := ⟨SK_ATTN_CFG, 1, 1⟩
def SK_ATTN_CFG_EV_EN : Fld := ⟨SK_ATTN_CFG, 0, 0⟩

def SK_TMO : Nat := 0x1010
def SK_TMO_MS : Fld := ⟨SK_TMO, 15, 0⟩

def SK_CNT : Nat := 0x1014
def SK_CNT_ABORTS : Fld := ⟨SK_CNT, 15, 0⟩
def SK_CNT_CRC_ERRS : Fld := ⟨SK_CNT, 23, 16⟩
def SK_CNT_LOST : Fld := ⟨SK_CNT, 31, 24⟩

def SK_CLAIM_A : Nat := 0x1020
def SK_CLAIM_A_FOX : Fld := ⟨SK_CLAIM_A, 31, 16⟩
def SK_CLAIM_A_BLOCK : Fld := ⟨SK_CLAIM_A, 15, 2⟩

def SK_CLAIM_B : Nat := 0x1024
def SK_CLAIM_B_FOX : Fld := ⟨SK_CLAIM_B, 31, 16⟩
def SK_CLAIM_B_BLOCK : Fld := ⟨SK_CLAIM_B, 15, 2⟩

def SKP_FMT (p : Nat) : Nat := 0x1100 + 0x40 * p
def SKP_FMT_CRC_EN (p : Nat) : Fld := ⟨SKP_FMT p, 24, 24⟩
def SKP_FMT_DATA_LANES (p : Nat) : Fld := ⟨SKP_FMT p, 23, 22⟩
def SKP_FMT_DUMMY (p : Nat) : Fld := ⟨SKP_FMT p, 21, 16⟩
def SKP_FMT_ADDR_LANES (p : Nat) : Fld := ⟨SKP_FMT p, 15, 14⟩
def SKP_FMT_ADDR_BITS (p : Nat) : Fld := ⟨SKP_FMT p, 13, 8⟩
def SKP_FMT_CMD_LANES (p : Nat) : Fld := ⟨SKP_FMT p, 7, 6⟩
def SKP_FMT_CMD_BITS (p : Nat) : Fld := ⟨SKP_FMT p, 5, 0⟩

def SKP_PSTAT (p : Nat) : Nat := 0x1104 + 0x40 * p
def SKP_PSTAT_AUTO (p : Nat) : Fld := ⟨SKP_PSTAT p, 26, 26⟩
def SKP_PSTAT_HELD (p : Nat) : Fld := ⟨SKP_PSTAT p, 25, 24⟩
def SKP_PSTAT_NEXT_LEN (p : Nat) : Fld := ⟨SKP_PSTAT p, 23, 16⟩
def SKP_PSTAT_READY (p : Nat) : Fld := ⟨SKP_PSTAT p, 13, 8⟩
def SKP_PSTAT_QLEVEL (p : Nat) : Fld := ⟨SKP_PSTAT p, 5, 0⟩

def SKP_ABORT (p : Nat) : Nat := 0x1108 + 0x40 * p
def SKP_ABORT_RECOVER_SEEN (p : Nat) : Fld := ⟨SKP_ABORT p, 19, 19⟩
def SKP_ABORT_LOST_SEEN (p : Nat) : Fld := ⟨SKP_ABORT p, 18, 18⟩
def SKP_ABORT_CRC_SEEN (p : Nat) : Fld := ⟨SKP_ABORT p, 17, 17⟩
def SKP_ABORT_ABORT_SEEN (p : Nat) : Fld := ⟨SKP_ABORT p, 16, 16⟩
def SKP_ABORT_OPCODE (p : Nat) : Fld := ⟨SKP_ABORT p, 15, 8⟩
def SKP_ABORT_REASON (p : Nat) : Fld := ⟨SKP_ABORT p, 3, 0⟩

def SKP_ATTN_CFG (p : Nat) : Nat := 0x110C + 0x40 * p
def SKP_ATTN_CFG_ASSERTED (p : Nat) : Fld := ⟨SKP_ATTN_CFG p, 3, 3⟩
def SKP_ATTN_CFG_PULSE (p : Nat) : Fld := ⟨SKP_ATTN_CFG p, 2, 2⟩
def SKP_ATTN_CFG_RPL_EN (p : Nat) : Fld := ⟨SKP_ATTN_CFG p, 1, 1⟩
def SKP_ATTN_CFG_EV_EN (p : Nat) : Fld := ⟨SKP_ATTN_CFG p, 0, 0⟩

def SKP_TMO (p : Nat) : Nat := 0x1110 + 0x40 * p
def SKP_TMO_MS (p : Nat) : Fld := ⟨SKP_TMO p, 15, 0⟩

def SKP_CNT (p : Nat) : Nat := 0x1114 + 0x40 * p
def SKP_CNT_ABORTS (p : Nat) : Fld := ⟨SKP_CNT p, 15, 0⟩
def SKP_CNT_CRC_ERRS (p : Nat) : Fld := ⟨SKP_CNT p, 23, 16⟩
def SKP_CNT_LOST (p : Nat) : Fld := ⟨SKP_CNT p, 31, 24⟩

def CMD_CFG : Nat := 0x1400
def CMD_CFG_FW_WAIT : Fld := ⟨CMD_CFG, 15, 0⟩

def CMD_STATUS : Nat := 0x1404
def CMD_STATUS_UPDATE_OPEN : Fld := ⟨CMD_STATUS, 5, 5⟩
def CMD_STATUS_UPDATE_HOST : Fld := ⟨CMD_STATUS, 4, 4⟩
def CMD_STATUS_RESTORE_BUSY : Fld := ⟨CMD_STATUS, 3, 3⟩
def CMD_STATUS_TIMEOUT_SEEN : Fld := ⟨CMD_STATUS, 2, 2⟩
def CMD_STATUS_TAGBUSY_SEEN : Fld := ⟨CMD_STATUS, 1, 1⟩
def CMD_STATUS_FW_READY : Fld := ⟨CMD_STATUS, 0, 0⟩

def CMD_Q (h : Nat) : Nat := 0x1410 + 0x4 * h
def CMD_Q_FW_WAITING (h : Nat) : Fld := ⟨CMD_Q h, 29, 24⟩
def CMD_Q_RUNNING (h : Nat) : Fld := ⟨CMD_Q h, 21, 16⟩
def CMD_Q_READY (h : Nat) : Fld := ⟨CMD_Q h, 13, 8⟩
def CMD_Q_OUTSTANDING (h : Nat) : Fld := ⟨CMD_Q h, 5, 0⟩

def CMD_CNT (h : Nat) : Nat := 0x1418 + 0x4 * h
def CMD_CNT_POSTED (h : Nat) : Fld := ⟨CMD_CNT h, 15, 0⟩
def CMD_CNT_TAG_BUSY (h : Nat) : Fld := ⟨CMD_CNT h, 23, 16⟩
def CMD_CNT_TIMEOUT (h : Nat) : Fld := ⟨CMD_CNT h, 31, 24⟩

def CMD_PROG (h : Nat) : Nat := 0x1420 + 0x4 * h
def CMD_PROG_COUNT (h : Nat) : Fld := ⟨CMD_PROG h, 19, 0⟩
def CMD_PROG_ACTIVE (h : Nat) : Fld := ⟨CMD_PROG h, 31, 31⟩

def CMD_LAST (h : Nat) : Nat := 0x1428 + 0x4 * h

def CMD_TAGS (h i : Nat) : Nat := 0x1440 + 0x20 * h + 0x4 * i

/-! Block 2, AFE/REF (Table 3.14). -/

def AFE_CTL : Nat := 0x2000
def AFE_CTL_OW_EN : Fld := ⟨AFE_CTL, 0, 0⟩

def AFE_STATUS : Nat := 0x2004
def AFE_STATUS_CLAMP_SEEN : Fld := ⟨AFE_STATUS, 18, 18⟩
def AFE_STATUS_OW_SEEN : Fld := ⟨AFE_STATUS, 17, 17⟩
def AFE_STATUS_XB_WAIT_SEEN : Fld := ⟨AFE_STATUS, 16, 16⟩
def AFE_STATUS_XB_BUSY : Fld := ⟨AFE_STATUS, 15, 0⟩

def XB_WAIT_CNT : Nat := 0x2008
def XB_WAIT_CNT_COUNT : Fld := ⟨XB_WAIT_CNT, 15, 0⟩

def XB_LINE (l : Nat) : Nat := 0x2100 + 0x4 * l
def XB_LINE_UNAVAIL (l : Nat) : Fld := ⟨XB_LINE l, 20, 20⟩
def XB_LINE_USERS (l : Nat) : Fld := ⟨XB_LINE l, 19, 14⟩
def XB_LINE_PINNED (l : Nat) : Fld := ⟨XB_LINE l, 13, 13⟩
def XB_LINE_BUSY (l : Nat) : Fld := ⟨XB_LINE l, 12, 12⟩
def XB_LINE_CODE (l : Nat) : Fld := ⟨XB_LINE l, 11, 0⟩

def XB_PIN (l : Nat) : Nat := 0x2140 + 0x4 * l
def XB_PIN_EN (l : Nat) : Fld := ⟨XB_PIN l, 12, 12⟩
def XB_PIN_CODE (l : Nat) : Fld := ⟨XB_PIN l, 11, 0⟩

def OW_LATCH_LO : Nat := 0x2300

def OW_LATCH_HI : Nat := 0x2304

def OW_LATCH_IC : Nat := 0x2308
def OW_LATCH_IC_IC3 : Fld := ⟨OW_LATCH_IC, 0, 0⟩
def OW_LATCH_IC_IC31 : Fld := ⟨OW_LATCH_IC, 1, 1⟩

def OW_NOW_LO : Nat := 0x2310

def OW_NOW_HI : Nat := 0x2314

def OW_NOW_IC : Nat := 0x2318

def CLAMP_LATCH_LO : Nat := 0x2320

def CLAMP_LATCH_HI : Nat := 0x2324

def TDAC : Nat := 0x2380
def TDAC_EN : Fld := ⟨TDAC, 16, 16⟩
def TDAC_CODE : Fld := ⟨TDAC, 15, 0⟩

def REF_CTL : Nat := 0x2400
def REF_CTL_EXT_EN : Fld := ⟨REF_CTL, 2, 2⟩
def REF_CTL_B_EN : Fld := ⟨REF_CTL, 1, 1⟩
def REF_CTL_A_EN : Fld := ⟨REF_CTL, 0, 0⟩

def REF_STATUS : Nat := 0x2404
def REF_STATUS_FAILOVER_SEEN : Fld := ⟨REF_STATUS, 8, 8⟩
def REF_STATUS_AH_FAULT_SEEN : Fld := ⟨REF_STATUS, 7, 7⟩
def REF_STATUS_EXT_FAULT_SEEN : Fld := ⟨REF_STATUS, 6, 6⟩
def REF_STATUS_B_FAULT_SEEN : Fld := ⟨REF_STATUS, 5, 5⟩
def REF_STATUS_A_FAULT_SEEN : Fld := ⟨REF_STATUS, 4, 4⟩
def REF_STATUS_AH_OK : Fld := ⟨REF_STATUS, 3, 3⟩
def REF_STATUS_EXT_OK : Fld := ⟨REF_STATUS, 2, 2⟩
def REF_STATUS_B_OK : Fld := ⟨REF_STATUS, 1, 1⟩
def REF_STATUS_A_OK : Fld := ⟨REF_STATUS, 0, 0⟩

def REF_FAILOVER_CNT : Nat := 0x2408
def REF_FAILOVER_CNT_COUNT : Fld := ⟨REF_FAILOVER_CNT, 7, 0⟩

def REF_SEL (u : Nat) : Nat := 0x2420 + 0x4 * u
def REF_SEL_UNSETTLED_SEEN (u : Nat) : Fld := ⟨REF_SEL u, 7, 7⟩
def REF_SEL_FAILED_OVER (u : Nat) : Fld := ⟨REF_SEL u, 6, 6⟩
def REF_SEL_SWITCHING (u : Nat) : Fld := ⟨REF_SEL u, 5, 5⟩
def REF_SEL_OK (u : Nat) : Fld := ⟨REF_SEL u, 4, 4⟩
def REF_SEL_FAILOVER (u : Nat) : Fld := ⟨REF_SEL u, 3, 3⟩
def REF_SEL_FORCE (u : Nat) : Fld := ⟨REF_SEL u, 2, 2⟩
def REF_SEL_SRC (u : Nat) : Fld := ⟨REF_SEL u, 1, 0⟩

/-! Block 3, FINE (Table 4.9). -/

def FINE_STATUS : Nat := 0x3000
def FINE_STATUS_UNALIGNED_SEEN : Fld := ⟨FINE_STATUS, 3, 3⟩
def FINE_STATUS_UNLOCK_SEEN : Fld := ⟨FINE_STATUS, 2, 2⟩
def FINE_STATUS_MAINS_ALIGNED : Fld := ⟨FINE_STATUS, 1, 1⟩
def FINE_STATUS_FREE_LOCK : Fld := ⟨FINE_STATUS, 0, 0⟩

def FINE_SAMPLING : Nat := 0x3004

def FINE_CALBUSY : Nat := 0x3008

def FINE_QCLK (q : Nat) : Nat := 0x3010 + 0x4 * q
def FINE_QCLK_PENDING (q : Nat) : Fld := ⟨FINE_QCLK q, 2, 2⟩
def FINE_QCLK_ACTIVE (q : Nat) : Fld := ⟨FINE_QCLK q, 1, 1⟩
def FINE_QCLK_MODE (q : Nat) : Fld := ⟨FINE_QCLK q, 0, 0⟩

def FINE_CFG (k : Nat) : Nat := 0x3100 + 0x4 * k
def FINE_CFG_CORR_EN (k : Nat) : Fld := ⟨FINE_CFG k, 0, 0⟩

def FINE_CALREQ (k : Nat) : Nat := 0x3200 + 0x10 * k
def FINE_CALREQ_GO (k : Nat) : Fld := ⟨FINE_CALREQ k, 31, 31⟩
def FINE_CALREQ_SETTLE (k : Nat) : Fld := ⟨FINE_CALREQ k, 27, 20⟩
def FINE_CALREQ_OSR (k : Nat) : Fld := ⟨FINE_CALREQ k, 19, 16⟩
def FINE_CALREQ_XSWAP (k : Nat) : Fld := ⟨FINE_CALREQ k, 15, 15⟩
def FINE_CALREQ_GAIN (k : Nat) : Fld := ⟨FINE_CALREQ k, 14, 12⟩
def FINE_CALREQ_INPUT (k : Nat) : Fld := ⟨FINE_CALREQ k, 11, 0⟩

def FINE_CALRES (k : Nat) : Nat := 0x3204 + 0x10 * k
def FINE_CALRES_CODE (k : Nat) : Fld := ⟨FINE_CALRES k, 31, 8⟩

def FINE_CALSTAT (k : Nat) : Nat := 0x3208 + 0x10 * k
def FINE_CALSTAT_RESTARTED (k : Nat) : Fld := ⟨FINE_CALSTAT k, 8, 8⟩
def FINE_CALSTAT_OPEN_WIRE (k : Nat) : Fld := ⟨FINE_CALSTAT k, 7, 7⟩
def FINE_CALSTAT_REF_UNSETTLED (k : Nat) : Fld := ⟨FINE_CALSTAT k, 6, 6⟩
def FINE_CALSTAT_OVERRANGE (k : Nat) : Fld := ⟨FINE_CALSTAT k, 5, 5⟩
def FINE_CALSTAT_REJECTED (k : Nat) : Fld := ⟨FINE_CALSTAT k, 4, 4⟩
def FINE_CALSTAT_BAD (k : Nat) : Fld := ⟨FINE_CALSTAT k, 3, 3⟩
def FINE_CALSTAT_DONE (k : Nat) : Fld := ⟨FINE_CALSTAT k, 1, 1⟩
def FINE_CALSTAT_BUSY (k : Nat) : Fld := ⟨FINE_CALSTAT k, 0, 0⟩

def FINE_CNT (k : Nat) : Nat := 0x320C + 0x10 * k
def FINE_CNT_ABORTS (k : Nat) : Fld := ⟨FINE_CNT k, 15, 0⟩
def FINE_CNT_CALS (k : Nat) : Fld := ⟨FINE_CNT k, 31, 16⟩

def FINE_COEF (k g : Nat) : Nat := 0x3400 + 0x20 * k + 0x4 * g
def FINE_COEF_DEV (k g : Nat) : Fld := ⟨FINE_COEF k g, 31, 16⟩
def FINE_COEF_OFS (k g : Nat) : Fld := ⟨FINE_COEF k g, 15, 0⟩

/-! Block 4, SWIFT (Table 5.6). -/

def SWIFT_SAMPLING : Nat := 0x4000
def SWIFT_SAMPLING_MASK : Fld := ⟨SWIFT_SAMPLING, 15, 0⟩

def SWIFT_CALBUSY : Nat := 0x4004
def SWIFT_CALBUSY_MASK : Fld := ⟨SWIFT_CALBUSY, 15, 0⟩

def SWIFT_NCO_LOAD : Nat := 0x4008
def SWIFT_NCO_LOAD_MASK : Fld := ⟨SWIFT_NCO_LOAD, 15, 0⟩

def SWIFT_RELOADED : Nat := 0x400C
def SWIFT_RELOADED_MASK : Fld := ⟨SWIFT_RELOADED, 15, 0⟩

def SWIFT_CFG (j : Nat) : Nat := 0x4100 + 0x4 * j
def SWIFT_CFG_APT (j : Nat) : Fld := ⟨SWIFT_CFG j, 15, 8⟩
def SWIFT_CFG_CORR_EN (j : Nat) : Fld := ⟨SWIFT_CFG j, 0, 0⟩

def SWIFT_NCO_FREQ (j : Nat) : Nat := 0x4140 + 0x4 * j

def SWIFT_NCO_PHASE (j : Nat) : Nat := 0x4180 + 0x4 * j
def SWIFT_NCO_PHASE_PHASE (j : Nat) : Fld := ⟨SWIFT_NCO_PHASE j, 15, 0⟩

def SWIFT_NCO_T0_LO (j : Nat) : Nat := 0x4200 + 0x20 * j

def SWIFT_NCO_T0_HI (j : Nat) : Nat := 0x4204 + 0x20 * j

def SWIFT_CALREQ (j : Nat) : Nat := 0x4208 + 0x20 * j
def SWIFT_CALREQ_GO (j : Nat) : Fld := ⟨SWIFT_CALREQ j, 31, 31⟩
def SWIFT_CALREQ_SETTLE (j : Nat) : Fld := ⟨SWIFT_CALREQ j, 27, 20⟩
def SWIFT_CALREQ_AVG (j : Nat) : Fld := ⟨SWIFT_CALREQ j, 19, 16⟩
def SWIFT_CALREQ_XSWAP (j : Nat) : Fld := ⟨SWIFT_CALREQ j, 15, 15⟩
def SWIFT_CALREQ_GAIN (j : Nat) : Fld := ⟨SWIFT_CALREQ j, 14, 12⟩
def SWIFT_CALREQ_INPUT (j : Nat) : Fld := ⟨SWIFT_CALREQ j, 11, 0⟩

def SWIFT_CALRES (j : Nat) : Nat := 0x420C + 0x20 * j
def SWIFT_CALRES_CODE (j : Nat) : Fld := ⟨SWIFT_CALRES j, 31, 8⟩

def SWIFT_CALSTAT (j : Nat) : Nat := 0x4210 + 0x20 * j
def SWIFT_CALSTAT_RESTARTED (j : Nat) : Fld := ⟨SWIFT_CALSTAT j, 8, 8⟩
def SWIFT_CALSTAT_OPEN_WIRE (j : Nat) : Fld := ⟨SWIFT_CALSTAT j, 7, 7⟩
def SWIFT_CALSTAT_REF_UNSETTLED (j : Nat) : Fld := ⟨SWIFT_CALSTAT j, 6, 6⟩
def SWIFT_CALSTAT_OVERRANGE (j : Nat) : Fld := ⟨SWIFT_CALSTAT j, 5, 5⟩
def SWIFT_CALSTAT_REJECTED (j : Nat) : Fld := ⟨SWIFT_CALSTAT j, 4, 4⟩
def SWIFT_CALSTAT_BAD (j : Nat) : Fld := ⟨SWIFT_CALSTAT j, 3, 3⟩
def SWIFT_CALSTAT_DONE (j : Nat) : Fld := ⟨SWIFT_CALSTAT j, 1, 1⟩
def SWIFT_CALSTAT_BUSY (j : Nat) : Fld := ⟨SWIFT_CALSTAT j, 0, 0⟩

def SWIFT_CNT (j : Nat) : Nat := 0x4214 + 0x20 * j
def SWIFT_CNT_ABORTS (j : Nat) : Fld := ⟨SWIFT_CNT j, 15, 0⟩
def SWIFT_CNT_CALS (j : Nat) : Fld := ⟨SWIFT_CNT j, 31, 16⟩

def SWIFT_NCO_STAT (j : Nat) : Nat := 0x4218 + 0x20 * j
def SWIFT_NCO_STAT_FREQ_SINCE_LOAD (j : Nat) : Fld := ⟨SWIFT_NCO_STAT j, 2, 2⟩
def SWIFT_NCO_STAT_RELOADED (j : Nat) : Fld := ⟨SWIFT_NCO_STAT j, 1, 1⟩
def SWIFT_NCO_STAT_BAD (j : Nat) : Fld := ⟨SWIFT_NCO_STAT j, 0, 0⟩

def SWIFT_COEF (j g : Nat) : Nat := 0x4400 + 0x10 * j + 0x4 * g
def SWIFT_COEF_DEV (j g : Nat) : Fld := ⟨SWIFT_COEF j g, 31, 16⟩
def SWIFT_COEF_OFS (j g : Nat) : Fld := ⟨SWIFT_COEF j g, 15, 0⟩

/-! Block 5, FILTER (Table 6.11). -/

def FILT_STATUS : Nat := 0x5000
def FILT_STATUS_COEF_IGNORED_SEEN : Fld := ⟨FILT_STATUS, 1, 1⟩
def FILT_STATUS_REFUSED_SEEN : Fld := ⟨FILT_STATUS, 0, 0⟩

def FILT_REFUSED : Nat := 0x5004
def FILT_REFUSED_REASON : Fld := ⟨FILT_REFUSED, 13, 10⟩
def FILT_REFUSED_ENTRY : Fld := ⟨FILT_REFUSED, 9, 6⟩
def FILT_REFUSED_SPINDLE : Fld := ⟨FILT_REFUSED, 5, 0⟩

def FFP (p : Nat) : Nat := 0x5100 + 0x4 * p
def FFP_DC_K (p : Nat) : Fld := ⟨FFP p, 20, 16⟩
def FFP_INT_N (p : Nat) : Fld := ⟨FFP p, 15, 8⟩
def FFP_FIR (p : Nat) : Fld := ⟨FFP p, 6, 5⟩
def FFP_ORDER (p : Nat) : Fld := ⟨FFP p, 4, 4⟩
def FFP_OSR (p : Nat) : Fld := ⟨FFP p, 3, 0⟩

def SWP (p : Nat) : Nat := 0x5200 + 0x4 * p
def SWP_LOCKIN (p : Nat) : Fld := ⟨SWP p, 17, 16⟩
def SWP_AVG (p : Nat) : Fld := ⟨SWP p, 15, 12⟩
def SWP_BANK (p : Nat) : Fld := ⟨SWP p, 10, 8⟩
def SWP_DEC (p : Nat) : Fld := ⟨SWP p, 7, 6⟩
def SWP_CIC (p : Nat) : Fld := ⟨SWP p, 5, 0⟩

def FILT_COEF_IDX : Nat := 0x5240
def FILT_COEF_IDX_BANK : Fld := ⟨FILT_COEF_IDX, 10, 8⟩
def FILT_COEF_IDX_TAP : Fld := ⟨FILT_COEF_IDX, 4, 0⟩

def FILT_COEF_DATA : Nat := 0x5244
def FILT_COEF_DATA_VALUE : Fld := ⟨FILT_COEF_DATA, 19, 0⟩

def FPD (k : Nat) : Nat := 0x5280 + 0x4 * k
def FPD_PD (k : Nat) : Fld := ⟨FPD k, 15, 0⟩

def FDCFRZ (k : Nat) : Nat := 0x5300 + 0x4 * k
def FDCFRZ_FRZ (k : Nat) : Fld := ⟨FDCFRZ k, 15, 0⟩

def FILT_DC_IDX : Nat := 0x5380
def FILT_DC_IDX_SPINDLE : Fld := ⟨FILT_DC_IDX, 8, 4⟩
def FILT_DC_IDX_ENTRY : Fld := ⟨FILT_DC_IDX, 3, 0⟩

def FILT_DC_VAL : Nat := 0x5384
def FILT_DC_VAL_DC : Fld := ⟨FILT_DC_VAL, 23, 0⟩

/-! Block 6, SPINDLE (Table 7.11). -/

def SP_RUN_LO : Nat := 0x6000

def SP_RUN_HI : Nat := 0x6004
def SP_RUN_HI_SP : Fld := ⟨SP_RUN_HI, 15, 0⟩

def SP_SUMMARY_LO : Nat := 0x6008

def SP_SUMMARY_HI : Nat := 0x600C
def SP_SUMMARY_HI_MASK : Fld := ⟨SP_SUMMARY_HI, 15, 0⟩

def SEQ_IDX : Nat := 0x6010
def SEQ_IDX_LAST_IGNORED : Fld := ⟨SEQ_IDX, 31, 31⟩
def SEQ_IDX_SPINDLE : Fld := ⟨SEQ_IDX, 11, 6⟩
def SEQ_IDX_ENTRY : Fld := ⟨SEQ_IDX, 5, 2⟩
def SEQ_IDX_WORD : Fld := ⟨SEQ_IDX, 1, 0⟩

def SEQ_DATA : Nat := 0x6014

def SP_URGENT : Nat := 0x6018
def SP_URGENT_SPINDLE : Fld := ⟨SP_URGENT, 5, 0⟩

def TG_FIRE : Nat := 0x601C

def TG_CFG (g : Nat) : Nat := 0x6080 + 0x4 * g
def TG_CFG_CHAIN_EN (g : Nat) : Fld := ⟨TG_CFG g, 6, 6⟩
def TG_CFG_CHAIN_SP (g : Nat) : Fld := ⟨TG_CFG g, 5, 0⟩

def SP_CTL (n : Nat) : Nat := 0x6100 + 0x10 * n
def SP_CTL_EPOCH (n : Nat) : Fld := ⟨SP_CTL n, 7, 4⟩
def SP_CTL_CMD (n : Nat) : Fld := ⟨SP_CTL n, 2, 0⟩

def SP_CFG (n : Nat) : Nat := 0x6104 + 0x10 * n
def SP_CFG_FRM_BANK (n : Nat) : Fld := ⟨SP_CFG n, 19, 19⟩
def SP_CFG_FRM (n : Nat) : Fld := ⟨SP_CFG n, 18, 18⟩
def SP_CFG_FIFO (n : Nat) : Fld := ⟨SP_CFG n, 17, 12⟩
def SP_CFG_TS (n : Nat) : Fld := ⟨SP_CFG n, 10, 10⟩
def SP_CFG_DONE_EV (n : Nat) : Fld := ⟨SP_CFG n, 9, 8⟩
def SP_CFG_URG_E (n : Nat) : Fld := ⟨SP_CFG n, 7, 4⟩
def SP_CFG_NENT (n : Nat) : Fld := ⟨SP_CFG n, 3, 0⟩

def SP_STAT (n : Nat) : Nat := 0x6108 + 0x10 * n
def SP_STAT_MIG_DISCARD_SEEN (n : Nat) : Fld := ⟨SP_STAT n, 22, 22⟩
def SP_STAT_CFG_IGNORED (n : Nat) : Fld := ⟨SP_STAT n, 21, 21⟩
def SP_STAT_MISS_SEEN (n : Nat) : Fld := ⟨SP_STAT n, 20, 20⟩
def SP_STAT_REFUSED_REASON (n : Nat) : Fld := ⟨SP_STAT n, 19, 16⟩
def SP_STAT_REFUSED_ENTRY (n : Nat) : Fld := ⟨SP_STAT n, 15, 12⟩
def SP_STAT_REFUSED_SEEN (n : Nat) : Fld := ⟨SP_STAT n, 11, 11⟩
def SP_STAT_CUR_E (n : Nat) : Fld := ⟨SP_STAT n, 10, 7⟩
def SP_STAT_WAITING_TRIG (n : Nat) : Fld := ⟨SP_STAT n, 6, 6⟩
def SP_STAT_STALLED (n : Nat) : Fld := ⟨SP_STAT n, 5, 5⟩
def SP_STAT_URG_QUEUED (n : Nat) : Fld := ⟨SP_STAT n, 4, 4⟩
def SP_STAT_URG_ACTIVE (n : Nat) : Fld := ⟨SP_STAT n, 3, 3⟩
def SP_STAT_STATE (n : Nat) : Fld := ⟨SP_STAT n, 2, 0⟩

def SP_CNT (n : Nat) : Nat := 0x610C + 0x10 * n
def SP_CNT_MISSES (n : Nat) : Fld := ⟨SP_CNT n, 7, 0⟩
def SP_CNT_REFUSALS (n : Nat) : Fld := ⟨SP_CNT n, 15, 8⟩
def SP_CNT_URG_MERGED (n : Nat) : Fld := ⟨SP_CNT n, 23, 16⟩
def SP_CNT_MIG_DISCARDS (n : Nat) : Fld := ⟨SP_CNT n, 31, 24⟩

def FIFO_BASE (n : Nat) : Nat := 0x6400 + 0x40 * n
def FIFO_BASE_BASE (n : Nat) : Fld := ⟨FIFO_BASE n, 22, 12⟩

def FIFO_CFG (n : Nat) : Nat := 0x6404 + 0x40 * n
def FIFO_CFG_EN (n : Nat) : Fld := ⟨FIFO_CFG n, 5, 5⟩
def FIFO_CFG_POLICY (n : Nat) : Fld := ⟨FIFO_CFG n, 4, 3⟩
def FIFO_CFG_SIZE (n : Nat) : Fld := ⟨FIFO_CFG n, 2, 0⟩

def FIFO_WP (n : Nat) : Nat := 0x6408 + 0x40 * n
def FIFO_WP_PTR (n : Nat) : Fld := ⟨FIFO_WP n, 15, 0⟩

def FIFO_RP (n : Nat) : Nat := 0x640C + 0x40 * n
def FIFO_RP_PTR (n : Nat) : Fld := ⟨FIFO_RP n, 15, 0⟩

def FIFO_LEVEL (n : Nat) : Nat := 0x6410 + 0x40 * n
def FIFO_LEVEL_COUNT (n : Nat) : Fld := ⟨FIFO_LEVEL n, 15, 0⟩

def FIFO_WM (n : Nat) : Nat := 0x6414 + 0x40 * n
def FIFO_WM_LEVEL (n : Nat) : Fld := ⟨FIFO_WM n, 15, 0⟩

def FIFO_STAT (n : Nat) : Nat := 0x6418 + 0x40 * n
def FIFO_STAT_STALLING (n : Nat) : Fld := ⟨FIFO_STAT n, 20, 20⟩
def FIFO_STAT_CFG_BAD (n : Nat) : Fld := ⟨FIFO_STAT n, 19, 19⟩
def FIFO_STAT_RP_BAD (n : Nat) : Fld := ⟨FIFO_STAT n, 18, 18⟩
def FIFO_STAT_OVF_NOTICE (n : Nat) : Fld := ⟨FIFO_STAT n, 17, 17⟩
def FIFO_STAT_WM_NOTICE (n : Nat) : Fld := ⟨FIFO_STAT n, 16, 16⟩
def FIFO_STAT_PEAK (n : Nat) : Fld := ⟨FIFO_STAT n, 15, 0⟩

def FIFO_WMT_LO (n : Nat) : Nat := 0x641C + 0x40 * n

def FIFO_WMT_HI (n : Nat) : Nat := 0x6420 + 0x40 * n

def FIFO_OVF (n : Nat) : Nat := 0x6424 + 0x40 * n
def FIFO_OVF_COUNT (n : Nat) : Fld := ⟨FIFO_OVF n, 15, 0⟩

def FIFO_OVFT_LO (n : Nat) : Nat := 0x6428 + 0x40 * n

def FIFO_OVFT_HI (n : Nat) : Nat := 0x642C + 0x40 * n

/-! Block 7, TIME (Table 2.6). -/

def TB_CTL : Nat := 0x7000
def TB_CTL_SNAP : Fld := ⟨TB_CTL, 0, 0⟩

def TB_STATUS : Nat := 0x7004
def TB_STATUS_COARSE_SEEN : Fld := ⟨TB_STATUS, 17, 17⟩
def TB_STATUS_COARSE : Fld := ⟨TB_STATUS, 16, 16⟩
def TB_STATUS_HALF_AMBIG : Fld := ⟨TB_STATUS, 15, 15⟩
def TB_STATUS_MAINS_STATE : Fld := ⟨TB_STATUS, 14, 12⟩
def TB_STATUS_LINE_STATE : Fld := ⟨TB_STATUS, 11, 0⟩

def LOCAL_NOW_LO : Nat := 0x7010

def LOCAL_NOW_HI : Nat := 0x7014

def SNAP_LOCAL_LO : Nat := 0x7020

def SNAP_LOCAL_HI : Nat := 0x7024

def SNAP_MAINS_LO : Nat := 0x7028

def SNAP_MAINS_HI : Nat := 0x702C

def SNAP_LINE_LO (w : Nat) : Nat := 0x7030 + 0x8 * w

def SNAP_LINE_HI (w : Nat) : Nat := 0x7034 + 0x8 * w

def SNAP_STATE : Nat := 0x7050

def LINE_CTL (w : Nat) : Nat := 0x7100 + 0x40 * w
def LINE_CTL_HOLD_LIMIT (w : Nat) : Fld := ⟨LINE_CTL w, 8, 1⟩
def LINE_CTL_EN (w : Nat) : Fld := ⟨LINE_CTL w, 0, 0⟩

def LINE_STATUS (w : Nat) : Nat := 0x7104 + 0x40 * w
def LINE_STATUS_TABLE_VALID (w : Nat) : Fld := ⟨LINE_STATUS w, 13, 13⟩
def LINE_STATUS_MIN_QW (w : Nat) : Fld := ⟨LINE_STATUS w, 12, 5⟩
def LINE_STATUS_QW_FAULT_SEEN (w : Nat) : Fld := ⟨LINE_STATUS w, 4, 4⟩
def LINE_STATUS_RESEAT_SEEN (w : Nat) : Fld := ⟨LINE_STATUS w, 3, 3⟩
def LINE_STATUS_STATE (w : Nat) : Fld := ⟨LINE_STATUS w, 2, 0⟩

def LINE_NOW_LO (w : Nat) : Nat := 0x7108 + 0x40 * w

def LINE_NOW_HI (w : Nat) : Nat := 0x710C + 0x40 * w

def LINE_SF (w : Nat) : Nat := 0x7110 + 0x40 * w
def LINE_SF_LEN (w : Nat) : Fld := ⟨LINE_SF w, 23, 0⟩

def LINE_TICK (w : Nat) : Nat := 0x7114 + 0x40 * w

def LINE_CNT (w : Nat) : Nat := 0x7118 + 0x40 * w
def LINE_CNT_MISSING (w : Nat) : Fld := ⟨LINE_CNT w, 7, 0⟩
def LINE_CNT_RESEATS (w : Nat) : Fld := ⟨LINE_CNT w, 15, 8⟩
def LINE_CNT_QW (w : Nat) : Fld := ⟨LINE_CNT w, 23, 16⟩
def LINE_CNT_LOST (w : Nat) : Fld := ⟨LINE_CNT w, 31, 24⟩

def LINE_QW (w i : Nat) : Nat := 0x7200 + 0x80 * w + 0x4 * i
def LINE_QW_LEN (w i : Nat) : Fld := ⟨LINE_QW w i, 31, 24⟩
def LINE_QW_START (w i : Nat) : Fld := ⟨LINE_QW w i, 23, 0⟩

def MAINS_CTL : Nat := 0x7400
def MAINS_CTL_TONE_MIN : Fld := ⟨MAINS_CTL, 23, 16⟩
def MAINS_CTL_TONE_ANY : Fld := ⟨MAINS_CTL, 9, 9⟩
def MAINS_CTL_TONE_W : Fld := ⟨MAINS_CTL, 8, 7⟩
def MAINS_CTL_BW : Fld := ⟨MAINS_CTL, 6, 5⟩
def MAINS_CTL_NOM : Fld := ⟨MAINS_CTL, 4, 4⟩
def MAINS_CTL_FORM : Fld := ⟨MAINS_CTL, 3, 3⟩
def MAINS_CTL_SRC : Fld := ⟨MAINS_CTL, 2, 0⟩

def MAINS_STATUS : Nat := 0x7404
def MAINS_STATUS_HALF_SHIFT_SEEN : Fld := ⟨MAINS_STATUS, 10, 10⟩
def MAINS_STATUS_LOST_SEEN : Fld := ⟨MAINS_STATUS, 9, 9⟩
def MAINS_STATUS_RANGE_SEEN : Fld := ⟨MAINS_STATUS, 8, 8⟩
def MAINS_STATUS_TONE_OK : Fld := ⟨MAINS_STATUS, 7, 7⟩
def MAINS_STATUS_PIN_OK : Fld := ⟨MAINS_STATUS, 6, 6⟩
def MAINS_STATUS_IN_USE : Fld := ⟨MAINS_STATUS, 5, 4⟩
def MAINS_STATUS_HALF_AMBIG : Fld := ⟨MAINS_STATUS, 3, 3⟩
def MAINS_STATUS_STATE : Fld := ⟨MAINS_STATUS, 2, 0⟩

def MAINS_FREQ : Nat := 0x7408

def MAINS_NOW_LO : Nat := 0x740C

def MAINS_NOW_HI : Nat := 0x7410

def MAINS_PHASE_OFS : Nat := 0x7414
def MAINS_PHASE_OFS_OFS : Fld := ⟨MAINS_PHASE_OFS, 15, 0⟩

def MAINS_ERR : Nat := 0x7418
def MAINS_ERR_ERR : Fld := ⟨MAINS_ERR, 15, 0⟩

def SCH_CTL (n : Nat) : Nat := 0x7800 + 0x10 * n
def SCH_CTL_TARGET (n : Nat) : Fld := ⟨SCH_CTL n, 25, 16⟩
def SCH_CTL_LATE_POL (n : Nat) : Fld := ⟨SCH_CTL n, 8, 8⟩
def SCH_CTL_ACTION (n : Nat) : Fld := ⟨SCH_CTL n, 7, 4⟩
def SCH_CTL_TB (n : Nat) : Fld := ⟨SCH_CTL n, 3, 1⟩
def SCH_CTL_ARM (n : Nat) : Fld := ⟨SCH_CTL n, 0, 0⟩

def SCH_AT_LO (n : Nat) : Nat := 0x7804 + 0x10 * n

def SCH_AT_HI (n : Nat) : Nat := 0x7808 + 0x10 * n

def SCH_PERIOD (n : Nat) : Nat := 0x780C + 0x10 * n

def SCH_STAT (n : Nat) : Nat := 0x7C00 + 0x4 * n
def SCH_STAT_WAITING (n : Nat) : Fld := ⟨SCH_STAT n, 27, 27⟩
def SCH_STAT_WR_IGNORED (n : Nat) : Fld := ⟨SCH_STAT n, 26, 26⟩
def SCH_STAT_BAD (n : Nat) : Fld := ⟨SCH_STAT n, 25, 25⟩
def SCH_STAT_LATE (n : Nat) : Fld := ⟨SCH_STAT n, 24, 24⟩
def SCH_STAT_SKIPS (n : Nat) : Fld := ⟨SCH_STAT n, 23, 16⟩
def SCH_STAT_FIRES (n : Nat) : Fld := ⟨SCH_STAT n, 15, 0⟩

/-! Block 8, SETT (Table 8.17). -/

def SETT_CTL : Nat := 0x8000
def SETT_CTL_RESTORE_ALL : Fld := ⟨SETT_CTL, 12, 12⟩
def SETT_CTL_TRK_EN : Fld := ⟨SETT_CTL, 11, 0⟩

def SETT_STATUS : Nat := 0x8004
def SETT_STATUS_KIND_IGNORED : Fld := ⟨SETT_STATUS, 19, 19⟩
def SETT_STATUS_DIE_DOWN : Fld := ⟨SETT_STATUS, 16, 12⟩
def SETT_STATUS_TRK_UP : Fld := ⟨SETT_STATUS, 11, 0⟩

def SETT_QCFG : Nat := 0x8008
def SETT_QCFG_AUTO_REL : Fld := ⟨SETT_QCFG, 15, 0⟩

def SETT_STEPCFG : Nat := 0x800C
def SETT_STEPCFG_MAXWAIT : Fld := ⟨SETT_STEPCFG, 15, 0⟩

def KIND_IDX : Nat := 0x8010
def KIND_IDX_TRUNK : Fld := ⟨KIND_IDX, 3, 0⟩
def KIND_IDX_KIND : Fld := ⟨KIND_IDX, 9, 4⟩

def KIND_DEF : Nat := 0x8014
def KIND_DEF_SENSE : Fld := ⟨KIND_DEF, 17, 17⟩
def KIND_DEF_SIGNED : Fld := ⟨KIND_DEF, 16, 16⟩
def KIND_DEF_WIDTH : Fld := ⟨KIND_DEF, 15, 12⟩
def KIND_DEF_DEFAULT : Fld := ⟨KIND_DEF, 11, 0⟩

def KIND_LIM : Nat := 0x8018
def KIND_LIM_HI : Fld := ⟨KIND_LIM, 27, 16⟩
def KIND_LIM_LO : Fld := ⟨KIND_LIM, 11, 0⟩

def KMAP_IDX : Nat := 0x8020
def KMAP_IDX_TRUNK : Fld := ⟨KMAP_IDX, 3, 0⟩
def KMAP_IDX_LEAF : Fld := ⟨KMAP_IDX, 17, 4⟩

def KMAP_DATA : Nat := 0x8024
def KMAP_DATA_KIND : Fld := ⟨KMAP_DATA, 5, 0⟩

def HUB_IDX : Nat := 0x8030
def HUB_IDX_TRUNK : Fld := ⟨HUB_IDX, 3, 0⟩
def HUB_IDX_HUB : Fld := ⟨HUB_IDX, 9, 4⟩

def HUB_STATE : Nat := 0x8034
def HUB_STATE_REFUSED : Fld := ⟨HUB_STATE, 21, 21⟩
def HUB_STATE_FRESH : Fld := ⟨HUB_STATE, 20, 20⟩
def HUB_STATE_TAINT : Fld := ⟨HUB_STATE, 19, 19⟩
def HUB_STATE_COLL : Fld := ⟨HUB_STATE, 18, 17⟩
def HUB_STATE_OFFSET : Fld := ⟨HUB_STATE, 16, 8⟩
def HUB_STATE_STATE : Fld := ⟨HUB_STATE, 2, 0⟩

def HUB_ARMED : Nat := 0x8038

def HUB_CMD : Nat := 0x803C
def HUB_CMD_CMD : Fld := ⟨HUB_CMD, 1, 0⟩

def TRK_STATUS (n : Nat) : Nat := 0x8100 + 0x40 * n
def TRK_STATUS_MISMATCH_SEEN (n : Nat) : Fld := ⟨TRK_STATUS n, 8, 8⟩
def TRK_STATUS_TAINT_SEEN (n : Nat) : Fld := ⟨TRK_STATUS n, 7, 7⟩
def TRK_STATUS_STALE_SEEN (n : Nat) : Fld := ⟨TRK_STATUS n, 6, 6⟩
def TRK_STATUS_DRIFT_SEEN (n : Nat) : Fld := ⟨TRK_STATUS n, 5, 5⟩
def TRK_STATUS_QUAR_SEEN (n : Nat) : Fld := ⟨TRK_STATUS n, 4, 4⟩
def TRK_STATUS_LOST_SEEN (n : Nat) : Fld := ⟨TRK_STATUS n, 3, 3⟩
def TRK_STATUS_STEP_FAULT_SEEN (n : Nat) : Fld := ⟨TRK_STATUS n, 2, 2⟩
def TRK_STATUS_TRAINING (n : Nat) : Fld := ⟨TRK_STATUS n, 1, 1⟩
def TRK_STATUS_UP (n : Nat) : Fld := ⟨TRK_STATUS n, 0, 0⟩

def TRK_LOST_LO (n : Nat) : Nat := 0x8104 + 0x40 * n

def TRK_LOST_HI (n : Nat) : Nat := 0x8108 + 0x40 * n

def TRK_QUAR_LO (n : Nat) : Nat := 0x810C + 0x40 * n

def TRK_QUAR_HI (n : Nat) : Nat := 0x8110 + 0x40 * n

def TRK_DRIFT_LO (n : Nat) : Nat := 0x8114 + 0x40 * n

def TRK_DRIFT_HI (n : Nat) : Nat := 0x8118 + 0x40 * n

def TRK_CNT0 (n : Nat) : Nat := 0x811C + 0x40 * n
def TRK_CNT0_STALE_GEN (n : Nat) : Fld := ⟨TRK_CNT0 n, 7, 0⟩
def TRK_CNT0_COLLISIONS (n : Nat) : Fld := ⟨TRK_CNT0 n, 15, 8⟩
def TRK_CNT0_SLOT_CHECK (n : Nat) : Fld := ⟨TRK_CNT0 n, 23, 16⟩
def TRK_CNT0_NO_REPLY (n : Nat) : Fld := ⟨TRK_CNT0 n, 31, 24⟩

def TRK_CNT1 (n : Nat) : Nat := 0x8120 + 0x40 * n
def TRK_CNT1_TAINTS (n : Nat) : Fld := ⟨TRK_CNT1 n, 7, 0⟩
def TRK_CNT1_CLAMPS (n : Nat) : Fld := ⟨TRK_CNT1 n, 15, 8⟩
def TRK_CNT1_REFUSED (n : Nat) : Fld := ⟨TRK_CNT1 n, 23, 16⟩
def TRK_CNT1_RETRIES (n : Nat) : Fld := ⟨TRK_CNT1 n, 31, 24⟩

def TRK_TSSEL (n : Nat) : Nat := 0x8124 + 0x40 * n
def TRK_TSSEL_EN (n : Nat) : Fld := ⟨TRK_TSSEL n, 24, 24⟩
def TRK_TSSEL_NODE (n : Nat) : Fld := ⟨TRK_TSSEL n, 23, 0⟩

def TRK_TSCUR (n : Nat) : Nat := 0x8128 + 0x40 * n
def TRK_TSCUR_NODE (n : Nat) : Fld := ⟨TRK_TSCUR n, 23, 0⟩
def TRK_TSCUR_VALID (n : Nat) : Fld := ⟨TRK_TSCUR n, 24, 24⟩

def TRK_FLAT (n : Nat) : Nat := 0x812C + 0x40 * n
def TRK_FLAT_LAT (n : Nat) : Fld := ⟨TRK_FLAT n, 11, 0⟩

def TRK_RLAT (n : Nat) : Nat := 0x8130 + 0x40 * n
def TRK_RLAT_LAT (n : Nat) : Fld := ⟨TRK_RLAT n, 11, 0⟩

def TRK_RESTORE (n : Nat) : Nat := 0x8134 + 0x40 * n
def TRK_RESTORE_TB (n : Nat) : Fld := ⟨TRK_RESTORE n, 2, 0⟩

def STEP_CTL (s : Nat) : Nat := 0x8800 + 0x10 * s
def STEP_CTL_MAXWAIT (s : Nat) : Fld := ⟨STEP_CTL s, 26, 11⟩
def STEP_CTL_OWNER (s : Nat) : Fld := ⟨STEP_CTL s, 10, 6⟩
def STEP_CTL_TB (s : Nat) : Fld := ⟨STEP_CTL s, 5, 3⟩
def STEP_CTL_CANCEL (s : Nat) : Fld := ⟨STEP_CTL s, 2, 2⟩
def STEP_CTL_SEAL (s : Nat) : Fld := ⟨STEP_CTL s, 1, 1⟩
def STEP_CTL_OPEN (s : Nat) : Fld := ⟨STEP_CTL s, 0, 0⟩

def STEP_AT_LO (s : Nat) : Nat := 0x8804 + 0x10 * s

def STEP_AT_HI (s : Nat) : Nat := 0x8808 + 0x10 * s

def STEP_STAT (s : Nat) : Nat := 0x880C + 0x10 * s
def STEP_STAT_MOVED (s : Nat) : Fld := ⟨STEP_STAT s, 20, 20⟩
def STEP_STAT_HUBS (s : Nat) : Fld := ⟨STEP_STAT s, 19, 7⟩
def STEP_STAT_CAUSE (s : Nat) : Fld := ⟨STEP_STAT s, 6, 3⟩
def STEP_STAT_STATE (s : Nat) : Fld := ⟨STEP_STAT s, 2, 0⟩

def STEP_T_LO (s : Nat) : Nat := 0x8C00 + 0x8 * s

def STEP_T_HI (s : Nat) : Nat := 0x8C04 + 0x8 * s

/-! Block 9, WHORL (Table 9.6). -/

def WH_GSTATUS : Nat := 0x9000
def WH_GSTATUS_MODE : Fld := ⟨WH_GSTATUS, 1, 0⟩

def WH_TIDX : Nat := 0x9010
def WH_TIDX_SLOT : Fld := ⟨WH_TIDX, 10, 5⟩
def WH_TIDX_BANK : Fld := ⟨WH_TIDX, 4, 4⟩
def WH_TIDX_TRUNK : Fld := ⟨WH_TIDX, 3, 0⟩

def WH_TDATA : Nat := 0x9014
def WH_TDATA_OPEN : Fld := ⟨WH_TDATA, 5, 5⟩
def WH_TDATA_OWNER : Fld := ⟨WH_TDATA, 4, 0⟩

def WH_RIDX : Nat := 0x9018
def WH_RIDX_RANK : Fld := ⟨WH_RIDX, 9, 5⟩
def WH_RIDX_BANK : Fld := ⟨WH_RIDX, 4, 4⟩
def WH_RIDX_TRUNK : Fld := ⟨WH_RIDX, 3, 0⟩

def WH_RDATA : Nat := 0x901C
def WH_RDATA_ID : Fld := ⟨WH_RDATA, 4, 0⟩

def WH_CTL (n : Nat) : Nat := 0x9100 + 0x40 * n
def WH_CTL_SWAP_PENDING (n : Nat) : Fld := ⟨WH_CTL n, 2, 2⟩
def WH_CTL_ACTIVE (n : Nat) : Fld := ⟨WH_CTL n, 1, 1⟩
def WH_CTL_SWAP (n : Nat) : Fld := ⟨WH_CTL n, 0, 0⟩

def WH_STATUS (n : Nat) : Nat := 0x9104 + 0x40 * n
def WH_STATUS_STARVE_SEEN (n : Nat) : Fld := ⟨WH_STATUS n, 8, 8⟩
def WH_STATUS_CFG_IGNORED (n : Nat) : Fld := ⟨WH_STATUS n, 7, 7⟩
def WH_STATUS_PTR (n : Nat) : Fld := ⟨WH_STATUS n, 5, 0⟩

def WH_REQ (n : Nat) : Nat := 0x9108 + 0x40 * n
def WH_REQ_MASK (n : Nat) : Fld := ⟨WH_REQ n, 22, 0⟩

def WH_MASK (n : Nat) : Nat := 0x910C + 0x40 * n
def WH_MASK_MASK (n : Nat) : Fld := ⟨WH_MASK n, 22, 0⟩

def WH_GCNT (n : Nat) : Nat := 0x9110 + 0x40 * n

def WH_CNT (n : Nat) : Nat := 0x9114 + 0x40 * n
def WH_CNT_WITHDRAWALS (n : Nat) : Fld := ⟨WH_CNT n, 15, 0⟩
def WH_CNT_MASK_DROPS (n : Nat) : Fld := ⟨WH_CNT n, 31, 16⟩

def WH_PROBE (n : Nat) : Nat := 0x9118 + 0x40 * n
def WH_PROBE_ID (n : Nat) : Fld := ⟨WH_PROBE n, 4, 0⟩

def WH_PROBECNT (n : Nat) : Nat := 0x911C + 0x40 * n

def WH_WATCH (n w : Nat) : Nat := 0x9120 + 0x40 * n + 0x8 * w
def WH_WATCH_LIMIT (n w : Nat) : Fld := ⟨WH_WATCH n w, 31, 8⟩
def WH_WATCH_EN (n w : Nat) : Fld := ⟨WH_WATCH n w, 5, 5⟩
def WH_WATCH_ID (n w : Nat) : Fld := ⟨WH_WATCH n w, 4, 0⟩

def WH_WSTAT (n w : Nat) : Nat := 0x9124 + 0x40 * n + 0x8 * w
def WH_WSTAT_STARVED (n w : Nat) : Fld := ⟨WH_WSTAT n w, 24, 24⟩
def WH_WSTAT_PEAK (n w : Nat) : Fld := ⟨WH_WSTAT n w, 23, 0⟩

/-! Block 10, FOX (Table 10.17). -/

def FX_GSTATUS : Nat := 0xA000
def FX_GSTATUS_RUN : Fld := ⟨FX_GSTATUS, 15, 0⟩
def FX_GSTATUS_FAULTED : Fld := ⟨FX_GSTATUS, 31, 16⟩

def FX_GCMD : Nat := 0xA004
def FX_GCMD_CMD : Fld := ⟨FX_GCMD, 18, 16⟩
def FX_GCMD_MASK : Fld := ⟨FX_GCMD, 15, 0⟩

def FX_MIG : Nat := 0xA008
def FX_MIG_COPYING : Fld := ⟨FX_MIG, 12, 12⟩
def FX_MIG_TO : Fld := ⟨FX_MIG, 11, 8⟩
def FX_MIG_FROM : Fld := ⟨FX_MIG, 7, 4⟩
def FX_MIG_PENDING : Fld := ⟨FX_MIG, 0, 0⟩

def FX_DBG_IDX : Nat := 0xA010
def FX_DBG_IDX_ENGINE : Fld := ⟨FX_DBG_IDX, 11, 8⟩
def FX_DBG_IDX_SEL : Fld := ⟨FX_DBG_IDX, 7, 0⟩

def FX_DBG_DATA : Nat := 0xA014

def FX_CTL (n : Nat) : Nat := 0xA100 + 0x40 * n
def FX_CTL_FRM_PENDING (n : Nat) : Fld := ⟨FX_CTL n, 10, 10⟩
def FX_CTL_ACT_HALF (n : Nat) : Fld := ⟨FX_CTL n, 9, 9⟩
def FX_CTL_FRM (n : Nat) : Fld := ⟨FX_CTL n, 8, 8⟩
def FX_CTL_EPOCH (n : Nat) : Fld := ⟨FX_CTL n, 7, 4⟩
def FX_CTL_CMD (n : Nat) : Fld := ⟨FX_CTL n, 2, 0⟩

def FX_STATUS (n : Nat) : Nat := 0xA104 + 0x40 * n
def FX_STATUS_SIGNAL (n : Nat) : Fld := ⟨FX_STATUS n, 17, 17⟩
def FX_STATUS_HOLD_SEEN (n : Nat) : Fld := ⟨FX_STATUS n, 16, 16⟩
def FX_STATUS_ACC_SAT_SEEN (n : Nat) : Fld := ⟨FX_STATUS n, 15, 15⟩
def FX_STATUS_QF_LOST_SEEN (n : Nat) : Fld := ⟨FX_STATUS n, 14, 14⟩
def FX_STATUS_CE_SEEN (n : Nat) : Fld := ⟨FX_STATUS n, 13, 13⟩
def FX_STATUS_PM_IGNORED (n : Nat) : Fld := ⟨FX_STATUS n, 12, 12⟩
def FX_STATUS_NODE_SEEN (n : Nat) : Fld := ⟨FX_STATUS n, 11, 11⟩
def FX_STATUS_FAULT_SEEN (n : Nat) : Fld := ⟨FX_STATUS n, 10, 10⟩
def FX_STATUS_HALT_SEEN (n : Nat) : Fld := ⟨FX_STATUS n, 9, 9⟩
def FX_STATUS_WAITING (n : Nat) : Fld := ⟨FX_STATUS n, 8, 8⟩
def FX_STATUS_CAUSE (n : Nat) : Fld := ⟨FX_STATUS n, 7, 4⟩
def FX_STATUS_STATE (n : Nat) : Fld := ⟨FX_STATUS n, 2, 0⟩

def FX_PC (n : Nat) : Nat := 0xA108 + 0x40 * n
def FX_PC_PC (n : Nat) : Fld := ⟨FX_PC n, 15, 2⟩

def FX_START (n : Nat) : Nat := 0xA10C + 0x40 * n
def FX_START_ADDR (n : Nat) : Fld := ⟨FX_START n, 15, 2⟩

def FX_FAULT_PC (n : Nat) : Nat := 0xA110 + 0x40 * n
def FX_FAULT_PC_PC (n : Nat) : Fld := ⟨FX_FAULT_PC n, 15, 2⟩

def FX_ARG (n i : Nat) : Nat := 0xA114 + 0x40 * n + 0x4 * i

def FX_CYCLES (n : Nat) : Nat := 0xA124 + 0x40 * n

def FX_NCNT (n : Nat) : Nat := 0xA128 + 0x40 * n
def FX_NCNT_DISCARDED (n : Nat) : Fld := ⟨FX_NCNT n, 31, 24⟩
def FX_NCNT_FAILED (n : Nat) : Fld := ⟨FX_NCNT n, 23, 16⟩
def FX_NCNT_NOT_SENT (n : Nat) : Fld := ⟨FX_NCNT n, 15, 8⟩
def FX_NCNT_CLAMPED (n : Nat) : Fld := ⟨FX_NCNT n, 7, 0⟩

def FX_NQ (n : Nat) : Nat := 0xA12C + 0x40 * n
def FX_NQ_PENDING (n : Nat) : Fld := ⟨FX_NQ n, 19, 16⟩
def FX_NQ_QUEUED (n : Nat) : Fld := ⟨FX_NQ n, 10, 0⟩

def FX_QFRING (n : Nat) : Nat := 0xA130 + 0x40 * n
def FX_QFRING_BASE (n : Nat) : Fld := ⟨FX_QFRING n, 22, 12⟩
def FX_QFRING_CFG_BAD (n : Nat) : Fld := ⟨FX_QFRING n, 6, 6⟩
def FX_QFRING_PLY (n : Nat) : Fld := ⟨FX_QFRING n, 5, 5⟩
def FX_QFRING_EN (n : Nat) : Fld := ⟨FX_QFRING n, 4, 4⟩
def FX_QFRING_SIZE (n : Nat) : Fld := ⟨FX_QFRING n, 2, 0⟩

def FX_QFWP (n : Nat) : Nat := 0xA134 + 0x40 * n
def FX_QFWP_PTR (n : Nat) : Fld := ⟨FX_QFWP n, 15, 0⟩

def FX_QFRP (n : Nat) : Nat := 0xA138 + 0x40 * n
def FX_QFRP_PTR (n : Nat) : Fld := ⟨FX_QFRP n, 15, 0⟩

def FX_QFLOST (n : Nat) : Nat := 0xA13C + 0x40 * n
def FX_QFLOST_COUNT (n : Nat) : Fld := ⟨FX_QFLOST n, 15, 0⟩

def FX_EVSEL (n e : Nat) : Nat := 0xA500 + 0x20 * n + 0x4 * e
def FX_EVSEL_EN (n e : Nat) : Fld := ⟨FX_EVSEL n e, 31, 31⟩
def FX_EVSEL_SOURCE (n e : Nat) : Fld := ⟨FX_EVSEL n e, 10, 0⟩

def FX_PROG (n t : Nat) : Nat := 0xA800 + 0x40 * n + 0x4 * t
def FX_PROG_COUNT (n t : Nat) : Fld := ⟨FX_PROG n t, 19, 0⟩
def FX_PROG_ACTIVE (n t : Nat) : Fld := ⟨FX_PROG n t, 31, 31⟩

/-! Block 11, OWL (Table 12.7). -/

def OWL_STATUS : Nat := 0xB000
def OWL_STATUS_REF_B_IN_USE : Fld := ⟨OWL_STATUS, 4, 4⟩
def OWL_STATUS_SC_REJECTED : Fld := ⟨OWL_STATUS, 3, 3⟩
def OWL_STATUS_GUARD_FAIL_SEEN : Fld := ⟨OWL_STATUS, 2, 2⟩
def OWL_STATUS_SC_DIFFER_SEEN : Fld := ⟨OWL_STATUS, 1, 1⟩
def OWL_STATUS_CFG_IGNORED_SEEN : Fld := ⟨OWL_STATUS, 0, 0⟩

def OWL_SCREQ : Nat := 0xB008
def OWL_SCREQ_GO : Fld := ⟨OWL_SCREQ, 31, 31⟩
def OWL_SCREQ_SC_CODE : Fld := ⟨OWL_SCREQ, 19, 10⟩
def OWL_SCREQ_KIND : Fld := ⟨OWL_SCREQ, 9, 8⟩
def OWL_SCREQ_WINDOW : Fld := ⟨OWL_SCREQ, 7, 0⟩

def OWL_SCSTAT : Nat := 0xB00C
def OWL_SCSTAT_DONE : Fld := ⟨OWL_SCSTAT, 17, 17⟩
def OWL_SCSTAT_BUSY : Fld := ⟨OWL_SCSTAT, 16, 16⟩
def OWL_SCSTAT_NA : Fld := ⟨OWL_SCSTAT, 15, 15⟩
def OWL_SCSTAT_DIFFER : Fld := ⟨OWL_SCSTAT, 14, 14⟩
def OWL_SCSTAT_CLASS_N : Fld := ⟨OWL_SCSTAT, 13, 12⟩
def OWL_SCSTAT_CLASS : Fld := ⟨OWL_SCSTAT, 11, 10⟩
def OWL_SCSTAT_KIND : Fld := ⟨OWL_SCSTAT, 9, 8⟩
def OWL_SCSTAT_WINDOW : Fld := ⟨OWL_SCSTAT, 7, 0⟩

def OWL_SCAUTO : Nat := 0xB010
def OWL_SCAUTO_NEXT : Fld := ⟨OWL_SCAUTO, 24, 17⟩
def OWL_SCAUTO_PERIOD : Fld := ⟨OWL_SCAUTO, 16, 1⟩
def OWL_SCAUTO_EN : Fld := ⟨OWL_SCAUTO, 0, 0⟩

def OWL_WIDX : Nat := 0xB020
def OWL_WIDX_WINDOW : Fld := ⟨OWL_WIDX, 7, 0⟩

def OWL_WCNT : Nat := 0xB024
def OWL_WCNT_TRIPS : Fld := ⟨OWL_WCNT, 15, 0⟩
def OWL_WCNT_SC_DIFFER : Fld := ⟨OWL_WCNT, 23, 16⟩
def OWL_WCNT_GUARD_FAILS : Fld := ⟨OWL_WCNT, 31, 24⟩

def OWL_WT_LO : Nat := 0xB028

def OWL_WT_HI : Nat := 0xB02C

def OWL_WSTAT : Nat := 0xB030
def OWL_WSTAT_GUARD_FIRED : Fld := ⟨OWL_WSTAT, 6, 6⟩
def OWL_WSTAT_GUARD_CODE : Fld := ⟨OWL_WSTAT, 5, 2⟩
def OWL_WSTAT_TRIP_CLASS : Fld := ⟨OWL_WSTAT, 1, 0⟩

def OWL_GIDX : Nat := 0xB040
def OWL_GIDX_WINDOW : Fld := ⟨OWL_GIDX, 7, 0⟩

def OWL_GNODE : Nat := 0xB044
def OWL_GNODE_NODE : Fld := ⟨OWL_GNODE, 23, 0⟩

def OWL_GCODE : Nat := 0xB048
def OWL_GCODE_CODE : Fld := ⟨OWL_GCODE, 11, 0⟩

def OWL_GCMD : Nat := 0xB04C
def OWL_GCMD_WINDOW : Fld := ⟨OWL_GCMD, 7, 0⟩
def OWL_GCMD_CMD : Fld := ⟨OWL_GCMD, 9, 8⟩

def OWL_LATCH (i : Nat) : Nat := 0xB100 + 0x4 * i

def OWL_ABOVE (i : Nat) : Nat := 0xB120 + 0x4 * i

def OWL_BELOW (i : Nat) : Nat := 0xB140 + 0x4 * i

def OWL_GARM (i : Nat) : Nat := 0xB160 + 0x4 * i

def OWL_SUSP (i : Nat) : Nat := 0xB180 + 0x4 * i

def W_CFG (w : Nat) : Nat := 0xB400 + 0x4 * w
def W_CFG_SC_AUTO (w : Nat) : Fld := ⟨W_CFG w, 30, 30⟩
def W_CFG_QUAL (w : Nat) : Fld := ⟨W_CFG w, 29, 26⟩
def W_CFG_BLANK_OW (w : Nat) : Fld := ⟨W_CFG w, 25, 25⟩
def W_CFG_CLR_SCH (w : Nat) : Fld := ⟨W_CFG w, 24, 19⟩
def W_CFG_LATCH (w : Nat) : Fld := ⟨W_CFG w, 18, 18⟩
def W_CFG_MODE (w : Nat) : Fld := ⟨W_CFG w, 17, 16⟩
def W_CFG_HYST (w : Nat) : Fld := ⟨W_CFG w, 15, 14⟩
def W_CFG_RANGE (w : Nat) : Fld := ⟨W_CFG w, 13, 12⟩
def W_CFG_INPUT (w : Nat) : Fld := ⟨W_CFG w, 11, 0⟩

def W_THR (w : Nat) : Nat := 0xB800 + 0x4 * w
def W_THR_HI (w : Nat) : Fld := ⟨W_THR w, 25, 16⟩
def W_THR_LO (w : Nat) : Fld := ⟨W_THR w, 9, 0⟩

def W_ACT (w : Nat) : Nat := 0xBC00 + 0x4 * w
def W_ACT_EV_EN (w : Nat) : Fld := ⟨W_ACT w, 13, 13⟩
def W_ACT_URG_SP (w : Nat) : Fld := ⟨W_ACT w, 12, 7⟩
def W_ACT_URG_EN (w : Nat) : Fld := ⟨W_ACT w, 6, 6⟩
def W_ACT_TRIG_GRP (w : Nat) : Fld := ⟨W_ACT w, 5, 1⟩
def W_ACT_TRIG_EN (w : Nat) : Fld := ⟨W_ACT w, 0, 0⟩

/-! Block 12, MEM/PLY (Table 14.12). -/

def MEM_STATUS : Nat := 0xC000
def MEM_STATUS_FILL_BUSY : Fld := ⟨MEM_STATUS, 12, 12⟩
def MEM_STATUS_UE_SEEN : Fld := ⟨MEM_STATUS, 11, 8⟩
def MEM_STATUS_CE_SEEN : Fld := ⟨MEM_STATUS, 7, 4⟩
def MEM_STATUS_LOG_VALID : Fld := ⟨MEM_STATUS, 0, 0⟩

def MEM_ECCLOG : Nat := 0xC004
def MEM_ECCLOG_AGENT : Fld := ⟨MEM_ECCLOG, 31, 28⟩
def MEM_ECCLOG_ENGINE : Fld := ⟨MEM_ECCLOG, 26, 23⟩
def MEM_ECCLOG_OFFSET : Fld := ⟨MEM_ECCLOG, 22, 0⟩

def MEM_BANK (b : Nat) : Nat := 0xC010 + 0x4 * b
def MEM_BANK_CE (b : Nat) : Fld := ⟨MEM_BANK b, 15, 0⟩
def MEM_BANK_UE (b : Nat) : Fld := ⟨MEM_BANK b, 23, 16⟩

def PLY_CTL : Nat := 0xC100
def PLY_CTL_RETRAIN : Fld := ⟨PLY_CTL, 4, 4⟩
def PLY_CTL_MIN_WIDTH : Fld := ⟨PLY_CTL, 3, 2⟩
def PLY_CTL_OUT_EN : Fld := ⟨PLY_CTL, 1, 1⟩
def PLY_CTL_IN_EN : Fld := ⟨PLY_CTL, 0, 0⟩

def PLY_STATUS : Nat := 0xC104
def PLY_STATUS_STAT_SEEN : Fld := ⟨PLY_STATUS, 14, 14⟩
def PLY_STATUS_DROP_SEEN : Fld := ⟨PLY_STATUS, 13, 13⟩
def PLY_STATUS_WIDTH_SEEN : Fld := ⟨PLY_STATUS, 12, 12⟩
def PLY_STATUS_OUT_DOWN_SEEN : Fld := ⟨PLY_STATUS, 11, 11⟩
def PLY_STATUS_IN_DOWN_SEEN : Fld := ⟨PLY_STATUS, 10, 10⟩
def PLY_STATUS_OUT_WIDTH : Fld := ⟨PLY_STATUS, 9, 8⟩
def PLY_STATUS_IN_WIDTH : Fld := ⟨PLY_STATUS, 7, 6⟩
def PLY_STATUS_OUT_STATE : Fld := ⟨PLY_STATUS, 5, 3⟩
def PLY_STATUS_IN_STATE : Fld := ⟨PLY_STATUS, 2, 0⟩

def PLY_LAT : Nat := 0xC108
def PLY_LAT_LAT : Fld := ⟨PLY_LAT, 15, 0⟩

def PLY_CNT0 : Nat := 0xC10C
def PLY_CNT0_IN_CRC : Fld := ⟨PLY_CNT0, 7, 0⟩
def PLY_CNT0_IN_BAD : Fld := ⟨PLY_CNT0, 15, 8⟩
def PLY_CNT0_IN_GAP : Fld := ⟨PLY_CNT0, 23, 16⟩
def PLY_CNT0_RETRAINS : Fld := ⟨PLY_CNT0, 31, 24⟩

def PLY_CNT1 : Nat := 0xC110
def PLY_CNT1_RES_DROP : Fld := ⟨PLY_CNT1, 15, 0⟩
def PLY_CNT1_QF_DROP : Fld := ⟨PLY_CNT1, 23, 16⟩
def PLY_CNT1_EVT_DROP : Fld := ⟨PLY_CNT1, 31, 24⟩

def PLY_LANE (i : Nat) : Nat := 0xC140 + 0x4 * i
def PLY_LANE_ERR (i : Nat) : Fld := ⟨PLY_LANE i, 15, 8⟩
def PLY_LANE_STATE (i : Nat) : Fld := ⟨PLY_LANE i, 1, 0⟩

def PLY_STREAM (s : Nat) : Nat := 0xC200 + 0x8 * s
def PLY_STREAM_BASE (s : Nat) : Fld := ⟨PLY_STREAM s, 22, 12⟩
def PLY_STREAM_SLOTS (s : Nat) : Fld := ⟨PLY_STREAM s, 11, 8⟩
def PLY_STREAM_SIZE (s : Nat) : Fld := ⟨PLY_STREAM s, 5, 4⟩
def PLY_STREAM_CFG_BAD (s : Nat) : Fld := ⟨PLY_STREAM s, 1, 1⟩
def PLY_STREAM_EN (s : Nat) : Fld := ⟨PLY_STREAM s, 0, 0⟩

def PLY_SSTAT (s : Nat) : Nat := 0xC204 + 0x8 * s
def PLY_SSTAT_BAD (s : Nat) : Fld := ⟨PLY_SSTAT s, 31, 24⟩
def PLY_SSTAT_DROPS (s : Nat) : Fld := ⟨PLY_SSTAT s, 23, 16⟩
def PLY_SSTAT_LAST_BSEQ (s : Nat) : Fld := ⟨PLY_SSTAT s, 15, 8⟩
def PLY_SSTAT_READY (s : Nat) : Fld := ⟨PLY_SSTAT s, 4, 0⟩

/-! Block 13, HOARD (Table 13.15). -/

def HD_STATUS : Nat := 0xD000
def HD_STATUS_DEFERRING : Fld := ⟨HD_STATUS, 11, 11⟩
def HD_STATUS_COMMITTING : Fld := ⟨HD_STATUS, 10, 10⟩
def HD_STATUS_RESTORING : Fld := ⟨HD_STATUS, 9, 9⟩
def HD_STATUS_READ_ONLY : Fld := ⟨HD_STATUS, 8, 8⟩
def HD_STATUS_SPARE_LOW_SEEN : Fld := ⟨HD_STATUS, 7, 7⟩
def HD_STATUS_WEAR_SEEN : Fld := ⟨HD_STATUS, 6, 6⟩
def HD_STATUS_RET_SEEN : Fld := ⟨HD_STATUS, 5, 5⟩
def HD_STATUS_SIG_FAIL_SEEN : Fld := ⟨HD_STATUS, 4, 4⟩
def HD_STATUS_CHECK_FAIL_SEEN : Fld := ⟨HD_STATUS, 3, 3⟩
def HD_STATUS_FACTORY_USED_SEEN : Fld := ⟨HD_STATUS, 2, 2⟩
def HD_STATUS_TORN_SEEN : Fld := ⟨HD_STATUS, 1, 1⟩
def HD_STATUS_DEFER_SEEN : Fld := ⟨HD_STATUS, 0, 0⟩

def HD_IMAGES : Nat := 0xD004
def HD_IMAGES_TARGET : Fld := ⟨HD_IMAGES, 6, 6⟩
def HD_IMAGES_BUILDING : Fld := ⟨HD_IMAGES, 5, 5⟩
def HD_IMAGES_F_VALID : Fld := ⟨HD_IMAGES, 4, 4⟩
def HD_IMAGES_B_VALID : Fld := ⟨HD_IMAGES, 3, 3⟩
def HD_IMAGES_A_VALID : Fld := ⟨HD_IMAGES, 2, 2⟩
def HD_IMAGES_CUR : Fld := ⟨HD_IMAGES, 1, 0⟩

def HD_SEQ_A : Nat := 0xD008

def HD_SEQ_B : Nat := 0xD00C

def HD_JSEQ_LO : Nat := 0xD010

def HD_JSEQ_HI : Nat := 0xD014

def HD_JOURNAL : Nat := 0xD018
def HD_JOURNAL_BUDGET_SPENT : Fld := ⟨HD_JOURNAL, 17, 17⟩
def HD_JOURNAL_USED : Fld := ⟨HD_JOURNAL, 16, 0⟩

def HD_COMMIT : Nat := 0xD01C
def HD_COMMIT_SINCE : Fld := ⟨HD_COMMIT, 26, 11⟩
def HD_COMMIT_COMMIT_MIN : Fld := ⟨HD_COMMIT, 10, 0⟩

def HD_WEAR : Nat := 0xD020
def HD_WEAR_SPARES_USED : Fld := ⟨HD_WEAR, 30, 20⟩
def HD_WEAR_MAXCOUNT : Fld := ⟨HD_WEAR, 19, 0⟩

def HD_FORECAST : Nat := 0xD024
def HD_FORECAST_DAYS_ROW : Fld := ⟨HD_FORECAST, 15, 0⟩
def HD_FORECAST_DAYS_SPARE : Fld := ⟨HD_FORECAST, 31, 16⟩

def HD_RETENTION : Nat := 0xD028
def HD_RETENTION_FACT_AGE : Fld := ⟨HD_RETENTION, 31, 16⟩
def HD_RETENTION_MAX_AGE : Fld := ⟨HD_RETENTION, 15, 0⟩

def HD_FRAME_FMT : Nat := 0xD02C
def HD_FRAME_FMT_DATA_LANES : Fld := ⟨HD_FRAME_FMT, 23, 22⟩
def HD_FRAME_FMT_DUMMY : Fld := ⟨HD_FRAME_FMT, 20, 16⟩
def HD_FRAME_FMT_ADDR_LANES : Fld := ⟨HD_FRAME_FMT, 15, 14⟩
def HD_FRAME_FMT_ADDR_BITS : Fld := ⟨HD_FRAME_FMT, 13, 8⟩
def HD_FRAME_FMT_CMD_LANES : Fld := ⟨HD_FRAME_FMT, 7, 6⟩
def HD_FRAME_FMT_CMD_BITS : Fld := ⟨HD_FRAME_FMT, 5, 0⟩

def HD_MACRO (m : Nat) : Nat := 0xD040 + 0x4 * m
def HD_MACRO_BUSY (m : Nat) : Fld := ⟨HD_MACRO m, 24, 24⟩
def HD_MACRO_UE (m : Nat) : Fld := ⟨HD_MACRO m, 23, 16⟩
def HD_MACRO_CE (m : Nat) : Fld := ⟨HD_MACRO m, 15, 0⟩

/-! Block 14, DEN/EVENT (Table 17.13). -/

def DEN_STATUS : Nat := 0xE000
def DEN_STATUS_REQ_PENDING : Fld := ⟨DEN_STATUS, 7, 7⟩
def DEN_STATUS_INVALID_SEEN : Fld := ⟨DEN_STATUS, 6, 6⟩
def DEN_STATUS_CLOCK_SEEN : Fld := ⟨DEN_STATUS, 5, 5⟩
def DEN_STATUS_SUPPLY_SEEN : Fld := ⟨DEN_STATUS, 4, 4⟩
def DEN_STATUS_TEMP_SEEN : Fld := ⟨DEN_STATUS, 3, 3⟩
def DEN_STATUS_FALLBACK_SEEN : Fld := ⟨DEN_STATUS, 2, 2⟩
def DEN_STATUS_RESTART_SEEN : Fld := ⟨DEN_STATUS, 1, 1⟩
def DEN_STATUS_FW_RUNNING : Fld := ⟨DEN_STATUS, 0, 0⟩

def BEAR_STATUS : Nat := 0xE004
def BEAR_STATUS_RESTARTS : Fld := ⟨BEAR_STATUS, 23, 16⟩
def BEAR_STATUS_LAST_CAUSE : Fld := ⟨BEAR_STATUS, 11, 8⟩
def BEAR_STATUS_RUNNING : Fld := ⟨BEAR_STATUS, 0, 0⟩

def BOOT : Nat := 0xE008
def BOOT_FAILS : Fld := ⟨BOOT, 15, 8⟩
def BOOT_NONE : Fld := ⟨BOOT, 4, 4⟩
def BOOT_TRIAL_STARTED : Fld := ⟨BOOT, 3, 3⟩
def BOOT_TRIAL : Fld := ⟨BOOT, 2, 2⟩
def BOOT_PRIMARY : Fld := ⟨BOOT, 1, 1⟩
def BOOT_ACTIVE : Fld := ⟨BOOT, 0, 0⟩

def WDT_CFG : Nat := 0xE00C
def WDT_CFG_REMAIN : Fld := ⟨WDT_CFG, 25, 16⟩
def WDT_CFG_PERIOD : Fld := ⟨WDT_CFG, 9, 0⟩

def WDT_KICK : Nat := 0xE010

def DEN_TJ : Nat := 0xE014
def DEN_TJ_DEN_TJ : Fld := ⟨DEN_TJ, 15, 0⟩
def DEN_TJ_INVALID : Fld := ⟨DEN_TJ, 16, 16⟩

def DEN_FIGLOG : Nat := 0xE018
def DEN_FIGLOG_NEXT : Fld := ⟨DEN_FIGLOG, 15, 0⟩
def DEN_FIGLOG_HELD : Fld := ⟨DEN_FIGLOG, 26, 16⟩

def THERM (i : Nat) : Nat := 0xE040 + 0x4 * i
def THERM_HI (i : Nat) : Fld := ⟨THERM i, 31, 20⟩
def THERM_INVALID (i : Nat) : Fld := ⟨THERM i, 16, 16⟩
def THERM_READING (i : Nat) : Fld := ⟨THERM i, 15, 0⟩

def SUPPLY (i : Nat) : Nat := 0xE0A0 + 0x4 * i
def SUPPLY_OVER (i : Nat) : Fld := ⟨SUPPLY i, 14, 14⟩
def SUPPLY_UNDER (i : Nat) : Fld := ⟨SUPPLY i, 13, 13⟩
def SUPPLY_READING (i : Nat) : Fld := ⟨SUPPLY i, 11, 0⟩

def CLKMON (i : Nat) : Nat := 0xE0C0 + 0x4 * i
def CLKMON_FAULT (i : Nat) : Fld := ⟨CLKMON i, 0, 0⟩

def DEN_REQ (i : Nat) : Nat := 0xE100 + 0x4 * i

def EV_STATUS : Nat := 0xE200
def EV_STATUS_CNT_SAT_SEEN : Fld := ⟨EV_STATUS, 6, 6⟩
def EV_STATUS_FF_FULL : Fld := ⟨EV_STATUS, 5, 5⟩
def EV_STATUS_STAGE_FULL_SEEN : Fld := ⟨EV_STATUS, 4, 4⟩
def EV_STATUS_LOST_SEEN : Fld := ⟨EV_STATUS, 3, 3⟩
def EV_STATUS_FWRAISE_IGNORED : Fld := ⟨EV_STATUS, 2, 2⟩
def EV_STATUS_CFG_IGNORED : Fld := ⟨EV_STATUS, 1, 1⟩

def TRAIL_STATE : Nat := 0xE204
def TRAIL_STATE_FF_FILL : Fld := ⟨TRAIL_STATE, 18, 8⟩
def TRAIL_STATE_STAGED : Fld := ⟨TRAIL_STATE, 6, 0⟩

def TRAIL_LOST : Nat := 0xE208

def TRAIL_TOKENS : Nat := 0xE20C
def TRAIL_TOKENS_COUNT : Fld := ⟨TRAIL_TOKENS, 19, 0⟩

def TRAIL_WP : Nat := 0xE210
def TRAIL_WP_SLOT : Fld := ⟨TRAIL_WP, 16, 0⟩

def TRAIL_FFGEN : Nat := 0xE214
def TRAIL_FFGEN_FFGEN : Fld := ⟨TRAIL_FFGEN, 15, 0⟩

def EV_PLY_LOST : Nat := 0xE218
def EV_PLY_LOST_COUNT : Fld := ⟨EV_PLY_LOST, 15, 0⟩

def EV_BUDGET (p : Nat) : Nat := 0xE220 + 0x4 * p
def EV_BUDGET_ALARM (p : Nat) : Fld := ⟨EV_BUDGET p, 31, 24⟩
def EV_BUDGET_FAULT (p : Nat) : Fld := ⟨EV_BUDGET p, 23, 16⟩
def EV_BUDGET_CAL (p : Nat) : Fld := ⟨EV_BUDGET p, 15, 8⟩
def EV_BUDGET_TRACE (p : Nat) : Fld := ⟨EV_BUDGET p, 7, 0⟩

def EV_SHED (h : Nat) : Nat := 0xE230 + 0x4 * h
def EV_SHED_TRACE (h : Nat) : Fld := ⟨EV_SHED h, 7, 0⟩
def EV_SHED_CAL (h : Nat) : Fld := ⟨EV_SHED h, 15, 8⟩
def EV_SHED_FAULT (h : Nat) : Fld := ⟨EV_SHED h, 23, 16⟩
def EV_SHED_ALARM (h : Nat) : Fld := ⟨EV_SHED h, 31, 24⟩

def EV_CNT_IDX : Nat := 0xE240
def EV_CNT_IDX_SOURCE : Fld := ⟨EV_CNT_IDX, 10, 0⟩

def EV_CNT_DATA : Nat := 0xE244
def EV_CNT_DATA_TRAIL : Fld := ⟨EV_CNT_DATA, 15, 0⟩
def EV_CNT_DATA_PLY : Fld := ⟨EV_CNT_DATA, 31, 16⟩

def EV_FWRAISE : Nat := 0xE248
def EV_FWRAISE_SOURCE : Fld := ⟨EV_FWRAISE, 10, 0⟩

def EV_FWDATA (k : Nat) : Nat := 0xE260 + 0x4 * k

def EV_EN_A (i : Nat) : Nat := 0xE300 + 0x4 * i

def EV_EN_B (i : Nat) : Nat := 0xE400 + 0x4 * i

def EV_EN_P (i : Nat) : Nat := 0xE500 + 0x4 * i

def EV_EN_T (i : Nat) : Nat := 0xE600 + 0x4 * i

def EV_PEND_A (i : Nat) : Nat := 0xE700 + 0x4 * i

def EV_PEND_B (i : Nat) : Nat := 0xE800 + 0x4 * i

def EV_CLASS (g : Nat) : Nat := 0xE900 + 0x4 * g

/-! Block 15, POWER/CLOCK (Table 18.10). -/

def PWR_STATUS : Nat := 0xF000
def PWR_STATUS_THERM_RETURN : Fld := ⟨PWR_STATUS, 6, 6⟩
def PWR_STATUS_SUPPLY_SEEN : Fld := ⟨PWR_STATUS, 5, 5⟩
def PWR_STATUS_THERM_SEEN : Fld := ⟨PWR_STATUS, 4, 4⟩
def PWR_STATUS_CLOCK_SEEN : Fld := ⟨PWR_STATUS, 3, 3⟩
def PWR_STATUS_DOMAIN_SEEN : Fld := ⟨PWR_STATUS, 2, 2⟩
def PWR_STATUS_CORE_ON : Fld := ⟨PWR_STATUS, 1, 1⟩
def PWR_STATUS_POWER_GOOD : Fld := ⟨PWR_STATUS, 0, 0⟩

def PWR_ON_LO : Nat := 0xF004

def PWR_ON_HI : Nat := 0xF008
def PWR_ON_HI_MASK : Fld := ⟨PWR_ON_HI, 19, 0⟩

def PWR_OFF_LO : Nat := 0xF010

def PWR_OFF_HI : Nat := 0xF014
def PWR_OFF_HI_MASK : Fld := ⟨PWR_OFF_HI, 19, 0⟩

def PWR_LOSS : Nat := 0xF020
def PWR_LOSS_CAUSE : Fld := ⟨PWR_LOSS, 1, 0⟩
def PWR_LOSS_RAIL : Fld := ⟨PWR_LOSS, 15, 8⟩
def PWR_LOSS_CORE : Fld := ⟨PWR_LOSS, 31, 16⟩

def PWR_LOSS_T_LO : Nat := 0xF024

def PWR_LOSS_T_HI : Nat := 0xF028

def RST_CFG : Nat := 0xF040
def RST_CFG_NEVER : Fld := ⟨RST_CFG, 7, 7⟩
def RST_CFG_STUCK_S : Fld := ⟨RST_CFG, 6, 0⟩

def RST_STATUS : Nat := 0xF044
def RST_STATUS_STUCK_SEEN : Fld := ⟨RST_STATUS, 9, 9⟩
def RST_STATUS_ASSERT_SEEN : Fld := ⟨RST_STATUS, 8, 8⟩
def RST_STATUS_HIGH_10MS : Fld := ⟨RST_STATUS, 4, 4⟩
def RST_STATUS_ARMED : Fld := ⟨RST_STATUS, 3, 3⟩
def RST_STATUS_AUTO : Fld := ⟨RST_STATUS, 2, 2⟩
def RST_STATUS_LOW : Fld := ⟨RST_STATUS, 1, 1⟩
def RST_STATUS_PIN : Fld := ⟨RST_STATUS, 0, 0⟩

def RST_T_LO : Nat := 0xF048

def RST_T_HI : Nat := 0xF04C

def RST_LEN : Nat := 0xF050
def RST_LEN_MS : Fld := ⟨RST_LEN, 23, 0⟩

def RST_CNT : Nat := 0xF054
def RST_CNT_LOWS : Fld := ⟨RST_CNT, 15, 0⟩
def RST_CNT_JUDGED : Fld := ⟨RST_CNT, 31, 16⟩

def AON_TEMP : Nat := 0xF060
def AON_TEMP_AON : Fld := ⟨AON_TEMP, 15, 0⟩
def AON_TEMP_INVALID : Fld := ⟨AON_TEMP, 16, 16⟩

def GOV_STATUS : Nat := 0xF100
def GOV_STATUS_HOLD_SEEN : Fld := ⟨GOV_STATUS, 9, 9⟩
def GOV_STATUS_CAP_SEEN : Fld := ⟨GOV_STATUS, 8, 8⟩
def GOV_STATUS_FORCE_CAUSE : Fld := ⟨GOV_STATUS, 6, 6⟩
def GOV_STATUS_INVALID_CAUSE : Fld := ⟨GOV_STATUS, 5, 5⟩
def GOV_STATUS_TJ_CAUSE : Fld := ⟨GOV_STATUS, 4, 4⟩
def GOV_STATUS_PEAK_CAUSE : Fld := ⟨GOV_STATUS, 3, 3⟩
def GOV_STATUS_PEAK_NOW : Fld := ⟨GOV_STATUS, 2, 2⟩
def GOV_STATUS_MODE : Fld := ⟨GOV_STATUS, 1, 0⟩

def GOV_PEAK : Nat := 0xF104
def GOV_PEAK_MS : Fld := ⟨GOV_PEAK, 16, 0⟩

def GOV_PEST : Nat := 0xF108
def GOV_PEST_MW : Fld := ⟨GOV_PEST, 15, 0⟩

def GOV_CFG : Nat := 0xF10C
def GOV_CFG_FORCE_CAP : Fld := ⟨GOV_CFG, 0, 0⟩

def GOV_CNT : Nat := 0xF110
def GOV_CNT_CAP : Fld := ⟨GOV_CNT, 15, 0⟩
def GOV_CNT_HOLD : Fld := ⟨GOV_CNT, 31, 16⟩

def SS_RESET : Nat := 0xF180
def SS_RESET_SS : Fld := ⟨SS_RESET, 16, 1⟩

def SS_BUSY : Nat := 0xF184
def SS_BUSY_MASK : Fld := ⟨SS_BUSY, 16, 1⟩

end Reg

/-- One row of a block map: `n1` groups of `n2` registers, `s1` bytes from group to group and `s2` within one.
`rw` holds the RW and RWS bits, `w1c` the W1C bits, `rws` the bits a warm reset keeps (R11), `rst` the reset value. -/
structure RegRow where
  base : Nat
  s1 : Nat
  n1 : Nat
  s2 : Nat
  n2 : Nat
  rw : Nat
  w1c : Nat
  rws : Nat
  rst : Nat
  deriving DecidableEq, Repr

/-- The row holds a register at byte address `a`. -/
def RegRow.has (r : RegRow) (a : Nat) : Bool :=
  decide (r.base ≤ a) && decide ((a - r.base) / r.s1 < r.n1) &&
    decide (((a - r.base) % r.s1) / r.s2 < r.n2) && ((a - r.base) % r.s1) % r.s2 == 0

/-- Rows of block 0, TOP/ID. -/
def regRows0 : List RegRow :=
  [ ⟨0x0, 0x4, 1, 0x4, 1, 0x0, 0x0, 0x0, 0x53004AF⟩,
    ⟨0x4, 0x4, 1, 0x4, 1, 0x0, 0x0, 0x0, 0x10⟩,
    ⟨0x8, 0x4, 1, 0x4, 1, 0x0, 0x0, 0x0, 0x0⟩,
    ⟨0xC, 0x4, 1, 0x4, 1, 0x0, 0x0, 0x0, 0x0⟩,
    ⟨0x10, 0x4, 1, 0x4, 1, 0x0, 0x0, 0x0, 0x0⟩,
    ⟨0x14, 0x4, 1, 0x4, 1, 0x0, 0x0, 0x0, 0x0⟩,
    ⟨0x20, 0x4, 4, 0x4, 1, 0xFFFFFFFF, 0x0, 0x0, 0x0⟩ ]

/-- Rows of block 1, SKEIN/CMD. -/
def regRows1 : List RegRow :=
  [ ⟨0x1000, 0x4, 1, 0x4, 1, 0x0, 0x0, 0x0, 0x41810⟩,
    ⟨0x1004, 0x4, 1, 0x4, 1, 0x0, 0x0, 0x0, 0x0⟩,
    ⟨0x1008, 0x4, 1, 0x4, 1, 0x0, 0xF0000, 0x0, 0x0⟩,
    ⟨0x100C, 0x4, 1, 0x4, 1, 0x7, 0x0, 0x0, 0x1⟩,
    ⟨0x1010, 0x4, 1, 0x4, 1, 0xFFFF, 0x0, 0x0, 0xA⟩,
    ⟨0x1014, 0x4, 1, 0x4, 1, 0xFFFFFFFF, 0x0, 0x0, 0x0⟩,
    ⟨0x1020, 0x4, 1, 0x4, 1, 0x0, 0x0, 0x0, 0x0⟩,
    ⟨0x1024, 0x4, 1, 0x4, 1, 0x0, 0x0, 0x0, 0x0⟩,
    ⟨0x1100, 0x40, 2, 0x4, 1, 0x0, 0x0, 0x0, 0x41810⟩,
    ⟨0x1104, 0x40, 2, 0x4, 1, 0x0, 0x0, 0x0, 0x0⟩,
    ⟨0x1108, 0x40, 2, 0x4, 1, 0x0, 0xF0000, 0x0, 0x0⟩,
    ⟨0x110C, 0x40, 2, 0x4, 1, 0x7, 0x0, 0x0, 0x1⟩,
    ⟨0x1110, 0x40, 2, 0x4, 1, 0xFFFF, 0x0, 0x0, 0xA⟩,
    ⟨0x1114, 0x40, 2, 0x4, 1, 0xFFFFFFFF, 0x0, 0x0, 0x0⟩,
    ⟨0x1400, 0x4, 1, 0x4, 1, 0xFFFF, 0x0, 0xFFFF, 0x64⟩,
    ⟨0x1404, 0x4, 1, 0x4, 1, 0x0, 0x6, 0x0, 0x0⟩,
    ⟨0x1410, 0x4, 2, 0x4, 1, 0x0, 0x0, 0x0, 0x0⟩,
    ⟨0x1418, 0x4, 2, 0x4, 1, 0xFFFFFFFF, 0x0, 0x0, 0x0⟩,
    ⟨0x1420, 0x4, 2, 0x4, 1, 0x0, 0x0, 0x0, 0x0⟩,
    ⟨0x1428, 0x4, 2, 0x4, 1, 0x0, 0x0, 0x0, 0x0⟩,
    ⟨0x1440, 0x20, 2, 0x4, 8, 0x0, 0x0, 0x0, 0x0⟩ ]

/-- Rows of block 2, AFE/REF. -/
def regRows2 : List RegRow :=
  [ ⟨0x2000, 0x4, 1, 0x4, 1, 0x1, 0x0, 0x0, 0x1⟩,
    ⟨0x2004, 0x4, 1, 0x4, 1, 0x0, 0x70000, 0x0, 0x0⟩,
    ⟨0x2008, 0x4, 1, 0x4, 1, 0xFFFF, 0x0, 0x0, 0x0⟩,
    ⟨0x2100, 0x4, 16, 0x4, 1, 0x0, 0x0, 0x0, 0x0⟩,
    ⟨0x2140, 0x4, 16, 0x4, 1, 0x1FFF, 0x0, 0x0, 0x0⟩,
    ⟨0x2300, 0x4, 1, 0x4, 1, 0x0, 0xFFFFFFFF, 0x0, 0x0⟩,
    ⟨0x2304, 0x4, 1, 0x4, 1, 0x0, 0xFFFFFFFF, 0x0, 0x0⟩,
    ⟨0x2308, 0x4, 1, 0x4, 1, 0x0, 0x3, 0x0, 0x0⟩,
    ⟨0x2310, 0x4, 1, 0x4, 1, 0x0, 0x0, 0x0, 0x0⟩,
    ⟨0x2314, 0x4, 1, 0x4, 1, 0x0, 0x0, 0x0, 0x0⟩,
    ⟨0x2318, 0x4, 1, 0x4, 1, 0x0, 0x0, 0x0, 0x0⟩,
    ⟨0x2320, 0x4, 1, 0x4, 1, 0x0, 0xFFFFFFFF, 0x0, 0x0⟩,
    ⟨0x2324, 0x4, 1, 0x4, 1, 0x0, 0xFFFFFFFF, 0x0, 0x0⟩,
    ⟨0x2380, 0x4, 1, 0x4, 1, 0x1FFFF, 0x0, 0x0, 0x0⟩,
    ⟨0x2400, 0x4, 1, 0x4, 1, 0x7, 0x0, 0x0, 0x3⟩,
    ⟨0x2404, 0x4, 1, 0x4, 1, 0x0, 0x1F0, 0x0, 0x0⟩,
    ⟨0x2408, 0x4, 1, 0x4, 1, 0xFF, 0x0, 0x0, 0x0⟩,
    ⟨0x2420, 0x4, 12, 0x4, 1, 0xF, 0x80, 0x0, 0x0⟩ ]

/-- Rows of block 3, FINE. -/
def regRows3 : List RegRow :=
  [ ⟨0x3000, 0x4, 1, 0x4, 1, 0x0, 0xC, 0x0, 0x0⟩,
    ⟨0x3004, 0x4, 1, 0x4, 1, 0x0, 0x0, 0x0, 0x0⟩,
    ⟨0x3008, 0x4, 1, 0x4, 1, 0x0, 0x0, 0x0, 0x0⟩,
    ⟨0x3010, 0x4, 8, 0x4, 1, 0x1, 0x0, 0x0, 0x0⟩,
    ⟨0x3100, 0x4, 32, 0x4, 1, 0x1, 0x0, 0x0, 0x1⟩,
    ⟨0x3200, 0x10, 32, 0x4, 1, 0xFFFFFFF, 0x0, 0x0, 0x0⟩,
    ⟨0x3204, 0x10, 32, 0x4, 1, 0x0, 0x0, 0x0, 0x0⟩,
    ⟨0x3208, 0x10, 32, 0x4, 1, 0x0, 0x10, 0x0, 0x0⟩,
    ⟨0x320C, 0x10, 32, 0x4, 1, 0xFFFFFFFF, 0x0, 0x0, 0x0⟩,
    ⟨0x3400, 0x20, 32, 0x4, 8, 0xFFFFFFFF, 0x0, 0xFFFFFFFF, 0x0⟩ ]

/-- Rows of block 4, SWIFT. -/
def regRows4 : List RegRow :=
  [ ⟨0x4000, 0x4, 1, 0x4, 1, 0x0, 0x0, 0x0, 0x0⟩,
    ⟨0x4004, 0x4, 1, 0x4, 1, 0x0, 0x0, 0x0, 0x0⟩,
    ⟨0x4008, 0x4, 1, 0x4, 1, 0x0, 0x0, 0x0, 0x0⟩,
    ⟨0x400C, 0x4, 1, 0x4, 1, 0x0, 0xFFFF, 0x0, 0x0⟩,
    ⟨0x4100, 0x4, 16, 0x4, 1, 0xFF01, 0x0, 0xFF00, 0x1⟩,
    ⟨0x4140, 0x4, 16, 0x4, 1, 0xFFFFFFFF, 0x0, 0x0, 0x346DC⟩,
    ⟨0x4180, 0x4, 16, 0x4, 1, 0xFFFF, 0x0, 0x0, 0x0⟩,
    ⟨0x4200, 0x20, 16, 0x4, 1, 0x0, 0x0, 0x0, 0x0⟩,
    ⟨0x4204, 0x20, 16, 0x4, 1, 0x0, 0x0, 0x0, 0x0⟩,
    ⟨0x4208, 0x20, 16, 0x4, 1, 0xFFFFFFF, 0x0, 0x0, 0x0⟩,
    ⟨0x420C, 0x20, 16, 0x4, 1, 0x0, 0x0, 0x0, 0x0⟩,
    ⟨0x4210, 0x20, 16, 0x4, 1, 0x0, 0x10, 0x0, 0x0⟩,
    ⟨0x4214, 0x20, 16, 0x4, 1, 0xFFFFFFFF, 0x0, 0x0, 0x0⟩,
    ⟨0x4218, 0x20, 16, 0x4, 1, 0x0, 0x3, 0x0, 0x0⟩,
    ⟨0x4400, 0x10, 16, 0x4, 4, 0xFFFFFFFF, 0x0, 0xFFFFFFFF, 0x0⟩ ]

/-- Rows of block 5, FILTER. -/
def regRows5 : List RegRow :=
  [ ⟨0x5000, 0x4, 1, 0x4, 1, 0x0, 0x3, 0x0, 0x0⟩,
    ⟨0x5004, 0x4, 1, 0x4, 1, 0x0, 0x0, 0x0, 0x0⟩,
    ⟨0x5100, 0x4, 64, 0x4, 1, 0x1FFF7F, 0x0, 0x1FFF7F, 0x18⟩,
    ⟨0x5200, 0x4, 16, 0x4, 1, 0x3F7FF, 0x0, 0x3F7FF, 0x0⟩,
    ⟨0x5240, 0x4, 1, 0x4, 1, 0x71F, 0x0, 0x0, 0x0⟩,
    ⟨0x5244, 0x4, 1, 0x4, 1, 0xFFFFF, 0x0, 0x0, 0x0⟩,
    ⟨0x5280, 0x4, 32, 0x4, 1, 0xFFFF, 0x0, 0xFFFF, 0x0⟩,
    ⟨0x5300, 0x4, 32, 0x4, 1, 0xFFFF, 0x0, 0x0, 0x0⟩,
    ⟨0x5380, 0x4, 1, 0x4, 1, 0x1FF, 0x0, 0x0, 0x0⟩,
    ⟨0x5384, 0x4, 1, 0x4, 1, 0xFFFFFF, 0x0, 0x0, 0x0⟩ ]

/-- Rows of block 6, SPINDLE. -/
def regRows6 : List RegRow :=
  [ ⟨0x6000, 0x4, 1, 0x4, 1, 0x0, 0x0, 0x0, 0x0⟩,
    ⟨0x6004, 0x4, 1, 0x4, 1, 0x0, 0x0, 0x0, 0x0⟩,
    ⟨0x6008, 0x4, 1, 0x4, 1, 0x0, 0x0, 0x0, 0x0⟩,
    ⟨0x600C, 0x4, 1, 0x4, 1, 0x0, 0x0, 0x0, 0x0⟩,
    ⟨0x6010, 0x4, 1, 0x4, 1, 0xFFF, 0x0, 0x0, 0x0⟩,
    ⟨0x6014, 0x4, 1, 0x4, 1, 0xFFFFFFFF, 0x0, 0x0, 0x0⟩,
    ⟨0x6018, 0x4, 1, 0x4, 1, 0x0, 0x0, 0x0, 0x0⟩,
    ⟨0x601C, 0x4, 1, 0x4, 1, 0x0, 0x0, 0x0, 0x0⟩,
    ⟨0x6080, 0x4, 32, 0x4, 1, 0x7F, 0x0, 0x0, 0x0⟩,
    ⟨0x6100, 0x10, 48, 0x4, 1, 0x0, 0x0, 0x0, 0x0⟩,
    ⟨0x6104, 0x10, 48, 0x4, 1, 0x7FF, 0x0, 0x0, 0x0⟩,
    ⟨0x6108, 0x10, 48, 0x4, 1, 0x0, 0x700800, 0x0, 0x0⟩,
    ⟨0x610C, 0x10, 48, 0x4, 1, 0xFFFFFFFF, 0x0, 0x0, 0x0⟩,
    ⟨0x6400, 0x40, 48, 0x4, 1, 0x7FF000, 0x0, 0x0, 0x0⟩,
    ⟨0x6404, 0x40, 48, 0x4, 1, 0x3F, 0x0, 0x0, 0x0⟩,
    ⟨0x6408, 0x40, 48, 0x4, 1, 0x0, 0x0, 0x0, 0x0⟩,
    ⟨0x640C, 0x40, 48, 0x4, 1, 0xFFFF, 0x0, 0x0, 0x0⟩,
    ⟨0x6410, 0x40, 48, 0x4, 1, 0x0, 0x0, 0x0, 0x0⟩,
    ⟨0x6414, 0x40, 48, 0x4, 1, 0xFFFF, 0x0, 0x0, 0x0⟩,
    ⟨0x6418, 0x40, 48, 0x4, 1, 0x0, 0x70000, 0x0, 0x0⟩,
    ⟨0x641C, 0x40, 48, 0x4, 1, 0x0, 0x0, 0x0, 0x0⟩,
    ⟨0x6420, 0x40, 48, 0x4, 1, 0x0, 0x0, 0x0, 0x0⟩,
    ⟨0x6424, 0x40, 48, 0x4, 1, 0xFFFF, 0x0, 0x0, 0x0⟩,
    ⟨0x6428, 0x40, 48, 0x4, 1, 0x0, 0x0, 0x0, 0x0⟩,
    ⟨0x642C, 0x40, 48, 0x4, 1, 0x0, 0x0, 0x0, 0x0⟩ ]

/-- Rows of block 7, TIME. -/
def regRows7 : List RegRow :=
  [ ⟨0x7000, 0x4, 1, 0x4, 1, 0x0, 0x0, 0x0, 0x0⟩,
    ⟨0x7004, 0x4, 1, 0x4, 1, 0x0, 0x20000, 0x0, 0x0⟩,
    ⟨0x7010, 0x4, 1, 0x4, 1, 0x0, 0x0, 0x0, 0x0⟩,
    ⟨0x7014, 0x4, 1, 0x4, 1, 0x0, 0x0, 0x0, 0x0⟩,
    ⟨0x7020, 0x4, 1, 0x4, 1, 0x0, 0x0, 0x0, 0x0⟩,
    ⟨0x7024, 0x4, 1, 0x4, 1, 0x0, 0x0, 0x0, 0x0⟩,
    ⟨0x7028, 0x4, 1, 0x4, 1, 0x0, 0x0, 0x0, 0x0⟩,
    ⟨0x702C, 0x4, 1, 0x4, 1, 0x0, 0x0, 0x0, 0x0⟩,
    ⟨0x7030, 0x8, 4, 0x4, 1, 0x0, 0x0, 0x0, 0x0⟩,
    ⟨0x7034, 0x8, 4, 0x4, 1, 0x0, 0x0, 0x0, 0x0⟩,
    ⟨0x7050, 0x4, 1, 0x4, 1, 0x0, 0x0, 0x0, 0x0⟩,
    ⟨0x7100, 0x40, 4, 0x4, 1, 0x1FF, 0x0, 0x0, 0x21⟩,
    ⟨0x7104, 0x40, 4, 0x4, 1, 0x0, 0x18, 0x0, 0x0⟩,
    ⟨0x7108, 0x40, 4, 0x4, 1, 0x0, 0x0, 0x0, 0x0⟩,
    ⟨0x710C, 0x40, 4, 0x4, 1, 0x0, 0x0, 0x0, 0x0⟩,
    ⟨0x7110, 0x40, 4, 0x4, 1, 0x0, 0x0, 0x0, 0x0⟩,
    ⟨0x7114, 0x40, 4, 0x4, 1, 0x0, 0x0, 0x0, 0x0⟩,
    ⟨0x7118, 0x40, 4, 0x4, 1, 0xFFFFFFFF, 0x0, 0x0, 0x0⟩,
    ⟨0x7200, 0x80, 4, 0x4, 32, 0x0, 0x0, 0x0, 0x0⟩,
    ⟨0x7400, 0x4, 1, 0x4, 1, 0xFF03FF, 0x0, 0x0, 0x400020⟩,
    ⟨0x7404, 0x4, 1, 0x4, 1, 0x0, 0x700, 0x0, 0x0⟩,
    ⟨0x7408, 0x4, 1, 0x4, 1, 0x0, 0x0, 0x0, 0x320000⟩,
    ⟨0x740C, 0x4, 1, 0x4, 1, 0x0, 0x0, 0x0, 0x0⟩,
    ⟨0x7410, 0x4, 1, 0x4, 1, 0x0, 0x0, 0x0, 0x0⟩,
    ⟨0x7414, 0x4, 1, 0x4, 1, 0xFFFF, 0x0, 0x0, 0x0⟩,
    ⟨0x7418, 0x4, 1, 0x4, 1, 0x0, 0x0, 0x0, 0x0⟩,
    ⟨0x7800, 0x10, 64, 0x4, 1, 0x3FF01FF, 0x0, 0x0, 0x0⟩,
    ⟨0x7804, 0x10, 64, 0x4, 1, 0xFFFFFFFF, 0x0, 0x0, 0x0⟩,
    ⟨0x7808, 0x10, 64, 0x4, 1, 0xFFFFFFFF, 0x0, 0x0, 0x0⟩,
    ⟨0x780C, 0x10, 64, 0x4, 1, 0xFFFFFFFF, 0x0, 0x0, 0x0⟩,
    ⟨0x7C00, 0x4, 64, 0x4, 1, 0x0, 0x5000000, 0x0, 0x0⟩ ]

/-- Rows of block 8, SETT. -/
def regRows8 : List RegRow :=
  [ ⟨0x8000, 0x4, 1, 0x4, 1, 0x1FFF, 0x0, 0x0, 0x0⟩,
    ⟨0x8004, 0x4, 1, 0x4, 1, 0x0, 0x80000, 0x0, 0x0⟩,
    ⟨0x8008, 0x4, 1, 0x4, 1, 0xFFFF, 0x0, 0x0, 0x3E8⟩,
    ⟨0x800C, 0x4, 1, 0x4, 1, 0xFFFF, 0x0, 0x0, 0x2710⟩,
    ⟨0x8010, 0x4, 1, 0x4, 1, 0x3FF, 0x0, 0x0, 0x0⟩,
    ⟨0x8014, 0x4, 1, 0x4, 1, 0x3FFFF, 0x0, 0x3FFFF, 0x0⟩,
    ⟨0x8018, 0x4, 1, 0x4, 1, 0xFFF0FFF, 0x0, 0xFFF0FFF, 0x0⟩,
    ⟨0x8020, 0x4, 1, 0x4, 1, 0x3FFFF, 0x0, 0x0, 0x0⟩,
    ⟨0x8024, 0x4, 1, 0x4, 1, 0x3F, 0x0, 0x3F, 0x3F⟩,
    ⟨0x8030, 0x4, 1, 0x4, 1, 0x3FF, 0x0, 0x0, 0x0⟩,
    ⟨0x8034, 0x4, 1, 0x4, 1, 0x0, 0x0, 0x0, 0x0⟩,
    ⟨0x8038, 0x4, 1, 0x4, 1, 0x0, 0x0, 0x0, 0x0⟩,
    ⟨0x803C, 0x4, 1, 0x4, 1, 0x0, 0x0, 0x0, 0x0⟩,
    ⟨0x8100, 0x40, 12, 0x4, 1, 0x0, 0x1FC, 0x0, 0x0⟩,
    ⟨0x8104, 0x40, 12, 0x4, 1, 0x0, 0x0, 0x0, 0x0⟩,
    ⟨0x8108, 0x40, 12, 0x4, 1, 0x0, 0x0, 0x0, 0x0⟩,
    ⟨0x810C, 0x40, 12, 0x4, 1, 0x0, 0x0, 0x0, 0x0⟩,
    ⟨0x8110, 0x40, 12, 0x4, 1, 0x0, 0x0, 0x0, 0x0⟩,
    ⟨0x8114, 0x40, 12, 0x4, 1, 0x0, 0xFFFFFFFF, 0x0, 0x0⟩,
    ⟨0x8118, 0x40, 12, 0x4, 1, 0x0, 0xFFFFFFFF, 0x0, 0x0⟩,
    ⟨0x811C, 0x40, 12, 0x4, 1, 0xFFFFFFFF, 0x0, 0x0, 0x0⟩,
    ⟨0x8120, 0x40, 12, 0x4, 1, 0xFFFFFFFF, 0x0, 0x0, 0x0⟩,
    ⟨0x8124, 0x40, 12, 0x4, 1, 0x1FFFFFF, 0x0, 0x0, 0x0⟩,
    ⟨0x8128, 0x40, 12, 0x4, 1, 0x0, 0x0, 0x0, 0x0⟩,
    ⟨0x812C, 0x40, 12, 0x4, 1, 0x0, 0x0, 0x0, 0x0⟩,
    ⟨0x8130, 0x40, 12, 0x4, 1, 0x0, 0x0, 0x0, 0x0⟩,
    ⟨0x8134, 0x40, 12, 0x4, 1, 0x7, 0x0, 0x0, 0x0⟩,
    ⟨0x8800, 0x10, 32, 0x4, 1, 0x7FFF839, 0x0, 0x0, 0x0⟩,
    ⟨0x8804, 0x10, 32, 0x4, 1, 0xFFFFFFFF, 0x0, 0x0, 0x0⟩,
    ⟨0x8808, 0x10, 32, 0x4, 1, 0xFFFFFFFF, 0x0, 0x0, 0x0⟩,
    ⟨0x880C, 0x10, 32, 0x4, 1, 0x0, 0x0, 0x0, 0x0⟩,
    ⟨0x8C00, 0x8, 32, 0x4, 1, 0x0, 0x0, 0x0, 0x0⟩,
    ⟨0x8C04, 0x8, 32, 0x4, 1, 0x0, 0x0, 0x0, 0x0⟩ ]

/-- Rows of block 9, WHORL. -/
def regRows9 : List RegRow :=
  [ ⟨0x9000, 0x4, 1, 0x4, 1, 0x0, 0x0, 0x0, 0x0⟩,
    ⟨0x9010, 0x4, 1, 0x4, 1, 0x7FF, 0x0, 0x0, 0x0⟩,
    ⟨0x9014, 0x4, 1, 0x4, 1, 0x3F, 0x0, 0x3F, 0x20⟩,
    ⟨0x9018, 0x4, 1, 0x4, 1, 0x3FF, 0x0, 0x0, 0x0⟩,
    ⟨0x901C, 0x4, 1, 0x4, 1, 0x1F, 0x0, 0x1F, 0x0⟩,
    ⟨0x9100, 0x40, 12, 0x4, 1, 0x0, 0x0, 0x0, 0x0⟩,
    ⟨0x9104, 0x40, 12, 0x4, 1, 0x0, 0x180, 0x0, 0x0⟩,
    ⟨0x9108, 0x40, 12, 0x4, 1, 0x0, 0x0, 0x0, 0x0⟩,
    ⟨0x910C, 0x40, 12, 0x4, 1, 0x0, 0x0, 0x0, 0x0⟩,
    ⟨0x9110, 0x40, 12, 0x4, 1, 0xFFFFFFFF, 0x0, 0x0, 0x0⟩,
    ⟨0x9114, 0x40, 12, 0x4, 1, 0xFFFFFFFF, 0x0, 0x0, 0x0⟩,
    ⟨0x9118, 0x40, 12, 0x4, 1, 0x1F, 0x0, 0x0, 0x0⟩,
    ⟨0x911C, 0x40, 12, 0x4, 1, 0xFFFFFFFF, 0x0, 0x0, 0x0⟩,
    ⟨0x9120, 0x40, 12, 0x8, 4, 0xFFFFFF3F, 0x0, 0x0, 0x0⟩,
    ⟨0x9124, 0x40, 12, 0x8, 4, 0x0, 0x1000000, 0x0, 0x0⟩ ]

/-- Rows of block 10, FOX. -/
def regRows10 : List RegRow :=
  [ ⟨0xA000, 0x4, 1, 0x4, 1, 0x0, 0x0, 0x0, 0x0⟩,
    ⟨0xA004, 0x4, 1, 0x4, 1, 0x0, 0x0, 0x0, 0x0⟩,
    ⟨0xA008, 0x4, 1, 0x4, 1, 0x0, 0x0, 0x0, 0x0⟩,
    ⟨0xA010, 0x4, 1, 0x4, 1, 0xFFF, 0x0, 0x0, 0x0⟩,
    ⟨0xA014, 0x4, 1, 0x4, 1, 0xFFFFFFFF, 0x0, 0x0, 0x0⟩,
    ⟨0xA100, 0x40, 16, 0x4, 1, 0x0, 0x0, 0x0, 0x0⟩,
    ⟨0xA104, 0x40, 16, 0x4, 1, 0x0, 0x1FE00, 0x0, 0x0⟩,
    ⟨0xA108, 0x40, 16, 0x4, 1, 0x0, 0x0, 0x0, 0x0⟩,
    ⟨0xA10C, 0x40, 16, 0x4, 1, 0xFFFC, 0x0, 0x0, 0x0⟩,
    ⟨0xA110, 0x40, 16, 0x4, 1, 0x0, 0x0, 0x0, 0x0⟩,
    ⟨0xA114, 0x40, 16, 0x4, 4, 0xFFFFFFFF, 0x0, 0x0, 0x0⟩,
    ⟨0xA124, 0x40, 16, 0x4, 1, 0x0, 0x0, 0x0, 0x0⟩,
    ⟨0xA128, 0x40, 16, 0x4, 1, 0xFFFFFFFF, 0x0, 0x0, 0x0⟩,
    ⟨0xA12C, 0x40, 16, 0x4, 1, 0x0, 0x0, 0x0, 0x0⟩,
    ⟨0xA130, 0x40, 16, 0x4, 1, 0x7FF037, 0x0, 0x0, 0x0⟩,
    ⟨0xA134, 0x40, 16, 0x4, 1, 0x0, 0x0, 0x0, 0x0⟩,
    ⟨0xA138, 0x40, 16, 0x4, 1, 0xFFFF, 0x0, 0x0, 0x0⟩,
    ⟨0xA13C, 0x40, 16, 0x4, 1, 0xFFFF, 0x0, 0x0, 0x0⟩,
    ⟨0xA500, 0x20, 16, 0x4, 8, 0x800007FF, 0x0, 0x0, 0x0⟩,
    ⟨0xA800, 0x40, 16, 0x4, 12, 0x0, 0x0, 0x0, 0x0⟩ ]

/-- Rows of block 11, OWL. -/
def regRows11 : List RegRow :=
  [ ⟨0xB000, 0x4, 1, 0x4, 1, 0x0, 0xF, 0x0, 0x0⟩,
    ⟨0xB008, 0x4, 1, 0x4, 1, 0xFFFFF, 0x0, 0x0, 0x0⟩,
    ⟨0xB00C, 0x4, 1, 0x4, 1, 0x0, 0x0, 0x0, 0x0⟩,
    ⟨0xB010, 0x4, 1, 0x4, 1, 0x1FFFF, 0x0, 0x0, 0x0⟩,
    ⟨0xB020, 0x4, 1, 0x4, 1, 0xFF, 0x0, 0x0, 0x0⟩,
    ⟨0xB024, 0x4, 1, 0x4, 1, 0xFFFFFFFF, 0x0, 0x0, 0x0⟩,
    ⟨0xB028, 0x4, 1, 0x4, 1, 0x0, 0x0, 0x0, 0x0⟩,
    ⟨0xB02C, 0x4, 1, 0x4, 1, 0x0, 0x0, 0x0, 0x0⟩,
    ⟨0xB030, 0x4, 1, 0x4, 1, 0x0, 0x0, 0x0, 0x0⟩,
    ⟨0xB040, 0x4, 1, 0x4, 1, 0xFF, 0x0, 0x0, 0x0⟩,
    ⟨0xB044, 0x4, 1, 0x4, 1, 0xFFFFFF, 0x0, 0xFFFFFF, 0x0⟩,
    ⟨0xB048, 0x4, 1, 0x4, 1, 0xFFF, 0x0, 0xFFF, 0x0⟩,
    ⟨0xB04C, 0x4, 1, 0x4, 1, 0x0, 0x0, 0x0, 0x0⟩,
    ⟨0xB100, 0x4, 8, 0x4, 1, 0x0, 0xFFFFFFFF, 0x0, 0x0⟩,
    ⟨0xB120, 0x4, 8, 0x4, 1, 0x0, 0x0, 0x0, 0x0⟩,
    ⟨0xB140, 0x4, 8, 0x4, 1, 0x0, 0x0, 0x0, 0x0⟩,
    ⟨0xB160, 0x4, 8, 0x4, 1, 0x0, 0x0, 0x0, 0x0⟩,
    ⟨0xB180, 0x4, 8, 0x4, 1, 0x0, 0x0, 0x0, 0x0⟩,
    ⟨0xB400, 0x4, 256, 0x4, 1, 0x7FFFFFFF, 0x0, 0x7FFFFFFF, 0x2000000⟩,
    ⟨0xB800, 0x4, 256, 0x4, 1, 0x3FF03FF, 0x0, 0x3FF03FF, 0x0⟩,
    ⟨0xBC00, 0x4, 256, 0x4, 1, 0x3FFF, 0x0, 0x3FFF, 0x2000⟩ ]

/-- Rows of block 12, MEM/PLY. -/
def regRows12 : List RegRow :=
  [ ⟨0xC000, 0x4, 1, 0x4, 1, 0x0, 0xFF1, 0x0, 0x0⟩,
    ⟨0xC004, 0x4, 1, 0x4, 1, 0x0, 0x0, 0x0, 0x0⟩,
    ⟨0xC010, 0x4, 4, 0x4, 1, 0xFFFFFF, 0x0, 0x0, 0x0⟩,
    ⟨0xC100, 0x4, 1, 0x4, 1, 0xF, 0x0, 0x0, 0x3⟩,
    ⟨0xC104, 0x4, 1, 0x4, 1, 0x0, 0x7C00, 0x0, 0x0⟩,
    ⟨0xC108, 0x4, 1, 0x4, 1, 0x0, 0x0, 0x0, 0x0⟩,
    ⟨0xC10C, 0x4, 1, 0x4, 1, 0xFFFFFFFF, 0x0, 0x0, 0x0⟩,
    ⟨0xC110, 0x4, 1, 0x4, 1, 0xFFFFFFFF, 0x0, 0x0, 0x0⟩,
    ⟨0xC140, 0x4, 16, 0x4, 1, 0x0, 0x0, 0x0, 0x0⟩,
    ⟨0xC200, 0x8, 64, 0x4, 1, 0x7FFF31, 0x0, 0x7FFF31, 0x0⟩,
    ⟨0xC204, 0x8, 64, 0x4, 1, 0xFFFF0000, 0x0, 0x0, 0x0⟩ ]

/-- Rows of block 13, HOARD. -/
def regRows13 : List RegRow :=
  [ ⟨0xD000, 0x4, 1, 0x4, 1, 0x0, 0xFF, 0x0, 0x0⟩,
    ⟨0xD004, 0x4, 1, 0x4, 1, 0x0, 0x0, 0x0, 0x3⟩,
    ⟨0xD008, 0x4, 1, 0x4, 1, 0x0, 0x0, 0x0, 0x0⟩,
    ⟨0xD00C, 0x4, 1, 0x4, 1, 0x0, 0x0, 0x0, 0x0⟩,
    ⟨0xD010, 0x4, 1, 0x4, 1, 0x0, 0x0, 0x0, 0x0⟩,
    ⟨0xD014, 0x4, 1, 0x4, 1, 0x0, 0x0, 0x0, 0x0⟩,
    ⟨0xD018, 0x4, 1, 0x4, 1, 0x0, 0x0, 0x0, 0x0⟩,
    ⟨0xD01C, 0x4, 1, 0x4, 1, 0x0, 0x0, 0x0, 0x0⟩,
    ⟨0xD020, 0x4, 1, 0x4, 1, 0x0, 0x0, 0x0, 0x0⟩,
    ⟨0xD024, 0x4, 1, 0x4, 1, 0x0, 0x0, 0x0, 0xFFFFFFFF⟩,
    ⟨0xD028, 0x4, 1, 0x4, 1, 0x0, 0x0, 0x0, 0x0⟩,
    ⟨0xD02C, 0x4, 1, 0x4, 1, 0x0, 0x0, 0x0, 0x88A008⟩,
    ⟨0xD040, 0x4, 8, 0x4, 1, 0x0, 0x0, 0x0, 0x0⟩ ]

/-- Rows of block 14, DEN/EVENT. -/
def regRows14 : List RegRow :=
  [ ⟨0xE000, 0x4, 1, 0x4, 1, 0x0, 0x7E, 0x0, 0x0⟩,
    ⟨0xE004, 0x4, 1, 0x4, 1, 0x0, 0x0, 0x0, 0x0⟩,
    ⟨0xE008, 0x4, 1, 0x4, 1, 0x0, 0x0, 0x0, 0x0⟩,
    ⟨0xE00C, 0x4, 1, 0x4, 1, 0x3FF, 0x0, 0x0, 0x64⟩,
    ⟨0xE010, 0x4, 1, 0x4, 1, 0x0, 0x0, 0x0, 0x0⟩,
    ⟨0xE014, 0x4, 1, 0x4, 1, 0x0, 0x0, 0x0, 0x0⟩,
    ⟨0xE018, 0x4, 1, 0x4, 1, 0x0, 0x0, 0x0, 0x0⟩,
    ⟨0xE040, 0x4, 24, 0x4, 1, 0xFFF00000, 0x0, 0x0, 0x39800000⟩,
    ⟨0xE0A0, 0x4, 8, 0x4, 1, 0x0, 0x0, 0x0, 0x0⟩,
    ⟨0xE0C0, 0x4, 4, 0x4, 1, 0x0, 0x0, 0x0, 0x0⟩,
    ⟨0xE100, 0x4, 32, 0x4, 1, 0x0, 0x0, 0x0, 0x0⟩,
    ⟨0xE200, 0x4, 1, 0x4, 1, 0x0, 0x5E, 0x0, 0x0⟩,
    ⟨0xE204, 0x4, 1, 0x4, 1, 0x0, 0x0, 0x0, 0x0⟩,
    ⟨0xE208, 0x4, 1, 0x4, 1, 0x0, 0x0, 0x0, 0x0⟩,
    ⟨0xE20C, 0x4, 1, 0x4, 1, 0x0, 0x0, 0x0, 0x578⟩,
    ⟨0xE210, 0x4, 1, 0x4, 1, 0x1FFFF, 0x0, 0x0, 0x0⟩,
    ⟨0xE214, 0x4, 1, 0x4, 1, 0xFFFF, 0x0, 0x0, 0x0⟩,
    ⟨0xE218, 0x4, 1, 0x4, 1, 0x0, 0x0, 0x0, 0x0⟩,
    ⟨0xE220, 0x4, 4, 0x4, 1, 0xFFFFFFFF, 0x0, 0xFFFFFFFF, 0x40300802⟩,
    ⟨0xE230, 0x4, 2, 0x4, 1, 0xFFFFFFFF, 0x0, 0x0, 0x0⟩,
    ⟨0xE240, 0x4, 1, 0x4, 1, 0x7FF, 0x0, 0x0, 0x0⟩,
    ⟨0xE244, 0x4, 1, 0x4, 1, 0x0, 0x0, 0x0, 0x0⟩,
    ⟨0xE248, 0x4, 1, 0x4, 1, 0x0, 0x0, 0x0, 0x0⟩,
    ⟨0xE260, 0x4, 8, 0x4, 1, 0xFFFFFFFF, 0x0, 0x0, 0x0⟩,
    ⟨0xE300, 0x4, 32, 0x4, 1, 0xFFFFFFFF, 0x0, 0xFFFFFFFF, 0x0⟩,
    ⟨0xE380, 0x4, 1, 0x4, 1, 0xFFF, 0x0, 0xFFF, 0x0⟩,
    ⟨0xE400, 0x4, 32, 0x4, 1, 0xFFFFFFFF, 0x0, 0xFFFFFFFF, 0x0⟩,
    ⟨0xE480, 0x4, 1, 0x4, 1, 0xFFF, 0x0, 0xFFF, 0x0⟩,
    ⟨0xE500, 0x4, 32, 0x4, 1, 0xFFFFFFFF, 0x0, 0xFFFFFFFF, 0x0⟩,
    ⟨0xE580, 0x4, 1, 0x4, 1, 0xFFF, 0x0, 0xFFF, 0x0⟩,
    ⟨0xE600, 0x4, 32, 0x4, 1, 0xFFFFFFFF, 0x0, 0xFFFFFFFF, 0xFFFFFFFF⟩,
    ⟨0xE680, 0x4, 1, 0x4, 1, 0xFFF, 0x0, 0xFFF, 0xFFF⟩,
    ⟨0xE700, 0x4, 33, 0x4, 1, 0x0, 0xFFFFFFFF, 0x0, 0x0⟩,
    ⟨0xE800, 0x4, 33, 0x4, 1, 0x0, 0xFFFFFFFF, 0x0, 0x0⟩,
    ⟨0xE900, 0x4, 64, 0x4, 1, 0xFFFFFFFF, 0x0, 0xFFFFFFFF, 0x0⟩,
    ⟨0xEA00, 0x4, 1, 0x4, 1, 0xFFFFFF, 0x0, 0xFFFFFF, 0x0⟩ ]

/-- Rows of block 15, POWER/CLOCK. -/
def regRows15 : List RegRow :=
  [ ⟨0xF000, 0x4, 1, 0x4, 1, 0x0, 0x3C, 0x0, 0x0⟩,
    ⟨0xF004, 0x4, 1, 0x4, 1, 0x0, 0x0, 0x0, 0x1⟩,
    ⟨0xF008, 0x4, 1, 0x4, 1, 0x0, 0x0, 0x0, 0x0⟩,
    ⟨0xF010, 0x4, 1, 0x4, 1, 0xFFFFFF00, 0x0, 0x0, 0x0⟩,
    ⟨0xF014, 0x4, 1, 0x4, 1, 0xFFFFF, 0x0, 0x0, 0x0⟩,
    ⟨0xF020, 0x4, 1, 0x4, 1, 0x0, 0x0, 0x0, 0x0⟩,
    ⟨0xF024, 0x4, 1, 0x4, 1, 0x0, 0x0, 0x0, 0x0⟩,
    ⟨0xF028, 0x4, 1, 0x4, 1, 0x0, 0x0, 0x0, 0x0⟩,
    ⟨0xF040, 0x4, 1, 0x4, 1, 0xFF, 0x0, 0x0, 0x8⟩,
    ⟨0xF044, 0x4, 1, 0x4, 1, 0x0, 0x300, 0x0, 0x8⟩,
    ⟨0xF048, 0x4, 1, 0x4, 1, 0x0, 0x0, 0x0, 0x0⟩,
    ⟨0xF04C, 0x4, 1, 0x4, 1, 0x0, 0x0, 0x0, 0x0⟩,
    ⟨0xF050, 0x4, 1, 0x4, 1, 0x0, 0x0, 0x0, 0x0⟩,
    ⟨0xF054, 0x4, 1, 0x4, 1, 0x0, 0x0, 0x0, 0x0⟩,
    ⟨0xF060, 0x4, 1, 0x4, 1, 0x0, 0x0, 0x0, 0x0⟩,
    ⟨0xF100, 0x4, 1, 0x4, 1, 0x0, 0x300, 0x0, 0x0⟩,
    ⟨0xF104, 0x4, 1, 0x4, 1, 0x0, 0x0, 0x0, 0x0⟩,
    ⟨0xF108, 0x4, 1, 0x4, 1, 0x0, 0x0, 0x0, 0x0⟩,
    ⟨0xF10C, 0x4, 1, 0x4, 1, 0x1, 0x0, 0x0, 0x0⟩,
    ⟨0xF110, 0x4, 1, 0x4, 1, 0xFFFFFFFF, 0x0, 0x0, 0x0⟩,
    ⟨0xF180, 0x4, 1, 0x4, 1, 0x0, 0x0, 0x0, 0x0⟩,
    ⟨0xF184, 0x4, 1, 0x4, 1, 0x0, 0x0, 0x0, 0x0⟩ ]

/-- The rows of the block that holds address `a` (Table 20.1). -/
def regRowsOf (a : Nat) : List RegRow :=
  match a / 0x1000 with
  | 0 => regRows0
  | 1 => regRows1
  | 2 => regRows2
  | 3 => regRows3
  | 4 => regRows4
  | 5 => regRows5
  | 6 => regRows6
  | 7 => regRows7
  | 8 => regRows8
  | 9 => regRows9
  | 10 => regRows10
  | 11 => regRows11
  | 12 => regRows12
  | 13 => regRows13
  | 14 => regRows14
  | 15 => regRows15
  | _ => []

/-- The row that names the register at `a`; none for a reserved offset (R505). -/
def regRow (a : Nat) : Option RegRow := (regRowsOf a).find? (·.has a)

end Sys2Proof.Machine
end

