-- ==== Sys2Proof/Machine/State.lean ====
section
/-! DEFINITION. The state of the block, as plain data: the registers, what each subsystem keeps beyond its registers,
and the queue of waiting commands; its value at cold reset; why a step may stop. -/

namespace Sys2Proof.Machine

/-! Reset values of the registers. -/

/-- The default class of an event source: 0 ALARM, 1 FAULT, 2 CAL, 3 TRACE (the event tables of chapters 2–18, R447). -/
def defaultClass (n : Nat) : Nat :=
  if n < 256 then 1                                       -- Owl windows (R316)
  else if n < 448 then (if n % 4 = 3 then 3 else 1)       -- Fine, Swift (R91, R117, R139)
  else if n < 544 then 3                                  -- SEQ_DONE, FIFO_WM (R188)
  else if n < 592 then 1                                  -- FIFO_OVF
  else if n < 656 then                                    -- Fox engines (R276)
    match n % 4 with
    | 0 => 3
    | 1 => 1
    | 2 => 2
    | _ => 1
  else if n < 752 then                                    -- Sett trunks (R221)
    match n % 8 with
    | 0 => 0
    | 1 => 1
    | 2 => 3
    | 3 => 0
    | 4 => 3
    | 5 => 1
    | 6 => 1
    | _ => 3
  else if n < 816 then                                    -- Ply lanes (R377)
    match n % 4 with
    | 0 => 1
    | 1 => 3
    | 2 => 3
    | _ =>
      if n = 755 then 3 else if n = 759 then 2 else if n = 763 then 2 else if n = 767 then 1
      else if n = 771 then 1 else if n = 787 then 1 else if n = 791 then 1 else if n = 795 then 0
      else if n = 799 then 1 else 3
  else if n < 832 then                                    -- timebases (Table 2.5)
    if n < 824 then 1 else if n < 828 then 2 else if n < 830 then 1 else 3
  else if n < 848 then (if n % 4 = 0 then 3 else 1)       -- result memory (R377)
  else if n < 880 then                                    -- Hoard (R355)
    if n < 856 then 3 else if n < 865 then 1 else if n = 865 then 3 else if n < 868 then 1
    else if n = 868 then 3 else if n = 869 then 1 else if n = 870 then 3 else if n < 873 then 1
    else if n = 873 then 0 else if n = 874 then 1 else if n = 875 then 3 else if n < 878 then 0 else 3
  else if n < 944 then                                    -- Den (Table 17.12)
    if n < 904 then 1 else if n < 916 then 0 else if n = 916 then 1 else if n = 917 then 0
    else if n < 921 then 1 else if n = 921 then 3 else if n < 924 then 0 else if n = 924 then 1
    else if n = 925 then 0 else if n < 928 then 1 else if n = 928 then 0 else if n = 929 then 3
    else if n = 930 then 0 else if n = 931 then 2 else if n = 932 then 1 else if n = 933 then 3
    else if n < 937 then 1 else 3
  else if n < 960 then                                    -- Skein ports (R401)
    match n % 8 with
    | 0 => 3
    | 1 => 1
    | 2 => 1
    | 3 => 3
    | 4 => 1
    | 5 => 1
    | 6 => if n = 950 then 0 else 3
    | _ => 3
  else if n < 984 then (if n % 2 = 0 then 1 else 3)       -- Whorl arbiters (R239)
  else if n < 992 then 1                                  -- fixed power domains (R483)
  else 3

/-- The reset value of EV_CLASS `g`: the default class of source 16`g` + `b` in bits [2`b`+1 : 2`b`] (R447). -/
def evClassReset (g : Nat) : Nat :=
  (List.range 16).foldl (fun a b => if 16 * g + b < 1036 then a + defaultClass (16 * g + b) * 4 ^ b else a) 0

/-- The value of the register at `a` after cold reset (R11, Tables 20.4 and 20.9–20.23). Address 0x10000 × (1 + agent)
above a register holds an agent's own copy of it (R508). -/
def regReset (a : Nat) : Word :=
  let b := a % 0x10000
  if b = Reg.TOP_UID_LO then Config.uid.extractLsb' 0 32
  else if b = Reg.TOP_UID_HI then Config.uid.extractLsb' 32 32
  else if 0x6104 ≤ b ∧ b < 0x6400 ∧ b % 0x10 = 4 then BitVec.ofNat 32 (0x1000 * ((b - 0x6104) / 0x10))
  else if b = Reg.EV_BUDGET 1 ∨ b = Reg.EV_BUDGET 2 then 0x20100804#32
  else if b = Reg.EV_BUDGET 3 then 0xFFA04010#32
  else if b = Reg.EV_EN_T 32 then 0x00000FFF#32
  else if Reg.EV_CLASS 0 ≤ b ∧ b ≤ Reg.EV_CLASS 64 then BitVec.ofNat 32 (evClassReset ((b - Reg.EV_CLASS 0) / 4))
  else match regRow b with
    | some r => BitVec.ofNat 32 r.rst
    | none => 0#32

/-! Chapter 17: events and the Den. -/

/-- Kinds of Trail record (Table 17.9). -/
inductive TrailKind where
  | single | summary | start
  deriving DecidableEq, Repr

/-- A Trail record as formed in the staging queue (R455, R456). RSEQ and CRC are added when firmware writes it. -/
structure TrailRec where
  kind : TrailKind
  injected : Bool
  coarse : Bool
  torn : Bool
  time : Count
  source : Nat
  cls : Nat
  ffgen : Nat
  lost : Word
  data : List Word
  deriving DecidableEq, Repr

/-- The event controller's state that no register shows (R449–R456). Paths: 0 Trail, 1 attention A, 2 attention B,
3 Ply. -/
structure EventSt where
  interval : Nat              -- the interval whose first cycle has come last: local count / 10,000,000 (R451)
  singles : Bank Nat          -- single deliveries of interval `singlesIn`, by path (R451)
  singlesIn : Nat
  trailCnt : Bank Nat         -- Trail counter of each source (R452)
  plyCnt : Bank Nat           -- Ply counter of each source (R452)
  staged : List TrailRec      -- staging queue, oldest first, at most 64 (R456)
  tokens : Nat                -- token bucket in hundredths of a token (R454)
  rseq : Count                -- RSEQ of the last record of the ring (R456, R458)
  clearedAt : Option Nat      -- local count of the last TRAIL_CLEAR (R457)
  pulse : Bank (Option Nat)   -- port h: instant from which ATTN is released for the 200 ns of R398
  setIn : Nat                 -- EVENT cycle in which the pending bits `setBits` were set: path and source (R450)
  setBits : List (Nat × Nat)
  classIn : Nat               -- EVENT cycle in which the EV_CLASS registers of `oldClass` were written, with their old values (R447)
  oldClass : List (Nat × Word)
  deriving DecidableEq, Repr

/-- A quality figure that firmware holds in the figure log (R459). -/
structure LogFigure where
  number : Nat
  figure : Rec
  deriving DecidableEq, Repr

/-- The latest reading of a scanned sensor 24–59 (R443): signed, 0.125 °C. -/
structure Sensor where
  reading : BitVec 16
  outOfRange : Bool
  deriving DecidableEq, Repr

/-- The Den's state that no register shows: sensors, watchdog, boot and figure log (R434–R443, R459). -/
structure DenSt where
  therm : Bank Bool           -- sensor i has read below HI − 2.000 °C since its last TEMP_HIGH (R442)
  sensors : Bank Sensor       -- sensors 24–59 by number (R443)
  tjInvalidSince : Option Nat -- local count from which DEN_TJ has been INVALID (Table 18.7)
  wdtPeriod : Nat             -- watchdog period in force, ms (R441)
  wdtAt : Nat                 -- local count of the last start or kick of the watchdog
  bearAt : Nat                -- local count of the last Bear start (R440)
  bearFwAt : Nat              -- local count from which firmware runs
  fwVersion : Nat             -- w4 of IDENT
  waitConfirm : Bool          -- trial firmware runs and has not confirmed (R439)
  figures : List LogFigure    -- oldest first, at most 1,024 (R459)
  startup : Option Nat        -- firmware's next start-up: 0 cold start, 1 CORE return, 2 end of RST#, 3 a judgement (R470, R473, R475)
  scanDue : Option Nat        -- the Trail is to be read: 0 cold start, 1 CORE return (R458)
  bootDue : Bool              -- the boot programme is to select a slot (R437)
  startAt : Nat               -- local count of the start-up's end, for the confirmation (R439)
  rstLows : Nat               -- assertions and judgements that firmware has yet to count (R472, R475)
  judged : Nat
  therms : Nat                -- thermal power-offs that firmware has yet to count (R481)
  triedAt : Option Nat        -- local count at which no slot verified (R438)
  sampledAt : Option Nat      -- local count of the last samples of sensors 0–23 (R442)
  scannedAt : Option Nat      -- local count of the last scan (R443)
  activate : Option (Nat × Nat) -- an outstanding FW_ACTIVATE: host and tag (R439)
  deriving DecidableEq, Repr

/-! Chapters 18 and 19: power, reset, governor, test port. -/

/-- The power controller, the RST# logic and the governor, beyond their registers (R463–R481). -/
structure PowerSt where
  railEffect : Bank Bool      -- rail i: the consequence of an excursion is in force (R468)
  clkEffect : Bank Bool       -- clock monitor i: its consequence is in force (R466)
  stuckS : Nat                -- stuck-reset time read at the start of the honoured low, s (R474)
  stuckNever : Bool
  clkAt : Bank Nat            -- local count at which clock monitor i last reported its fault (R466)
  lossDue : Option (Nat × Nat) -- a CORE loss has a cause: the cause and its rail or monitor (R469)
  lossAt : Nat                -- local count at which that cause arose
  lowAtStart : Bool           -- RST# is low before the first power-good (R472)
  highAt : Option Nat         -- local count from which the pin has been high in autonomous mode (R476)
  trunksDue : List Nat        -- trunks powered again that firmware has yet to load (R238)
  judgedInLoss : Bool         -- a judgement fell while CORE was down (R477)
  buckets : List Nat          -- peak milliseconds, current bucket first, at most 120 (R479)
  govMs : Nat                 -- local ms at which the governor last evaluated (R479)
  aonAt : Option Nat          -- local count of the last AON sample (R481)
  bucketNo : Nat              -- local seconds of the current bucket
  thermReturnAt : Option Nat  -- local count of the last return from a thermal power-off
  coolAt : Option Nat         -- local count from which AON_TEMP has stayed at or below 105 °C (R481)
  ssDone : Bank Nat           -- subsystem n in reset: local count of its completion (Table 18.6)
  deriving DecidableEq, Repr

/-- Instructions of the test port (Table 19.10). -/
inductive TapInst where
  | extest | sample | preload | idcode | clamp | highz | bypass
  deriving DecidableEq, Repr

/-- The test port (R501–R504). -/
structure TapSt where
  inst : TapInst
  cells : BitVec 63           -- boundary register: what its cells drive, cell 0 least significant
  captured : BitVec 63        -- what its cells last captured
  deriving DecidableEq, Repr

/-! Chapter 2: the timebases. -/

/-- A quiet-window table (R39). -/
structure QwTable where
  sf : Word                   -- first tick of the superframe it names
  wins : List (Nat × Nat)     -- (start, length) in ticks
  at' : Nat                   -- local count of its arrival
  deriving DecidableEq, Repr

/-- A quiet window: its start in 1/6 ns of local time, its length in ticks, its start in ticks from the superframe's, and the
local count at which its table came (R39, R41). -/
structure Win where
  st : Nat
  len : Nat
  off : Nat
  came : Nat
  deriving DecidableEq, Repr

/-- One line timebase beyond its registers (R35–R41). -/
structure LineTb where
  cnt : Count                 -- the line count at local count `anchor`
  anchor : Nat
  seen : Bool                 -- a marker has been received since the state was last UNLOCKED
  everLocked : Bool           -- a lock since cold reset has set the upper word (R35)
  lastTick : Word             -- tick count of the last marker
  lastAt : Nat                -- local count of its instant
  sfLen : Nat                 -- superframe length that it gave, in ticks (R37)
  missed : Nat                -- markers missing since the last marker
  landed : Nat                -- markers landed without a break in ACQUIRING
  lockedAt : Nat              -- local count from which the state has been LOCKED (R41)
  qwSf : Option Word          -- first tick of the superframe that has begun
  qwAt : Nat                  -- local count at which its table came
  qwNext : List QwTable       -- the tables received for superframes that have not begun
  qwFault : Option Word       -- superframe whose loss of its table has been raised (R39)
  qwPast : List Win           -- windows of superframes that have ended, for the engines that held then (R259, R274)
  deriving DecidableEq, Repr

/-- A stretch of the internal mains count (R45, R49): its value at local count `anchor` and the fraction of a unit there in
10^-18, the frequency there and the one that it slews to, Hz × 2^16. -/
structure MainsSeg where
  anchor : Nat
  cnt : Count
  part : Nat
  freq : Nat
  aim : Nat
  deriving DecidableEq, Repr

/-- A usable TONE report (R44): mains frequency, tone phase, the local instant of the stated tick, confidence, arrival. -/
structure ToneRef where
  freq : Nat
  phase : Nat
  at' : Nat
  conf : Nat
  came : Nat
  deriving DecidableEq, Repr

/-- The mains timebase beyond its registers (R42–R49). -/
structure MainsTb where
  seg : MainsSeg              -- the present stretch of the internal count
  past : List MainsSeg        -- the stretches before it, newest first, at most 8
  shifts : Nat                -- half-cycle shifts so far (R47)
  held : Nat                  -- frequency at the last usable reference (R48)
  lastRefAt : Option Nat      -- local count of the last usable reference
  good : Nat                  -- consecutive cycles within ±128 units
  goodCyc : Nat               -- cycle of the last reference
  missing : Nat               -- consecutive missing cycles
  agree : Nat                 -- consecutive agreeing edges (R46)
  disagree : Nat
  edgeAt : Option Nat         -- local count of the last reference edge of the pin (R43)
  pinAt : Option Nat          -- local count of the last usable edge
  toneAt : Option Nat         -- local count at which the last usable report came
  best : Option ToneRef       -- TONE_ANY: the report of highest confidence of the cycle in progress (R44)
  half : Option (Nat × Nat × Nat) -- the half cycle selected: instant, angle and frequency of the last tone reference (R46)
  badRange : Bool             -- the source delivers references outside 42–68 Hz
  deriving DecidableEq, Repr

/-- The timebase unit. -/
structure TimeSt where
  line : Bank LineTb
  mains : MainsTb
  schLate : Bank Bool         -- entry n: its instant was passed by a jump, or before arming (R54)
  deriving DecidableEq, Repr

/-! Chapters 3–7: front end, references, converters, filter chains and spindles. -/

/-- What a converter's activity is: a run of the sequence, the urgent entry, or a calibration conversion. -/
inductive RunKind where
  | seq | urgent | cal
  deriving DecidableEq, Repr

/-- Where an entry stands between its start and its last result (R65–R68, R77, R99). -/
inductive Stage where
  | line       -- waits for a crosspoint line (R65)
  | check      -- waits to begin its pre-check on a shared ball (R80)
  | checking   -- its pre-check runs (R77)
  | sense      -- waits for its trunk's sense tap (R214)
  | settle     -- its settle time runs (R68)
  | ready      -- settled; waits for its trigger or its sampling edge
  | refWait    -- waits only for REF_OK (R87)
  | sampling
  deriving DecidableEq, Repr

/-- A spell of overrange, or of REF_OK = 0: local counts of its beginning and of its end, none while it lasts. -/
structure Spell where
  begun : Nat
  ended : Option Nat
  deriving DecidableEq, Repr

/-- One output of the stage before the phase delay (R152): its code, whether its span met an overrange (R162) or
REF_OK = 0 (R87), and the instant of its last period in 1/192 ns of local time (R144). -/
structure Samp where
  val : Int
  isOver : Bool
  refBad : Bool
  edge : Nat
  deriving DecidableEq, Repr

/-- An entry, urgent entry or calibration conversion of one converter. -/
structure Run where
  kind : RunKind
  entry : Nat
  epoch : Nat
  dfn : BitVec 128            -- the definition in use (R171)
  profile : Word              -- the profile copied at the start (R142)
  pd : BitVec 16              -- FPD.PD copied at the start
  stage : Stage
  line : Option Nat           -- crosspoint line held
  since : Nat                 -- local count from which its settle counts (R68), or at which its check began (R77)
  took : Option Nat           -- local count of the trigger it has taken, before its group edge (R174)
  freed : Bool                -- does not wait for a trigger (R106, R175)
  waited : Bool               -- REF_WAIT raised, or counted in XB_WAIT_CNT, for this wait
  delivered : Nat             -- results delivered by the run since its last start
  freq : Nat                  -- mains frequency at sampling start, Hz × 2^16 (R101)
  start : Nat                 -- sampling start, in 1/192 ns of local time (R99, R123, R144)
  angle : Nat                 -- mains position at sampling start, as `MainsSeg.fine` gives it (R95)
  overs : List Spell          -- overranges of the input since sampling start, newest first (R75)
  allOver : Bool              -- the source was unavailable, or AFE was reset while sampling (R69, R90)
  badRefs : List Spell        -- spells of REF_OK = 0 since sampling start, newest first (R87)
  restarted : Bool
  settling : Bool
  missed : Bool
  stale : Bool
  sensing : Bool              -- its SENSE_SELECT has not completed (R214)
  xswap : Bool                -- calibration conversion with exchanged wires (R111)
  samples : Nat               -- calibration conversion: OSR, or number of samples
  got : Nat                   -- modulator periods or samples taken since sampling start (R144)
  kept : List Int             -- the latest of them that later outputs need, oldest first
  outs : Nat                  -- outputs of the stage before the phase delay since sampling start
  hist : List Samp            -- the latest of those outputs, newest first, at most 132
  deriving DecidableEq, Repr

/-- A pending spindle migration (R183). -/
structure SpMigration where
  dest : Nat
  tb : Nat
  instant : Count
  host : Nat
  tag : Nat
  deriving DecidableEq, Repr

/-- One spindle and its converter, beyond their registers (R166–R186). -/
structure Spindle where
  act : Option Run            -- in progress
  resume : List Run           -- aborted or stopped, to be restarted, the next first
  cal : Option Word           -- queued calibration conversion: the FINE_CALREQ or SWIFT_CALREQ word (R109)
  calGap : Bool               -- a continuous run has given its next result since the GO (R110)
  urgHeld : Bool              -- an accepted urgent entry waits for the quad's clock or power (R175)
  next : Nat                  -- entry of the next run
  repsDone : Nat              -- runs of that entry already made in this pass
  ranAny : Bool               -- a run of this pass was not refused (R170)
  mig : Option SpMigration
  tsw : Option Nat            -- DRAINING: local count of the switch cycle (R185)
  drainFifo : Nat             -- DRAINING: the FIFO that was its own (R185)
  urgAt : Option Nat          -- local count at which an urgent request not yet registered was raised (R175)
  frmLoaded : Bool            -- the LAST packet of a forerunner load has completed (R186, R431)
  frmNent : Nat               -- NENT and URG_E of that load (R431)
  frmUrg : Nat
  deriving DecidableEq, Repr

/-- A stretch of a numerically controlled oscillator with one FREQ and one PHASE: its accumulator at its first sample
edge, a local count (R130–R132). -/
structure NcoSeg where
  edge : Nat
  acc : Word
  freq : Word
  phase : BitVec 16
  deriving DecidableEq, Repr

/-- The acquisition flow beyond its registers. -/
structure AcqSt where
  spindles : Bank Spindle
  defs : Bank (BitVec 128)    -- entry definition e of spindle n at 16 n + e (R169)
  staging : Bank Word         -- word w of agent a's staging buffer at 4 a + w (R171)
  coefs : Bank (BitVec 20)    -- Swift FIR bank b, coefficient t at 32 b + t, banks 4–7 (R156)
  dc : Bank Int               -- DC estimate of entry e of SPn at 16 n + e, in 2^-24 code units (R150, R151)
  ncos : Bank (List NcoSeg)   -- S(j)'s oscillator, newest stretch first; none while it is stopped (R126)
  wrote : Bank (List (Nat × Word)) -- register a: when it was written and what it held before, newest first (R108, R128)
  dcNew : Bank (Option (Nat × Int)) -- estimate written by FILT_DC_VAL and not yet in use: when, and its value (R151)
  inputOver : Bank Bool       -- converter n's input is overranged (R74, R91)
  chainOver : Bank Bool       -- converter n's last sample or result was beyond its range (R74, R91)
  owOpen : Bank Bool          -- converter n's last pre-check of ball b reported open, at 66 n + b (R91)
  upWait : Bank Bool          -- quad or group u: within 200 µs of its power-up (R97)
  upAt : Bank Nat             -- local count of that power-up
  switchAt : Bank Nat         -- quad or group u: local count of the last change of SRC (R86)
  okAt : Bank Nat             -- quad or group u: local count at which REF_OK last became 1 (R99)
  refAt : Bank Nat            -- source r: local count from which it may have settled, or stayed in its window (R85)
  deriving DecidableEq, Repr

/-! Chapters 8 and 9: the Sett network and the Whorl arbiters. -/

/-- Who a node transaction completes to (R205). -/
inductive TxnOwner where
  | none                              -- nobody waits for it
  | fox (n : Nat) (reg : Option Nat)  -- engine n; the register it makes pending (R255)
  | packet (h tag i : Nat)            -- node i of host h's packet (R419, R427)
  | spindle (n : Nat)                 -- the tap of spindle n's entry (R214)
  | guard (w : Nat)                   -- the guard of window w (R307)
  | restore                           -- a write of the restore requester (R339)
  | sett                              -- the Sett's own training (R215, R513)
  deriving DecidableEq, Repr

/-- A node transaction (R198, R225). The address may be invalid (R192). -/
structure Txn where
  req : Nat                   -- requester ID (Table 9.1)
  op : Nat                    -- operation (Table 8.6)
  trunk : Nat
  hub : Nat
  leaf : Nat
  val : Nat
  owner : TxnOwner
  issues : Nat                -- how often it has been issued (R204)
  deriving DecidableEq, Repr

/-- A command of the Sett itself (R513). -/
inductive SettCmd where
  | align (h : Nat)
  | flight (h : Nat)
  | limit (h k : Nat) (hi : Bool)
  | status (h w : Nat)
  | hold (h : Nat)
  | release (h : Nat)
  deriving DecidableEq, Repr

/-- A tag ID of a hub (R202). -/
structure TagSt where
  gen : Nat
  busy : Option Txn
  slots : Nat                 -- busy: the hub's slots since the issue; free: slots until the ID may be issued again
  deriving DecidableEq, Repr

/-- What the Sett keeps of a hub (R215–R217, Table 8.22). -/
structure HubRec where
  state : Nat                 -- Table 8.13
  offset : Int                -- last slot offset, 1/16 bit time
  coll : Nat
  taint : Bool
  marker : Bool               -- MARKER_ERR as last reported
  fresh : Bool
  refused : Bool
  armed : Word                -- armed set as last reported
  missing : Nat               -- consecutive missing slots
  tgl : Bool                  -- FIRE_TGL as last reported
  flight : Nat                -- forward flight time, 1/16 bit time (R208)
  away : Bool                 -- has been ABSENT or LOST since it was last ACTIVE
  quarAt : Nat                -- local count of its quarantine
  discard : Bool              -- its next slot meets a neighbour's collision (R216)
  stopped : Bool              -- its trunk's clock has stopped since it was last trained (R219)
  restore : Bool              -- its trims are to be rewritten from the image (R218, R219)
  deriving DecidableEq, Repr

/-- An answer that a hub has queued (R201). -/
structure HubReply where
  tag : Nat
  kind : Nat
  payload : Nat
  took : Nat                  -- instant at which its command took effect, in 1/96 ns of local time
  deriving DecidableEq, Repr

/-- A hub on its partner die, but for its trims (R190, R197–R201, R208, R213, R218). -/
structure Hub where
  powered : Bool
  fresh : Bool
  taint : Bool
  markerErr : Bool
  silent : Bool
  armed : Word
  fwdErr : Nat
  lastFired : Nat
  tgl : Bool
  align : Int                 -- 1/16 bit time
  flight : Nat                -- fire delay, 1/16 bit time
  limits : Bank (Option Nat)  -- limits set by TRAIN LIMIT: LO of kind k at 2 k, HI at 2 k + 1, SIGNED in bit 12
  replies : List HubReply     -- oldest first, at most 15
  fires : List (Nat × Nat)    -- fires that the accepted markers carry, oldest first: the step, and its instant at the hub in 1/96 ns (R208)
  markerAt : Nat              -- local count of the last valid marker (R209)
  tap : Option Nat            -- leaf connected to the sense pair
  news : Bool                 -- a fire, a refused fire, TAINT or MARKER_ERR not yet reported
  answers : Nat               -- slots in a row that carried answers
  deriving DecidableEq, Repr

/-- An open that waits for disarms: requester, timebase and who asked (R206). -/
structure OpenReq where
  req : Nat
  tb : Nat
  owner : TxnOwner
  deriving DecidableEq, Repr

/-- A step beyond its registers (R206–R212). -/
structure Step where
  tb : Nat                    -- timebase named at the open
  hubs : List Nat             -- hubs armed, trunk × 64 + hub
  posting : Nat               -- posting instant
  sealedAt : Nat
  heldFor : Nat               -- ns of RST# low since the seal (R210)
  after : Nat                 -- windows that start at or before this instant, in 1/6 ns, are passed over
  fire : Option Nat           -- fire instant in 1/6 ns of local time
  carried : List Nat          -- trunks whose marker with the fire is formed
  reported : List Nat         -- hubs that have reported the fire, or count as refusing it
  refusers : List Nat         -- those that count as refusing it (R210, R211)
  disarm : List Nat           -- trunks whose disarm is due
  waiting : Option OpenReq
  sealing : Option TxnOwner   -- a seal that waits for the step's queued STEP_ARMs (R206, R258)
  restores : Bool             -- a restore step of returned hubs (R218)
  deriving DecidableEq, Repr

/-- A command on its way to the hubs of a trunk: its word, the instant at which a hub without forward flight performs it, in
1/6 ns of local time, and the hubs that received it with a bad CHECK (R198, R199). -/
structure OnWire where
  word : BitVec 48
  due : Nat
  bad : List Nat
  deriving DecidableEq, Repr

/-- A trunk beyond its registers. -/
structure Trunk where
  own : List SettCmd          -- the Sett's own commands that wait
  sent : BitVec 48            -- the command in the last position decided
  wire : List OnWire          -- the commands sent and not yet performed, oldest first; IDLEs are not kept
  marker : Word               -- the last marker formed
  frame : Nat                 -- start of its frame, in 1/6 ns of local time (R207)
  heard : List Nat            -- hubs at which it has arrived
  fseq : Nat
  deriving DecidableEq, Repr

/-- A restore step that has not ended (R218, R294, R426): its hubs, and the packet that waits for it. -/
structure Restoring where
  step : Nat
  hubs : List Nat
  owner : TxnOwner
  deriving DecidableEq, Repr

/-- The Sett network. A hub is named by trunk × 64 + hub, a node by its address (R192). -/
structure SettSt where
  queues : Bank (List Txn)    -- queue of requester r on trunk t at 32 t + r, head first
  tags : Bank TagSt           -- tag ID i of a hub at 16 × hub + i
  recs : Bank HubRec
  hubs : Bank Hub
  shadow : Bank (BitVec 12)
  active : Bank (BitVec 12)
  steps : Bank Step
  trunks : Bank Trunk
  kdef : Bank Word            -- KIND_DEF of kind k of trunk t at 64 t + k
  klim : Bank Word
  kmap : Bank (BitVec 6)      -- kind of leaf l of trunk t at 16384 t + l
  restoring : List Restoring  -- restore steps that have not ended (R218, R294)
  deriving DecidableEq, Repr

/-- The Whorl arbiters beyond their registers (R232, R233, R236). -/
structure WhorlSt where
  slots : Bank Word           -- slot i of bank b of trunk t at 64 (2 t + b) + i, as WH_TDATA
  ranks : Bank Word           -- entry r of bank b of trunk t at 32 (2 t + b) + r
  waits : Bank Nat            -- wait of watch w of trunk t at 4 t + w
  again : Bank Bool           -- that watch sets STARVED again at the next load cycle (R236)
  idle : Bank (Option Nat)    -- trunk t: local count at which a reset of subsystem 11 completed, until a frame starts (R238)
  prog : Bank (Option (Nat × Nat)) -- trunk t: hub of the restore requester's burst and its progress count (R231)
  deriving DecidableEq, Repr

/-! Chapter 10: the Fox engines. -/

/-- A store in an engine's write buffer (R249). -/
structure Store where
  offset : Nat
  bytes : List Byte
  deriving DecidableEq, Repr

/-- A completion that an engine has not yet taken (R255, R256). -/
structure NodeDone where
  reg : Option Nat
  code : Nat
  payload : Nat
  deriving DecidableEq, Repr

/-- A Fox engine beyond its registers in the register space and its memories (R241). -/
structure Engine where
  sregs : Bank Word
  vregs : Bank (BitVec 256)
  accs : Bank (BitVec 640)
  latches : BitVec 8
  pend : List Nat             -- pending registers (R255)
  done : List NodeDone        -- completions not yet taken, oldest first
  wbuf : List Store           -- write buffer, oldest first, at most 8
  holdAt : Option Nat         -- local count from which a blocking instruction holds at issue
  capHi : Word                -- local count [63:32] captured by GETS 2
  fence : Nat × Nat × Nat     -- CLAMPED, NOT_SENT, FAILED since the last NODE.FENCE (R257)
  cycles : Nat                -- core cycles in RUNNING up to `since`
  since : Nat                 -- local count of the last entry into RUNNING
  entry : Nat                 -- entry offset of a completed forerunner load (R270)
  frmLoaded : Bool            -- the LAST packet of a forerunner load has completed (R431)
  heldEnd : Nat               -- local count of the last end of HELD (R274)
  byHalt : Bool               -- its last run ended by HALT (R286)
  part : List Byte            -- what a vector access to the mailbox region has loaded or stored so far (R26)
  behind : Option Nat         -- engine whose job this one took over, while it still has transactions (R272)
  deriving DecidableEq, Repr

/-- A pending Fox migration (R271, R272). -/
structure FoxMigration where
  src : Nat
  dst : Nat
  tb : Nat
  instant : Count
  host : Nat
  tag : Nat
  deriving DecidableEq, Repr

/-- The engines. -/
structure FoxSt where
  eng : Bank Engine
  pm : Bank Word              -- instruction i of FXn at 16384 n + i
  scratch : Bank Byte         -- byte a of FXn at 32768 n + a
  pmErr : Bank Nat            -- how the check bits of a word of `pm` decode: 0 clean, 1 corrected, 2 uncorrectable (R244)
  scrErr : Bank Nat           -- the same for a byte of `scratch`
  mig : Option FoxMigration
  deriving DecidableEq, Repr

/-! Chapters 15 and 16: host ports and the command interpreter. Hosts and ports: 0 line card (Skein A), 1 package
(Skein B). -/

/-- A command packet from its post to its final reply (R403–R409, R419, R420). -/
structure Packet where
  words : List Word
  order : Nat                 -- posting order
  busy : Bool                 -- posted with a busy tag
  drop : Bool                 -- a DISCARD with READY has named its reply (R413)
  ackAt : Nat                 -- local count of its acknowledgement
  total : Nat                 -- node transactions it has queued
  granted : Nat
  finished : Nat
  results : Bank Word         -- result word of transaction i
  clamped : Nat
  notSent : Nat
  failed : Nat
  firstBad : Option Nat
  deriving DecidableEq, Repr

/-- A reply that is ready (R404). -/
structure Reply where
  tag : Nat
  words : List Word
  final : Bool
  echo : Bool
  order : Nat                 -- order in which it became ready
  deriving DecidableEq, Repr

/-- One host's packets (R405–R409). -/
structure HostSt where
  posted : List Packet        -- not yet acknowledged, oldest first
  hw : List Packet            -- hardware lane, not started
  fw : List Packet            -- firmware lane, not taken
  running : List Packet
  ready : List Reply          -- oldest first
  sel : Option Reply          -- selected by a PKT_FETCH and not yet fetched (R392)
  deriving DecidableEq, Repr

/-- The command interpreter. -/
structure CmdSt where
  hosts : Bank HostSt
  order : Nat                 -- packets posted, and replies made ready, so far
  lastFw : Nat                -- host whose packet firmware took last (R407)
  deriving DecidableEq, Repr

/-- A held reply of a port (R390–R392). -/
structure Held where
  words : List Word
  ready : Bool
  delivered : Bool
  ecc : Bool
  pkt : Bool                  -- it is the packet reply that a PKT_FETCH has selected
  deriving DecidableEq, Repr

/-- A host port beyond its registers (R386–R392). -/
structure PortSt where
  held : Option Held
  acc : Bool                  -- the previous frame took effect
  abt : Bool                  -- the previous frame was aborted
  status : BitVec 8           -- the status byte the last frame drove (R389)
  sent : List Word            -- the reply words the last frame carried
  wrote : Option (Nat × Bool × Nat × List Word) -- its last write: local count, MEM_WR, address, words (R29)
  deriving DecidableEq, Repr
/-! Chapter 12: the Owl windows. -/

/-- A window beyond the registers that stand alone (R302–R308, Table 12.7). -/
structure OwlWin where
  known : Bool                -- its class state is defined (R302)
  since : Option Nat          -- local count from which the trip condition has held
  until' : Nat                -- local count before which it stays suspended (R305)
  wcnt : Word                 -- OWL_WCNT
  wt : Count                  -- OWL_WT
  wstat : Word                -- OWL_WSTAT
  gnode : BitVec 24
  gcode : BitVec 12
  deriving DecidableEq, Repr

/-- A self-check in progress (R311). -/
structure OwlCheck where
  window : Nat
  kind : Nat                  -- 1 TIE, 2 SWAP
  code : Int
  visit : Bool                -- part of an auto visit
  start : Nat                 -- local count of its cycle 0
  sampled : Bool              -- its classes have been sampled
  deriving DecidableEq, Repr

structure OwlSt where
  wins : Bank OwlWin
  check : Option OwlCheck
  rest : List Int             -- codes of the visit still to be checked
  go : Option Word            -- a GO written during a visit (R313)
  due : Bool                  -- an auto visit fell due during a requested check
  visitAt : Nat               -- local count from which PERIOD runs (R313)
  deriving DecidableEq, Repr


/-! Chapter 13: the Hoard. -/

/-- A Hoard macro beyond its contents (R319, R320). -/
structure Macro where
  prog : Option (Nat × List Byte × Nat) -- word in programming: its place, what it held, and when it ends
  ce : Bool                   -- since the last STATUS
  ue : Bool
  werr : Bool
  data : List Byte            -- data phase of its last frame, device to engine
  deriving DecidableEq, Repr

/-- The wear record and the lifetime counters (R346, R347, R350, R353). -/
structure Wear where
  rows : Bank Nat             -- write counter of row r
  remap : Bank (Option Nat)   -- spare row that replaces row r
  ages : Bank Nat             -- retention age of region r, equivalent ns
  life : Bank Nat             -- lifetime counter i
  deriving DecidableEq, Repr

/-- A record that firmware is to append to the journal (R333): type, FLAGS, domain, runs, and who waits for it. -/
structure JReq where
  type : Nat
  flags : Nat
  domain : Nat
  runs : List (Nat × Nat × List Nat) -- START, STRIDE, codes
  owner : TxnOwner
  deriving DecidableEq, Repr

/-- A commit in progress or wanted by an image restore (R337, R426): the image that the segments come from and one
more than the last JSEQ applied, or 0, for a restore commit, and who waits for it. -/
structure Commit where
  target : Nat                -- 1 A, 2 B
  seq : Nat
  jlast : Nat
  jofs : Nat
  src : Option (Nat × Nat)
  owner : TxnOwner
  deriving DecidableEq, Repr

/-- The Hoard. Its bytes, unlisted, read as manufacture left them; `ue` names the words that read UE. -/
structure HoardSt where
  bytes : Bank Byte
  ue : Bank Bool
  wear : Wear
  flushed : Wear              -- the wear record as the newer metadata copy holds it
  flushes : Nat
  flushAt : Nat               -- local count of the last flush
  ageAt : Nat                 -- local count up to which retention ages are counted (R350)
  macros : Bank Macro
  next : Nat                  -- journal word offset of the next record
  firstAt : Option Nat        -- local count of the first record or dirty mark since the current image (COMMIT_MAX)
  dirty : List Nat            -- domains dirtied since the last commit
  deferred : List Nat         -- domains dirtied during a deferral
  appends : List JReq         -- records waiting to be appended, oldest first
  commit : Option Commit
  begunAt : Option Nat        -- local count at which the last commit began
  want : Option TxnOwner      -- a commit is requested (R336, R351)
  wantSrc : Option (Nat × Nat) -- it is a restore commit
  items : List Nat            -- local counts of the item writes of the last 24 h (R345)
  readOnly : List Nat         -- regions that are read-only (R347)
  fresh : Bank Bool           -- row r has been rewritten since its region's age was last 0
  history : List (Nat × Bank Nat) -- wear counters once a day, newest first (R348)
  warned : Bool               -- RETENTION_WARN has been raised
  daysLow : Bool              -- DAYS_SPARE is below 365 (R348)
  days : Nat × Nat            -- DAYS_ROW and DAYS_SPARE of the last forecast (R348)
  deferOn : Bool              -- a deferral has begun and has not ended (R352)
  deriving DecidableEq, Repr

/-! Chapter 11: the stock calibrations. -/

/-- A calibration domain (R281–R286, Table 11.10). -/
structure Domain where
  state : Nat                 -- Table 11.4
  order : Nat                 -- order in which it became PENDING
  waived : Bool               -- MIN_GAP is waived (R295)
  merged : Bool               -- holds a merged request
  invalid : Bool              -- its sensor reports INVALID
  tref : Option Int           -- reference temperature, 0.125 °C
  started : Option Nat        -- local count of its last run's start
  figure : Rec                -- last figure
  image : Nat                 -- LAST_IMAGE
  jseq : Nat
  runs : Nat
  merges : Nat
  discards : Nat
  engine : Option Nat         -- engine of the run in progress; none when firmware or an SC07 job serves it
  steps : List Nat            -- steps of the run in progress
  sensor : Nat                -- SENSOR of its record at its last run's start (R280)
  deriving DecidableEq, Repr

/-- The stock calibrations. -/
structure StockSt where
  area : Nat                  -- calibration area in force, as word 2 of CAL_SETUP (R287, R423)
  doms : Bank Domain
  order : Nat
  built : Bank Bool           -- domain d's code table has been built since CORE returned (R287, R341)
  readback : Bank Bool        -- domain d's code table was rebuilt from hub readback (R341)
  returned : List Nat         -- dies that have been restored and whose AT_RETURN requests are due (R298)
  returning : Bank (List Nat) -- die d has returned: the hubs on which its restore step has fired (R218, R298)
  starting : Bool             -- AT_START requests are due (R295)
  ref7 : Option Nat           -- SRC of quad 7 before the SC11 run in progress
  fired : List (Nat × Nat)    -- (step, hub): the hub has fired the step since its run started (R287, R333)
  deriving DecidableEq, Repr

/-- An update that a host holds open (R428). -/
structure Update where
  host : Nat
  library : Bool              -- the target is the stock library
  base : Nat                  -- Hoard offset of the object
  len : Nat
  checked : Bool
  deriving DecidableEq, Repr

/-! Chapter 14: statistics streams and the Ply link. -/

/-- An open block (R371): BSEQ, FORMAT, the tick counts ACQ_START and ACQ_END, their wavelength, and the data units so
far. -/
structure OpenBlock where
  bseq : Nat
  fmt : Word
  acqStart : Word
  acqEnd : Word
  wave : Nat
  units : Nat
  deriving DecidableEq, Repr

/-- A slot of a stream (R371–R373). -/
inductive Slot where
  | empty
  | opened (b : OpenBlock)
  | ready (order bseq units : Nat)
  deriving DecidableEq, Repr

/-- A statistics stream. -/
structure Stream where
  slots : Bank Slot
  order : Nat
  deriving DecidableEq, Repr

structure PlySt where
  tryAt : Bank Nat            -- link d: local count from which training is tried again (R366)
  evtQ : List (Nat × Rec)     -- outbound queues, oldest first: local count of arrival, record (R374)
  qfQ : List (Nat × Rec)
  resQ : List (Nat × Rec)
  dropped : BitVec 3          -- EVT, QF, RES: the queue has discarded since DROP_SEEN was cleared (R375)
  laneErr : Bank Nat          -- invalid sync headers of lane i since the last training of its link
  inSeq : Option Nat          -- PSEQ of the last good inbound packet
  outSeq : Nat                -- PSEQ of the next outbound packet
  sent : List (BitVec 64)     -- the last outbound packet
  streams : Bank Stream
  inWidth : Option Nat        -- width of the inbound link's last UP period (R367)
  outWidth : Option Nat
  deriving DecidableEq, Repr


/-! Reset values of what the registers do not show. -/

def LineTb.reset : LineTb :=
  { cnt := 0, anchor := 0, seen := false, everLocked := false, lastTick := 0, lastAt := 0, sfLen := 0, missed := 0, landed := 0,
    lockedAt := 0, qwSf := none, qwAt := 0, qwNext := [], qwFault := none, qwPast := [] }

/-- The mains count at cold reset: 0, at 50 Hz (R48). -/
def MainsSeg.reset : MainsSeg := { anchor := 0, cnt := 0, part := 0, freq := 50 * 65536, aim := 50 * 65536 }

def MainsTb.reset : MainsTb :=
  { seg := MainsSeg.reset, past := [], shifts := 0, held := 50 * 65536, lastRefAt := none, good := 0, goodCyc := 0, missing := 0, agree := 0,
    disagree := 0, edgeAt := none, pinAt := none, toneAt := none, best := none, half := none, badRange := false }

def Spindle.reset : Spindle :=
  { act := none, resume := [], cal := none, calGap := false, urgHeld := false, next := 0, repsDone := 0,
    ranAny := false, mig := none, tsw := none, drainFifo := 0, urgAt := none, frmLoaded := false, frmNent := 0, frmUrg := 0 }

def EventSt.reset : EventSt :=
  { interval := 0, singles := [], singlesIn := 0, trailCnt := [], plyCnt := [], staged := [], tokens := 140000, rseq := 0, clearedAt := none,
    pulse := [], setIn := 0, setBits := [], classIn := 0, oldClass := [] }

def DenSt.reset : DenSt :=
  { therm := [], sensors := [], tjInvalidSince := none, wdtPeriod := 100, wdtAt := 0, bearAt := 0, bearFwAt := 0,
    fwVersion := 0, waitConfirm := false, figures := [], startup := none, scanDue := none, bootDue := false, startAt := 0,
    rstLows := 0, judged := 0, therms := 0, triedAt := none, sampledAt := none, scannedAt := none, activate := none }

def PowerSt.reset : PowerSt :=
  { railEffect := [], clkEffect := [], stuckS := 8, stuckNever := false, clkAt := [], lossDue := none, lossAt := 0,
    lowAtStart := false, highAt := none, trunksDue := [], judgedInLoss := false, buckets := [], govMs := 0, aonAt := none, bucketNo := 0, thermReturnAt := none, coolAt := none, ssDone := [] }

def TapSt.reset : TapSt := { inst := .idcode, cells := 0, captured := 0 }

def TimeSt.reset : TimeSt := { line := [], mains := MainsTb.reset, schLate := [] }

def AcqSt.reset : AcqSt :=
  { spindles := [], defs := [], staging := [], coefs := [], dc := [], ncos := [], wrote := [], dcNew := [],
    inputOver := [], chainOver := [], owOpen := [], upWait := [], upAt := [], switchAt := [], okAt := [], refAt := [] }

def TagSt.reset : TagSt := { gen := 0, busy := none, slots := 0 }

def HubRec.reset : HubRec :=
  { state := 0, offset := 0, coll := 0, taint := false, marker := false, fresh := false, refused := false, armed := 0,
    missing := 0, tgl := false, flight := 0, away := true, quarAt := 0, discard := false, stopped := true, restore := false }

/-- A hub as its partner die powers it up (R218). -/
def Hub.reset : Hub :=
  { powered := true, fresh := true, taint := false, markerErr := false, silent := false, armed := 0, fwdErr := 0,
    lastFired := 0, tgl := false, align := 0, flight := 0, limits := [], replies := [], fires := [], markerAt := 0, tap := none,
    news := false, answers := 0 }

def Step.reset : Step :=
  { tb := 0, hubs := [], posting := 0, sealedAt := 0, heldFor := 0, after := 0, fire := none, carried := [],
    reported := [], refusers := [], disarm := [], waiting := none, sealing := none, restores := false }

def Trunk.reset : Trunk := { own := [], sent := 0, wire := [], marker := 0, frame := 0, heard := [], fseq := 0 }

def SettSt.reset : SettSt :=
  { queues := [], tags := [], recs := [], hubs := [], shadow := [], active := [], steps := [], trunks := [], kdef := [],
    klim := [], kmap := [], restoring := [] }

def WhorlSt.reset : WhorlSt := { slots := [], ranks := [], waits := [], again := [], idle := [], prog := [] }

def Engine.reset : Engine :=
  { sregs := [], vregs := [], accs := [], latches := 0, pend := [], done := [], wbuf := [], holdAt := none, capHi := 0,
    fence := (0, 0, 0), cycles := 0, since := 0, entry := 0, frmLoaded := false, heldEnd := 0, behind := none, byHalt := false
    part := [] }

def FoxSt.reset : FoxSt := { eng := [], pm := [], scratch := [], pmErr := [], scrErr := [], mig := none }

def OwlWin.reset : OwlWin :=
  { known := false, since := none, until' := 0, wcnt := 0, wt := 0, wstat := 0, gnode := 0, gcode := 0 }

def OwlSt.reset : OwlSt := { wins := [], check := none, rest := [], go := none, due := false, visitAt := 0 }

def HostSt.reset : HostSt := { posted := [], hw := [], fw := [], running := [], ready := [], sel := none }

def CmdSt.reset : CmdSt := { hosts := [], order := 0, lastFw := 1 }

def PortSt.reset : PortSt := { held := none, acc := false, abt := false, status := 0, sent := [], wrote := none }

def Macro.reset : Macro := { prog := none, ce := false, ue := false, werr := false, data := [] }

def Wear.reset : Wear := { rows := [], remap := [], ages := [], life := [] }

/-- The Hoard as manufacture leaves it. -/
def HoardSt.reset : HoardSt :=
  { bytes := [], ue := [], wear := Wear.reset, flushed := Wear.reset, flushes := 0, flushAt := 0, ageAt := 0, macros := [], next := 0,
    firstAt := none, dirty := [], deferred := [], appends := [], commit := none, begunAt := none, want := none,
    wantSrc := none, items := [], readOnly := [], fresh := [], history := [], warned := false, daysLow := false,
    days := (65535, 65535), deferOn := false }

def Domain.reset : Domain :=
  { state := 0, order := 0, waived := false, merged := false, invalid := false, tref := none, started := none, figure := 0,
    image := 0, jseq := 0, runs := 0, merges := 0, discards := 0, engine := none, steps := [], sensor := 60 }

def StockSt.reset : StockSt :=
  { area := 0x400 + 0x200 * 2 ^ 11, doms := [], order := 0, built := [], readback := [], returned := [], returning := [], starting := false, ref7 := none, fired := [] }

def Stream.reset : Stream := { slots := [], order := 0 }

def PlySt.reset : PlySt :=
  { tryAt := [], evtQ := [], qfQ := [], resQ := [], dropped := 0, laneErr := [], inSeq := none, outSeq := 0, sent := [],
    streams := [], inWidth := none, outWidth := none }

/-- The whole block but for the queue. -/
structure Block where
  regs : Bank Word            -- every register that hardware or software writes, by address (chapter 20)
  hiCap : Bank (Option Word)  -- high half captured by reader r of the pair at a: key 0x10000 r + a (R52, R509)
  localCount : Count          -- the local counter, ns (R50)
  free : Nat                  -- the model's own: how many open values have been drawn
  ev : EventSt
  den : DenSt
  power : PowerSt
  tap : TapSt
  time : TimeSt
  acq : AcqSt
  sett : SettSt
  whorl : WhorlSt
  fox : FoxSt
  owl : OwlSt
  cmd : CmdSt
  ports : Bank PortSt
  mem : List Host.Cell        -- the bytes of the result memory that something has written (R360)
  ply : PlySt
  hoard : HoardSt
  stock : StockSt
  update : Option Update      -- the update that is open (R428)
  deriving DecidableEq, Repr

/-- The block right after cold reset: AON is powered, every other domain is down, every register holds its reset
value (R11, R467). -/
def Block.reset : Block :=
  { regs := [], hiCap := [], localCount := 0, free := 0, ev := EventSt.reset, den := DenSt.reset,
    power := PowerSt.reset, tap := TapSt.reset, time := TimeSt.reset, acq := AcqSt.reset, sett := SettSt.reset, whorl := WhorlSt.reset,
    fox := FoxSt.reset, owl := OwlSt.reset, cmd := CmdSt.reset, ports := [],
    mem := [], ply := PlySt.reset, hoard := HoardSt.reset, stock := StockSt.reset, update := none }

/-! The block with one part of it replaced. -/

def Block.withRegs (s : Block) (v : Bank Word) : Block := { s with regs := v }
def Block.withHiCap (s : Block) (v : Bank (Option Word)) : Block := { s with hiCap := v }
def Block.withLocalCount (s : Block) (v : Count) : Block := { s with localCount := v }
def Block.withFree (s : Block) (v : Nat) : Block := { s with free := v }
def Block.withEv (s : Block) (v : EventSt) : Block := { s with ev := v }
def Block.withDen (s : Block) (v : DenSt) : Block := { s with den := v }
def Block.withPower (s : Block) (v : PowerSt) : Block := { s with power := v }
def Block.withTap (s : Block) (v : TapSt) : Block := { s with tap := v }
def Block.withTime (s : Block) (v : TimeSt) : Block := { s with time := v }
def Block.withAcq (s : Block) (v : AcqSt) : Block := { s with acq := v }
def Block.withSett (s : Block) (v : SettSt) : Block := { s with sett := v }
def Block.withWhorl (s : Block) (v : WhorlSt) : Block := { s with whorl := v }
def Block.withFox (s : Block) (v : FoxSt) : Block := { s with fox := v }
def Block.withOwl (s : Block) (v : OwlSt) : Block := { s with owl := v }
def Block.withCmd (s : Block) (v : CmdSt) : Block := { s with cmd := v }
def Block.withPorts (s : Block) (v : Bank PortSt) : Block := { s with ports := v }
def Block.withMem (s : Block) (v : List Host.Cell) : Block := { s with mem := v }
def Block.withPly (s : Block) (v : PlySt) : Block := { s with ply := v }
def Block.withHoard (s : Block) (v : HoardSt) : Block := { s with hoard := v }
def Block.withStock (s : Block) (v : StockSt) : Block := { s with stock := v }
def Block.withUpdate (s : Block) (v : Option Update) : Block := { s with update := v }

/-- The block and the commands that wait for it, first in, first out. -/
structure State extends Block where
  pending : List Instr
  deriving DecidableEq, Repr

/-- The block right after cold reset, with no command waiting. -/
def State.reset : State := { toBlock := Block.reset, pending := [] }

/-- The state with its block replaced: a command acts on everything but the queue. -/
def State.withBlock (s : State) (b : Block) : State := { toBlock := b, pending := s.pending }

/-- Why a command stops the model. -/
inductive Fault where
  /-- Raised by no command of this model: every rule of the spec gives its command an effect (safe). -/
  | none
  deriving DecidableEq, Repr

/-- Why the model has no meaning for a command. -/
inductive Refusal where
  /-- Raised by Dispatch.lean for a command whose meaning is not written yet (safe: the run stops). -/
  | notModelled (mnemonic : String)
  deriving DecidableEq, Repr

/-- What a command answers: the next state. -/
abbrev Out : Type := Host.Outcome State Fault Refusal

end Sys2Proof.Machine
end

