-- ==== Sys2Proof/Machine/Ops.lean ====
section
/-! DEFINITION. The named operations over registers, time, power domains and open values that every family of
commands uses. -/

namespace Sys2Proof.Machine

/-! Registers and their fields. -/

/-- The word in the register at `a`. -/
def Block.reg (s : Block) (a : Nat) : Word := Bank.get regReset s.regs a

/-- The register at `a` holds `v`. -/
def Block.setReg (s : Block) (a : Nat) (v : Word) : Block := (s.withRegs (Bank.set regReset s.regs a v))

/-- The value of a field. -/
def Block.get (s : Block) (f : Fld) : Nat := bitsOf (s.reg f.addr) f.hi f.lo

/-- The field holds the low bits of `v`; the register's other bits keep their values. -/
def Block.put (s : Block) (f : Fld) (v : Nat) : Block := s.setReg f.addr (withBits (s.reg f.addr) f.hi f.lo v)

/-- A one-bit field read as a truth value. -/
def Block.flag (s : Block) (f : Fld) : Bool := s.get f == 1

/-- A one-bit field set to a truth value. -/
def Block.putB (s : Block) (f : Fld) (b : Bool) : Block := s.put f (if b then 1 else 0)

/-- A saturating count rises by `k`. -/
def Block.bump (s : Block) (f : Fld) (k : Nat) : Block := s.put f (satAdd f.width (s.get f) k)

/-- Bit `i` of the register at `a`. -/
def Block.bit (s : Block) (a i : Nat) : Bool := bitOf (s.reg a).toNat i

/-- Bit `i` of the register at `a` becomes `b`. -/
def Block.setBit (s : Block) (a i : Nat) (b : Bool) : Block :=
  s.setReg a (withBits (s.reg a) i i (if b then 1 else 0))

/-- A pair of registers holds a 64-bit count, the low half at `a`. -/
def Block.setPair (s : Block) (a b : Nat) (v : Count) : Block :=
  (s.setReg a (v.extractLsb' 0 32)).setReg b (v.extractLsb' 32 32)

/-- The 64-bit value of a pair of registers. -/
def Block.pair (s : Block) (a b : Nat) : Count := (s.reg b) ++ (s.reg a)

/-- The word that a register at `a` holding `v` holds after a warm reset of its block: RWS bits keep their values, every
other bit takes its reset value (R11). -/
def warmValue (a : Nat) (v : Word) : Word :=
  match regRow (a % 0x10000) with
  | some r => (v &&& BitVec.ofNat 32 r.rws) ||| (regReset a &&& ~~~(BitVec.ofNat 32 r.rws))
  | none => regReset a

/-- A warm reset of the registers from `lo` up to, not including, `hi`, but for those that `keep` names. -/
def Block.warmReset (s : Block) (lo hi : Nat) (keep : Nat → Bool) : Block :=
  (s.withRegs (s.regs.filterMap (fun (a, v) =>
      if lo ≤ a % 0x10000 ∧ a % 0x10000 < hi ∧ !keep a then
        (if warmValue a v = regReset a then none else some (a, warmValue a v))
      else some (a, v))))

/-! Folding an effect over a list. -/

/-- `f` performed for each element of a list, in order. -/
def Block.each {α : Type} (s : Block) (l : List α) (f : Block → α → Block) : Block := l.foldl f s

/-- `f` performed when a condition holds. -/
def Block.when (s : Block) (b : Bool) (f : Block → Block) : Block := if b then f s else s

/-! Time. -/

/-- The local count in ns (R50). -/
def Block.now (s : Block) : Nat := s.localCount.toNat

/-! Open values. -/

/-- The number of the next open value, and the state in which it has been drawn. -/
def Block.draw (s : Block) : Nat × Block := (s.free, (s.withFree (s.free + 1)))

/-- A quotient whose rounding the spec does not state: one of the two nearest integers, the choice open. -/
def roundOpen (num den : Int) (k : Nat) : Int :=
  if num % den = 0 then num / den else num / den + (Config.freeNat k % 2 : Nat)

/-- The nearest integer to a quotient; which one a half goes to is open. -/
def roundNear (num den : Int) (k : Nat) : Int :=
  if 2 * (num % den) = den then num / den + (Config.freeNat k % 2 : Nat) else roundDiv num den

/-- An integer within one unit of a quotient (R155); which is open. -/
def withinOne (num den : Int) (k : Nat) : Int :=
  if num % den = 0 then num / den - 1 + (Config.freeNat k % 3 : Nat) else num / den + (Config.freeNat k % 2 : Nat)

/-- `n` open values are drawn: the number of the first. -/
def Block.drawN (s : Block) (n : Nat) : Nat × Block := (s.free, (s.withFree (s.free + n)))

/-! Power domains (Table 18.1). -/

/-- Domain `d` is powered (PWR_ON). -/
def Block.domainOn (s : Block) (d : Nat) : Bool :=
  if d < 32 then s.bit Reg.PWR_ON_LO d else s.bit Reg.PWR_ON_HI (d - 32)

/-- PWR_ON of domain `d`. -/
def Block.setDomain (s : Block) (d : Nat) (b : Bool) : Block :=
  if d < 32 then s.setBit Reg.PWR_ON_LO d b else s.setBit Reg.PWR_ON_HI (d - 32) b

/-- The consequence of an excursion of rail `i` is in force (R468). -/
def Block.railDown (s : Block) (i : Nat) : Bool := Bank.get (fun _ => false) s.power.railEffect i

/-- The consequence of a fault of clock monitor `i` is in force (R466). -/
def Block.clockBad (s : Block) (i : Nat) : Bool := Bank.get (fun _ => false) s.power.clkEffect i

/-- CORE is powered: domain 1. -/
def Block.coreOn (s : Block) : Bool := s.domainOn 1

/-- The local counter counts coarsely: CORE is down, or the local PLL is out of lock (R51, R466). -/
def Block.coarse (s : Block) : Bool := !s.coreOn || Bank.get (fun _ => false) s.power.clkEffect 3

/-- Subsystem `n` is in reset (SS_BUSY, R478). -/
def Block.busySS (s : Block) (n : Nat) : Bool := s.bit Reg.SS_BUSY n

/-- The subsystem whose registers lie at address `a` (Tables 1.1 and 20.1). -/
def subsystemOf (a : Nat) : Nat :=
  match a % 0x10000 / 0x1000 with
  | 0 => 0
  | 1 => if a % 0x1000 < 0x400 then 1 else 2
  | 2 => if a % 0x1000 < 0x400 then 3 else 6
  | 3 => 4
  | 4 => 5
  | 5 => 7
  | 6 => 8
  | 7 => 9
  | 8 => 10
  | 9 => 11
  | 10 => 12
  | 11 => 13
  | 12 => 14
  | 13 => 15
  | _ => 16

/-- The power domain of the registers at address `a` (Table 20.1): 0 AON, 1 CORE, 6 DEN. -/
def regDomain (a : Nat) : Nat :=
  match a % 0x10000 / 0x1000 with
  | 1 => if a % 0x1000 < 0x400 then 0 else 1
  | 14 => if a % 0x1000 < 0x200 then 6 else 0
  | 15 => if a % 0x1000 < 0x100 then 0 else 6
  | _ => 1

/-- A write to the register at `a` is performed: its domain is powered and its subsystem is not in reset (R506, R507). -/
def Block.writable (s : Block) (a : Nat) : Bool :=
  s.domainOn (regDomain a) && !(decide (subsystemOf a ≠ 0) && s.busySS (subsystemOf a))

/-! Field by field, by access code (R11). -/

/-- The word a register holds after a write of `v` over `old`: RW and RWS bits take the written bits, W1C bits written
1 clear, every other bit keeps its value. -/
def RegRow.merge (r : RegRow) (old v : Word) : Word :=
  let rw := BitVec.ofNat 32 r.rw
  let w1c := BitVec.ofNat 32 r.w1c
  (old &&& ~~~rw &&& ~~~(w1c &&& v)) ||| (v &&& rw)

/-- The write of `v` to the register at `a`, field by field (R11, R507); a reserved offset takes none. -/
def Block.writeFields (s : Block) (a : Nat) (v : Word) : Block :=
  match regRow (a % 0x10000) with
  | some r => s.setReg a (r.merge (s.reg a) v)
  | none => s

/-- Where an agent's own copy of an index register is held (R508). -/
def ownCopy (agent a : Nat) : Nat := 0x10000 * (1 + agent) + a

/-! Owl windows. -/

/-- Window `w` beyond its registers. -/
def Block.owlWin (s : Block) (w : Nat) : OwlWin := Bank.get (fun _ => OwlWin.reset) s.owl.wins w

def Block.setOwlWin (s : Block) (w : Nat) (v : OwlWin) : Block :=
  (s.withOwl { s.owl with wins := Bank.set (fun _ => OwlWin.reset) s.owl.wins w v })

/-- Window `w` is suspended until `t` at least; its class state is then undefined (R302, R305). -/
def Block.suspend (s : Block) (w t : Nat) : Block :=
  let o := s.owlWin w
  (s.setOwlWin w { o with known := false, since := none, until' := max t o.until' }).setBit (Reg.OWL_SUSP (w / 32)) (w % 32) true

/-! Hosts, resets and firmware. -/

/-- Host `h`'s packets. -/
def Block.host (s : Block) (h : Nat) : HostSt := Bank.get (fun _ => HostSt.reset) s.cmd.hosts h

def Block.setHost (s : Block) (h : Nat) (v : HostSt) : Block :=
  (s.withCmd { s.cmd with hosts := Bank.set (fun _ => HostSt.reset) s.cmd.hosts h v })

/-- RST# is honoured low and holds the ports, the interpreter and the Bear core in reset (R472, R475). -/
def Block.rstHeld (s : Block) : Bool := s.flag Reg.RST_STATUS_LOW && !s.flag Reg.RST_STATUS_AUTO

/-- The instruction of the test port drives or releases the balls, and stops the trunks (R504). -/
def TapInst.drives : TapInst → Bool
  | .extest | .clamp | .highz => true
  | _ => false

/-- The command interpreter is out of reset (R23, R432). -/
def Block.interpUp (s : Block) : Bool := s.coreOn && !s.busySS 2 && !s.rstHeld

/-- Firmware runs (R434, R440). -/
def Block.fwUp (s : Block) : Bool := s.flag Reg.DEN_STATUS_FW_RUNNING

end Sys2Proof.Machine
end

