-- ==== Sys2Proof/Machine/Events.lean ====
section
/-! DEFINITION. Raising an event source: delivery on the Trail, Ply, attention and engine paths (R447–R453, R260,
R374, R375, R398). The event controller lives in AON and always runs. -/

namespace Sys2Proof.Machine

/-- Sources that no chapter raises (Tables 14.11, 15.8 and 17.12). -/
def reservedSource (n : Nat) : Bool :=
  [775, 779, 783, 803, 807, 811, 815, 958].elem n || (decide (938 ≤ n) && decide (n ≤ 943)) || decide (1036 ≤ n)

/-- The EVENT cycle, at 375 MHz. -/
def Block.eventCycle (s : Block) : Nat := 3 * s.now / 8

/-- EV_CLASS `g` as a raise meets it: in the cycle of a write, its old value (R447). -/
def Block.classWord (s : Block) (g : Nat) : Word :=
  if s.ev.classIn = s.eventCycle then ((s.ev.oldClass.find? (fun p => p.1 == g)).map (·.2)).getD (s.reg (Reg.EV_CLASS g))
  else s.reg (Reg.EV_CLASS g)

/-- The class of a source (R447). -/
def Block.classOf (s : Block) (src : Nat) : Nat :=
  bitsOf (s.classWord (src / 16)) (2 * (src % 16) + 1) (2 * (src % 16))

/-- A write of EV_CLASS `g`: it applies from the next cycle, and the field of a reserved source reads 3 (R447). -/
def Block.writeEvClass (s : Block) (g : Nat) (v : Word) : Block :=
  let old := if s.ev.classIn = s.eventCycle then s.ev.oldClass else []
  let old := if old.any (fun p => p.1 == g) then old else old ++ [(g, s.reg (Reg.EV_CLASS g))]
  let v := (List.range 16).foldl (fun v b => if reservedSource (16 * g + b) then withBits v (2 * b + 1) (2 * b) 3 else v) v
  (s.withEv { s.ev with classIn := s.eventCycle, oldClass := old }).writeFields (Reg.EV_CLASS g) v

/-- Bit of a source in one of the arrays that start at `base` (Table 17.13). -/
def Block.srcBit (s : Block) (base src : Nat) : Bool := s.bit (base + 4 * (src / 32)) (src % 32)

/-- The limit of class `c` in EV_BUDGET `p` (Table 17.22). -/
def Block.limitOf (s : Block) (p c : Nat) : Nat :=
  match c with
  | 0 => s.get (Reg.EV_BUDGET_ALARM p)
  | 1 => s.get (Reg.EV_BUDGET_FAULT p)
  | 2 => s.get (Reg.EV_BUDGET_CAL p)
  | _ => s.get (Reg.EV_BUDGET_TRACE p)

/-- The interval of 10 ms in which the local count lies (R451). -/
def Block.evInterval (s : Block) : Nat := s.now / 10 ^ 7

/-- Single deliveries of path `p` in the current interval (R451). -/
def Block.singlesOf (s : Block) (p : Nat) : Nat :=
  if s.ev.singlesIn = s.evInterval then Bank.get (fun _ => 0) s.ev.singles p else 0

/-- One more single delivery on path `p`. -/
def Block.countSingle (s : Block) (p : Nat) : Block :=
  let old := if s.ev.singlesIn = s.evInterval then s.ev.singles else []
  (s.withEv { s.ev with singles := Bank.set (fun _ => 0) old p (s.singlesOf p + 1), singlesIn := s.evInterval })

/-- TRAIL_TOKENS shows the whole tokens of the bucket; STAGED the staging queue (R453, R456). -/
def Block.showTrail (s : Block) : Block :=
  (s.put Reg.TRAIL_TOKENS_COUNT (s.ev.tokens / 100)).put Reg.TRAIL_STATE_STAGED s.ev.staged.length

/-- A record is formed into a free staging entry (R456). -/
def Block.stage (s : Block) (r : TrailRec) : Block :=
  Block.showTrail (s.withEv { s.ev with staged := s.ev.staged ++ [r] })

/-- TRAIL_LOST rises by `k`, saturating at 2^32 − 1 (R453). -/
def Block.addLost (s : Block) (k : Nat) : Block :=
  s.setReg Reg.TRAIL_LOST (BitVec.ofNat 32 (satAdd 32 (s.reg Reg.TRAIL_LOST).toNat k))

/-- A source's Trail counter counts one raise; at 65,535 TRAIL_LOST counts it instead (R452). -/
def Block.countTrail (s : Block) (src : Nat) : Block :=
  let c := Bank.get (fun _ => 0) s.ev.trailCnt src
  if c = 65535 then (s.addLost 1).put Reg.EV_STATUS_CNT_SAT_SEEN 1
  else (s.withEv { s.ev with trailCnt := Bank.set (fun _ => 0) s.ev.trailCnt src (c + 1) })

/-- A source's Ply counter counts one raise (R452). -/
def Block.countPly (s : Block) (src : Nat) : Block :=
  let c := Bank.get (fun _ => 0) s.ev.plyCnt src
  if c = 65535 then (s.bump Reg.EV_PLY_LOST_COUNT 1).put Reg.EV_STATUS_CNT_SAT_SEEN 1
  else (s.withEv { s.ev with plyCnt := Bank.set (fun _ => 0) s.ev.plyCnt src (c + 1) })

/-- A raise as it is detected: its source, its detail (bytes 28–59 of Table 17.10) and whether it is injected. -/
structure Raise where
  src : Nat
  data : List Word
  injected : Bool
  deriving DecidableEq, Repr

/-- Delivery on the Trail path (R451, Table 17.8). -/
def Block.raiseTrail (s : Block) (r : Raise) : Block :=
  if !s.srcBit (Reg.EV_EN_T 0) r.src then s
  else if s.singlesOf 0 < s.limitOf 0 (s.classOf r.src) ∧ s.ev.staged.length < 64 ∧ 200 ≤ s.ev.tokens then
    let t : TrailRec :=
      { kind := .single, injected := r.injected, coarse := s.coarse, torn := false, time := s.localCount,
        source := r.src, cls := s.classOf r.src, ffgen := (s.reg Reg.TRAIL_FFGEN).toNat % 65536,
        lost := s.reg Reg.TRAIL_LOST, data := r.data }
    let s := (s.withEv { s.ev with tokens := s.ev.tokens - 100 })
    (s.countSingle 0).stage t
  else s.countTrail r.src

/-- An outbound record waits in a Ply queue of `cap` records (R374), or is discarded and counted (R375): the outbound
link must be UP and the queue not full. -/
def plyAccepts (s : Block) (q : List (Nat × Rec)) (cap : Nat) : Bool :=
  s.get Reg.PLY_STATUS_OUT_STATE == 2 && decide (q.length < cap)

/-- Queue `q` (0 EVT, 1 QF, 2 RES) has discarded a record (R375). -/
def Block.markDrop (s : Block) (q : Nat) : Block :=
  let s := (s.withPly { s.ply with dropped := withBits s.ply.dropped q q 1 })
  s.put Reg.PLY_STATUS_DROP_SEEN 1

/-- An EVT record is offered to the EVT queue (R374, R375). While CORE is down there is no link to copy events to (R460). -/
def Block.offerEvt (s : Block) (r : Rec) : Block :=
  if !s.coreOn then s
  else if plyAccepts s s.ply.evtQ 256 then
    (s.withPly { s.ply with evtQ := s.ply.evtQ ++ [(s.now, r)] })
  else (s.bump Reg.PLY_CNT1_EVT_DROP 1).markDrop 0

/-- An EVT record (Table 14.9). -/
def evtRec (time : Count) (count kind cls src : Nat) : Rec :=
  time ++ (0#32) ++ BitVec.ofNat 16 count ++ BitVec.ofNat 2 kind ++ BitVec.ofNat 2 cls ++ (0#1) ++ BitVec.ofNat 11 src

/-- Delivery on the Ply path. -/
def Block.raisePly (s : Block) (r : Raise) : Block :=
  if !s.srcBit (Reg.EV_EN_P 0) r.src then s
  else if s.singlesOf 3 < s.limitOf 3 (s.classOf r.src) then
    (s.countSingle 3).offerEvt (evtRec s.localCount 1 0 (s.classOf r.src) r.src)
  else s.countPly r.src

/-- Some source is pending on attention path `h` (R450). -/
def Block.anyPending (s : Block) (h : Nat) : Bool :=
  (List.range 33).any (fun i => (s.reg ((if h = 0 then Reg.EV_PEND_A 0 else Reg.EV_PEND_B 0) + 4 * i)) != 0#32)

/-- The attention condition of port `h` (R398). -/
def Block.attention (s : Block) (h : Nat) : Bool :=
  (s.flag (Reg.SKP_ATTN_CFG_EV_EN h) && s.anyPending h) ||
    (s.flag (Reg.SKP_ATTN_CFG_RPL_EN h) && decide ((s.host h).ready ≠ []))

/-- With PULSE = 1, a new cause while the condition already held releases ATTN for 200 ns (R398). -/
def Block.pulseIf (s : Block) (h : Nat) (held : Bool) : Block :=
  if held && s.flag (Reg.SKP_ATTN_CFG_PULSE h) then
    (s.withEv { s.ev with pulse := Bank.set (fun _ => none) s.ev.pulse h (some s.now) })
  else s

/-- The pending bit of a source on path `h` is set; a clear in the same EVENT cycle leaves it set (R450). -/
def Block.setPending (s : Block) (h src : Nat) : Block :=
  let old := if s.ev.setIn = s.eventCycle then s.ev.setBits else []
  (s.withEv { s.ev with setIn := s.eventCycle, setBits := (h, src) :: old }).setBit
    ((if h = 0 then Reg.EV_PEND_A 0 else Reg.EV_PEND_B 0) + 4 * (src / 32)) (src % 32) true

/-- What a written 1 clears of register `i` of EV_PEND of path `h`: no bit set in this cycle. -/
def Block.clearable (s : Block) (h i : Nat) (v : Word) : Word :=
  if s.ev.setIn = s.eventCycle then
    s.ev.setBits.foldl (fun v p => if p.1 = h ∧ p.2 / 32 = i then withBits v (p.2 % 32) (p.2 % 32) 0 else v) v
  else v

/-- Delivery on attention path `h`, budgeted path `h` + 1 (Table 17.8). -/
def Block.raiseAttn (s : Block) (h : Nat) (r : Raise) : Block :=
  let en := if h = 0 then Reg.EV_EN_A 0 else Reg.EV_EN_B 0
  let c := s.classOf r.src
  if !s.srcBit en r.src then s
  else if s.singlesOf (h + 1) < s.limitOf (h + 1) c then
    let held := s.attention h
    let s := (s.countSingle (h + 1)).setPending h r.src
    s.pulseIf h (held && s.flag (Reg.SKP_ATTN_CFG_EV_EN h))
  else match c with
    | 0 => (s.setPending h r.src).bump (Reg.EV_SHED_ALARM h) 1
    | 1 => (s.setPending h r.src).bump (Reg.EV_SHED_FAULT h) 1
    | 2 => s.bump (Reg.EV_SHED_CAL h) 1
    | _ => s.bump (Reg.EV_SHED_TRACE h) 1

/-- Engine FX`n`. -/
def Block.engine (s : Block) (n : Nat) : Engine := Bank.get (fun _ => Engine.reset) s.fox.eng n

/-- Engine FX`n` becomes `g`. -/
def Block.setEngine (s : Block) (n : Nat) (g : Engine) : Block :=
  (s.withFox { s.fox with eng := Bank.set (fun _ => Engine.reset) s.fox.eng n g })

/-- Delivery on the engine path: event latch `e` of FX`n` is set when FXn_EVSEL`e` is enabled and names the source
(R260). Only EVSEL registers that hold something can match. -/
def Block.raiseFox (s : Block) (r : Raise) : Block :=
  s.each (s.regs.filter (fun p => decide (Reg.FX_EVSEL 0 0 ≤ p.1) && decide (p.1 < Reg.FX_EVSEL 16 0) &&
      bitsOf p.2 31 31 == 1 && bitsOf p.2 10 0 == r.src))
    (fun s p =>
      let n := (p.1 - Reg.FX_EVSEL 0 0) / 0x20
      let e := (p.1 - Reg.FX_EVSEL 0 0) % 0x20 / 4
      let g := s.engine n
      s.setEngine n { g with latches := withBits g.latches e e 1 })

/-- One raise on every path, without the events that delivery itself gives rise to. -/
def Block.deliver (s : Block) (r : Raise) : Block :=
  ((((s.raiseTrail r).raisePly r).raiseAttn 0 r).raiseAttn 1 r).raiseFox r

/-- The events that a delivery gives rise to: TRAIL_LOST at the first increase after LOST_SEEN was cleared (R453),
TRAIL_STAGE_FULL when the staging queue becomes full (R456), OUT_EVT_DROP at the first discard (R375). -/
def followUps (a b : Block) : List Nat × Block :=
  let lost := (a.reg Reg.TRAIL_LOST) != (b.reg Reg.TRAIL_LOST) && !b.flag Reg.EV_STATUS_LOST_SEEN
  let full := decide (a.ev.staged.length < 64) && decide (b.ev.staged.length = 64)
  let drop := !a.ply.dropped.getLsbD 0 && b.ply.dropped.getLsbD 0
  let b := b.when lost (·.put Reg.EV_STATUS_LOST_SEEN 1)
  let b := b.when full (·.put Reg.EV_STATUS_STAGE_FULL_SEEN 1)
  ((if drop then [795] else []) ++ (if lost then [934] else []) ++ (if full then [935] else []), b)

/-- Delivery of a list of raises and of the events they give rise to, `fuel` deliveries at most. -/
def Block.deliverAll : Nat → List Raise → Block → Block
  | 0, _, s => s
  | _, [], s => s
  | fuel + 1, r :: rs, s =>
    let (more, s') := followUps s (s.deliver r)
    Block.deliverAll fuel (rs ++ more.map (fun n => ⟨n, [], false⟩)) s'

/-- A source is raised (R449): the detection and its delivery. A reserved source never is, and a number outside 0–1,035 is
no source. -/
def Block.raiseWith (s : Block) (src : Nat) (data : List Word) (injected : Bool) : Block :=
  if !reservedSource src then Block.deliverAll 8 [⟨src, data, injected⟩] s else s

/-- A source is raised with `d` as bytes 28–31 of its detail. -/
def Block.raise (s : Block) (src d : Nat) : Block := s.raiseWith src [BitVec.ofNat 32 d] false

end Sys2Proof.Machine
end

