-- ==== Sys2Proof/Machine/Mem.lean ====
section
/-! DEFINITION. The result memory (R360, R361, R363): 8 MiB by offset, four banks of 2 MiB, byte-addressed. -/

namespace Sys2Proof.Machine

/-- The size of the result memory in bytes. -/
abbrev memSize : Nat := 0x800000

/-- The byte at offset `a` as it was last written; none where nothing has written it since power-up. -/
def Block.byteAt (s : Block) (a : Nat) : Option Byte := Bank.find s.mem a

/-- The canonical form of the memory: offsets rise strictly, and every one is inside the memory. A byte that nothing has
written is not listed. -/
def Memory.wf (m : List Host.Cell) : Bool := Bank.rising 0 m && m.all (fun c => decide (c.1 < memSize))

/-- The byte at offset `a` is `b`. An offset outside the memory takes no write. -/
def Block.setByte (s : Block) (a : Nat) (b : Byte) : Block :=
  if a < memSize then (s.withMem (Bank.insert s.mem a b)) else s

/-- Bytes written from offset `a` up, in ascending address order (R25). -/
def Block.memWrite (s : Block) : Nat → List Byte → Block
  | _, [] => s
  | a, b :: t => (s.setByte a b).memWrite (a + 1) t

/-- The readers of Table 14.2, with the AGENT code of MEM_ECCLOG. -/
inductive Reader where
  | skein (p : Nat)
  | bear
  | fox (n : Nat)
  | pull (n : Nat)
  deriving DecidableEq, Repr

def Reader.code : Reader → Nat
  | .skein p => p
  | .bear => 2
  | .fox _ => 3
  | .pull _ => 4

def Reader.engine : Reader → Nat
  | .fox n => n
  | .pull n => n
  | _ => 0

/-- The event that reports an uncorrectable byte to this reader in bank `b` (Table 14.2). -/
def Reader.ueSource (r : Reader) (b : Nat) : Nat :=
  match r with
  | .skein _ => 833 + 4 * b
  | .fox _ => 834 + 4 * b
  | .pull _ => 834 + 4 * b
  | .bear => 835 + 4 * b

/-- How a byte decodes: clean, corrected, uncorrectable. -/
inductive Decode where
  | clean | corrected | bad
  deriving DecidableEq, Repr

/-- The bank of an offset. -/
def memBank (a : Nat) : Nat := a / 0x200000

/-- A byte is read: its value and how it decodes. A byte written decodes clean; for one never written both are open
(R360). -/
def Block.readByte (s : Block) (a : Nat) : Byte × Decode × Block :=
  match s.byteAt a with
  | some b => (b, .clean, s)
  | none =>
    let (k, s) := s.draw
    (Config.freeByte k,
      match Config.freeNat k % 3 with
      | 0 => .clean
      | 1 => .corrected
      | _ => .bad, s)

/-- A corrected byte counts in its bank; a count that passes a multiple of 256 raises MEM_CE (R361, R377). -/
def Block.countCe (s : Block) (a : Nat) : Block :=
  let b := memBank a
  let n := s.get (Reg.MEM_BANK_CE b)
  let s := (s.bump (Reg.MEM_BANK_CE b) 1).put ⟨Reg.MEM_STATUS, 4 + b, 4 + b⟩ 1
  if (n + 1) % 256 = 0 ∧ n < 65535 then s.raise (832 + 4 * b) a else s

/-- An uncorrectable byte counts in its bank, and the first since LOG_VALID was cleared is logged. A read raises one event for
each bank in which it finds one: `told` are the banks it has raised already (R361). -/
def Block.countUe (s : Block) (r : Reader) (told : List Nat) (a : Nat) : Block :=
  let b := memBank a
  let s := (s.bump (Reg.MEM_BANK_UE b) 1).put ⟨Reg.MEM_STATUS, 8 + b, 8 + b⟩ 1
  let s := if s.flag Reg.MEM_STATUS_LOG_VALID then s
    else (((s.put Reg.MEM_ECCLOG_AGENT r.code).put Reg.MEM_ECCLOG_ENGINE r.engine).put Reg.MEM_ECCLOG_OFFSET a).put
      Reg.MEM_STATUS_LOG_VALID 1
  if told.elem b then s else s.raise (r.ueSource b) a

/-- `n` bytes read from offset `a` up for reader `r`, in a read that has raised an event for the banks `told`: the bytes,
whether one was corrected, whether one was uncorrectable, and the state with the errors counted and reported. -/
def Block.memReadFrom (s : Block) (r : Reader) : List Nat → Nat → Nat → List Byte × Bool × Bool × Block
  | _, _, 0 => ([], false, false, s)
  | told, a, n + 1 =>
    let (b, d, s1) := s.readByte a
    let s2 := match d with
      | .clean => s1
      | .corrected => s1.countCe a
      | .bad => s1.countUe r told a
    let (bs, ce, ue, s3) := s2.memReadFrom r (if d = .bad then memBank a :: told else told) (a + 1) n
    (b :: bs, d == .corrected || ce, d == .bad || ue, s3)

/-- A read of `n` bytes from offset `a` up. -/
def Block.memRead (s : Block) (r : Reader) (a n : Nat) : List Byte × Bool × Bool × Block := s.memReadFrom r [] a n

/-- The bytes of a 128-bit record, little-endian (R176). -/
def recBytes (r : Rec) : List Byte := (List.range 16).map (fun i => r.extractLsb' (8 * i) 8)

end Sys2Proof.Machine
end

