-- ==== Sys2Proof/Machine/Fifo.lean ====
section
/-! DEFINITION. Result FIFOs in the result memory (R178–R182) and the outbound queues of results (R374, R375). -/

namespace Sys2Proof.Machine

/-- The size of a FIFO in bytes: 4 KiB × 2^SIZE (R178). -/
def Block.fifoBytes (s : Block) (f : Nat) : Nat := 4096 * 2 ^ s.get (Reg.FIFO_CFG_SIZE f)

/-- The capacity in records. -/
def Block.fifoCap (s : Block) (f : Nat) : Nat := s.fifoBytes f / 16

/-- The offset of a FIFO's region. -/
def Block.fifoBase (s : Block) (f : Nat) : Nat := 4096 * s.get (Reg.FIFO_BASE_BASE f)

/-- The level: (WP − RP) mod 65,536 (R180). -/
def Block.fifoLevel (s : Block) (f : Nat) : Nat :=
  (s.get (Reg.FIFO_WP_PTR f) + 65536 - s.get (Reg.FIFO_RP_PTR f)) % 65536

/-- FIFO_LEVEL and PEAK follow the pointers (R181). -/
def Block.showLevel (s : Block) (f : Nat) : Block :=
  let s := s.put (Reg.FIFO_LEVEL_COUNT f) (s.fifoLevel f)
  if s.get (Reg.FIFO_STAT_PEAK f) < s.fifoLevel f then s.put (Reg.FIFO_STAT_PEAK f) (s.fifoLevel f) else s

/-- The watermark notice is set when the level is at least WM while the notice is 0 (R181). -/
def Block.checkWm (s : Block) (f : Nat) : Block :=
  let wm := s.get (Reg.FIFO_WM_LEVEL f)
  if wm ≠ 0 ∧ wm ≤ s.fifoLevel f ∧ !s.flag (Reg.FIFO_STAT_WM_NOTICE f) then
    let s := (s.put (Reg.FIFO_STAT_WM_NOTICE f) 1).setPair (Reg.FIFO_WMT_LO f) (Reg.FIFO_WMT_HI f) s.localCount
    s.raise (496 + f) (s.fifoLevel f + 65536 * f)
  else s

/-- A record is discarded or overwritten: FIFO_OVF counts it, and the first since OVF_NOTICE was cleared sets the notice,
its time and its event (R182). -/
def Block.overflow (s : Block) (f : Nat) : Block :=
  let s := s.bump (Reg.FIFO_OVF_COUNT f) 1
  if s.flag (Reg.FIFO_STAT_OVF_NOTICE f) then s
  else
    let s := (s.put (Reg.FIFO_STAT_OVF_NOTICE f) 1).setPair (Reg.FIFO_OVFT_LO f) (Reg.FIFO_OVFT_HI f) s.localCount
    s.raise (544 + f) (s.get (Reg.FIFO_STAT_PEAK f) + 65536 * f)

/-- The record is written at BASE + 16 × (WP mod capacity), and WP then advances (R180). -/
def Block.storeRec (s : Block) (f : Nat) (r : Rec) : Block :=
  let wp := s.get (Reg.FIFO_WP_PTR f)
  let s := s.memWrite (s.fifoBase f + 16 * (wp % s.fifoCap f)) (recBytes r)
  ((s.put (Reg.FIFO_WP_PTR f) (wp + 1)).showLevel f).checkWm f

/-- A record is delivered to FIFO `f` (R179–R182, Table 7.8). -/
def Block.pushFifo (s : Block) (f : Nat) (r : Rec) : Block :=
  if !s.flag (Reg.FIFO_CFG_EN f) then s.overflow f
  else if s.fifoLevel f < s.fifoCap f then s.storeRec f r
  else if s.get (Reg.FIFO_CFG_POLICY f) = 1 then
    ((s.put (Reg.FIFO_RP_PTR f) (s.get (Reg.FIFO_RP_PTR f) + 1)).storeRec f r).overflow f
  else s.overflow f

/-- Queue `q` discards a record: its first discard since DROP_SEEN was cleared raises its drop event (R375). -/
def Block.plyDrop (s : Block) (q src : Nat) : Block :=
  let first := !s.ply.dropped.getLsbD q
  let s := s.markDrop q
  if first then s.raise src 0 else s

/-- A result is offered to the RES queue (R374, R375). -/
def Block.offerRes (s : Block) (r : Rec) : Block :=
  if plyAccepts s s.ply.resQ 3584 then (s.withPly { s.ply with resQ := s.ply.resQ ++ [(s.now, r)] })
  else (s.bump Reg.PLY_CNT1_RES_DROP 1).plyDrop 2 787

/-- A quality figure is offered to the QF queue (R262, R374, R375). -/
def Block.offerQf (s : Block) (r : Rec) : Block :=
  if plyAccepts s s.ply.qfQ 256 then (s.withPly { s.ply with qfQ := s.ply.qfQ ++ [(s.now, r)] })
  else (s.bump Reg.PLY_CNT1_QF_DROP 1).plyDrop 1 791

/-! Regions of the result memory in use (R178, R263, R370). -/

/-- Two regions (offset, bytes) overlap. -/
def overlaps (a b : Nat × Nat) : Bool := decide (a.1 < b.1 + b.2) && decide (b.1 < a.1 + a.2)

/-- The regions of enabled FIFOs, by number. -/
def Block.fifoRegions (s : Block) : List (Nat × (Nat × Nat)) :=
  ((List.range 48).filter (fun f => s.flag (Reg.FIFO_CFG_EN f))).map (fun f => (f, (s.fifoBase f, s.fifoBytes f)))

/-- The region of engine `n`'s quality-figure ring (R263). -/
def Block.ringRegion (s : Block) (n : Nat) : Nat × Nat :=
  (4096 * s.get (Reg.FX_QFRING_BASE n), 4096 * 2 ^ s.get (Reg.FX_QFRING_SIZE n))

/-- The region of statistics stream `k`: SLOTS + 1 slots of 4 KiB × 2^SIZE (R370, Table 14.18). -/
def Block.streamRegion (s : Block) (k : Nat) : Nat × Nat :=
  (4096 * s.get (Reg.PLY_STREAM_BASE k), (s.get (Reg.PLY_STREAM_SLOTS k) + 1) * (4096 * 2 ^ s.get (Reg.PLY_STREAM_SIZE k)))

/-- The regions of enabled rings and streams. -/
def Block.ringRegions (s : Block) : List (Nat × (Nat × Nat)) :=
  ((List.range 16).filter (fun n => s.flag (Reg.FX_QFRING_EN n))).map (fun n => (n, s.ringRegion n))

def Block.streamRegions (s : Block) : List (Nat × (Nat × Nat)) :=
  ((List.range 64).filter (fun k => s.flag (Reg.PLY_STREAM_EN k))).map (fun k => (k, s.streamRegion k))

/-- The region may hold a FIFO: BASE a multiple of the size, outside the mailbox region, over no other enabled FIFO, and
inside the result memory (R178). -/
def Block.fifoRegionOk (s : Block) (f : Nat) : Bool :=
  let r := (s.fifoBase f, s.fifoBytes f)
  r.1 % r.2 == 0 && decide (0x10000 ≤ r.1) && decide (r.1 + r.2 ≤ memSize) &&
    (s.fifoRegions.all (fun q => q.1 == f || !overlaps r q.2))

/-- A write of FIFO_CFG (R178): while EN = 1 SIZE keeps its value; EN written 1 enables the FIFO only if its region is
valid, and clears its pointers, notices, PEAK and counters. -/
def Block.writeFifoCfg (s : Block) (f : Nat) (v : Word) : Block :=
  let was := s.flag (Reg.FIFO_CFG_EN f)
  let s := s.put (Reg.FIFO_CFG_POLICY f) (bitsOf v 4 3)
  let s := if was then s else s.put (Reg.FIFO_CFG_SIZE f) (bitsOf v 2 0)
  if bitsOf v 5 5 = 0 then s.put (Reg.FIFO_CFG_EN f) 0
  else if was then s
  else if s.fifoRegionOk f then
    let s := ((s.put (Reg.FIFO_CFG_EN f) 1).setReg (Reg.FIFO_STAT f) 0).put (Reg.FIFO_OVF_COUNT f) 0
    ((s.put (Reg.FIFO_WP_PTR f) 0).put (Reg.FIFO_RP_PTR f) 0).put (Reg.FIFO_LEVEL_COUNT f) 0
  else s.put (Reg.FIFO_STAT_CFG_BAD f) 1

/-- FIFO_ENABLE: a write of FIFO_CFG. -/
def doFifoEnable (f : Nat) (v : Word) (s : Block) : Block :=
  if s.writable (Reg.FIFO_CFG f) then s.writeFifoCfg f v else s

/-- A write of FIFO_BASE, ignored while EN = 1 (R178). -/
def Block.writeFifoBase (s : Block) (f : Nat) (v : Word) : Block :=
  if s.flag (Reg.FIFO_CFG_EN f) then s else s.writeFields (Reg.FIFO_BASE f) v

/-- A write of FIFO_WM; the watermark acts at once (R181). -/
def Block.writeFifoWm (s : Block) (f : Nat) (v : Word) : Block := (s.writeFields (Reg.FIFO_WM f) v).checkWm f

/-- A write of FIFO_RP is performed when the value lies from RP to WP, counting modulo 65,536 from RP; any other is
ignored and sets RP_BAD (R180). -/
def Block.writeFifoRp (s : Block) (f : Nat) (v : Word) : Block :=
  let rp := s.get (Reg.FIFO_RP_PTR f)
  if (v.toNat % 65536 + 65536 - rp) % 65536 ≤ s.fifoLevel f then
    (s.put (Reg.FIFO_RP_PTR f) v.toNat).showLevel f
  else s.put (Reg.FIFO_STAT_RP_BAD f) 1

/-- FIFO_RP_WRITE. -/
def doFifoRpWrite (f : Nat) (v : Word) (s : Block) : Block :=
  if s.writable (Reg.FIFO_RP f) then s.writeFifoRp f v else s

/-- A write of FIFO_STAT clears the notices written 1. A clear of WM_NOTICE sets PEAK to the level, and a level still at
least WM sets the notice again (R181). -/
def Block.writeFifoStat (s : Block) (f : Nat) (v : Word) : Block :=
  let s := s.writeFields (Reg.FIFO_STAT f) v
  if bitsOf v 16 16 = 1 then (s.put (Reg.FIFO_STAT_PEAK f) (s.fifoLevel f)).checkWm f else s

/-- FIFO_NOTICE_CLEAR: a write of FIFO_STAT. -/
def doFifoNoticeClear (f : Nat) (v : Word) (s : Block) : Block :=
  if s.writable (Reg.FIFO_STAT f) then s.writeFifoStat f v else s

/-! The commands of this file, with the operands that the command table's rows take here. -/

def execFifoEnable (f : Fin 48) (v : Word) (s : State) : Out := .next (s.withBlock (doFifoEnable f v s.toBlock))
def execFifoRpWrite (f : Fin 48) (v : Word) (s : State) : Out := .next (s.withBlock (doFifoRpWrite f v s.toBlock))
def execFifoNoticeClear (f : Fin 48) (v : Word) (s : State) : Out := .next (s.withBlock (doFifoNoticeClear f v s.toBlock))

end Sys2Proof.Machine
end

