-- ==== Sys2Proof/Machine/Time.lean ====
section
/-! DEFINITION. Chapter 2: line time, mains time and local time. A timebase's value is held at an anchor instant and
extrapolated from it at the measured period or frequency; the local count is the only clock. -/

namespace Sys2Proof.Machine

/-! Line time. -/

/-- Line timebase `w` beyond its registers. -/
def Block.lineTb (s : Block) (w : Nat) : LineTb := Bank.get (fun _ => LineTb.reset) s.time.line w

/-- Line timebase `w` becomes `t`. -/
def Block.setLine (s : Block) (w : Nat) (t : LineTb) : Block :=
  (s.withTime { s.time with line := Bank.set (fun _ => LineTb.reset) s.time.line w t })

/-- States of a line timebase (Table 2.2). -/
abbrev UNLOCKED : Nat := 0
abbrev ACQUIRING : Nat := 1
abbrev LOCKED : Nat := 2
abbrev HOLDOVER : Nat := 3
abbrev LOST : Nat := 4

/-- The state of LINE`w`. -/
def Block.lineState (s : Block) (w : Nat) : Nat := s.get (Reg.LINE_STATUS_STATE w)

/-- The line count of LINE`w` extrapolated to local count `t` at the tick period LINE_TICK, in units of 2^-24 ns; held
before a period has been measured (R35). -/
def Block.lineExtra (s : Block) (w t : Nat) : Count :=
  let l := s.lineTb w
  let p := (s.reg (Reg.LINE_TICK w)).toNat
  if p = 0 then l.cnt else l.cnt + BitVec.ofNat 64 ((t - l.anchor) * 2 ^ 24 / p)

/-- The line count of LINE`w` at local count `t`: held in UNLOCKED (Table 2.2). -/
def Block.lineAt (s : Block) (w t : Nat) : Count :=
  if s.lineState w = UNLOCKED then (s.lineTb w).cnt else s.lineExtra w t

/-- The line count now. -/
def Block.lineNow (s : Block) (w : Nat) : Count := s.lineAt w s.now

/-- The local count that LINE`w` assigns to a line count, from its anchor and period (R36, R371). -/
def Block.lineToLocal (s : Block) (w : Nat) (c : Count) : Nat :=
  let l := s.lineTb w
  let d : Int := (c - l.cnt).toInt
  ((l.anchor : Int) + d * (s.reg (Reg.LINE_TICK w)).toNat / 2 ^ 24).toNat

/-- The 64-bit value nearest to `c` whose low half is `t`; none lies below 0 (R35). -/
def nearest64 (c : Count) (t : Word) : Count :=
  let d := (t - c.extractLsb' 0 32).signExtend 64
  if d.toInt < 0 ∧ c.toNat < d.toInt.natAbs then t.setWidth 64 else c + d

/-- The local instant, in 1/6 ns, that LINE`w` assigns to a line count. -/
def Block.lineTo6 (s : Block) (w : Nat) (c : Count) : Nat :=
  let l := s.lineTb w
  let d : Int := (c - l.cnt).toInt
  (6 * (l.anchor : Int) + 6 * d * (s.reg (Reg.LINE_TICK w)).toNat / 2 ^ 24).toNat

/-! Quiet windows (R39–R41). -/

/-- A window qualifies by its length (R40). -/
def Block.longEnough (s : Block) (w len : Nat) : Bool := decide (s.get (Reg.LINE_STATUS_MIN_QW w) ≤ len)

/-- The windows of a table that came at `came`, whose superframe begins at tick count `tick`. -/
def Block.winsFrom (s : Block) (w : Nat) (tick : Word) (came : Nat) (ws : List (Nat × Nat)) : List Win :=
  let base := nearest64 (s.lineNow w) tick
  ws.map (fun v => { st := s.lineTo6 w (base + BitVec.ofNat 64 v.1), len := v.2, off := v.1, came := came })

/-- The windows of LINE`w`'s present superframe, in order. -/
def Block.tableWins (s : Block) (w : Nat) : List Win :=
  let l := s.lineTb w
  s.winsFrom w (l.qwSf.getD l.lastTick) l.qwAt
    (((List.range 32).map (fun i => s.reg (Reg.LINE_QW w i))).filterMap (fun v =>
      if bitsOf v 31 24 = 0 then none else some (bitsOf v 23 0, bitsOf v 31 24)))

/-- LINE`w` is LOCKED, and has been for 400 ns at instant `st`, in 1/6 ns (R41). -/
def Block.lockedFor (s : Block) (w st : Nat) : Bool := s.lineState w == LOCKED && decide (6 * ((s.lineTb w).lockedAt + 400) ≤ st)

/-- A window gives the lead of R41 to a posting instant, or an issue, at `from'`: 400 ns from it and from the table's coming. -/
def Win.leads (v : Win) (from' : Nat) : Bool := decide (6 * (from' + 400) ≤ v.st) && decide (6 * (v.came + 400) ≤ v.st)

/-- For each engine that holds at issue, the first window that it could wait for and that began while LINE`w` was LOCKED is
kept: a WAIT that is HELD completes on it later (R259, R274). -/
def Block.notePast (s : Block) (w : Nat) : Block :=
  let l := s.lineTb w
  let new := (s.tableWins w).filter (fun v => s.longEnough w v.len && s.lockedFor w v.st && decide (v.st ≤ 6 * s.now))
  s.setLine w { l with qwPast := ((List.range 16).filterMap (fun n => (s.engine n).holdAt)).filterMap (fun t =>
    (l.qwPast ++ new).find? (fun v => v.leads t)) }

/-! Schedule entries whose instant a jump passes. -/

/-- The timebase code of entry `n`. -/
def Block.schTb (s : Block) (n : Nat) : Nat := s.get (Reg.SCH_CTL_TB n)

/-- The instant of entry `n`. -/
def Block.schAt (s : Block) (n : Nat) : Count := s.pair (Reg.SCH_AT_LO n) (Reg.SCH_AT_HI n)

/-- Entry `n` has its instant reached late (R54). -/
def Block.setLate (s : Block) (n : Nat) (b : Bool) : Block :=
  (s.withTime { s.time with schLate := Bank.set (fun _ => false) s.time.schLate n b })

/-- Every armed entry of timebase `tb` whose instant a jump from `a` to `b` passes is reached late (R54). -/
def Block.markLate (s : Block) (tb : Nat) (a b : Count) : Block :=
  s.each (List.range 64) (fun s n =>
    if s.flag (Reg.SCH_CTL_ARM n) ∧ s.schTb n = tb ∧ a < s.schAt n ∧ s.schAt n ≤ b then s.setLate n true else s)

/-- The states in which the entries of a line timebase fire (R56). -/
def lineFires (st : Nat) : Bool := st == LOCKED || st == HOLDOVER

/-- LINE`w` enters state `st`; a change raises LINE_STATE`w`. When its entries may fire again, those whose instants have
been reached meanwhile are late (R56). -/
def Block.enterLine (s : Block) (w st : Nat) : Block :=
  if s.lineState w = st then s
  else
    let was := s.lineState w
    let s := (s.notePast w).put (Reg.LINE_STATUS_STATE w) st
    let s := s.when (lineFires st && !lineFires was) (fun s => s.each (List.range 64) (fun s n =>
      if s.flag (Reg.SCH_CTL_ARM n) ∧ s.schTb n = 1 + w ∧ s.schAt n ≤ s.lineNow w then s.setLate n true else s))
    let s := s.setLine w { s.lineTb w with lockedAt := s.now }
    s.raise (816 + w) st

/-- The line count is set to `c` at local count `t`. A re-seat is a jump: entries it passes are late (R54). -/
def Block.setLineCount (s : Block) (w : Nat) (c : Count) (t : Nat) (jump : Bool) : Block :=
  let before := s.lineNow w
  let s := s.setLine w { s.lineTb w with cnt := c, anchor := t }
  s.when jump (fun s => s.markLate (1 + w) before (s.lineNow w))

/-- The tick period, and the MIN_QW that follows from it: 20 ns divided by it and rounded up (R40). -/
def Block.setPeriod (s : Block) (w p : Nat) : Block :=
  (s.setReg (Reg.LINE_TICK w) (BitVec.ofNat 32 p)).put (Reg.LINE_STATUS_MIN_QW w) (ceilDiv (20 * 2 ^ 24) p)

/-- Windows in ascending order, not overlapping, each at least 1 tick, ending by `len` (R39). -/
def qwValid (len : Nat) : Nat → List (Nat × Nat) → Bool
  | _, [] => true
  | lo, (st, l) :: t => decide (lo ≤ st) && decide (1 ≤ l) && decide (st + l ≤ len) && qwValid len (st + l) t

/-- The quiet windows of LINE`w` now in force: `ws`, the rest of the 32 registers 0. -/
def Block.setWindows (s : Block) (w : Nat) (ws : List (Nat × Nat)) : Block :=
  s.each (List.range 32) (fun s i =>
    let v := ws.getD i (0, 0)
    s.setReg (Reg.LINE_QW w i) (BitVec.ofNat 32 (v.2 % 256 * 2 ^ 24 + v.1 % 2 ^ 24)))

/-- The loss of the table of the superframe that begins at `tick` is raised, once for a superframe (R39). -/
def Block.qwFault (s : Block) (w : Nat) (tick : Word) : Block :=
  if (s.lineTb w).qwFault = some tick then s
  else
    let s := s.setLine w { s.lineTb w with qwFault := some tick }
    ((s.put (Reg.LINE_STATUS_QW_FAULT_SEEN w) 1).bump (Reg.LINE_CNT_QW w) 1).raise (824 + w) (s.lineState w)

/-- R39 has discarded a table. -/
def Block.qwDiscard (s : Block) (w : Nat) : Block := s.put (Reg.LINE_STATUS_QW_FAULT_SEEN w) 1

/-- The superframe of `len` ticks from `tick` begins: at its marker, or when that is missing. Its table comes in force, or
the superframe has no quiet windows (R39). -/
def Block.beginSuperframe (s : Block) (w : Nat) (tick : Word) (len : Nat) : Block :=
  let s := s.notePast w
  let l := s.lineTb w
  if l.qwSf = some tick then s
  else
    let q := l.qwNext.find? (fun q => q.sf == tick)
    let s := s.setLine w { l with
      qwSf := some tick, qwNext := l.qwNext.filter (fun q => decide (0 < (q.sf - tick).toInt)), qwAt := (q.map (·.at')).getD 0 }
    match q.filter (fun q => qwValid len 0 q.wins) with
    | some q => (s.setWindows w q.wins).put (Reg.LINE_STATUS_TABLE_VALID w) 1
    | none => ((s.setWindows w []).put (Reg.LINE_STATUS_TABLE_VALID w) 0).qwFault w tick

/-- A marker lands when its tick count is within ±2 ticks of its predicted count (R37). -/
def Block.lands (s : Block) (w : Nat) (tick : Word) : Bool :=
  let l := s.lineTb w
  let p := l.lastTick + BitVec.ofNat 32 (l.sfLen * (l.missed + 1))
  l.seen && (decide ((tick - p).toNat ≤ 2) || decide ((p - tick).toNat ≤ 2))

/-- The state after a marker, from the state it meets, whether it lands, and how many landed before it (Table 2.2). -/
def markerState (st : Nat) (lands : Bool) (landed : Nat) : Nat :=
  match st with
  | 1 => if lands && decide (3 ≤ landed) then LOCKED else ACQUIRING
  | 2 => if lands then LOCKED else ACQUIRING
  | 3 => if lands then LOCKED else ACQUIRING
  | _ => ACQUIRING

/-- A marker of LINE`w`: the superframe of `len` ticks that begins at tick count `tick` (R35–R39, R368). Its instant is
now less the inbound latency. With EN = 0 markers are ignored. -/
def Block.marker (s : Block) (w : Nat) (tick : Word) (len : Nat) : Block :=
  if !s.flag (Reg.LINE_CTL_EN w) then s
  else
    let t := s.now - s.get Reg.PLY_LAT_LAT / 16
    let l := s.lineTb w
    let st := s.lineState w
    let lands := s.lands w tick && (st == ACQUIRING || lineFires st)
    let st' := markerState st lands l.landed
    let reseat := lineFires st && !lands
    let dtick := (tick - l.lastTick).toNat
    let first := st' == LOCKED && !l.everLocked
    let c := if first then tick.setWidth 64 else nearest64 (s.lineExtra w t) tick
    let s := s.when (lands && dtick != 0) (fun s => s.setPeriod w ((t - l.lastAt) * 2 ^ 24 / dtick))
    let s := s.setLineCount w c t reseat
    let s := s.setLine w { s.lineTb w with
      seen := true, lastTick := tick, lastAt := t, sfLen := len, missed := 0,
      landed := if st = ACQUIRING ∧ lands ∧ st' = ACQUIRING then l.landed + 1 else 0,
      everLocked := l.everLocked || st' == LOCKED }
    let s := s.put (Reg.LINE_SF_LEN w) len
    let s := s.when reseat (fun s =>
      ((s.put (Reg.LINE_STATUS_RESEAT_SEEN w) 1).bump (Reg.LINE_CNT_RESEATS w) 1).raise (820 + w) ACQUIRING)
    (s.enterLine w st').beginSuperframe w tick len

/-- Parity of a list of bits is even. -/
def evenParity (w : BitVec 64) (hi lo : Nat) : Bool :=
  ((List.range (hi - lo + 1)).filter (fun i => w.getLsbD (lo + i))).length % 2 == 0

/-- LINE_BLOCK: a LINE control block of an inbound lane (Table 14.3, R368). A block that fails either parity is
discarded and counted in IN_BAD; IDLE and ECHO blocks give no marker. -/
def doLineBlock (blk : BitVec 64) (s : Block) : Block :=
  if s.get Reg.PLY_STATUS_IN_STATE ≠ 2 ∨ bitsOf blk 63 60 = 0 ∨ bitsOf blk 63 60 = 5 then s
  else if bitsOf blk 63 60 = 4 ∧ evenParity (blk &&& 0xFFFFFFFE00000002#64) 63 0 ∧ evenParity blk 32 2 = !blk.getLsbD 0 then
    s.marker (bitsOf blk 59 58) (BitVec.ofNat 32 (bitsOf blk 57 26)) (bitsOf blk 25 2 + 1)
  else (s.bump Reg.PLY_CNT0_IN_BAD 1).raise 767 0

/-- The next marker of LINE`w` is missing: 64 ticks have passed since its predicted instant (R37). Before a period has been
measured none is. -/
def Block.markerDue (s : Block) (w : Nat) : Bool :=
  let l := s.lineTb w
  let p := (s.reg (Reg.LINE_TICK w)).toNat
  l.seen && p != 0 && decide ((l.lastAt + s.get Reg.PLY_LAT_LAT / 16) * 2 ^ 24 + (l.sfLen * (l.missed + 1) + 64) * p ≤ s.now * 2 ^ 24)

/-- A missing marker of LINE`w` (R37, R38): the superframe that it was to begin begins without it. -/
def Block.missMarker (s : Block) (w : Nat) : Block :=
  let st := s.lineState w
  let l := s.lineTb w
  let s := (s.setLine w { l with missed := l.missed + 1, landed := 0 }).bump (Reg.LINE_CNT_MISSING w) 1
  let limit := max 1 (s.get (Reg.LINE_CTL_HOLD_LIMIT w))
  let s := if st = LOCKED then s.enterLine w HOLDOVER else s
  let s := if st ≠ LOST ∧ limit ≤ l.missed + 1 then (s.bump (Reg.LINE_CNT_LOST w) 1).enterLine w LOST else s
  s.beginSuperframe w (l.lastTick + BitVec.ofNat 32 (l.sfLen * (l.missed + 1))) l.sfLen

/-- MARKER_MISSING: a marker of LINE`w` has not arrived 64 ticks after its predicted instant (R37, R38). -/
def doMarkerMissing (w : Nat) (s : Block) : Block :=
  if s.lineState w = UNLOCKED ∨ !s.markerDue w then s else s.missMarker w

/-- A write of LINE_CTL: EN = 0 puts the timebase in UNLOCKED, its count held (R37, Table 2.9). -/
def Block.writeLineCtl (s : Block) (w : Nat) (v : Word) : Block :=
  let before := s.lineNow w
  let s := s.writeFields (Reg.LINE_CTL w) v
  if s.flag (Reg.LINE_CTL_EN w) ∨ s.lineState w = UNLOCKED then s
  else (s.enterLine w UNLOCKED).setLine w
    { s.lineTb w with cnt := before, anchor := s.now, seen := false, missed := 0, landed := 0 }

/-- LINE_CTL_WRITE. -/
def doLineCtlWrite (w : Nat) (v : Word) (s : Block) : Block :=
  if s.writable (Reg.LINE_CTL w) then s.writeLineCtl w v else s

/-! Inbound packets (R369, Table 14.4). -/

/-- The payload of an inbound packet that passes the checks of R369, with CH of its header, and the state in which a
packet that fails has been counted. `ws` are the packet's words, header first and trailer last; `valid` says that it
holds no invalid block; `ok` judges the layout of its kind. While the inbound link is not UP there is no packet. -/
def Block.takePacket (s : Block) (kind : Nat) (ws : List (BitVec 64)) (valid : Bool) (ok : Nat → List (BitVec 64) → Bool) :
    Option (Nat × List (BitVec 64)) × Block :=
  let h := ws.headD 0
  let t := ws.getLastD 0
  let pl := (ws.drop 1).dropLast
  if s.get Reg.PLY_STATUS_IN_STATE ≠ 2 then (none, s)
  else if !valid ∨ bitsOf t 63 32 ≠ (crc32 ((h :: pl).flatMap beBytes)).toNat then
    (none, (s.bump Reg.PLY_CNT0_IN_CRC 1).raise 755 0)
  else if bitsOf h 63 60 ≠ kind ∨ bitsOf h 35 24 ≠ pl.length ∨ pl.length = 0 ∨ 258 < pl.length ∨ !ok (bitsOf h 59 52) pl then
    (none, s.bump Reg.PLY_CNT0_IN_BAD 1)
  else
    let seq := bitsOf h 51 36
    let gap := match s.ply.inSeq with
      | some q => decide ((q + 1) % 65536 ≠ seq)
      | none => false
    let s := s.when gap (·.bump Reg.PLY_CNT0_IN_GAP 1)
    (some (bitsOf h 59 52, pl), (s.withPly { s.ply with inSeq := some seq }))

/-- The windows of a QW payload (Table 14.5). -/
def qwWindows (n : Nat) (ws : List (BitVec 64)) : List (Nat × Nat) :=
  (ws.flatMap (fun w => [(bitsOf w 55 32, bitsOf w 63 56), (bitsOf w 23 0, bitsOf w 31 24)])).take n

/-- The layout of a QW packet: a wavelength, at most 32 windows, and 1 + ⌈N/2⌉ words (Table 14.5). -/
def qwLayout (ch : Nat) (pl : List (BitVec 64)) : Bool :=
  decide (ch ≤ 3) && decide (bitsOf (pl.headD 0) 5 0 ≤ 32) && pl.length == 1 + ceilDiv (bitsOf (pl.headD 0) 5 0) 2

/-- The superframe that begins at `sf` has begun on LINE`w`. -/
def Block.sfBegun (s : Block) (w : Nat) (sf : Word) : Bool :=
  match (s.lineTb w).qwSf with
  | some c => decide (0 ≤ (c - sf).toInt)
  | none => false

/-- A quiet-window table for the superframe at `sf` (R39). It waits for the superframe to begin, in place of an earlier
table for it. A table that is late or broken is discarded whole; where its superframe has no other table, that loss is
raised. -/
def Block.takeTable (s : Block) (w : Nat) (sf : Word) (wins : List (Nat × Nat)) : Block :=
  let l := s.lineTb w
  if s.sfBegun w sf then
    if l.qwSf = some sf ∧ s.flag (Reg.LINE_STATUS_TABLE_VALID w) then s.qwDiscard w else (s.qwDiscard w).qwFault w sf
  else if qwValid (2 ^ 24) 0 wins then
    s.setLine w { l with qwNext := l.qwNext.filter (fun q => q.sf != sf) ++ [{ sf := sf, wins := wins, at' := s.now }] }
  else if l.qwNext.any (fun q => q.sf == sf) then s.qwDiscard w
  else (s.qwDiscard w).qwFault w sf

/-- QW_PACKET (R39, Table 14.5). DESIGN CHOICE: a second table for a superframe that has a good one, late or broken, is
discarded; the earlier table's windows stay. -/
def doQwPacket (ws : List (BitVec 64)) (valid : Bool) (s : Block) : Block :=
  match s.takePacket 2 ws valid qwLayout with
  | (none, s) => s
  | (some (w, pl), s) =>
    let h := pl.headD 0
    s.takeTable w (BitVec.ofNat 32 (bitsOf h 63 32)) (qwWindows (bitsOf h 5 0) (pl.drop 1))

/-! Mains time. -/

/-- The mains timebase with its fields changed. -/
def Block.setMains (s : Block) (m : MainsTb) : Block := (s.withTime { s.time with mains := m })

/-- The ns that a stretch takes to slew to its frequency at 2 Hz/s (R49). -/
def MainsSeg.ramp (g : MainsSeg) : Nat := (if g.freq ≤ g.aim then g.aim - g.freq else g.freq - g.aim) * 10 ^ 9 / 131072

/-- The frequency at local count `t`, Hz × 2^16: it changes by 2 Hz/s (R49). -/
def MainsSeg.freqAt (g : MainsSeg) (t : Nat) : Nat :=
  let d := t - g.anchor
  if g.ramp ≤ d then g.aim
  else if g.freq ≤ g.aim then g.freq + 131072 * d / 10 ^ 9
  else g.freq - 131072 * d / 10 ^ 9

/-- What the count rises by from the anchor to local count `t`, in 10^-18 units, with the fraction there. -/
def MainsSeg.area (g : MainsSeg) (t : Nat) : Nat :=
  let d := t - g.anchor
  let r := min d g.ramp
  let slew := 65536 * r * r
  g.part + (if g.freq ≤ g.aim then g.freq * r * 10 ^ 9 + slew else g.freq * r * 10 ^ 9 - slew) + g.aim * (d - r) * 10 ^ 9

/-- The count of a stretch at local count `t`; before its anchor, at the frequency there. -/
def MainsSeg.countAt (g : MainsSeg) (t : Nat) : Count :=
  if g.anchor ≤ t then g.cnt + BitVec.ofNat 64 (g.area t / 10 ^ 18)
  else g.cnt - BitVec.ofNat 64 (ceilDiv ((g.anchor - t) * g.freq) (10 ^ 9))

/-- MAINS_FREQ, Hz × 2^16. -/
def Block.mainsFreq (s : Block) : Nat := s.time.mains.seg.freqAt s.now

/-- The internal mains count at local count `t` (R45). -/
def Block.mainsAt (s : Block) (t : Nat) : Count :=
  let m := s.time.mains
  (((m.seg :: m.past).find? (fun g => decide (g.anchor ≤ t))).getD m.seg).countAt t

/-- The reported mains count: the internal count plus MAINS_PHASE_OFS (R45). -/
def Block.mainsNow (s : Block) : Count := s.mainsAt s.now + BitVec.ofNat 64 (s.get Reg.MAINS_PHASE_OFS_OFS)

/-- The internal angle at local count `t`. -/
def Block.mainsAngle (s : Block) (t : Nat) : Nat := (s.mainsAt t).toNat % 65536

/-! The mains-locked modulator clock follows the internal angle without its half-cycle shifts: 15 periods are 4 units of the
count (R95). Instants are in 1/192 ns of local time. -/

/-- The position of a stretch at local count `t`, at or after its anchor, in 10^-18 units. -/
def MainsSeg.fine (g : MainsSeg) (t : Nat) : Nat := g.cnt.toNat * 10 ^ 18 + g.area t

/-- The last number from `lo` up to, not including, `hi` at which a test that holds up to some number still holds. -/
def lastBelow (f : Nat → Bool) : Nat → Nat → Nat → Nat
  | 0, lo, _ => lo
  | fuel + 1, lo, hi =>
    if hi ≤ lo + 1 then lo
    else if f ((lo + hi) / 2) then lastBelow f fuel ((lo + hi) / 2) hi
    else lastBelow f fuel lo ((lo + hi) / 2)

/-- What the half-cycle shifts so far have added to the count (R47). -/
def Block.shifted (s : Block) : Nat := 32768 * 10 ^ 18 * s.time.mains.shifts

/-- The mains position at instant `t`. -/
def Block.mainsFine (s : Block) (t : Nat) : Nat :=
  let m := s.time.mains
  let g := ((m.seg :: m.past).find? (fun g => decide (g.anchor ≤ t / 192))).getD m.seg
  g.fine (t / 192) + t % 192 * (g.fine (t / 192 + 1) - g.fine (t / 192)) / 192 - s.shifted

/-- The instant at which the mains position is `p`; one after the present instant where it is not yet reached. -/
def Block.mainsInstant (s : Block) (p : Nat) : Nat :=
  let m := s.time.mains
  let p := p + s.shifted
  let g := ((m.seg :: m.past).find? (fun g => decide (g.fine g.anchor ≤ p))).getD m.seg
  let t := lastBelow (fun t => decide (g.fine t ≤ p)) 64 g.anchor (max s.now g.anchor + 1)
  192 * t + min 192 (192 * (p - g.fine t) / max 1 (g.fine (t + 1) - g.fine t))

/-- The timebase slews from now on to frequency `f`, from frequency `f0`; the count does not step. -/
def Block.slewFrom (s : Block) (f0 f : Nat) : Block :=
  let m := s.time.mains
  let g := m.seg
  s.setMains { m with
    seg := { anchor := s.now, cnt := g.countAt s.now, part := g.area s.now % 10 ^ 18, freq := f0, aim := f }
    past := (g :: m.past).take 8 }

/-- The mains timebase runs on at frequency `f` from now. -/
def Block.setFreq (s : Block) (f : Nat) : Block := s.slewFrom f f

/-- 50 or 60 Hz, as MAINS_CTL.NOM (R48). -/
def Block.nominal (s : Block) : Nat := if s.flag Reg.MAINS_CTL_NOM then 60 * 65536 else 50 * 65536

/-- The state of the mains timebase: 0 FREE, 1 ACQUIRING, 2 LOCKED, 3 HOLDOVER. -/
def Block.mainsState (s : Block) : Nat := s.get Reg.MAINS_STATUS_STATE

/-- The mains timebase enters state `st`. MAINS_ALIGNED reads 1 while it is LOCKED or HOLDOVER; a fall while a quad is
mains-locked sets UNALIGNED_SEEN (R95, Table 4.10). -/
def Block.enterMains (s : Block) (st : Nat) : Block :=
  let falls := decide (2 ≤ s.mainsState) && decide (st < 2) &&
    (List.range 8).any (fun q => s.flag (Reg.FINE_QCLK_ACTIVE q))
  (s.put Reg.MAINS_STATUS_STATE st).when falls (·.put Reg.FINE_STATUS_UNALIGNED_SEEN 1)

/-- FREE or HOLDOVER: the next usable reference brings ACQUIRING (R48). -/
def Block.mainsIdle (s : Block) : Bool := s.mainsState == 0 || s.mainsState == 3

/-- A phase error of the last cycle within ±128 units (R48). -/
def errSmall (err : Int) : Bool := decide (-128 ≤ err) && decide (err ≤ 128)

/-- Ten times the loop's bandwidth in Hz (R49). -/
def Block.loopBw (s : Block) : Int :=
  match s.get Reg.MAINS_CTL_BW with
  | 0 => 1
  | 1 => 5
  | _ => 20

/-- The frequency to which the loop turns at a reference of frequency `f` and phase error `err`: a loop of the bandwidth BW
steers by 2π·BW times the error (R49). DESIGN CHOICE: the spec does not give the loop's law; within ±16 the value is
open. -/
def Block.loopAim (s : Block) (f : Nat) (err : Int) (k : Nat) : Nat :=
  ((f : Int) - roundDiv (6283185 * s.loopBw * err) 10000000 + ((Config.freeNat k % 33 : Nat) : Int) - 16).toNat

/-- A usable reference of frequency `f` that came at local count `t` and shows a phase error, from the source `src` (R48,
R49). -/
def Block.mainsRef (s : Block) (err : Int) (f t src : Nat) : Block :=
  let m := s.time.mains
  let st := s.mainsState
  let cyc := (s.mainsAt t).toNat / 65536
  let good := if s.mainsIdle ∨ !errSmall err then 0 else if m.goodCyc = cyc then m.good else m.good + 1
  let (k, s) := s.draw
  let s := (s.slewFrom s.mainsFreq (s.loopAim f err k)).put Reg.MAINS_ERR_ERR (toBits 16 err)
  let st' := if st = 0 ∨ st = 3 then 1 else if st = 1 ∧ 8 ≤ good then 2 else st
  let s := s.setMains { s.time.mains with
    held := s.mainsFreq, lastRefAt := some t, missing := 0, badRange := false, good := good, goodCyc := cyc }
  (s.enterMains st').put Reg.MAINS_STATUS_IN_USE src

/-- The selected source delivers a reference outside 42–68 Hz: MAINS_RANGE is raised as it begins to (R48). -/
def Block.mainsOutOfRange (s : Block) : Block :=
  if s.time.mains.badRange then s
  else ((s.setMains { s.time.mains with badRange := true }).put Reg.MAINS_STATUS_RANGE_SEEN 1).raise 829 s.mainsState

/-- A signed phase error from an internal angle. -/
def angleErr (a : Nat) : Int := signed 16 a

/-- The count of a stretch moved forward by half a cycle. -/
def MainsSeg.half (g : MainsSeg) : MainsSeg := { g with cnt := g.cnt + 32768 }

/-- A half-cycle shift: the count moves forward by exactly 32,768 units, and with it the half cycle selected (R46, R47). -/
def Block.halfShift (s : Block) : Block :=
  let before := s.mainsNow
  let m := s.time.mains
  let s := s.setMains { m with
    seg := m.seg.half, past := m.past.map MainsSeg.half, shifts := m.shifts + 1, agree := 0, disagree := 0
    half := m.half.map (fun h => (h.1, (h.2.1 + 32768) % 65536, h.2.2)) }
  let s := s.markLate 5 before s.mainsNow
  ((s.put Reg.MAINS_STATUS_HALF_AMBIG 0).put Reg.MAINS_STATUS_HALF_SHIFT_SEEN 1).raise 830 s.mainsState

/-- The half-cycle test of one usable edge in TONE_PIN mode (R46). -/
def Block.halfTest (s : Block) : Block :=
  let a := s.mainsAngle s.now
  let m := s.time.mains
  if a ≤ 8192 ∨ 65536 - 8192 ≤ a then
    let s := s.setMains { m with agree := m.agree + 1, disagree := 0 }
    if 4 ≤ m.agree + 1 then s.put Reg.MAINS_STATUS_HALF_AMBIG 0 else s
  else if 32768 - 8192 ≤ a ∧ a ≤ 32768 + 8192 then
    if 4 ≤ m.disagree + 1 then s.halfShift
    else s.setMains { m with agree := 0, disagree := m.disagree + 1 }
  else s.setMains { m with agree := 0, disagree := 0 }

/-- MAINS_CTL.SRC: 0 OFF, 1 PIN, 2 TONE, 3 TONE_PIN. -/
def Block.mainsSrc (s : Block) : Nat := s.get Reg.MAINS_CTL_SRC

/-- With SRC = OFF the timebase runs free at the nominal frequency (R42). -/
def Block.mainsOff (s : Block) : Block :=
  let s := s.setMains { s.time.mains with best := none, half := none }
  ((s.setFreq s.nominal).enterMains 0).put Reg.MAINS_STATUS_IN_USE 0

/-- What came at local count `t` came within `n` quarter cycles before now. -/
def Block.within (s : Block) (t : Option Nat) (n : Nat) : Bool :=
  match t with
  | some t => decide (4 * (s.now - t) * s.mainsFreq ≤ n * 65536 * 10 ^ 9)
  | none => false

/-- TONE reports are usable at present: the last usable one is no more than 1.25 periods old (R42, R48). -/
def Block.toneLive (s : Block) : Bool := s.within s.time.mains.toneAt 5

/-- The angle that a report gives at its instant, on the half cycle selected: of the two that its phase allows, the one that
follows the last report, or, as ACQUIRING is entered, the one nearer to the internal angle (R45, R46). -/
def Block.toneAngle (s : Block) (r : ToneRef) : Nat :=
  let want := match s.time.mains.half with
    | some (t, a, f) => if s.mainsIdle then s.mainsAngle r.at' else (a + (r.at' - t) * f / 10 ^ 9) % 65536
    | none => s.mainsAngle r.at'
  let a0 := r.phase / 2
  let a1 := a0 + 32768
  if (angleErr (want + 65536 - a0)).natAbs ≤ (angleErr (want + 65536 - a1)).natAbs then a0 else a1

/-- The mains timebase tracks a report (R45, R46). -/
def Block.trackTone (s : Block) (r : ToneRef) : Block :=
  let a := s.toneAngle r
  let fresh := s.mainsIdle
  let err := angleErr (s.mainsAngle r.at' + 65536 - a)
  let s := s.setMains { s.time.mains with half := some (r.at', a, r.freq) }
  let s := s.mainsRef err r.freq r.came 2
  if fresh ∨ s.mainsSrc = 2 then s.put Reg.MAINS_STATUS_HALF_AMBIG 1 else s

/-- TONE_ANY: the report of highest confidence is taken when its cycle is over (R44). -/
def Block.takeBest (s : Block) : Block :=
  match s.time.mains.best with
  | some r =>
    if (s.mainsAt r.came).toNat / 65536 = (s.mainsAt s.now).toNat / 65536 then s
    else (s.setMains { s.time.mains with best := none }).trackTone r
  | none => s

/-- A usable report: tracked at once, or, with TONE_ANY, held as its cycle's best if it is (R44). -/
def Block.usableTone (s : Block) (r : ToneRef) : Block :=
  let s := s.takeBest
  let s := s.setMains { s.time.mains with toneAt := some s.now }
  if !s.flag Reg.MAINS_CTL_TONE_ANY then (s.setMains { s.time.mains with best := none }).trackTone r
  else match s.time.mains.best with
    | some q => if q.conf < r.conf then s.setMains { s.time.mains with best := some r } else s
    | none => s.setMains { s.time.mains with best := some r }

/-- A usable edge `dt` ns after the edge before it (R42, R46, R48). -/
def Block.usableEdge (s : Block) (dt : Nat) : Block :=
  let s := s.setMains { s.time.mains with pinAt := some s.now }
  let track (s : Block) : Block := s.mainsRef (angleErr (s.mainsAngle s.now)) (65536 * 10 ^ 9 / dt) s.now 1
  match s.mainsSrc with
  | 0 => s.mainsOff
  | 1 => track (s.put Reg.MAINS_STATUS_HALF_AMBIG 0)
  | 2 => s
  | _ =>
    let fresh := s.mainsIdle
    let s := s.halfTest
    if s.toneLive then s
    else if fresh then (track s).put Reg.MAINS_STATUS_HALF_AMBIG 1
    else track s

/-- An edge that is not usable: its interval is outside 42–68 Hz (R43, R46, R48). -/
def Block.badEdge (s : Block) : Block :=
  match s.mainsSrc with
  | 0 => s.mainsOff
  | 1 => s.mainsOutOfRange
  | 2 => s
  | _ =>
    let s := s.setMains { s.time.mains with agree := 0, disagree := 0 }
    if s.toneLive then s else s.mainsOutOfRange

/-- An interval between edges of 42–68 Hz (R43). -/
def edgeUsable (dt : Nat) : Bool := decide (42 * dt ≤ 10 ^ 9) && decide (10 ^ 9 ≤ 68 * dt)

/-- MAINS_EDGE: a reference edge on the MAINS input (R43, R46, R48). It is usable when the interval since the previous
edge corresponds to 42–68 Hz. -/
def doMainsEdge (s : Block) : Block :=
  let s := s.takeBest
  let prev := s.time.mains.edgeAt
  let s := s.setMains { s.time.mains with edgeAt := some s.now }
  match prev with
  | none => if s.mainsSrc = 0 then s.mainsOff else s
  | some t => if edgeUsable (s.now - t) then s.usableEdge (s.now - t) else s.badEdge

/-- A report that passes the checks of R369: it is usable by R44, or not. -/
def Block.toneReport (s : Block) (w : Nat) (pl : List (BitVec 64)) : Block :=
  let h := pl.headD 0
  let freq := bitsOf h 63 32
  let tick := BitVec.ofNat 32 (bitsOf (pl.getD 1 0) 63 32)
  let r : ToneRef := {
    freq := freq, phase := bitsOf h 31 16, at' := s.lineToLocal w (nearest64 (s.lineNow w) tick)
    conf := bitsOf h 15 8, came := s.now }
  let inRange := decide (42 * 65536 ≤ freq) && decide (freq ≤ 68 * 65536)
  let wOk := s.flag Reg.MAINS_CTL_TONE_ANY || w == s.get Reg.MAINS_CTL_TONE_W
  let usable := wOk && decide (s.get Reg.MAINS_CTL_TONE_MIN ≤ r.conf) && inRange && s.lineState w == LOCKED
  match s.mainsSrc with
  | 0 => (s.when usable (fun s => s.setMains { s.time.mains with toneAt := some s.now })).mainsOff
  | 1 => s.when usable (fun s => s.setMains { s.time.mains with toneAt := some s.now })
  | _ => if usable then s.usableTone r else if wOk && !inRange then s.mainsOutOfRange else s

/-- TONE_PACKET (R44–R46, Table 14.6). The tone has twice the mains frequency, so half its phase is the mains angle on
one of the two half cycles. -/
def doTonePacket (ws : List (BitVec 64)) (valid : Bool) (s : Block) : Block :=
  match s.takePacket 3 ws valid (fun ch pl => decide (ch ≤ 3) && pl.length == 2) with
  | (none, s) => s
  | (some (w, pl), s) => s.toneReport w pl

/-- A cycle is missing: no usable reference has come within 1.25 predicted periods of the previous one, itself perhaps
missing (R48). -/
def Block.cycleDue (s : Block) : Bool :=
  let m := s.time.mains
  decide ((4 * m.missing + 5) * 65536 * 10 ^ 9 ≤ 4 * (s.now - m.lastRefAt.getD 0) * s.mainsFreq)

/-- A missing cycle. The third in a row brings HOLDOVER, at the frequency of the last usable reference (R48). -/
def Block.missCycle (s : Block) : Block :=
  let m := s.time.mains
  let s := s.setMains { m with missing := m.missing + 1, good := 0, agree := 0, disagree := 0 }
  if 3 ≤ m.missing + 1 ∧ s.mainsState ≠ 3 then
    ((((s.slewFrom s.mainsFreq m.held).enterMains 3).put Reg.MAINS_STATUS_IN_USE 0).put Reg.MAINS_STATUS_LOST_SEEN 1).raise 828 3
  else s

/-- MAINS_CYCLE_MISSING: no usable reference within 1.25 predicted periods (R48). -/
def doMainsCycleMissing (s : Block) : Block :=
  if s.mainsSrc = 0 then s.mainsOff
  else
    let s := s.takeBest
    if s.mainsState = 0 ∨ !s.cycleDue then s else s.missCycle

/-- A write of MAINS_CTL (R42, Table 2.12): SRC of 4–7 and BW of 3 are ignored, field by field. The settings act from
the next reference; a timebase that is FREE runs at the new NOM. -/
def Block.writeMainsCtl (s : Block) (v : Word) : Block :=
  let old := s.reg Reg.MAINS_CTL
  let v := if 3 < bitsOf v 2 0 then withBits v 2 0 (bitsOf old 2 0) else v
  let v := if bitsOf v 6 5 = 3 then withBits v 6 5 (bitsOf old 6 5) else v
  let s := s.writeFields Reg.MAINS_CTL v
  if s.mainsState = 0 then s.setFreq s.nominal else s

/-- MAINS_CTL_WRITE. -/
def doMainsCtlWrite (v : Word) (s : Block) : Block :=
  if s.writable Reg.MAINS_CTL then s.writeMainsCtl v else s

/-- A write of MAINS_PHASE_OFS moves the reported count by the new OFS less the old one (R47); it is a jump (R54). -/
def Block.writePhaseOfs (s : Block) (v : Word) : Block :=
  let before := s.mainsNow
  let s := s.writeFields Reg.MAINS_PHASE_OFS v
  s.markLate 5 before s.mainsNow

/-- MAINS_PHASE_OFS_WRITE. -/
def doMainsPhaseOfsWrite (v : Word) (s : Block) : Block :=
  if s.writable Reg.MAINS_PHASE_OFS then s.writePhaseOfs v else s

/-- MAINS_STATUS as it reads: TONE_OK and PIN_OK show what came in the last cycle (Table 2.13). -/
def Block.mainsStatus (s : Block) : Word :=
  withBits (withBits (s.reg Reg.MAINS_STATUS) 7 7 (s.within s.time.mains.toneAt 4).toNat) 6 6
    (s.within s.time.mains.pinAt 4).toNat

/-! Snapshots and the values of the timebases. -/

/-- The value of a timebase by its code (Table 2.1); codes 6 and 7 are reserved. -/
def Block.tbNow (s : Block) (tb : Nat) : Count :=
  match tb with
  | 0 => s.localCount
  | 1 => s.lineNow 0
  | 2 => s.lineNow 1
  | 3 => s.lineNow 2
  | 4 => s.lineNow 3
  | 5 => s.mainsNow
  | _ => 0

/-- The five states as TB_STATUS and SNAP_STATE hold them: LINE`w` in bits [3w+2:3w], MAINS in [14:12]. -/
def Block.tbStates (s : Block) : Nat :=
  s.lineState 0 + 8 * s.lineState 1 + 64 * s.lineState 2 + 512 * s.lineState 3 + 4096 * s.mainsState

/-- The snapshot of R53, in one core cycle. -/
def Block.snap (s : Block) : Block :=
  let s' := ((s.setPair Reg.SNAP_LOCAL_LO Reg.SNAP_LOCAL_HI s.localCount).setPair Reg.SNAP_MAINS_LO Reg.SNAP_MAINS_HI
    s.mainsNow).setReg Reg.SNAP_STATE (BitVec.ofNat 32 s.tbStates)
  s'.each (List.range 4) (fun x w => x.setPair (Reg.SNAP_LINE_LO w) (Reg.SNAP_LINE_HI w) (s.lineNow w))

/-- A write of TB_CTL: 1 to SNAP takes a snapshot. -/
def Block.writeTbCtl (s : Block) (v : Word) : Block := if bitsOf v 0 0 = 1 then s.snap else s

/-- SNAP: the write of 1 to TB_CTL.SNAP. -/
def doSnap (s : Block) : Block := if s.writable Reg.TB_CTL then s.snap else s

/-- The local counter advances by one LOCAL cycle: 1 ns, or 32,000 ns at an AON cycle while it counts coarsely
(R50, R51). Coarse counting is a jump. -/
def Block.tick (s : Block) : Block :=
  if s.coarse then
    let c := s.localCount
    let s := (s.withLocalCount (c + 32000))
    let s := s.when s.coreOn (·.put Reg.TB_STATUS_COARSE_SEEN 1)
    s.markLate 0 c s.localCount
  else (s.withLocalCount (s.localCount + 1))

/-! The commands of this file, with the operands that the command table's rows take here. -/

def execLineBlock (blk : BitVec 64) (s : State) : Out := .next (s.withBlock (doLineBlock blk s.toBlock))
def execMarkerMissing (w : Fin 4) (s : State) : Out := .next (s.withBlock (doMarkerMissing w s.toBlock))
def execLineCtlWrite (w : Fin 4) (v : Word) (s : State) : Out := .next (s.withBlock (doLineCtlWrite w v s.toBlock))
def execQwPacket (ws : List (BitVec 64)) (valid : Bool) (s : State) : Out := .next (s.withBlock (doQwPacket ws valid s.toBlock))
def execTonePacket (ws : List (BitVec 64)) (valid : Bool) (s : State) : Out := .next (s.withBlock (doTonePacket ws valid s.toBlock))
def execMainsEdge (s : State) : Out := .next (s.withBlock (doMainsEdge s.toBlock))
def execMainsCycleMissing (s : State) : Out := .next (s.withBlock (doMainsCycleMissing s.toBlock))
def execMainsCtlWrite (v : Word) (s : State) : Out := .next (s.withBlock (doMainsCtlWrite v s.toBlock))
def execMainsPhaseOfsWrite (v : Word) (s : State) : Out := .next (s.withBlock (doMainsPhaseOfsWrite v s.toBlock))
def execSnap (s : State) : Out := .next (s.withBlock (doSnap s.toBlock))

end Sys2Proof.Machine
end

