-- ==== Sys2Proof/Machine/Replies.lean ====
section
/-! DEFINITION. Packets and their replies: starting a packet, making a reply ready, refusals (R403–R411). Host 0 is the
line-card host, host 1 the package host. -/

namespace Sys2Proof.Machine

/-! Fields of a packet (Table 16.1). -/

def Packet.header (p : Packet) : Word := p.words.headD 0
def Packet.opcode (p : Packet) : Nat := bitsOf p.header 31 24
def Packet.tag (p : Packet) : Nat := bitsOf p.header 23 16
def Packet.len (p : Packet) : Nat := bitsOf p.header 15 8
def Packet.seq (p : Packet) : Bool := bitsOf p.header 0 0 == 1

/-- Word `i` of the packet; 0 past its end. -/
def Packet.word (p : Packet) (i : Nat) : Word := p.words.getD i 0

/-- A packet as it is posted. -/
def Packet.post (words : List Word) (order : Nat) (busy : Bool) : Packet :=
  { words := words, order := order, busy := busy, drop := false, ackAt := 0, total := 0, granted := 0,
    finished := 0, results := [], clamped := 0, notSent := 0, failed := 0, firstBad := none }

/-! Opcodes: which exist, which run in the firmware lane, which are long (Tables 16.5–16.16). -/

def fwOpcode (op : Nat) : Bool :=
  [0x04, 0x05, 0x06, 0x30, 0x31, 0x32, 0x33, 0x34, 0x35, 0x40, 0x41, 0x42, 0x43, 0x44, 0x50, 0x51, 0x52, 0x53, 0x60, 0x61,
    0x62, 0x63, 0x71, 0x80].elem op

def hwOpcode (op : Nat) : Bool :=
  [0x00, 0x01, 0x02, 0x03, 0x10, 0x11, 0x20, 0x21, 0x22, 0x23, 0x24, 0x25, 0x36, 0x70, 0x90, 0x91, 0x92, 0x93, 0xA0, 0xA1,
    0xA2, 0xA3, 0xF0, 0xF1].elem op

def longOpcode (op : Nat) : Bool := [0x40, 0x41, 0x42, 0x62, 0x63, 0x90].elem op

/-! The host's outstanding packets (R405, R406). -/

/-- Packets of a host that have no final reply yet. -/
def HostSt.open (v : HostSt) : List Packet := v.posted ++ v.hw ++ v.fw ++ v.running

/-- Replies that have not been fetched: the ready ones, and the one that a PKT_FETCH has selected (R392). -/
def HostSt.held (v : HostSt) : List Reply := v.sel.toList ++ v.ready

/-- Tag `t` is busy (R405): a packet carries it, or its final reply has not been fetched. A TAG_BUSY answer holds none. -/
def HostSt.tagBusy (v : HostSt) (t : Nat) : Bool :=
  v.open.any (fun p => !p.busy && p.tag == t) || v.held.any (fun r => r.final && !r.echo && r.tag == t)

/-- Outstanding packets (R406). -/
def HostSt.outstanding (v : HostSt) : Nat := v.open.length + (v.held.filter (·.final)).length

/-- A running packet of the host, by tag. -/
def HostSt.runningTag (v : HostSt) (t : Nat) : Option Packet := v.running.find? (fun p => p.tag == t)

/-- The running packet with tag `t` becomes `p`. -/
def Block.setRunning (s : Block) (h t : Nat) (p : Packet) : Block :=
  let v := s.host h
  s.setHost h { v with running := v.running.map (fun q => if q.tag = t then p else q) }

/-! Replies (R404, Table 16.2). -/

/-- The two header words and the data of a reply. -/
def replyWords (header : Word) (status : Nat) (interim echo ue : Bool) (detail : Nat) (data : List Word) : List Word :=
  BitVec.ofNat 32 (bitsOf header 31 16 * 65536 + (2 + data.length) % 256 * 256 + status % 256) ::
    BitVec.ofNat 32 (interim.toNat * 2 ^ 31 + echo.toNat * 2 ^ 30 + ue.toNat * 2 ^ 29 + detail % 2 ^ 24) :: data

/-- A reply of host `h` becomes ready; it is a new cause of attention (R398). -/
def Block.makeReady (s : Block) (h tag : Nat) (words : List Word) (final echo : Bool) : Block :=
  let held := s.attention h
  let v := s.host h
  let s := s.setHost h { v with ready := v.ready ++ [⟨tag, words, final, echo, s.cmd.order⟩] }
  let s := (s.withCmd { s.cmd with order := s.cmd.order + 1 })
  let s := if final ∧ bitsOf (words.headD 0) 7 0 ≠ 0 then s.setReg (Reg.CMD_LAST h) (words.headD 0) else s
  s.pulseIf h (held && s.flag (Reg.SKP_ATTN_CFG_RPL_EN h))

/-- The final reply of packet `p`. -/
def Block.finalReply (s : Block) (h : Nat) (p : Packet) (status detail : Nat) (ue : Bool) (data : List Word) : Block :=
  let s := if status = 0x21 then (s.bump (Reg.CMD_CNT_TIMEOUT h) 1).put Reg.CMD_STATUS_TIMEOUT_SEEN 1 else s
  s.makeReady h p.tag (replyWords p.header status false false ue detail data) true false

/-- The running packet of host `h` with tag `t` completes. A reply that a DISCARD has named is discarded (R413); a packet
that was lost at a reset has none (R432). -/
def Block.finish (s : Block) (h t status detail : Nat) (ue : Bool) (data : List Word) : Block :=
  let v := s.host h
  match v.runningTag t with
  | none => s
  | some p =>
    let s := s.setHost h { v with running := v.running.filter (fun q => q.tag != t) }
    if p.drop then s else s.finalReply h p status detail ue data

/-- A packet completes with a status and data, DETAIL 0. -/
def Block.finishPacket (s : Block) (h t status : Nat) (data : List Word) : Block := s.finish h t status 0 false data

/-! Starting packets (R407, R408). -/

/-- A packet with SEQ = 1 starts only when every earlier packet of its host has its final reply ready (R408). -/
def HostSt.seqOk (v : HostSt) (p : Packet) : Bool := !p.seq || v.open.all (fun q => decide (p.order ≤ q.order))

/-- The oldest packet of host `h`'s hardware lane starts, when its opcode is `op`. -/
def Block.startHw (s : Block) (h op : Nat) : Option (Packet × Block) :=
  let v := s.host h
  match v.hw with
  | p :: rest =>
    if p.opcode = op ∧ v.seqOk p ∧ s.interpUp then some (p, s.setHost h { v with hw := rest, running := v.running ++ [p] })
    else none
  | [] => none

/-- Firmware runs a packet that is not long: it takes no other meanwhile (R407). -/
def Block.fwBusy (s : Block) : Bool :=
  [0, 1].any (fun h => (s.host h).running.any (fun p => fwOpcode p.opcode && !longOpcode p.opcode))

/-- Host `h` has a packet that firmware may take now. -/
def Block.fwWaits (s : Block) (h : Nat) : Bool :=
  match (s.host h).fw with
  | p :: _ => (s.host h).seqOk p
  | [] => false

/-- Firmware takes host `h`'s oldest packet of its lane, when its opcode is `op`; it takes the two hosts' packets
alternately (R407). -/
def Block.startFw (s : Block) (h op : Nat) : Option (Packet × Block) :=
  let v := s.host h
  match v.fw with
  | p :: rest =>
    if p.opcode = op ∧ v.seqOk p ∧ s.fwUp ∧ s.interpUp ∧ !s.fwBusy ∧ (s.cmd.lastFw ≠ h ∨ !s.fwWaits (1 - h)) then
      let s := s.setHost h { v with fw := rest, running := v.running ++ [p] }
      some (p, (s.withCmd { s.cmd with lastFw := h }))
    else none
  | [] => none

/-- The hardware-lane packet `op` of host `h` starts and is performed by `f`. -/
def Block.runHw (s : Block) (h op : Nat) (f : Block → Packet → Block) : Block :=
  match s.startHw h op with
  | some (p, s) => f s p
  | none => s

/-- Firmware takes the packet `op` of host `h` and performs it by `f`. -/
def Block.runFw (s : Block) (h op : Nat) (f : Block → Packet → Block) : Block :=
  match s.startFw h op with
  | some (p, s) => f s p
  | none => s

/-- FRM_NODES packets of a unit run (R431): `kind` 0 spindle, 1 engine. A load of the unit is not complete before they
are. -/
def Block.frmNodesRunning (s : Block) (kind unit : Nat) : Bool :=
  [0, 1].any (fun h => (s.host h).running.any (fun p =>
    p.opcode == 0xA3 && bitsOf (p.word 1) 0 0 == kind && bitsOf (p.word 1) 6 1 == unit))

/-- A number as two words, low word first. -/
def pairWords (v : Count) : List Word := [v.extractLsb' 0 32, v.extractLsb' 32 32]

end Sys2Proof.Machine
end

