-- ==== Sys2Proof/Machine/Trunk.lean ====
section
/-! DEFINITION. Node addresses, kinds, hubs and the requesters' queues (R192, R193, R225, R231): what the Sett, the
arbiters and every requester share. A hub is named by trunk × 64 + hub. -/

namespace Sys2Proof.Machine

/-! Addresses (R192, Table 8.2). -/

def nodeTrunk (a : Nat) : Nat := a / 2 ^ 20 % 16
def nodeHub (a : Nat) : Nat := a / 2 ^ 14 % 64
def nodeLeaf (a : Nat) : Nat := a % 2 ^ 14
def nodeAddr (t h l : Nat) : Nat := 2 ^ 20 * t + 2 ^ 14 * h + l

/-- The hubs of a trunk. -/
def hubCount (t : Nat) : Nat := if t < 8 then 32 else if t < 10 then 64 else if t < 12 then 2 else 0

/-- A trunk and hub exist. -/
def hubExists (t h : Nat) : Bool := decide (h < hubCount t)

/-- The partner die of a trunk (Table 8.1). -/
def dieOf (t : Nat) : Nat := if t < 4 then 0 else if t < 8 then 1 else if t = 8 then 2 else if t = 9 then 3 else 4

/-- The trunks of a partner die. -/
def dieTrunks (d : Nat) : List Nat := (List.range 12).filter (fun t => dieOf t == d)

/-- The hubs of a trunk, as trunk × 64 + hub. -/
def trunkHubs (t : Nat) : List Nat := (List.range (hubCount t)).map (fun h => 64 * t + h)

/-- The leaf has a sense tap on the hub (Table 8.2). -/
def hasTap (t l : Nat) : Bool :=
  if t < 8 then decide (l % 64 < 4) else if t < 10 then decide (l % 128 = 0) else decide (l % 4 = 0)

/-- The leaf exists on no hub of the trunk: nodes 48–63 of a receive slice (Table 8.2). -/
def leafAbsent (t l : Nat) : Bool := decide (t < 8) && decide (48 ≤ l % 64)

/-- The kind of leaf `l` in the node map of the package, items 0x0700–0x070B (R193): 63 where Table 8.2 has no node, and
elsewhere a kind, the first from the map's open value on whose SENSE is as Table 8.2 gives the leaf its tap. -/
def mapKindOf (t l : Nat) : Nat :=
  if leafAbsent t l then 63
  else
    let r := (Config.mapKind (16384 * t + l)).toNat % 63
    (((List.range 63).map (fun i => (r + i) % 63)).find? (fun d => (bitsOf (Config.mapDef (64 * t + d)) 17 17 == 1) == hasTap t l)).getD r

/-- The kind of a leaf by the hub's own map (R193, R200): ABSENT where Table 8.2 has no node. -/
def ownKind (t l : Nat) : Nat := if leafAbsent t l then 63 else (Config.hubKind (16384 * t + l)).toNat

/-- The code that its hub gives the node at address `a` at power-up: the DEFAULT of its kind (R193). -/
def nodeInit (a : Nat) : BitVec 12 := (Config.mapDef (64 * nodeTrunk a + ownKind (nodeTrunk a) (nodeLeaf a))).extractLsb' 0 12

/-! Collections of the Sett. -/

def Block.hubRec (s : Block) (k : Nat) : HubRec := Bank.get (fun _ => HubRec.reset) s.sett.recs k
def Block.setHubRec (s : Block) (k : Nat) (v : HubRec) : Block :=
  (s.withSett { s.sett with recs := Bank.set (fun _ => HubRec.reset) s.sett.recs k v })

def Block.hub (s : Block) (k : Nat) : Hub := Bank.get (fun _ => Hub.reset) s.sett.hubs k
def Block.setHub (s : Block) (k : Nat) (v : Hub) : Block :=
  (s.withSett { s.sett with hubs := Bank.set (fun _ => Hub.reset) s.sett.hubs k v })

def Block.step' (s : Block) (i : Nat) : Step := Bank.get (fun _ => Step.reset) s.sett.steps i
def Block.setStep (s : Block) (i : Nat) (v : Step) : Block :=
  (s.withSett { s.sett with steps := Bank.set (fun _ => Step.reset) s.sett.steps i v })

def Block.trunk (s : Block) (t : Nat) : Trunk := Bank.get (fun _ => Trunk.reset) s.sett.trunks t
def Block.setTrunk (s : Block) (t : Nat) (v : Trunk) : Block :=
  (s.withSett { s.sett with trunks := Bank.set (fun _ => Trunk.reset) s.sett.trunks t v })

def Block.tagSt (s : Block) (k i : Nat) : TagSt := Bank.get (fun _ => TagSt.reset) s.sett.tags (16 * k + i)
def Block.setTag (s : Block) (k i : Nat) (v : TagSt) : Block :=
  (s.withSett { s.sett with tags := Bank.set (fun _ => TagSt.reset) s.sett.tags (16 * k + i) v })

/-- What the node at address `a` holds. A hub gives a node its kind's default at power-up (R193). -/
def Block.shadowOf (s : Block) (a : Nat) : BitVec 12 := Bank.get nodeInit s.sett.shadow a
def Block.activeOf (s : Block) (a : Nat) : BitVec 12 := Bank.get nodeInit s.sett.active a
def Block.setShadow (s : Block) (a : Nat) (v : BitVec 12) : Block :=
  (s.withSett { s.sett with shadow := Bank.set nodeInit s.sett.shadow a v })
def Block.setActive (s : Block) (a : Nat) (v : BitVec 12) : Block :=
  (s.withSett { s.sett with active := Bank.set nodeInit s.sett.active a v })

/-! Kinds (R193). Kind 63 is ABSENT. -/

def Block.kindDef (s : Block) (t k : Nat) : Word := Bank.get (fun _ => 0) s.sett.kdef (64 * t + k)
def Block.kindLim (s : Block) (t k : Nat) : Word := Bank.get (fun _ => 0) s.sett.klim (64 * t + k)
def Block.kindAt (s : Block) (t l : Nat) : Nat := (Bank.get (fun _ => 63#6) s.sett.kmap (16384 * t + l)).toNat

def Block.kindSigned (s : Block) (t k : Nat) : Bool := bitsOf (s.kindDef t k) 16 16 == 1
def Block.kindSense (s : Block) (t k : Nat) : Bool := bitsOf (s.kindDef t k) 17 17 == 1

/-- A 12-bit code as its kind reads it. -/
def codeVal (isSigned : Bool) (v : Nat) : Int := if isSigned then signed 12 v else (v % 4096 : Nat)

/-! Commands on the forward path (R198, R513). -/

/-- A command word (Table 8.5). -/
def commandWord (op hub leaf tag value : Nat) : BitVec 48 :=
  let w := op % 16 * 2 ^ 44 + hub % 64 * 2 ^ 38 + leaf % 2 ^ 14 * 2 ^ 24 + tag % 64 * 2 ^ 18 + value % 4096 * 2 ^ 6
  BitVec.ofNat 48 (w + crc6 w)

/-- Fields of a command word (Table 8.5). -/
def wordOp (w : BitVec 48) : Nat := bitsOf w 47 44
def wordHub (w : BitVec 48) : Nat := bitsOf w 43 38
def wordLeaf (w : BitVec 48) : Nat := bitsOf w 37 24
def wordTag (w : BitVec 48) : Nat := bitsOf w 23 18
def wordVal (w : BitVec 48) : Nat := bitsOf w 17 6

/-- Position `p` of trunk `t`'s frame carries the command `c`: a hub performs it 4 bit times after its last bit (Table 8.3,
R198). An IDLE asks nothing of any hub. -/
def Block.send (s : Block) (t p : Nat) (c : BitVec 48) : Block :=
  let u := s.trunk t
  s.setTrunk t { u with
    sent := c, wire := if wordOp c = 0 then u.wire else u.wire ++ [{ word := c, due := u.frame + 84 + 48 * p, bad := [] }] }

/-! Queues of the requesters (R225, R231). -/

def Block.queue (s : Block) (t r : Nat) : List Txn := Bank.get (fun _ => []) s.sett.queues (32 * t + r)
def Block.setQueue (s : Block) (t r : Nat) (l : List Txn) : Block :=
  (s.withSett { s.sett with queues := Bank.set (fun _ => []) s.sett.queues (32 * t + r) l })

/-- A transaction joins its requester's queue on its trunk. A burst of an engine begins when it held none there; COUNT
then starts from 0 (R231, Table 10.17). -/
def Block.pushTxn (s : Block) (x : Txn) : Block :=
  let q := s.queue x.trunk x.req
  let s := s.setQueue x.trunk x.req (q ++ [x])
  if 5 ≤ x.req ∧ x.req < 21 ∧ q = [] then s.setReg (Reg.FX_PROG (x.req - 5) x.trunk) 0x80000000#32 else s

/-- Transactions that requester `r` holds on every trunk. -/
def Block.queued (s : Block) (r : Nat) : Nat := ((List.range 12).map (fun t => (s.queue t r).length)).foldl (· + ·) 0

/-- The progress of the restore requester's burst on trunk `t`, a segment of one hub (R231). -/
def Block.restoreProg (s : Block) (t : Nat) : Option (Nat × Nat) := Bank.get (fun _ => none) s.whorl.prog t
def Block.setRestoreProg (s : Block) (t : Nat) (v : Option (Nat × Nat)) : Block :=
  s.withWhorl { s.whorl with prog := Bank.set (fun _ => none) s.whorl.prog t v }

/-- The queue of requester `r` on trunk `t` loses its head, or all: an engine's burst ends when it is empty, and so does the
restore requester's. -/
def Block.endBurst (s : Block) (t r : Nat) : Block :=
  if r = 1 ∧ s.queue t 1 = [] ∧ s.restoreProg t ≠ none then s.setRestoreProg t none
  else if 5 ≤ r ∧ r < 21 ∧ s.queue t r = [] then s.put (Reg.FX_PROG_ACTIVE (r - 5) t) 0 else s

/-- A mask discards the queue of requester `r` on every trunk without completion (R226); the transactions that an engine
loses count as DISCARDED. -/
def Block.dropQueues (s : Block) (r : Nat) : Block :=
  s.each (List.range 12) (fun s t =>
    let q := s.queue t r
    if q = [] then s
    else
      let s := ((s.setQueue t r []).bump (Reg.WH_CNT_MASK_DROPS t) 1).endBurst t r
      if 5 ≤ r ∧ r < 21 then s.bump (Reg.FX_NCNT_DISCARDED (r - 5)) q.length else s)

/-- A plain transaction of requester `r` to the node at address `a`. -/
def Txn.to (r op a v : Nat) (o : TxnOwner) : Txn :=
  { req := r, op := op, trunk := nodeTrunk a, hub := nodeHub a, leaf := nodeLeaf a, val := v, owner := o, issues := 0 }

/-- The operation has a reply (Table 8.6). -/
def hasReply (op : Nat) : Bool := op == 3 || op == 4 || op == 8 || op == 10

end Sys2Proof.Machine
end

