-- ==== Sys2Proof/Machine/Front.lean ====
section
/-! DEFINITION. Chapter 3: sources, crosspoint lines, open-wire pre-checks, overrange and references. A converter is
named by its spindle: 0–31 are F0–F31, 32–47 are S0–S15. -/

namespace Sys2Proof.Machine

/-! Spindles and their activities. -/

/-- Spindle `n` beyond its registers. -/
def Block.sp (s : Block) (n : Nat) : Spindle := Bank.get (fun _ => Spindle.reset) s.acq.spindles n

/-- Spindle `n` becomes `p`. -/
def Block.setSp (s : Block) (n : Nat) (p : Spindle) : Block :=
  (s.withAcq { s.acq with spindles := Bank.set (fun _ => Spindle.reset) s.acq.spindles n p })

/-- The activity of converter `n` becomes `r`. -/
def Block.setAct (s : Block) (n : Nat) (r : Option Run) : Block := s.setSp n { s.sp n with act := r }

/-- The converter is a Fine converter. -/
def isFine (n : Nat) : Bool := decide (n < 32)

/-- The quad or group of a converter as REF_SEL numbers it: 0–7 Fine quads, 8–11 Swift groups (R85). -/
def refUnit (n : Nat) : Nat := if n < 32 then n / 4 else 8 + (n - 32) / 4

/-- The power domain of a quad or group (Table 18.1). -/
def unitDomain (u : Nat) : Nat := 12 + u

/-- Quad or group `u` is powered, and no clock fault treats it as powered down (R466). -/
def Block.unitUp (s : Block) (u : Nat) : Bool :=
  s.domainOn (unitDomain u) &&
    (if u < 8 then
      if s.flag (Reg.FINE_QCLK_ACTIVE u) then !Bank.get (fun _ => false) s.power.clkEffect 3
      else !Bank.get (fun _ => false) s.power.clkEffect 2
    else !Bank.get (fun _ => false) s.power.clkEffect 3)

/-- The first of a converter's four event sources (Table 3.13). -/
def convSource (n : Nat) : Nat := if n < 32 then 256 + 4 * n else 384 + 4 * (n - 32)

/-- The spindles, in order. -/
def spindleList : List Nat := List.range 48

/-! Input codes (R63). -/

/-- The source number of an input code. -/
def codeSource (c : Nat) : Nat := c % 2048

/-- The code selects a differential pair. -/
def codeDiff (c : Nat) : Bool := bitOf c 11

/-- The code names an AIN, TS or IC source, reached through a crosspoint line (Table 3.1). -/
def onLine (c : Nat) : Bool := decide (1152 ≤ codeSource c) && decide (codeSource c < 1260)

/-- DIFF is 0, or the source is an AIN with an even number (R63). -/
def diffOk (c : Nat) : Bool :=
  !codeDiff c || (decide (1152 ≤ codeSource c) && decide (codeSource c < 1216) && codeSource c % 2 == 0)

/-- The code names a PT or FT source on the mux of converter `n` (R64). -/
def onOwnMux (n c : Nat) : Bool :=
  (isFine n && decide (codeSource c < 1024) && codeSource c / 32 == n) ||
    (!isFine n && decide (1024 ≤ codeSource c) && decide (codeSource c < 1152) && (codeSource c - 1024) / 8 == n - 32)

/-- The input code is valid for converter `n` (R63). -/
def codeValid (n c : Nat) : Bool := (onLine c || onOwnMux n c) && diffOk c

/-- The code of a crosspoint source, valid by R63: what a pin or a calibration conversion may name (R67, R109). -/
def lineCodeValid (c : Nat) : Bool := onLine c && diffOk c

/-- The balls and channels a pre-check of the code looks at: AIN`n` is `n`, IC3 is 64, IC31 is 65 (R76, R79). -/
def codeBalls (c : Nat) : List Nat :=
  let n := codeSource c
  if 1152 ≤ n ∧ n < 1216 then (if codeDiff c then [n - 1152, n - 1151] else [n - 1152])
  else if n = 1231 then [64]
  else if n = 1259 then [65]
  else []

/-- The AFE power domain, or group domain, that holds a source (Table 3.2). -/
def sourceDomain (c : Nat) : Nat :=
  let n := codeSource c
  if n < 1024 then 24 + n / 128
  else if n < 1152 then 20 + (n - 1024) / 32
  else if n < 1216 then 24 + (n - 1152) / 8
  else if n < 1228 then 24 + (n - 1216) / 2
  else if 1240 ≤ n ∧ n < 1256 then 30
  else 31

/-- The source of a code is available: its domain is powered, and VDD_A and VDD_AH are in range (R69, R468). DESIGN CHOICE:
a converter whose own AFE domain, with its selector and PGA, is down while its quad, its source and its line are up runs
as ever (R69, R93 and Table 3.2 give no effect). -/
def Block.sourceUp (s : Block) (c : Nat) : Bool :=
  s.domainOn (sourceDomain c) && !s.railDown 4 && !s.railDown 6

/-- A crosspoint line is available while its domain is powered (R65, Table 3.2). -/
def Block.lineUp (s : Block) (l : Nat) : Bool := s.domainOn (24 + l / 2)

/-! Fields of an entry definition (Table 7.2). -/

def dInput (d : BitVec 128) : Nat := bitsOf d 11 0
def dGain (d : BitVec 128) : Nat := bitsOf d 14 12
def dOwchk (d : BitVec 128) : Nat := bitsOf d 17 16
def dDest (d : BitVec 128) : Nat := bitsOf d 19 18
def dProfile (d : BitVec 128) : Nat := bitsOf d 25 20
def dSettle (d : BitVec 128) : Nat := bitsOf d 51 32
def dLength (d : BitVec 128) : Nat := bitsOf d 79 64
def dRepeat (d : BitVec 128) : Nat := bitsOf d 87 80
def dGroup (d : BitVec 128) : Nat := bitsOf d 92 88
def dTrig (d : BitVec 128) : Bool := bitsOf d 93 93 == 1

/-- A reserved bit of the definition is not 0. -/
def dReserved (d : BitVec 128) : Bool :=
  bitsOf d 15 15 != 0 || bitsOf d 31 26 != 0 || bitsOf d 63 52 != 0 || bitsOf d 127 94 != 0

/-- The detail of a converter event (Table 17.10, sources 256–447). -/
def convDetail (n : Nat) (r : Run) : Nat := n + 64 * r.entry + 1024 * dInput r.dfn

/-! Line allocation (R65–R67). -/

/-- AFE_SEQ cycles of 10.417 ns as whole ns, rounded up. -/
def cyclesNs (c : Nat) : Nat := (125 * c + 11) / 12

/-- The line an entry with code `c` is given now: a line already carrying the code, else the lowest free one. -/
def Block.findLine (s : Block) (c : Nat) : Option Nat :=
  match (List.range 16).find? (fun l => s.lineUp l && s.get (Reg.XB_LINE_CODE l) == c) with
  | some l => some l
  | none => (List.range 16).find? (fun l =>
      s.lineUp l && !s.flag (Reg.XB_LINE_PINNED l) && s.get (Reg.XB_LINE_USERS l) == 0)

/-- An entry joins line `l` with code `c`. -/
def Block.joinLine (s : Block) (l c : Nat) : Block :=
  (s.put (Reg.XB_LINE_CODE l) c).bump (Reg.XB_LINE_USERS l) 1

/-- A pin requested for line `l` is applied when the line has no users (R67). -/
def Block.applyPin (s : Block) (l : Nat) : Block :=
  if s.flag (Reg.XB_PIN_EN l) ∧ s.get (Reg.XB_LINE_USERS l) = 0 then
    (s.put (Reg.XB_LINE_CODE l) (s.get (Reg.XB_PIN_CODE l))).put (Reg.XB_LINE_PINNED l) 1
  else s

/-- An entry leaves line `l` (R66). A line with a pending pin is then pinned by XB_PIN_APPLY. -/
def Block.leaveLine (s : Block) (l : Nat) : Block :=
  s.put (Reg.XB_LINE_USERS l) (s.get (Reg.XB_LINE_USERS l) - 1)

/-- The activity of converter `n` leaves its line, if it holds one. -/
def Block.dropLine (s : Block) (n : Nat) : Block :=
  match (s.sp n).act with
  | some r =>
    match r.line with
    | some l => (s.leaveLine l).setAct n (some { r with line := none })
    | none => s
  | none => s

/-- An entry runs a pre-check (R76). -/
def Block.wantsCheck (s : Block) (r : Run) : Bool :=
  r.kind != .cal && dOwchk r.dfn != 0 && s.flag Reg.AFE_CTL_OW_EN && codeBalls (dInput r.dfn) != []

/-- The trunk whose sense pair a code selects: TS`n` is source 1216 + `n`. -/
def tsTrunk (c : Nat) : Option Nat :=
  if 1216 ≤ codeSource c ∧ codeSource c < 1228 then some (codeSource c - 1216) else none

/-- An entry on a trunk sense pair starts: while TSSEL.EN is 1 the spindle sense requester selects TSSEL's node, unless
TSCUR already names it, and the entry waits for the completion (R214). -/
def Block.startSense (s : Block) (n : Nat) (r : Run) : Run × Block :=
  match tsTrunk (dInput r.dfn) with
  | some t =>
    let node := s.get (Reg.TRK_TSSEL_NODE t)
    if r.kind = .cal ∨ !s.flag (Reg.TRK_TSSEL_EN t) ∨
        (s.flag (Reg.TRK_TSCUR_VALID t) ∧ s.get (Reg.TRK_TSCUR_NODE t) = node) then (r, s)
    else ({ r with sensing := true }, s.pushTxn { Txn.to 21 8 node 0 (.spindle n) with trunk := t })
  | none => (r, s)

/-- The stage an entry reaches once its path is set: its pre-check, its sense tap, or its settle (R68, R77, R214). -/
def Block.afterPath (s : Block) (r : Run) : Stage :=
  if s.wantsCheck r then .check else if r.sensing then .sense else .settle

/-- Converter `n` tries to take the path of its activity `r` (R64, R65, R69): an entry on its own mux has it; another
takes a crosspoint line, or waits and is counted once. While subsystem 3 is in reset it waits uncounted (R90). DESIGN
CHOICE: a source that is unavailable now, but back before sampling, leaves every result of the run OVERRANGE. -/
def Block.takePath (s : Block) (n : Nat) (r : Run) : Block :=
  let r := { r with allOver := r.allOver || !s.sourceUp (dInput r.dfn), since := s.now }
  if s.busySS 3 then s.setAct n (some { r with line := none, stage := .line })
  else if onLine (dInput r.dfn) then
    match s.findLine (dInput r.dfn) with
    | some l => (s.joinLine l (dInput r.dfn)).setAct n (some { r with line := some l, stage := s.afterPath r, waited := false })
    | none =>
      let s := if r.waited then s
        else (s.bump Reg.XB_WAIT_CNT_COUNT 1).put Reg.AFE_STATUS_XB_WAIT_SEEN 1
      s.setAct n (some { r with line := none, stage := .line, waited := true })
  else s.setAct n (some { r with line := none, stage := s.afterPath r })

/-- XB_LINE_RETRY: every entry that waits for a line tries again, urgent entries first, then in ascending spindle
number (R65, R66). -/
def doXbLineRetry (s : Block) : Block :=
  let tryKind := fun (urgent : Bool) (s : Block) (n : Nat) =>
    match (s.sp n).act with
    | some r => if r.stage = .line ∧ ((r.kind == .urgent) == urgent) then s.takePath n r else s
    | none => s
  (s.each spindleList (tryKind true)).each spindleList (tryKind false)

/-- A write of XB_PIN (R67): EN = 1 with a code that may be pinned requests the pin, applied at once when the line has no
users; any other write unpins the line. DESIGN CHOICE: a request for the code to which the line is pinned already leaves
it pinned, though it has users. -/
def Block.writeXbPin (s : Block) (l : Nat) (v : Word) : Block :=
  let code := bitsOf v 11 0
  let s := s.put (Reg.XB_PIN_CODE l) code
  if bitsOf v 12 12 = 1 ∧ lineCodeValid code then
    let keep := s.flag (Reg.XB_LINE_PINNED l) && s.get (Reg.XB_LINE_CODE l) == code
    ((s.put (Reg.XB_PIN_EN l) 1).when (!keep) (·.put (Reg.XB_LINE_PINNED l) 0)).applyPin l
  else (s.put (Reg.XB_PIN_EN l) 0).put (Reg.XB_LINE_PINNED l) 0

/-- XB_PIN_WRITE. -/
def doXbPinWrite (l : Nat) (v : Word) (s : Block) : Block :=
  if s.writable (Reg.XB_PIN l) then s.writeXbPin l v else s

/-- XB_PIN_APPLY: a line with a pending pin that has no users is pinned. -/
def doXbPinApply (l : Nat) (s : Block) : Block := s.applyPin l

/-! Open-wire pre-checks (R77–R80). -/

/-- Another entry settles or samples, or another pre-check runs, on one of the balls (R80). An entry that has settled and
waits for its trigger or for REF_OK does neither. -/
def Block.ballsBusy (s : Block) (n : Nat) (balls : List Nat) : Bool :=
  spindleList.any (fun m =>
    decide (m ≠ n) &&
      match (s.sp m).act with
      | some r =>
        (match r.stage with
          | .checking | .settle | .sampling => true
          | _ => false) &&
          (codeBalls (dInput r.dfn)).any (fun b => balls.contains b)
      | none => false)

/-- A pre-check runs on one of the balls. -/
def Block.ballsChecking (s : Block) (n : Nat) (balls : List Nat) : Bool :=
  spindleList.any (fun m =>
    decide (m ≠ n) &&
      match (s.sp m).act with
      | some r => r.stage == .checking && (codeBalls (dInput r.dfn)).any (fun b => balls.contains b)
      | none => false)

/-- A pre-check on these balls ends: windows that blank it stay suspended for 40 µs (R305). -/
def Block.owlBlank (s : Block) (balls : List Nat) : Block :=
  s.each ((List.range 256).filter (fun w => s.flag (Reg.W_CFG_BLANK_OW w) &&
      (codeBalls (s.get (Reg.W_CFG_INPUT w))).any (fun b => balls.contains b)))
    (fun s w => s.suspend w (s.now + 40000))

/-- Activity `a` of converter `m` goes before activity `b` of converter `n` (R66): urgent ones first, then by number. -/
def goesFirst (m : Nat) (a : Run) (n : Nat) (b : Run) : Bool :=
  if a.kind = .urgent ∧ b.kind ≠ .urgent then true
  else if a.kind ≠ .urgent ∧ b.kind = .urgent then false
  else decide (m < n)

/-- Another entry that goes before converter `n`'s wants a pre-check on one of the balls, and could begin it now (R80). -/
def Block.ballsWanted (s : Block) (n : Nat) (r : Run) : Bool :=
  spindleList.any (fun m =>
    decide (m ≠ n) &&
      match (s.sp m).act with
      | some q => q.stage == .check && goesFirst m q n r &&
          (codeBalls (dInput q.dfn)).any (fun b => (codeBalls (dInput r.dfn)).contains b) &&
          !s.ballsBusy m (codeBalls (dInput q.dfn))
      | none => false)

/-- OW_PRECHECK_START: converter `n`'s pre-check begins once no other entry settles or samples on its balls, those that
go before it by R66 first (R80). -/
def doOwPrecheckStart (n : Nat) (s : Block) : Block :=
  match (s.sp n).act with
  | some r =>
    if r.stage = .check ∧ !s.ballsBusy n (codeBalls (dInput r.dfn)) ∧ !s.ballsWanted n r then
      s.setAct n (some { r with stage := .checking, since := s.now })
    else s
  | none => s

/-- A pre-check on these balls has ended: the settle of every entry that settles on one of them counts from `t` (R80). -/
def Block.settleFrom (s : Block) (balls : List Nat) (t : Nat) : Block :=
  s.each spindleList (fun s n =>
    match (s.sp n).act with
    | some r =>
      if r.stage = .settle ∧ (codeBalls (dInput r.dfn)).any (fun b => balls.contains b) then
        s.setAct n (some { r with since := max t r.since })
      else s
    | none => s)

/-- A pre-check on these balls ends, by its sample or cut short: windows that it blanked stay suspended for 40 µs (R305),
and settles that waited for it count from here. -/
def Block.endCheck (s : Block) (balls : List Nat) : Block := (s.settleFrom balls s.now).owlBlank balls

/-- The OW_NOW, or OW_LATCH, register and bit of a ball. -/
def ballBit (base b : Nat) : Nat × Nat := if b < 32 then (base, b) else if b < 64 then (base + 4, b - 32) else (base + 8, b - 64)

/-- The report of a pre-check at cycle 3,072 (R78, R84): open when the sourced pin is above 2.9 V or the sunk pin of a
pair below 0.4 V, in mV. Within 30 mV of a threshold the report is open to either. IC31 reports open, IC3 intact. -/
def openReport (c vSource vSink k : Nat) : Bool :=
  if codeSource c = 1259 then true
  else if codeSource c = 1231 then false
  else if 2930 < vSource ∨ (codeDiff c ∧ vSink < 370) then true
  else if vSource < 2870 ∧ (!codeDiff c ∨ 430 < vSink) then false
  else Config.freeNat k % 2 == 1

/-- Converter `n`'s last pre-check of ball `b` reported open. -/
def Block.lastOpen (s : Block) (n b : Nat) : Bool := Bank.get (fun _ => false) s.acq.owOpen (66 * n + b)

/-- A pre-check of converter `n` reports on ball `b` (R78, R79). -/
def Block.reportBall (s : Block) (n : Nat) (isOpen : Bool) (b : Nat) : Block :=
  let s := (s.withAcq { s.acq with owOpen := Bank.set (fun _ => false) s.acq.owOpen (66 * n + b) isOpen })
  let s := s.setBit (ballBit Reg.OW_NOW_LO b).1 (ballBit Reg.OW_NOW_LO b).2 isOpen
  if isOpen then s.setBit (ballBit Reg.OW_LATCH_LO b).1 (ballBit Reg.OW_LATCH_LO b).2 true else s

/-- OW_PRECHECK_SAMPLE: 3,072 cycles into converter `n`'s pre-check the comparators sample its pins, the current is switched
off and OW_NOW is written; on an open report OW_LATCH is set, and OPEN_WIRE is raised where the converter's last check of
these balls was intact (R77–R79, R91). The settle begins in the next cycle. DESIGN CHOICE: a check on a ball whose AFE
domain is powered down runs and reports like any other (R69 and R77 are silent). -/
def doOwPrecheckSample (n vSource vSink : Nat) (s : Block) : Block :=
  match (s.sp n).act with
  | some r =>
    if r.stage ≠ .checking ∨ s.now < r.since + cyclesNs 3072 then s
    else
      let (k, s) := s.draw
      let isOpen := openReport (dInput r.dfn) vSource vSink k
      let balls := codeBalls (dInput r.dfn)
      let was := balls.any (s.lastOpen n)
      let s := s.each balls (fun s b => s.reportBall n isOpen b)
      let s := (s.endCheck balls).setAct n (some { r with stage := .settle, since := s.now + cyclesNs 1 })
      if isOpen then
        let s := s.put Reg.AFE_STATUS_OW_SEEN 1
        if was then s else s.raise (convSource n + 1) (convDetail n r)
      else s
  | none => s

/-- A result whose input includes a ball or channel with its OW_LATCH bit set carries OPEN_WIRE (R79). -/
def Block.openWire (s : Block) (c : Nat) : Bool :=
  (codeBalls c).any (fun b => s.bit (ballBit Reg.OW_LATCH_LO b).1 (ballBit Reg.OW_LATCH_LO b).2)

/-- The local count at which the settle time of activity `r` has run (R68). -/
def Run.settled (r : Run) : Nat := r.since + cyclesNs (dSettle r.dfn)

/-- SETTLE_END: the settle time of converter `n`'s entry has run out; while a pre-check runs on its ball the settle has not
begun (R68, R80). -/
def doSettleEnd (n : Nat) (s : Block) : Block :=
  match (s.sp n).act with
  | some r =>
    if r.stage = .settle ∧ !s.ballsChecking n (codeBalls (dInput r.dfn)) ∧ r.settled ≤ s.now then
      s.setAct n (some { r with stage := .ready, waited := false })
    else s
  | none => s

/-- A spell begins at `t`, unless the latest one lasts; the latest one ends at `t`. -/
def spellOn (t : Nat) : List Spell → List Spell
  | ⟨b, none⟩ :: l => ⟨b, none⟩ :: l
  | l => ⟨t, none⟩ :: l

def spellOff (t : Nat) : List Spell → List Spell
  | ⟨b, none⟩ :: l => ⟨b, some t⟩ :: l
  | l => l

/-- A spell meets the span from `a` to `b`, in 1/192 ns. -/
def spellIn (a b : Nat) (l : List Spell) : Bool :=
  l.any (fun p => decide (192 * p.begun ≤ b) && (match p.ended with
    | some e => decide (a ≤ 192 * e)
    | none => true))

/-- Converter `n`'s input is overranged (R74). -/
def Block.inputOver (s : Block) (n : Nat) : Bool := Bank.get (fun _ => false) s.acq.inputOver n

/-- Converter `n`'s last sample or result was beyond its range (R74). -/
def Block.chainOver (s : Block) (n : Nat) : Bool := Bank.get (fun _ => false) s.acq.chainOver n

/-- The detail of an overrange of converter `n`: that of its activity, if it has one. -/
def Block.overDetail (s : Block) (n : Nat) : Nat :=
  match (s.sp n).act with
  | some r => convDetail n r
  | none => n

/-- INPUT_OVERRANGE: converter `n`'s input becomes overranged, or returns to range (R74, R75). OVERRANGE is raised at the
transition (R91). -/
def doInputOverrange (n : Nat) (isOver : Bool) (s : Block) : Block :=
  let was := s.inputOver n || s.chainOver n
  let s := (s.withAcq { s.acq with inputOver := Bank.set (fun _ => false) s.acq.inputOver n isOver })
  let s := match (s.sp n).act with
    | some r =>
      if r.stage = .sampling then
        s.setAct n (some { r with overs := if isOver then spellOn s.now r.overs else spellOff s.now r.overs })
      else s
    | none => s
  if isOver ∧ !was then s.raise (convSource n) (s.overDetail n) else s

/-- Converter `n`'s latest sample or result is within its range, or beyond it (R74, R91). -/
def Block.noteChain (s : Block) (n : Nat) (isOver : Bool) : Block :=
  let was := s.inputOver n || s.chainOver n
  let s := (s.withAcq { s.acq with chainOver := Bank.set (fun _ => false) s.acq.chainOver n isOver })
  if isOver ∧ !was then s.raise (convSource n) (s.overDetail n) else s

/-- The test DAC's level on IC30 in steps of 76.29 µV: the signed CODE while EN is 1, else 0 (R83). -/
def tdacSteps (w : Word) : Int := if bitOf w.toNat 16 then signed 16 (bitsOf w 15 0) else 0

/-- CLAMP_CONDUCT: the clamp of AIN`b` conducts (R73). -/
def doClampConduct (b : Nat) (s : Block) : Block :=
  (s.setBit (ballBit Reg.CLAMP_LATCH_LO b).1 (ballBit Reg.CLAMP_LATCH_LO b).2 true).put Reg.AFE_STATUS_CLAMP_SEEN 1

/-! References (R85–R88). -/

/-- The OK of reference source `r`: 0 REF_A, 1 REF_B, 2 REF_EXT, 3 VDD_AH (REF_STATUS). -/
def Block.refSourceOk (s : Block) (r : Nat) : Bool := s.bit Reg.REF_STATUS r

/-- REF_OK of quad or group `u` (R86, R97). -/
def Block.refOk (s : Block) (u : Nat) : Bool :=
  s.refSourceOk (s.get (Reg.REF_SEL_SRC u)) && !s.flag (Reg.REF_SEL_SWITCHING u) &&
    !Bank.get (fun _ => false) s.acq.upWait u && s.unitUp u

/-- Converter `n` begins sampling at instant `start`, in 1/192 ns of local time: the chain is cleared (R99, R123, R163). -/
def Block.beginSampling (s : Block) (n : Nat) (r : Run) (start : Nat) : Block :=
  let r := { r with
    stage := .sampling, took := none, freed := true, waited := false, outs := 0, hist := [], got := 0, kept := []
    start := start, angle := s.mainsFine start
    freq := if s.get Reg.MAINS_STATUS_STATE = 0 then (if s.flag Reg.MAINS_CTL_NOM then 60 * 65536 else 50 * 65536)
      else s.mainsFreq
    overs := if s.inputOver n then [⟨start / 192, none⟩] else []
    badRefs := if s.refOk (refUnit n) then [] else [⟨start / 192, none⟩] }
  s.setAct n (some r)

/-- The first instant from `t` on at which converter `n` may sample: for a Swift converter, a sample edge (R120). -/
def firstSample (n t : Nat) : Nat := if isFine n then t else 9600 * ((t + 9599) / 9600)

/-- REF_OK of `u` is brought up to date. As it falls, entries that sample on `u` meet REF_OK = 0 from here; as it rises,
a trigger-group member that waited for it samples at once (R87). -/
def Block.updateRef (s : Block) (u : Nat) : Block :=
  let ok := s.refOk u
  let was := s.flag (Reg.REF_SEL_OK u)
  let s := s.putB (Reg.REF_SEL_OK u) ok
  if ok = was then s
  else
    let s := if ok then (s.withAcq { s.acq with okAt := Bank.set (fun _ => 0) s.acq.okAt u s.now }) else s
    s.each (spindleList.filter (fun n => refUnit n == u)) (fun s n =>
      match (s.sp n).act with
      | some r =>
        if ok ∧ r.stage = .refWait then s.beginSampling n r (firstSample n (192 * s.now))
        else if r.stage = .sampling then
          s.setAct n (some { r with badRefs := if ok then spellOff s.now r.badRefs else spellOn s.now r.badRefs })
        else s
      | none => s)

/-- Every quad and group is brought up to date. -/
def Block.updateRefs (s : Block) : Block := s.each (List.range 12) Block.updateRef

/-- SRC of `u` has changed now: the 200 µs of R86 begin. -/
def Block.markSwitch (s : Block) (u : Nat) : Block :=
  Block.put (s.withAcq { s.acq with switchAt := Bank.set (fun _ => 0) s.acq.switchAt u s.now }) (Reg.REF_SEL_SWITCHING u) 1

/-- REF_SEL.SRC of `u` changes to `r`, which starts the 200 µs of R86. -/
def Block.switchRef (s : Block) (u r : Nat) : Block := ((s.put (Reg.REF_SEL_SRC u) r).markSwitch u).updateRef u

/-- Source `r` begins to settle, or to be within its window, now (Table 3.11). -/
def Block.refBegins (s : Block) (r : Nat) : Block :=
  (s.withAcq { s.acq with refAt := Bank.set (fun _ => 0) s.acq.refAt r s.now })

/-- With neither REF_A nor REF_B OK every window is suspended (R301, R305). -/
def Block.owlNoRef (s : Block) : Block :=
  if s.refSourceOk 0 ∨ s.refSourceOk 1 then s else s.each (List.range 256) (fun s w => s.suspend w 0)

/-- The OK of source `r` falls: by a fault of its output, or because it is disabled or unpowered. Its users fail over by
R88 after a fault, and lose REF_OK otherwise. -/
def Block.refFall (s : Block) (r : Nat) (fault : Bool) : Block :=
  if !s.refSourceOk r then s
  else
    let s := ((s.setBit Reg.REF_STATUS r false).refBegins r).owlNoRef
    let s := s.when (fault || r == 3) (·.setBit Reg.REF_STATUS (4 + r) true)
    s.each (List.range 12) (fun s u =>
      if s.get (Reg.REF_SEL_SRC u) ≠ r then s
      else if fault ∧ r < 2 ∧ s.flag (Reg.REF_SEL_FAILOVER u) ∧ s.refSourceOk (1 - r) then
        (((s.switchRef u (1 - r)).put (Reg.REF_SEL_FAILED_OVER u) 1).bump Reg.REF_FAILOVER_CNT_COUNT 1).put
          Reg.REF_STATUS_FAILOVER_SEEN 1
      else s.updateRef u)

/-- REF_OK_FALL: the output of source `r` leaves its window (R85, R88). -/
def doRefOkFall (r : Nat) (s : Block) : Block := s.refFall r true

/-- The enable of source `r` is 1 and its power domain is up (Table 3.11). -/
def Block.refEnabled (s : Block) (r : Nat) : Bool :=
  match r with
  | 0 => s.flag Reg.REF_CTL_A_EN && s.domainOn 10
  | 1 => s.flag Reg.REF_CTL_B_EN && s.domainOn 11
  | 2 => s.flag Reg.REF_CTL_EXT_EN && s.domainOn 31
  | _ => !s.railDown 6 && s.coreOn

/-- How long source `r` must have been enabled, or within its window, before its OK rises, ns (R85, Table 3.11). -/
def refTime (r : Nat) : Nat := if r < 2 then 2000000 else 200000

/-- REF_OK_RISE: source `r` has settled, or has stayed within its window long enough (R85). -/
def doRefOkRise (r : Nat) (s : Block) : Block :=
  if s.refEnabled r ∧ Bank.get (fun _ => 0) s.acq.refAt r + refTime r ≤ s.now then
    (s.setBit Reg.REF_STATUS r true).updateRefs
  else s

/-- A write of REF_SEL that changes SRC starts the switch of R86; SRC set by software is no failover. -/
def Block.writeRefSel (s : Block) (u : Nat) (v : Word) : Block :=
  let old := s.get (Reg.REF_SEL_SRC u)
  let s := s.writeFields (Reg.REF_SEL u) v
  let new := s.get (Reg.REF_SEL_SRC u)
  if old = new then s else (s.put (Reg.REF_SEL_FAILED_OVER u) 0).switchRef u new

/-- REF_SEL_WRITE. -/
def doRefSelWrite (u : Nat) (v : Word) (s : Block) : Block :=
  if s.writable (Reg.REF_SEL u) then s.writeRefSel u v else s

/-- REF_SWITCH_SETTLED: 200 µs have passed since the last change of SRC, or since the power-up of R97, and REF_OK of `u` may
rise. -/
def doRefSwitchSettled (u : Nat) (s : Block) : Block :=
  let s := if Bank.get (fun _ => 0) s.acq.switchAt u + 200000 ≤ s.now then s.put (Reg.REF_SEL_SWITCHING u) 0 else s
  let s := if Bank.get (fun _ => 0) s.acq.upAt u + 200000 ≤ s.now then
      (s.withAcq { s.acq with upWait := Bank.set (fun _ => false) s.acq.upWait u false })
    else s
  s.updateRef u

/-- A write of REF_CTL: a source whose enable becomes 1 begins to settle, one whose enable becomes 0 loses its OK (R85). -/
def Block.writeRefCtl (s : Block) (v : Word) : Block :=
  let a := s
  let s := s.writeFields Reg.REF_CTL v
  s.each [0, 1, 2] (fun s r =>
    if !s.refEnabled r then s.refFall r false else if a.refEnabled r then s else s.refBegins r)

/-- REF_CTL_WRITE. -/
def doRefCtlWrite (v : Word) (s : Block) : Block :=
  if s.writable Reg.REF_CTL then s.writeRefCtl v else s

/-! The commands of this file, with the operands that the command table's rows take here. -/

def execXbLineRetry (s : State) : Out := .next (s.withBlock (doXbLineRetry s.toBlock))
def execXbPinWrite (l : Fin 16) (v : Word) (s : State) : Out := .next (s.withBlock (doXbPinWrite l v s.toBlock))
def execXbPinApply (l : Fin 16) (s : State) : Out := .next (s.withBlock (doXbPinApply l s.toBlock))
def execOwPrecheckStart (n : Fin 48) (s : State) : Out := .next (s.withBlock (doOwPrecheckStart n s.toBlock))
def execOwPrecheckSample (n : Fin 48) (vSource vSink : Nat) (s : State) : Out := .next (s.withBlock (doOwPrecheckSample n vSource vSink s.toBlock))
def execSettleEnd (n : Fin 48) (s : State) : Out := .next (s.withBlock (doSettleEnd n s.toBlock))
def execInputOverrange (n : Fin 48) (isOver : Bool) (s : State) : Out := .next (s.withBlock (doInputOverrange n isOver s.toBlock))
def execClampConduct (b : Fin 64) (s : State) : Out := .next (s.withBlock (doClampConduct b s.toBlock))
def execRefOkFall (r : Fin 4) (s : State) : Out := .next (s.withBlock (doRefOkFall r s.toBlock))
def execRefOkRise (r : Fin 4) (s : State) : Out := .next (s.withBlock (doRefOkRise r s.toBlock))
def execRefSelWrite (u : Fin 12) (v : Word) (s : State) : Out := .next (s.withBlock (doRefSelWrite u v s.toBlock))
def execRefSwitchSettled (u : Fin 12) (s : State) : Out := .next (s.withBlock (doRefSwitchSettled u s.toBlock))
def execRefCtlWrite (v : Word) (s : State) : Out := .next (s.withBlock (doRefCtlWrite v s.toBlock))

end Sys2Proof.Machine
end

