-- ==== Sys2Proof/Machine/Spindle.lean ====
section
/-! DEFINITION. Chapter 7: spindle states, runs, triggers, urgent requests, result records and migration; aborts and
restarts (R104–R106, R125). -/

namespace Sys2Proof.Machine

/-! Definitions and profiles. -/

/-- Definition of entry `e` of spindle `n` (R169). -/
def Block.entryDef (s : Block) (n e : Nat) : BitVec 128 := Bank.get (fun _ => 0) s.acq.defs (16 * n + e)

/-- The profile register an entry names: FFP for a Fine spindle, SWP for a Swift one (R142). -/
def Block.profileOf (s : Block) (n p : Nat) : Word := if isFine n then s.reg (Reg.FFP p) else s.reg (Reg.SWP p)

/-- The OSR of a Fine profile (R100). -/
def pOsr (p : Word) : Nat := 32 * 2 ^ bitsOf p 3 0

def pOrder (p : Word) : Nat := if bitsOf p 4 4 = 1 then 5 else 3
def pFir (p : Word) : Nat := bitsOf p 6 5
def pIntN (p : Word) : Nat := bitsOf p 15 8
def pDcK (p : Word) : Nat := bitsOf p 20 16

def pCic (p : Word) : Nat := bitsOf p 5 0 + 1
def pDec (p : Word) : Nat := 2 ^ bitsOf p 7 6
def pBank (p : Word) : Nat := bitsOf p 10 8
def pAvg (p : Word) : Nat := bitsOf p 15 12
def pLockin (p : Word) : Nat := bitsOf p 17 16

/-- The quad of a Fine converter is mains-locked (R94). -/
def Block.mainsLocked (s : Block) (n : Nat) : Bool := isFine n && s.flag (Reg.FINE_QCLK_ACTIVE (n / 4))

/-- The nominal mains frequency in Hz (Table 2.12). -/
def Block.nomHz (s : Block) : Nat := if s.flag Reg.MAINS_CTL_NOM then 60 else 50

/-- Why a profile is invalid for an entry of spindle `n`: the lowest REASON of Table 6.2, or 0. -/
def Block.profileReason (s : Block) (n p : Nat) : Nat :=
  let w := s.profileOf n p
  let osr := pOsr w
  if isFine n then
    if 11 < bitsOf w 3 0 then 1
    else if (1 ≤ pDcK w ∧ pDcK w ≤ 5) ∨ 25 ≤ pDcK w then 2
    else if pIntN w ≠ 0 ∧ pFir w ≠ 0 then 3
    else if pIntN w ≠ 0 ∧ s.mainsLocked n ∧ 16384 < osr then 4
    else if pFir w = 3 ∧ (osr < 1024 ∨ 16384 < osr) then 5
    else if pFir w = 3 ∧ !s.mainsLocked n ∧ 12288000 % (osr * s.nomHz) ≠ 0 then 6
    else 0
  else if 15 < p then 10
  else if bitsOf w 7 6 = 3 then 7
  else if 11 ≤ pAvg w then 8
  else if pLockin w = 3 then 9
  else 0

/-- Why the spindle refuses an entry: the lowest REASON of Table 7.3, or 0. -/
def Block.refuseReason (s : Block) (n : Nat) (d : BitVec 128) : Nat :=
  if !codeValid n (dInput d) then 1
  else if !isFine n ∧ 4 ≤ dGain d then 2
  else if s.profileReason n (dProfile d) ≠ 0 then 3
  else if dDest d = 3 then 4
  else if dReserved d then 5
  else 0

/-- A refusal of entry `e` is recorded; FILT_REFUSED tells of an invalid profile, whatever REASON is lowest (R143, R170). -/
def Block.recordRefusal (s : Block) (n e reason : Nat) (d : BitVec 128) : Block :=
  let s := (((s.put (Reg.SP_STAT_REFUSED_REASON n) reason).put (Reg.SP_STAT_REFUSED_ENTRY n) e).put
    (Reg.SP_STAT_REFUSED_SEEN n) 1).bump (Reg.SP_CNT_REFUSALS n) 1
  if s.profileReason n (dProfile d) ≠ 0 then
    (((s.put Reg.FILT_REFUSED_SPINDLE n).put Reg.FILT_REFUSED_ENTRY e).put Reg.FILT_REFUSED_REASON
      (s.profileReason n (dProfile d))).put Reg.FILT_STATUS_REFUSED_SEEN 1
  else s

/-! Spindle states (Table 7.1). -/

abbrev STOPPED : Nat := 0
abbrev RUNNING : Nat := 1
abbrev STOPPING : Nat := 2
abbrev DRAINING : Nat := 3

/-- The state of spindle `n`. -/
def Block.spState (s : Block) (n : Nat) : Nat := s.get (Reg.SP_STAT_STATE n)

/-- The first entry of the sequence: 0, or the first of the bank in use in forerunner mode (R186). -/
def Block.spBase (s : Block) (n : Nat) : Nat :=
  if s.flag (Reg.SP_CFG_FRM n) then 8 * s.get (Reg.SP_CFG_FRM_BANK n) else 0

/-- A pending migration of spindle `n` is cancelled; the packet that asked for it ends with CANCELLED (R183, R417). -/
def Block.cancelMig (s : Block) (n : Nat) : Block :=
  match (s.sp n).mig with
  | some m => (s.setSp n { s.sp n with mig := none }).finishPacket m.host m.tag 0x22 []
  | none => s

/-- The state that a migration from spindle `n` to `m` requires of both (R183). -/
def Block.mayMigrate (s : Block) (n m : Nat) : Bool :=
  (s.spState n == RUNNING || s.spState n == STOPPING) && s.spState m == STOPPED &&
    !s.flag (Reg.SP_STAT_URG_ACTIVE m) && !s.flag (Reg.SP_CFG_FRM n) && !s.flag (Reg.SP_CFG_FRM m)

/-- Migrations whose spindles have left the required state are cancelled (R183). -/
def Block.checkMigs (s : Block) : Block :=
  s.each spindleList (fun s n =>
    match (s.sp n).mig with
    | some m => if s.mayMigrate n m.dest then s else s.cancelMig n
    | none => s)

/-- STALL no longer holds a run of spindle `n` (Table 7.8). -/
def Block.unstall (s : Block) (n : Nat) : Block :=
  if s.flag (Reg.SP_STAT_STALLED n) then
    (s.put (Reg.SP_STAT_STALLED n) 0).put (Reg.FIFO_STAT_STALLING (s.get (Reg.SP_CFG_FIFO n))) 0
  else s

/-- Spindle `n` enters STOPPED; DONE_EV = 2 raises SEQ_DONE (Table 7.10). -/
def Block.enterStopped (s : Block) (n : Nat) : Block :=
  let s := (s.unstall n).put (Reg.SP_STAT_STATE n) STOPPED
  let s := s.setSp n { s.sp n with tsw := none, next := s.spBase n, repsDone := 0, ranAny := false }
  let s := s.checkMigs
  if s.get (Reg.SP_CFG_DONE_EV n) = 2 then s.raise (448 + n) (s.get (Reg.FIFO_LEVEL_COUNT (s.get (Reg.SP_CFG_FIFO n))) + 65536 * n)
  else s

/-! Triggers (R173, R174). -/

/-- A run is an armed member of group `g`: it has not begun sampling and waits for a trigger. -/
def armedIn (r : Run) (g : Nat) : Bool :=
  dTrig r.dfn && dGroup r.dfn == g && !r.freed && r.stage != .sampling && r.stage != .refWait

/-- A trigger of group `g`: every armed run of a member takes it, unless it has taken one before its group edge (R174). -/
def Block.trigger (s : Block) (g : Nat) : Block :=
  s.each spindleList (fun s n =>
    match (s.sp n).act with
    | some r => if armedIn r g ∧ r.took = none then s.setAct n (some { r with took := some s.now }) else s
    | none => s)

/-- A write of TG_FIRE raises a trigger of each group named (Table 7.4). -/
def Block.writeTgFire (s : Block) (v : Word) : Block :=
  s.each ((List.range 32).filter (fun g => v.getLsbD g)) Block.trigger

/-- TG_FIRE. -/
def doTgFire (v : Word) (s : Block) : Block := if s.writable Reg.TG_FIRE then s.writeTgFire v else s

/-! Starts of runs, entries and restarts. -/

/-- A run of entry `e` of spindle `n` as it starts (R142, R166). -/
def Block.newRun (s : Block) (n e : Nat) (kind : RunKind) : Run :=
  let d := s.entryDef n e
  { kind := kind, entry := e, epoch := s.get (Reg.SP_CTL_EPOCH n), dfn := d, profile := s.profileOf n (dProfile d),
    pd := if isFine n then BitVec.ofNat 16 (s.get (Reg.FPD_PD n)) else 0,
    stage := .line, line := none, since := s.now, took := none, freed := kind == .urgent, waited := false, delivered := 0
    freq := 0, start := 0, angle := 0, overs := [], allOver := false, badRefs := [], restarted := false, settling := false
    missed := false, stale := false, sensing := false, xswap := false, samples := 0, got := 0, kept := [], outs := 0
    hist := [] }

/-- A run as it stands after an abort, or after it has given way to a calibration conversion: it is to begin again, with
RESTARTED, from its line (R105, R110). `wait` when it is still to wait for a trigger (R106). -/
def Run.again (r : Run) (wait : Bool) : Run :=
  { r with
    stage := .line, line := none, took := none, freed := r.freed || (dTrig r.dfn && !wait), waited := false
    sensing := false, delivered := 0, overs := [], allOver := false, badRefs := [], restarted := true, settling := false
    got := 0, kept := [], outs := 0, hist := [] }

/-- Converter `n` begins a run: its entry is current and it takes its path (R65). -/
def Block.startRun (s : Block) (n : Nat) (r : Run) : Block :=
  let (r, s) := ((s.unstall n).put (Reg.SP_STAT_CUR_E n) r.entry).startSense n r
  s.takePath n r

/-- The quad of a Fine converter has a clock switch pending (R96). -/
def Block.clockPending (s : Block) (n : Nat) : Bool := isFine n && s.flag (Reg.FINE_QCLK_PENDING (n / 4))

/-- The resets of the spindles, of converter `n`'s array and of the chains have completed (R116, R138, R164, R187). -/
def Block.arraysUp (s : Block) (n : Nat) : Bool := !s.busySS 8 && !s.busySS 7 && !s.busySS (if isFine n then 4 else 5)

/-- An entry may begin on converter `n`: its quad or group is powered, no clock switch is pending (R96, R97), and no reset
holds it. -/
def Block.mayBegin (s : Block) (n : Nat) : Bool := s.unitUp (refUnit n) && !s.clockPending n && s.arraysUp n

/-- The records a run will write: LENGTH, or twice LENGTH for a lock-in that delivers I and Q (R133). -/
def runRecords (n : Nat) (d : BitVec 128) (profile : Word) : Nat :=
  if !isFine n ∧ pLockin profile = 1 then 2 * dLength d else dLength d

/-- STALL holds the start of the run: the bound FIFO is enabled with policy STALL and its free space is below the lesser
of its capacity and the records the run will write (Table 7.8). -/
def Block.stalls (s : Block) (n : Nat) (d : BitVec 128) : Bool :=
  let f := s.get (Reg.SP_CFG_FIFO n)
  let need := if dLength d = 0 then s.fifoCap f
    else min (s.fifoCap f) (runRecords n d (s.profileOf n (dProfile d)))
  (dDest d == 0 || dDest d == 2) && s.flag (Reg.FIFO_CFG_EN f) && s.get (Reg.FIFO_CFG_POLICY f) == 2 &&
    decide (s.fifoCap f - s.fifoLevel f < need)

/-- The pass of spindle `n` has ended (R166, R167, R170, R173): SEQ_DONE, chained triggers, and STOPPED when it was
stopping or when every run of the pass was refused. -/
def Block.endPass (s : Block) (n : Nat) : Block :=
  let ran := (s.sp n).ranAny
  let s := s.setSp n { s.sp n with next := s.spBase n, repsDone := 0, ranAny := false }
  let s := if s.get (Reg.SP_CFG_DONE_EV n) = 1 then
      s.raise (448 + n) (s.get (Reg.FIFO_LEVEL_COUNT (s.get (Reg.SP_CFG_FIFO n))) + 65536 * n) else s
  let s := s.each ((List.range 32).filter (fun g =>
      s.flag (Reg.TG_CFG_CHAIN_EN g) && s.get (Reg.TG_CFG_CHAIN_SP g) == n)) Block.trigger
  if s.spState n = STOPPING ∨ (s.spState n = RUNNING ∧ !ran) then s.enterStopped n else s

/-- A run of entry `e` of the sequence has ended: the next run is of the same entry, the next entry or the next pass
(R166). A draining spindle stops (R184). -/
def Block.endSeqRun (s : Block) (n e : Nat) (d : BitVec 128) : Block :=
  if s.spState n = DRAINING then s.enterStopped n
  else
    let p := s.sp n
    if p.repsDone < dRepeat d then s.setSp n { p with repsDone := p.repsDone + 1 }
    else if e < s.spBase n + s.get (Reg.SP_CFG_NENT n) ∧ e + 1 < 16 then
      s.setSp n { p with repsDone := 0, next := e + 1 }
    else s.endPass n

/-- RUN_START: spindle `n` starts its next run (R166, R170), judging its entry by Table 7.3, or holds it under STALL.
Nothing starts while an activity, a restart, a queued calibration conversion, a pending clock switch or bank change
stands before it, or while its quad or group is down. -/
def doRunStart (n : Nat) (s : Block) : Block :=
  let p := s.sp n
  let st := s.spState n
  if (st ≠ RUNNING ∧ st ≠ STOPPING) ∨ p.act.isSome ∨ p.resume ≠ [] ∨ p.cal.isSome ∨ p.urgHeld ∨
      s.flag (Reg.SP_STAT_URG_QUEUED n) ∨ !s.mayBegin n ∨
      (p.frmLoaded ∧ !s.frmNodesRunning 0 n ∧ p.next = s.spBase n ∧ p.repsDone = 0) then s
  else
    let d := s.entryDef n p.next
    let reason := s.refuseReason n d
    if reason ≠ 0 then ((s.unstall n).recordRefusal n p.next reason d).endSeqRun n p.next d
    else if s.stalls n d then
      (s.put (Reg.SP_STAT_STALLED n) 1).put (Reg.FIFO_STAT_STALLING (s.get (Reg.SP_CFG_FIFO n))) 1
    else (s.setSp n { p with ranAny := true }).startRun n (s.newRun n p.next .seq)

/-! Aborts and restarts (R104–R106, R125). -/

/-- The activity of converter `n` is aborted: sampling stops, it leaves its line, ABORTS counts and ABORT is raised. The
aborted run is returned through `resume` when `keep` says that it restarts. -/
def Block.abortAct (s : Block) (n : Nat) (keep : Bool) : Block :=
  match (s.sp n).act with
  | none => s
  | some r =>
    let s := s.dropLine n
    let s := if r.stage = .checking then s.endCheck (codeBalls (dInput r.dfn)) else s
    let s := if isFine n then s.bump (Reg.FINE_CNT_ABORTS n) 1 else s.bump (Reg.SWIFT_CNT_ABORTS (n - 32)) 1
    let after := r.stage == .sampling || r.stage == .refWait
    let s := s.setSp n { s.sp n with
      act := none, calGap := false, resume := if keep then r.again (!after) :: (s.sp n).resume else (s.sp n).resume }
    let s := if r.kind = .cal ∧ keep then
        (if isFine n then s.put (Reg.FINE_CALSTAT_RESTARTED n) 1 else s.put (Reg.SWIFT_CALSTAT_RESTARTED (n - 32)) 1)
      else s
    s.raise (convSource n + 3) (convDetail n r)

/-- The urgent entry of spindle `n` (R175, R186). -/
def Block.urgentEntry (s : Block) (n : Nat) : Nat := (s.spBase n + s.get (Reg.SP_CFG_URG_E n)) % 16

/-- Spindle `n` has no run: nothing in progress, held or to be restarted but calibration conversions. -/
def Block.noRun (s : Block) (n : Nat) : Bool :=
  (match (s.sp n).act with
    | some r => r.kind == .cal
    | none => true) && (s.sp n).resume.all (fun r => r.kind == .cal) && !s.flag (Reg.SP_STAT_URG_ACTIVE n)

/-- A drain ends once its spindle has no run (R184). -/
def Block.endDrain (s : Block) (n : Nat) : Block := if s.spState n = DRAINING ∧ s.noRun n then s.enterStopped n else s

/-- The urgent entry of spindle `n` is over: it has given its last result, or is refused at its start. -/
def Block.endUrgent (s : Block) (n : Nat) : Block := (s.put (Reg.SP_STAT_URG_ACTIVE n) 0).endDrain n

/-- The urgent entry starts, or waits for the quad's clock or power (R175). Its profile is judged as it starts (R143). -/
def Block.startUrgent (s : Block) (n : Nat) : Block :=
  let s := s.put (Reg.SP_STAT_URG_ACTIVE n) 1
  if s.mayBegin n then
    let s := s.setSp n { s.sp n with urgHeld := false }
    let e := s.urgentEntry n
    let reason := s.refuseReason n (s.entryDef n e)
    if reason ≠ 0 then (s.recordRefusal n e reason (s.entryDef n e)).endUrgent n
    else s.startRun n (s.newRun n e .urgent)
  else s.setSp n { s.sp n with urgHeld := true }

/-- An accepted urgent request aborts what is in progress. In DRAINING the run is not restarted, and the drain ends with it
(R175). -/
def Block.abortForUrgent (s : Block) (n : Nat) : Block :=
  match (s.sp n).act with
  | none => s
  | some r =>
    if s.spState n = DRAINING ∧ r.kind = .seq then (s.abortAct n false).endDrain n else s.abortAct n true

/-- An urgent request to spindle `n` is registered (R175): refused, accepted, queued or merged. -/
def Block.registerUrgent (s : Block) (n : Nat) : Block :=
  let e := s.urgentEntry n
  let d := s.entryDef n e
  let reason := s.refuseReason n d
  if reason ≠ 0 then s.recordRefusal n e reason d
  else if s.flag (Reg.SP_STAT_URG_QUEUED n) then s.bump (Reg.SP_CNT_URG_MERGED n) 1
  else if s.flag (Reg.SP_STAT_URG_ACTIVE n) then s.put (Reg.SP_STAT_URG_QUEUED n) 1
  else ((s.abortForUrgent n).startUrgent n).checkMigs

/-- The urgent request that has been raised is registered. -/
def Block.takeUrgent (s : Block) (n : Nat) : Block := (s.setSp n { s.sp n with urgAt := none }).registerUrgent n

/-- An urgent request to spindle `n` is raised, to be registered in the next AFE_SEQ cycle (R175). One raised within 10 ns of
another is of its cycle and counts with it; an older one is registered first. -/
def Block.raiseUrgent (s : Block) (n : Nat) : Block :=
  let s := match (s.sp n).urgAt with
    | some t => if t + 10 < s.now then s.takeUrgent n else s
    | none => s
  if (s.sp n).urgAt.isSome then s else s.setSp n { s.sp n with urgAt := some s.now }

/-- URGENT_REGISTER. -/
def doUrgentRegister (n : Nat) (s : Block) : Block :=
  if s.coreOn ∧ !s.busySS 8 ∧ (s.sp n).urgAt.isSome then s.takeUrgent n else s

/-- A write of SP_URGENT; 48–63 are ignored (Table 7.13). -/
def Block.writeSpUrgent (s : Block) (v : Word) : Block := if bitsOf v 5 0 < 48 then s.raiseUrgent (bitsOf v 5 0) else s

/-- SP_URGENT. -/
def doSpUrgent (v : Word) (s : Block) : Block := if s.writable Reg.SP_URGENT then s.writeSpUrgent v else s

/-- The aborted run of converter `n` starts again from its beginning with the definition and profile as they stand
(R105, R142, R171). -/
def Block.restart (s : Block) (n : Nat) (r : Run) : Block :=
  let s := s.setSp n { s.sp n with resume := (s.sp n).resume.tail }
  match r.kind with
  | .cal => s.startRun n r
  | k =>
    let d := s.entryDef n r.entry
    let reason := s.refuseReason n d
    if reason ≠ 0 then
      let s := s.recordRefusal n r.entry reason d
      if k = .seq then s.endSeqRun n r.entry d else s.endUrgent n
    else
      let f := s.newRun n r.entry k
      s.startRun n { f with restarted := true, freed := r.freed, missed := r.missed, epoch := r.epoch }

/-- The next run that converter `n` is to restart is its urgent entry. -/
def Block.urgentFirst (s : Block) (n : Nat) : Bool :=
  match (s.sp n).resume with
  | r :: _ => r.kind == .urgent
  | [] => false

/-- ENTRY_RESTART: after the urgent entry's last result, or once the quad's clock or power allows it, the urgent entry that
waits or was aborted, else the queued one, else the aborted run, starts (R97, R105, R175). -/
def doEntryRestart (n : Nat) (s : Block) : Block :=
  let p := s.sp n
  if p.act.isSome ∨ !s.mayBegin n then s
  else if p.urgHeld then s.startUrgent n
  else if s.flag (Reg.SP_STAT_URG_QUEUED n) ∧ !s.urgentFirst n then (s.put (Reg.SP_STAT_URG_QUEUED n) 0).startUrgent n
  else match p.resume with
    | r :: _ => s.restart n r
    | [] => s

/-! Commands (Table 7.1). -/

/-- START. -/
def Block.spStart (s : Block) (n : Nat) : Block :=
  match s.spState n with
  | 0 =>
    let s := s.put (Reg.SP_CTL_EPOCH n) (s.get (Reg.SP_CTL_EPOCH n) + 1)
    let s := s.setSp n { s.sp n with next := s.spBase n, repsDone := 0, ranAny := false, tsw := none }
    (s.put (Reg.SP_STAT_STATE n) RUNNING).checkMigs
  | 2 => s.put (Reg.SP_STAT_STATE n) RUNNING
  | _ => s

/-- START_ONCE. -/
def Block.spStartOnce (s : Block) (n : Nat) : Block :=
  match s.spState n with
  | 0 => (s.spStart n).put (Reg.SP_STAT_STATE n) STOPPING
  | 1 => s.put (Reg.SP_STAT_STATE n) STOPPING
  | _ => s

/-- STOP_PASS; it cancels a pending bank change, whatever the state (R32, R186). -/
def Block.spStopPass (s : Block) (n : Nat) : Block :=
  let s := s.setSp n { s.sp n with frmLoaded := false }
  if s.spState n = RUNNING then s.put (Reg.SP_STAT_STATE n) STOPPING else s

/-- STOP_NOW: the run in progress and a running urgent entry are aborted and not restarted, a queued urgent request and a
pending bank change are discarded. A calibration conversion is no run and goes on. -/
def Block.spStopNow (s : Block) (n : Nat) : Block :=
  let s := s.setSp n { s.sp n with frmLoaded := false }
  if s.spState n = STOPPED then s
  else
    let s := match (s.sp n).act with
      | some r => if r.kind = RunKind.cal then s else s.abortAct n false
      | none => s
    let s := (s.put (Reg.SP_STAT_URG_ACTIVE n) 0).put (Reg.SP_STAT_URG_QUEUED n) 0
    let s := s.setSp n { s.sp n with
      urgHeld := false,
      resume := (s.sp n).resume.filter (fun r => r.kind == .cal) }
    s.enterStopped n

/-- A command written to SP_CTL.CMD (Table 7.1); 0 and 5–7 have no effect. -/
def Block.spCommand (s : Block) (n cmd : Nat) : Block :=
  match cmd with
  | 1 => s.spStart n
  | 2 => s.spStartOnce n
  | 3 => s.spStopPass n
  | 4 => s.spStopNow n
  | _ => s

def doSpStart (n : Nat) (s : Block) : Block := if s.writable (Reg.SP_CTL n) then s.spStart n else s
def doSpStartOnce (n : Nat) (s : Block) : Block := if s.writable (Reg.SP_CTL n) then s.spStartOnce n else s
def doSpStopPass (n : Nat) (s : Block) : Block := if s.writable (Reg.SP_CTL n) then s.spStopPass n else s
def doSpStopNow (n : Nat) (s : Block) : Block := if s.writable (Reg.SP_CTL n) then s.spStopNow n else s

/-- A write of SP_CFG is performed only while the spindle is STOPPED (R172). In forerunner mode NENT is at most 7 (R186). -/
def Block.writeSpCfg (s : Block) (n : Nat) (v : Word) : Block :=
  if s.spState n ≠ STOPPED then s.put (Reg.SP_STAT_CFG_IGNORED n) 1
  else
    let s := s.writeFields (Reg.SP_CFG n) v
    if s.flag (Reg.SP_CFG_FRM n) then
      (s.put (Reg.SP_CFG_NENT n) (s.get (Reg.SP_CFG_NENT n) % 8)).put (Reg.SP_CFG_URG_E n) (s.get (Reg.SP_CFG_URG_E n) % 8)
    else s

/-- SP_CFG_WRITE. -/
def doSpCfgWrite (n : Nat) (v : Word) (s : Block) : Block :=
  if s.writable (Reg.SP_CFG n) then s.writeSpCfg n v else s

/-! SEQ_IDX and SEQ_DATA (R171). Agents: 0 line-card host, 1 package host, 2 Bear core. -/

/-- The field of an agent's own SEQ_IDX. -/
def seqFld (ag hi lo : Nat) : Fld := ⟨ownCopy ag Reg.SEQ_IDX, hi, lo⟩

/-- Word `w` of a definition. -/
def defWord (d : BitVec 128) (w : Nat) : Word := d.extractLsb' (32 * w) 32

/-- Word `w` of agent `ag`'s staging buffer. -/
def Block.staged (s : Block) (ag w : Nat) : Word := Bank.get (fun _ => 0) s.acq.staging (4 * ag + w)

/-- Word `w` of agent `ag`'s staging buffer becomes `v`. -/
def Block.setStaged (s : Block) (ag w : Nat) (v : Word) : Block :=
  (s.withAcq { s.acq with staging := Bank.set (fun _ => 0) s.acq.staging (4 * ag + w) v })

/-- The staging buffer of agent `ag` is loaded with the committed definition its index names. -/
def Block.loadStaging (s : Block) (ag : Nat) : Block :=
  let n := s.get (seqFld ag 11 6)
  let d := if n < 48 then s.entryDef n (s.get (seqFld ag 5 2)) else 0
  s.each [0, 1, 2, 3] (fun s w => s.setStaged ag w (defWord d w))

/-- A write of SEQ_IDX by agent `ag`; one that changes SPINDLE or ENTRY loads the staging buffer. -/
def Block.writeSeqIdx (s : Block) (ag : Nat) (v : Word) : Block :=
  let old := s.get (seqFld ag 11 2)
  let s := s.put (seqFld ag 11 0) (bitsOf v 11 0)
  if old = bitsOf v 11 2 then s else s.loadStaging ag

/-- SEQ_IDX_WRITE. -/
def doSeqIdxWrite (ag : Nat) (v : Word) (s : Block) : Block :=
  if s.writable Reg.SEQ_IDX then s.writeSeqIdx ag v else s

/-- Entry `e` of spindle `n` is committed with definition `d`: its DC estimate becomes 0, and a run of it in progress
becomes stale (R151, R171). -/
def Block.commitEntry (s : Block) (n e : Nat) (d : BitVec 128) : Block :=
  let s := (s.withAcq { s.acq with
    defs := Bank.set (fun _ => 0) s.acq.defs (16 * n + e) d
    dc := Bank.set (fun _ => 0) s.acq.dc (16 * n + e) 0
    dcNew := Bank.set (fun _ => none) s.acq.dcNew (16 * n + e) none })
  match (s.sp n).act with
  | some r => if r.entry = e ∧ r.kind ≠ .cal then s.setAct n (some { r with stale := true }) else s
  | none => s

/-- After an access of SEQ_DATA, WORD advances; from 3 it wraps to 0 and ENTRY advances, which loads the buffer. -/
def Block.advanceSeq (s : Block) (ag : Nat) : Block :=
  let w := s.get (seqFld ag 1 0)
  if w < 3 then s.put (seqFld ag 1 0) (w + 1)
  else ((s.put (seqFld ag 1 0) 0).put (seqFld ag 5 2) (s.get (seqFld ag 5 2) + 1)).loadStaging ag

/-- The write is to no spindle, or to the active bank of one in forerunner mode: ignored (R171). -/
def Block.seqIgnored (s : Block) (n e : Nat) : Bool :=
  decide (47 < n) || (s.flag (Reg.SP_CFG_FRM n) && e / 8 == s.get (Reg.SP_CFG_FRM_BANK n))

/-- A write of SEQ_DATA by agent `ag`. -/
def Block.writeSeqData (s : Block) (ag : Nat) (v : Word) : Block :=
  let n := s.get (seqFld ag 11 6)
  let e := s.get (seqFld ag 5 2)
  let w := s.get (seqFld ag 1 0)
  if s.seqIgnored n e then (s.put (seqFld ag 31 31) 1).advanceSeq ag
  else
    let s := (s.put (seqFld ag 31 31) 0).setStaged ag w v
    let s := if w = 3 then s.commitEntry n e (v ++ s.staged ag 2 ++ s.staged ag 1 ++ s.staged ag 0) else s
    s.advanceSeq ag

/-- A read of SEQ_DATA by agent `ag`: the committed word. -/
def Block.readSeqData (s : Block) (ag : Nat) : Word × Block :=
  let n := s.get (seqFld ag 11 6)
  (if n < 48 then defWord (s.entryDef n (s.get (seqFld ag 5 2))) (s.get (seqFld ag 1 0)) else 0, s.advanceSeq ag)

/-- SEQ_DATA_ACCESS: a write of `v`, or a read. -/
def doSeqDataAccess (ag : Nat) (v : Option Word) (s : Block) : Block :=
  match v with
  | some v => if s.writable Reg.SEQ_DATA then s.writeSeqData ag v else s
  | none => if s.coreOn then (s.readSeqData ag).2 else s

/-! Result records (R176–R179, R185). -/

/-- The record of a result (Table 7.5): the 24-bit code left-justified, flags, spindle, entry, epoch and time. -/
def resultRec (code : Int) (flags n entry epoch : Nat) (time : Count) : Rec :=
  time ++ BitVec.ofNat 4 epoch ++ BitVec.ofNat 4 entry ++ BitVec.ofNat 8 n ++ BitVec.ofNat 16 flags ++
    BitVec.ofNat 24 (toBits 24 code) ++ (0#8)

/-- The flags of a result (Table 7.6). -/
def flagBits (isOver openW refBad restarted settling stale phaseQ missed comp urgent : Bool) : Nat :=
  isOver.toNat + 2 * openW.toNat + 4 * refBad.toNat + 8 * restarted.toNat + 16 * settling.toNat + 32 * stale.toNat +
    64 * phaseQ.toNat + 128 * missed.toNat + 256 * comp.toNat + 512 * urgent.toNat

/-- The FIFO a record of spindle `n` goes to: its own binding, or while it drains the one it gave up (R179, R185). -/
def Block.fifoOf (s : Block) (n : Nat) : Nat :=
  match (s.sp n).tsw with
  | some _ => (s.sp n).drainFifo
  | none => s.get (Reg.SP_CFG_FIFO n)

/-- A record of spindle `n` with centre instant `centre` passes the migration gate and goes to its FIFO, the Ply link or
both, by DEST (R177, R185). -/
def Block.deliverRec (s : Block) (n dest : Nat) (centre : Nat) (r : Rec) : Block :=
  let pass := match (s.sp n).tsw with
    | some t => decide (centre < t)
    | none => true
  if !pass then (s.bump (Reg.SP_CNT_MIG_DISCARDS n) 1).put (Reg.SP_STAT_MIG_DISCARD_SEEN n) 1
  else
    let s := if dest = 0 ∨ dest = 2 then s.pushFifo (s.fifoOf n) r else s
    if dest = 1 ∨ dest = 2 then s.offerRes r else s

/-! Migration and bank changes (R184, R186). -/

/-- MIGRATE_SWITCH: the switch instant of spindle `a`'s migration is reached (R184). -/
def doMigrateSwitch (a : Nat) (s : Block) : Block :=
  match (s.sp a).mig with
  | none => s
  | some m =>
    if s.tbNow m.tb < m.instant then s
    else
    let b := m.dest
    let s := s.each (List.range 16) (fun s e => s.commitEntry b e (s.entryDef a e))
    let s := s.each [Reg.SP_CFG_NENT, Reg.SP_CFG_URG_E, Reg.SP_CFG_DONE_EV, Reg.SP_CFG_TS]
      (fun s f => s.put (f b) (s.get (f a)))
    let s := s.unstall a
    let fa := s.get (Reg.SP_CFG_FIFO a)
    let s := (s.put (Reg.SP_CFG_FIFO a) (s.get (Reg.SP_CFG_FIFO b))).put (Reg.SP_CFG_FIFO b) fa
    let s := s.put (Reg.SP_CTL_EPOCH b) (s.get (Reg.SP_CTL_EPOCH a) + 1)
    let stA := s.spState a
    let s := s.setSp b { s.sp b with next := 0, repsDone := 0, ranAny := false }
    let s := s.put (Reg.SP_STAT_STATE b) stA
    let queued := s.flag (Reg.SP_STAT_URG_QUEUED a)
    let s := s.put (Reg.SP_STAT_URG_QUEUED a) 0
    let s := s.setSp a { s.sp a with mig := none, tsw := some s.now, drainFifo := fa }
    let s := s.put (Reg.SP_STAT_STATE a) DRAINING
    let s := if queued then s.registerUrgent b else s
    let s := s.endDrain a
    s.finishPacket m.host m.tag 0 [s.localCount.extractLsb' 0 32, s.localCount.extractLsb' 32 32]

/-- FRM_BANK_CHANGE: after the pass in which a forerunner load completed, the spindle changes banks and its epoch
advances (R186). DESIGN CHOICE: a STOPPED spindle, which has no pass in progress, changes at once. -/
def doFrmBankChange (n : Nat) (s : Block) : Block :=
  let p := s.sp n
  if p.frmLoaded ∧ !s.frmNodesRunning 0 n ∧ p.act.isNone ∧ p.resume = [] ∧ p.next = s.spBase n ∧ p.repsDone = 0 ∧ s.flag (Reg.SP_CFG_FRM n) then
    let s := s.put (Reg.SP_CFG_FRM_BANK n) (1 - s.get (Reg.SP_CFG_FRM_BANK n))
    let s := s.put (Reg.SP_CTL_EPOCH n) (s.get (Reg.SP_CTL_EPOCH n) + 1)
    let s := (s.put (Reg.SP_CFG_NENT n) p.frmNent).put (Reg.SP_CFG_URG_E n) p.frmUrg
    s.setSp n { p with frmLoaded := false, next := s.spBase n }
  else s

/-! The commands of this file, with the operands that the command table's rows take here. -/

def execSpStart (n : Fin 48) (s : State) : Out := .next (s.withBlock (doSpStart n s.toBlock))
def execSpStartOnce (n : Fin 48) (s : State) : Out := .next (s.withBlock (doSpStartOnce n s.toBlock))
def execSpStopPass (n : Fin 48) (s : State) : Out := .next (s.withBlock (doSpStopPass n s.toBlock))
def execSpStopNow (n : Fin 48) (s : State) : Out := .next (s.withBlock (doSpStopNow n s.toBlock))
def execRunStart (n : Fin 48) (s : State) : Out := .next (s.withBlock (doRunStart n s.toBlock))
def execSeqIdxWrite (ag : Fin 3) (v : Word) (s : State) : Out := .next (s.withBlock (doSeqIdxWrite ag v s.toBlock))
def execSeqDataAccess (ag : Fin 3) (v : Option Word) (s : State) : Out := .next (s.withBlock (doSeqDataAccess ag v s.toBlock))
def execSpCfgWrite (n : Fin 48) (v : Word) (s : State) : Out := .next (s.withBlock (doSpCfgWrite n v s.toBlock))
def execTgFire (v : Word) (s : State) : Out := .next (s.withBlock (doTgFire v s.toBlock))
def execSpUrgent (v : Word) (s : State) : Out := .next (s.withBlock (doSpUrgent v s.toBlock))
def execUrgentRegister (n : Fin 48) (s : State) : Out := .next (s.withBlock (doUrgentRegister n s.toBlock))
def execEntryRestart (n : Fin 48) (s : State) : Out := .next (s.withBlock (doEntryRestart n s.toBlock))
def execMigrateSwitch (a : Fin 48) (s : State) : Out := .next (s.withBlock (doMigrateSwitch a s.toBlock))
def execFrmBankChange (n : Fin 48) (s : State) : Out := .next (s.withBlock (doFrmBankChange n s.toBlock))

end Sys2Proof.Machine
end

