-- ==== Sys2Proof/Machine/Convert.lean ====
section
/-! DEFINITION. Chapters 4 and 5: modulator clocks, sampling starts, group edges, calibration conversions, coefficients and
the numerically controlled oscillators. Fine converter F`k` is converter `k`, Swift converter S`j` is converter 32 + `j`. -/

namespace Sys2Proof.Machine

/-! Registers whose earlier values still act (R108, R128). -/

/-- The register at `a` is about to change: its value until now is kept, and later outputs use the new one. -/
def Block.logReg (s : Block) (a : Nat) : Block :=
  (s.withAcq { s.acq with
    wrote := Bank.set (fun _ => []) s.acq.wrote a ((s.now, s.reg a) :: Bank.get (fun _ => []) s.acq.wrote a) })

def Block.writeLogged (s : Block) (a : Nat) (v : Word) : Block := (s.logReg a).writeFields a v

/-- The value a register had at local count `t`: a write counts from 8 HALF cycles (5.3 ns) after it (R108, R128). -/
def valueAt (now : Word) (t : Nat) : List (Nat × Word) → Word
  | [] => now
  | (at', old) :: rest => if t < at' + 6 then valueAt old t rest else now

def Block.regAt (s : Block) (a t : Nat) : Word := valueAt (s.reg a) t (Bank.get (fun _ => []) s.acq.wrote a)

/-- A coefficient register's offset and gain deviation (Tables 4.15 and 5.11). -/
def coefOfs (w : Word) : Int := signed 16 (bitsOf w 15 0)
def coefDev (w : Word) : Int := signed 16 (bitsOf w 31 16)

/-! Sampling (R87, R99, R102, R123, R124). Instants are in 1/192 ns of local time, in which a free-running modulator period
is 15,625 and 4 AFE_SEQ cycles are 8,000. -/

/-- Converter `n` is to sample from instant `start`: it does when REF_OK is 1 or FORCE is set; else it waits, at `wait`.
REF_WAIT is raised once per wait, and at a forced start (R87, R91). -/
def Block.sampleOrWait (s : Block) (n : Nat) (r : Run) (wait : Stage) (start : Nat) : Block :=
  let u := refUnit n
  if s.refOk u then s.beginSampling n r start
  else
    let s := if r.waited then s else s.raise (convSource n + 2) (convDetail n r)
    if s.flag (Reg.REF_SEL_FORCE u) then s.beginSampling n r start
    else s.setAct n (some { r with stage := wait, waited := true, took := none })

/-- The modulator period of converter `n` in ns, as a fraction (Table 4.1, R95). -/
def Block.modPeriod (s : Block) (n : Nat) : Nat × Nat :=
  if s.mainsLocked n then (4000000000, 15 * max 1 s.mainsFreq) else (15625, 192)

/-- The first edge of converter `n`'s clock at or after instant `t`: a multiple of 50 ns for a Swift converter (R120); for a
mains-locked one a multiple of 4/15 units of the mains angle, while it is aligned (R95). The spec does not give the phase
of the other modulator clocks: `ph`, in 1/15625 of a period, is what the command reports. -/
def Block.edgeFrom (s : Block) (n t ph : Nat) : Nat :=
  if !isFine n then 9600 * ceilDiv t 9600
  else if !s.mainsLocked n then t + (ph + 15625 - t % 15625) % 15625
  else if 2 ≤ s.mainsState then s.mainsInstant (4 * 10 ^ 18 * ceilDiv (15 * s.mainsFine t) (4 * 10 ^ 18) / 15)
  else t + ph * 192 * (s.modPeriod n).1 / (15625 * (s.modPeriod n).2)

/-- Converter `n`'s settled activity, which waits for no trigger, begins sampling at the first edge at least 4 AFE_SEQ cycles
after its settle and REF_OK, once that is reached (R99, R123). -/
def Block.startSampling (s : Block) (n ph : Nat) : Block :=
  match (s.sp n).act with
  | some r =>
    let u := refUnit n
    let t := max r.settled (if s.refOk u then Bank.get (fun _ => 0) s.acq.okAt u else 0)
    let e := s.edgeFrom n (192 * t + 8000) ph
    if r.stage = .ready ∧ (!dTrig r.dfn ∨ r.freed) ∧ s.unitUp u ∧ e ≤ 192 * s.now then s.sampleOrWait n r .ready e else s
  | none => s

/-- FINE_SAMPLING_START (R99). -/
def doFineSamplingStart (k ph : Nat) (s : Block) : Block := s.startSampling k ph

/-- SWIFT_SAMPLING_START (R123). -/
def doSwiftSamplingStart (j : Nat) (s : Block) : Block := s.startSampling (32 + j) 0

/-- The clock network of a converter: 0 free-running, 1 mains-locked, 2 the Swift sample clock (R94, R120). -/
def Block.networkOf (s : Block) (n : Nat) : Nat := if isFine n then (if s.mainsLocked n then 1 else 0) else 2

/-- A member that has taken a trigger meets its group edge, instant `e`: it samples, with SETTLING when its settle has not
ended there, or has missed the trigger in its pre-check or line wait (R68, R102, R174). -/
def Block.memberEdge (s : Block) (n : Nat) (r : Run) (e : Nat) : Block :=
  match r.stage with
  | .ready | .settle | .sense =>
    let late := r.stage == .sense || decide (e < 192 * r.settled) ||
      (r.stage == .settle && s.ballsChecking n (codeBalls (dInput r.dfn)))
    s.sampleOrWait n { r with settling := late, waited := false } .refWait e
  | .line | .check | .checking =>
    ((s.setAct n (some { r with took := none, missed := true })).bump (Reg.SP_CNT_MISSES n) 1).put
      (Reg.SP_STAT_MISS_SEEN n) 1
  | _ => s

/-- GROUP_EDGE: the edge of group `g` on clock network `net`, the first at least 4 AFE_SEQ cycles after the trigger, is reached
by every member that took one so long ago (R102, R124). -/
def doGroupEdge (g net ph : Nat) (s : Block) : Block :=
  s.each spindleList (fun s n =>
    match (s.sp n).act with
    | some r =>
      match r.took with
      | some t =>
        let e := s.edgeFrom n (192 * t + 8000) ph
        if dGroup r.dfn = g ∧ s.networkOf n = net ∧ e ≤ 192 * s.now then s.memberEdge n r e else s
      | none => s
    | none => s)

/-! Periods and samples (R144). -/

/-- Edge `p` of the modulator clock after activity `r`'s sampling start, edge 0 (R95, R144). -/
def Block.periodAt (s : Block) (n : Nat) (r : Run) (p : Nat) : Nat :=
  if s.mainsLocked n then s.mainsInstant (r.angle + 4 * 10 ^ 18 * p / 15) else r.start + 15625 * p

/-- The instant of Fine period, or Swift sample, `p` of activity `r`. -/
def Block.inputAt (s : Block) (n : Nat) (r : Run) (p : Nat) : Nat :=
  if isFine n then s.periodAt n r p else r.start + 9600 * p

/-- The gain of an entry (Table 3.3). -/
def dGainOf (d : BitVec 128) : Int := 2 ^ dGain d

/-- What converter `n` makes of its inputs `ms`, the first of them number `p`. Inputs of IC30 are given as what they differ by
from the code of the test DAC's level at 2.500 V of reference, with its errors and its settling (R83, R98, R122). -/
def Block.inputCodes (s : Block) (n : Nat) (r : Run) (p : Nat) (ms : List Int) : List Int :=
  if codeSource (dInput r.dfn) = 1258 ∧ !r.allOver then
    (ms.zip (List.range ms.length)).map (fun (m, i) =>
      let c := roundDiv (tdacSteps (s.regAt Reg.TDAC (s.inputAt n r (p + i) / 192)) * 7629 * dGainOf r.dfn *
        (if isFine n then 2 ^ 23 else 2 ^ 18)) 250000000
      m + (if r.xswap then -c else c))
  else ms

/-- The sum of a list of integers. -/
def sumInt (l : List Int) : Int := l.foldl (· + ·) 0

/-- The code range of 24 bits is exceeded (R74). -/
def exceeds24 (x : Int) : Bool := decide (x ≠ saturate 24 x)

/-- Sums of `q` consecutive elements. -/
def boxSums (q : Nat) (l : List Int) : List Int :=
  (List.range (l.length + 1 - q)).map (fun i => sumInt ((l.drop i).take q))

/-- The output of sinc^`k` from the `k` × (`osr` − 1) + 1 modulator periods that it covers (R145). The spec does not give what a
modulator period yields: a period is given as the 24-bit code that it stands for, not yet limited to its range. -/
def sincOf (k osr : Nat) (l : List Int) (f : Nat) : Int :=
  roundNear (((List.range k).foldl (fun l _ => boxSums osr l) l).headD 0) ((osr ^ k : Nat)) f

/-- A span of periods or samples, from number `a` to `b`, met an overrange of the input, or REF_OK = 0 (R75, R87, R162). -/
def Block.spanOver (s : Block) (n : Nat) (r : Run) (a b : Nat) : Bool :=
  r.allOver || spellIn (s.inputAt n r a) (s.inputAt n r b) r.overs

def Block.spanBadRef (s : Block) (n : Nat) (r : Run) (a b : Nat) : Bool :=
  spellIn (s.inputAt n r a) (s.inputAt n r b) r.badRefs

/-- A result of quad or group `u` carries REF_UNSETTLED (Table 3.22). -/
def Block.noteRef (s : Block) (u : Nat) (bad : Bool) : Block := if bad then s.put (Reg.REF_SEL_UNSETTLED_SEEN u) 1 else s

/-! Modulator clocks (R94–R96). -/

/-- A write of FINE_QCLK (R96): a change of MODE from the mode in force waits for the switch; one that restores it cancels. -/
def Block.writeFineQclk (s : Block) (q : Nat) (v : Word) : Block :=
  let s := s.put (Reg.FINE_QCLK_MODE q) (bitsOf v 0 0)
  s.putB (Reg.FINE_QCLK_PENDING q) (s.get (Reg.FINE_QCLK_MODE q) != s.get (Reg.FINE_QCLK_ACTIVE q))

/-- FINE_QCLK_WRITE. -/
def doFineQclkWrite (q : Nat) (v : Word) (s : Block) : Block :=
  if s.writable (Reg.FINE_QCLK q) then s.writeFineQclk q v else s

/-! Calibration conversions (R109–R111, R129). -/

/-- The definition a calibration conversion runs with: its input, its gain and its settle, 96 AFE_SEQ cycles a µs (R109). -/
def calDef (w : Word) : BitVec 128 :=
  BitVec.ofNat 128 (bitsOf w 11 0 + 4096 * bitsOf w 14 12 + 2 ^ 32 * (96 * bitsOf w 27 20))

/-- What a calibration conversion takes: OSR, or a number of samples (Tables 4.13, 5.8). -/
def calLength (n : Nat) (w : Word) : Nat :=
  if isFine n then 32 * 2 ^ (min 11 (bitsOf w 19 16)) else 2 ^ bitsOf w 19 16

/-- A write of FINE_CALREQ`k` (R109). -/
def Block.writeFineCalreq (s : Block) (k : Nat) (v : Word) : Block :=
  if bitsOf v 31 31 = 0 then s.writeFields (Reg.FINE_CALREQ k) v
  else if s.flag (Reg.FINE_CALSTAT_BUSY k) then s.put (Reg.FINE_CALSTAT_REJECTED k) 1
  else
    let s := s.writeFields (Reg.FINE_CALREQ k) v
    if lineCodeValid (bitsOf v 11 0) then
      let s := ((s.put (Reg.FINE_CALSTAT_BUSY k) 1).put (Reg.FINE_CALSTAT_DONE k) 0).put (Reg.FINE_CALSTAT_BAD k) 0
      (s.put (Reg.FINE_CALSTAT_RESTARTED k) 0).setSp k { s.sp k with cal := some v, calGap := false }
    else s.put (Reg.FINE_CALSTAT_BAD k) 1

/-- FINE_CALREQ_GO. -/
def doFineCalreqGo (k : Nat) (v : Word) (s : Block) : Block :=
  if s.writable (Reg.FINE_CALREQ k) then s.writeFineCalreq k v else s

/-- A write of SWIFT_CALREQ`j` (R129): a gain code above 3 is refused as well. -/
def Block.writeSwiftCalreq (s : Block) (j : Nat) (v : Word) : Block :=
  if bitsOf v 31 31 = 0 then s.writeFields (Reg.SWIFT_CALREQ j) v
  else if s.flag (Reg.SWIFT_CALSTAT_BUSY j) then s.put (Reg.SWIFT_CALSTAT_REJECTED j) 1
  else
    let s := s.writeFields (Reg.SWIFT_CALREQ j) v
    if lineCodeValid (bitsOf v 11 0) ∧ bitsOf v 14 12 < 4 then
      let s := ((s.put (Reg.SWIFT_CALSTAT_BUSY j) 1).put (Reg.SWIFT_CALSTAT_DONE j) 0).put (Reg.SWIFT_CALSTAT_BAD j) 0
      (s.put (Reg.SWIFT_CALSTAT_RESTARTED j) 0).setSp (32 + j) { s.sp (32 + j) with cal := some v, calGap := false }
    else s.put (Reg.SWIFT_CALSTAT_BAD j) 1

/-- SWIFT_CALREQ_GO. -/
def doSwiftCalreqGo (j : Nat) (v : Word) (s : Block) : Block :=
  if s.writable (Reg.SWIFT_CALREQ j) then s.writeSwiftCalreq j v else s

/-- A continuous run gives way to a calibration conversion: it stops as an abort stops it, without event or count, and is
to start again with RESTARTED (R110). -/
def Block.stopForCal (s : Block) (n : Nat) (r : Run) : Block :=
  let s := s.dropLine n
  s.setSp n { s.sp n with act := none, resume := r.again false :: (s.sp n).resume }

/-- A queued calibration conversion of converter `n` begins at its gap (R109, R110): nothing is in progress or waits to
be started again, or a continuous run, of the sequence or of an urgent entry, has given its next result since the GO. -/
def Block.startCal (s : Block) (n : Nat) : Block :=
  match (s.sp n).cal with
  | none => s
  | some w =>
    let r : Run := { s.newRun n 0 .cal with
      dfn := calDef w, profile := 0, pd := 0, freed := true, xswap := bitsOf w 15 15 == 1, samples := calLength n w }
    if !s.mayBegin n then s
    else match (s.sp n).act with
      | some a =>
        if a.kind ≠ .cal ∧ dLength a.dfn = 0 ∧ (s.sp n).calGap then
          let s := s.stopForCal n a
          (s.setSp n { s.sp n with cal := none, calGap := false }).takePath n r
        else s
      | none =>
        if (s.sp n).resume ≠ [] ∨ (s.sp n).urgHeld ∨ s.flag (Reg.SP_STAT_URG_QUEUED n) then s
        else (s.setSp n { s.sp n with cal := none, calGap := false }).takePath n r

/-- FINE_CAL_START. -/
def doFineCalStart (k : Nat) (s : Block) : Block := s.startCal k

/-- SWIFT_CAL_START. -/
def doSwiftCalStart (j : Nat) (s : Block) : Block := s.startCal (32 + j)

/-- Converter `n` leaves its line and has nothing in progress. -/
def Block.endAct (s : Block) (n : Nat) : Block := (s.dropLine n).setAct n none

/-- FINE_CAL_DONE: F`k`'s calibration conversion has run over 5 × OSR modulator periods, `ms`, and the raw sinc5 output goes to
CALRES (R109). -/
def doFineCalDone (k : Nat) (ms : List Int) (s : Block) : Block :=
  match (s.sp k).act with
  | some r =>
    let len := 5 * r.samples
    if r.kind ≠ .cal ∨ r.stage ≠ .sampling ∨ ms.length ≠ len ∨ 192 * s.now < s.periodAt k r len then s
    else
      let (f, s) := s.draw
      let raw := sincOf 5 r.samples ((s.inputCodes k r 0 ms).drop 4) f
      let bad := s.spanBadRef k r 4 (len - 1)
      let isOver := exceeds24 raw || s.spanOver k r 4 (len - 1)
      let s := ((s.noteChain k (exceeds24 raw)).noteRef (refUnit k) bad).put (Reg.FINE_CALRES_CODE k) (toBits 24 (saturate 24 raw))
      let s := (s.putB (Reg.FINE_CALSTAT_OVERRANGE k) isOver).putB (Reg.FINE_CALSTAT_REF_UNSETTLED k) bad
      let s := (s.putB (Reg.FINE_CALSTAT_OPEN_WIRE k) (s.openWire (dInput r.dfn))).bump (Reg.FINE_CNT_CALS k) 1
      ((s.put (Reg.FINE_CALSTAT_DONE k) 1).put (Reg.FINE_CALSTAT_BUSY k) 0).endAct k
  | none => s

/-- A Swift sample at one of its two extreme codes is overranged (R74, R122). -/
def swiftExtreme (c : Int) : Bool := c == 131071 || c == -131072

/-- The 18-bit codes of inputs that are given without the limits of their range (R122). -/
def Block.swiftCodes (s : Block) (n : Nat) (r : Run) (p : Nat) (ms : List Int) : List Int :=
  (s.inputCodes n r p ms).map (saturate 18)

/-- SWIFT_CAL_DONE: the mean of the uncorrected chain codes 64 × C of S`j`'s samples `ms` goes to CALRES (R129). -/
def doSwiftCalDone (j : Nat) (ms : List Int) (s : Block) : Block :=
  let n := 32 + j
  match (s.sp n).act with
  | some r =>
    if r.kind ≠ .cal ∨ r.stage ≠ .sampling ∨ ms.length ≠ r.samples ∨ 192 * s.now < s.inputAt n r (r.samples - 1) then s
    else
      let (k, s) := s.draw
      let codes := s.swiftCodes n r 0 ms
      let bad := s.spanBadRef n r 0 (r.samples - 1)
      let isOver := codes.any swiftExtreme || s.spanOver n r 0 (r.samples - 1)
      let s := (s.noteChain n (codes.any swiftExtreme)).noteRef (refUnit n) bad
      let s := s.put (Reg.SWIFT_CALRES_CODE j) (toBits 24 (roundNear (64 * sumInt codes) r.samples k))
      let s := (s.putB (Reg.SWIFT_CALSTAT_OVERRANGE j) isOver).putB (Reg.SWIFT_CALSTAT_REF_UNSETTLED j) bad
      let s := (s.putB (Reg.SWIFT_CALSTAT_OPEN_WIRE j) (s.openWire (dInput r.dfn))).bump (Reg.SWIFT_CNT_CALS j) 1
      ((s.put (Reg.SWIFT_CALSTAT_DONE j) 1).put (Reg.SWIFT_CALSTAT_BUSY j) 0).endAct n
  | none => s

/-! Clock switches (R96). -/

/-- What waits at converter `n` begins: an urgent entry, an aborted run, a calibration conversion or the next run. -/
def Block.beginWaiting (s : Block) (n : Nat) : Block :=
  doRunStart n ((doEntryRestart n s).startCal n)

/-- An urgent entry is what converter `n` is to begin next. -/
def Block.urgentWaits (s : Block) (n : Nat) : Bool :=
  (s.sp n).urgHeld || s.urgentFirst n || s.flag (Reg.SP_STAT_URG_QUEUED n)

/-- Waiting entries of converters `l` begin, urgent ones first, then in ascending spindle number (R66). -/
def Block.beginAll (s : Block) (l : List Nat) : Block :=
  (s.each (l.filter s.urgentWaits) (fun s n => doEntryRestart n s)).each l Block.beginWaiting

/-- Quad or group `u` is powered again, or no longer treated as powered down: its REF_OK stays 0 for 200 µs (R97). -/
def Block.unitWait (s : Block) (u : Nat) : Block :=
  Block.updateRef (s.withAcq { s.acq with
    upWait := Bank.set (fun _ => false) s.acq.upWait u true, upAt := Bank.set (fun _ => 0) s.acq.upAt u s.now }) u

/-- FINE_CLOCK_SWITCH: no converter of quad `q` has anything in progress, so its pending clock switch is made and the waiting
entries begin. A clock fault may treat the quad as powered down in one of the two modes only (R466). -/
def doFineClockSwitch (q : Nat) (s : Block) : Block :=
  let l := [4 * q, 4 * q + 1, 4 * q + 2, 4 * q + 3]
  if s.flag (Reg.FINE_QCLK_PENDING q) ∧ l.all (fun n => (s.sp n).act.isNone) then
    let was := s.unitUp q
    let s := (s.put (Reg.FINE_QCLK_ACTIVE q) (s.get (Reg.FINE_QCLK_MODE q))).put (Reg.FINE_QCLK_PENDING q) 0
    let s := if !was ∧ s.unitUp q then s.unitWait q else s.updateRef q
    s.beginAll l
  else s

/-! Oscillators (R126, R130–R132). -/

/-- The first sample edge after the present instant (R120). -/
def Block.nextEdge (s : Block) : Nat := (s.now / 50 + 1) * 50

/-- Accumulator and PHASE of an oscillator at sample edge `t`. -/
def ncoAt (t : Nat) : List NcoSeg → Word × BitVec 16
  | [] => (0, 0)
  | g :: rest => if g.edge ≤ t then (g.acc + g.freq * BitVec.ofNat 32 ((t - g.edge) / 50), g.phase) else ncoAt t rest

/-- The stretches of S`j`'s oscillator. -/
def Block.nco (s : Block) (j : Nat) : List NcoSeg := Bank.get (fun _ => []) s.acq.ncos j

def Block.setNco (s : Block) (j : Nat) (l : List NcoSeg) : Block :=
  (s.withAcq { s.acq with ncos := Bank.set (fun _ => []) s.acq.ncos j l })

/-- A new stretch begins at the next sample edge with accumulator `acc` and the settings as they stand. -/
def Block.pushNco (s : Block) (j : Nat) (acc : Word) : Block :=
  s.setNco j (⟨s.nextEdge, acc, s.reg (Reg.SWIFT_NCO_FREQ j), BitVec.ofNat 16 (s.get (Reg.SWIFT_NCO_PHASE_PHASE j))⟩ :: s.nco j)

/-- S`j`'s oscillator runs on with new settings, its phase continuous; a stopped one does nothing. -/
def Block.retuneNco (s : Block) (j : Nat) : Block :=
  if s.nco j = [] then s else s.pushNco j (ncoAt s.nextEdge (s.nco j)).1

/-- S`j`'s accumulator is set to 0 at the next sample edge, whose local count goes to T0 (R131). -/
def Block.loadNco (s : Block) (j : Nat) : Block :=
  let s := s.setPair (Reg.SWIFT_NCO_T0_LO j) (Reg.SWIFT_NCO_T0_HI j) (BitVec.ofNat 64 s.nextEdge)
  (s.put (Reg.SWIFT_NCO_STAT_FREQ_SINCE_LOAD j) 0).pushNco j 0

/-- The accumulator restarts by a power-up of its group or a reset of subsystem 5 (R126, R138). -/
def Block.restartNco (s : Block) (j : Nat) : Block :=
  (((s.setNco j []).loadNco j).put (Reg.SWIFT_NCO_STAT_RELOADED j) 1).setBit Reg.SWIFT_RELOADED j true

/-- A write of SWIFT_NCO_LOAD. An oscillator whose group is down is stopped and is loaded at power-up (R126). -/
def Block.writeNcoLoad (s : Block) (v : Word) : Block :=
  s.each ((List.range 16).filter (fun j => v.getLsbD j && s.unitUp (8 + j / 4))) Block.loadNco

/-- NCO_LOAD. -/
def doNcoLoad (v : Word) (s : Block) : Block := if s.writable Reg.SWIFT_NCO_LOAD then s.writeNcoLoad v else s

/-- A write of SWIFT_NCO_FREQ`j` (R130). -/
def Block.writeNcoFreq (s : Block) (j : Nat) (v : Word) : Block :=
  if 214748 ≤ v.toNat ∧ v.toNat ≤ 1073741824 then
    let s := s.putB (Reg.SWIFT_NCO_STAT_FREQ_SINCE_LOAD j)
      (s.flag (Reg.SWIFT_NCO_STAT_FREQ_SINCE_LOAD j) || s.reg (Reg.SWIFT_NCO_FREQ j) != v)
    (s.setReg (Reg.SWIFT_NCO_FREQ j) v).retuneNco j
  else s.put (Reg.SWIFT_NCO_STAT_BAD j) 1

/-- NCO_FREQ_WRITE. -/
def doNcoFreqWrite (j : Nat) (v : Word) (s : Block) : Block :=
  if s.writable (Reg.SWIFT_NCO_FREQ j) then s.writeNcoFreq j v else s

/-- A write of SWIFT_NCO_PHASE`j` takes effect at the next sample edge (R132). -/
def Block.writeNcoPhase (s : Block) (j : Nat) (v : Word) : Block :=
  (s.writeFields (Reg.SWIFT_NCO_PHASE j) v).retuneNco j

/-! The commands of this file, with the operands that the command table's rows take here. -/

def execFineQclkWrite (q : Fin 8) (v : Word) (s : State) : Out := .next (s.withBlock (doFineQclkWrite q v s.toBlock))
def execFineClockSwitch (q : Fin 8) (s : State) : Out := .next (s.withBlock (doFineClockSwitch q s.toBlock))
def execFineSamplingStart (k : Fin 32 × Fin 15625) (s : State) : Out := .next (s.withBlock (doFineSamplingStart k.1 k.2 s.toBlock))
def execSwiftSamplingStart (j : Fin 16) (s : State) : Out := .next (s.withBlock (doSwiftSamplingStart j s.toBlock))
def execGroupEdge (g : Fin 32) (net : Fin 3 × Fin 15625) (s : State) : Out := .next (s.withBlock (doGroupEdge g net.1 net.2 s.toBlock))
def execFineCalreqGo (k : Fin 32) (v : Word) (s : State) : Out := .next (s.withBlock (doFineCalreqGo k v s.toBlock))
def execFineCalStart (k : Fin 32) (s : State) : Out := .next (s.withBlock (doFineCalStart k s.toBlock))
def execFineCalDone (k : Fin 32) (ms : List Int) (s : State) : Out := .next (s.withBlock (doFineCalDone k ms s.toBlock))
def execSwiftCalreqGo (j : Fin 16) (v : Word) (s : State) : Out := .next (s.withBlock (doSwiftCalreqGo j v s.toBlock))
def execSwiftCalStart (j : Fin 16) (s : State) : Out := .next (s.withBlock (doSwiftCalStart j s.toBlock))
def execSwiftCalDone (j : Fin 16) (ms : List Int) (s : State) : Out := .next (s.withBlock (doSwiftCalDone j ms s.toBlock))
def execNcoLoad (v : Word) (s : State) : Out := .next (s.withBlock (doNcoLoad v s.toBlock))
def execNcoFreqWrite (j : Fin 16) (v : Word) (s : State) : Out := .next (s.withBlock (doNcoFreqWrite j v s.toBlock))

end Sys2Proof.Machine
end

