-- ==== Sys2Proof/Machine/Response.lean ====
section
/-! DEFINITION. What the spec says of the fixed filters of chapter 6: the responses of Tables 6.3 and 6.6, which bind the
coefficients that it does not give (R146, R156, R157, R517), and the cosine and sine that they and the lock-in (R132)
need. -/

namespace Sys2Proof.Machine

/-! Cosine and sine of an angle in 2^−32 turns, in 2^−52 (R132, R137): one function serves both, so that the products of the
lock-in match exactly. -/

/-- The terms of a power series from `a` on, the square of the argument being `x2`; term `k` divides by (k + 1) (k + 2). -/
def trigTerms (x2 : Int) : Nat → Nat → Int → Int
  | 0, _, a => a
  | fuel + 1, k, a => a + trigTerms x2 fuel (k + 2) (-(a * x2) / (2 ^ 52 * ((k + 1) * (k + 2) : Nat)))

/-- The angle `r` of the first quadrant as 2^−52 radians: π is 14488038916154245684 × 2^−62. -/
def radians (r : Nat) : Int := (r * 14488038916154245684 / 2 ^ 41 : Nat)

def cosQuad (r : Nat) : Int := trigTerms (radians r * radians r / 2 ^ 52) 14 0 (2 ^ 52)
def sinQuad (r : Nat) : Int := trigTerms (radians r * radians r / 2 ^ 52) 14 1 (radians r)

/-- cos θ. -/
def cosOf (a : Word) : Int :=
  let r := a.toNat % 2 ^ 30
  match a.toNat / 2 ^ 30 with
  | 0 => cosQuad r
  | 1 => -sinQuad r
  | 2 => -cosQuad r
  | _ => sinQuad r

/-- sin θ: cos (θ − a quarter turn). -/
def sinOf (a : Word) : Int := cosOf (a - 0x40000000#32)

/-- The lock-in products of a corrected code: 2 y cos θ and −2 y sin θ, carried to 26 bits; which of the two nearest
integers is open (R132). -/
def lockI (a : Word) (y : Int) (k : Nat) : Int := roundOpen (2 * y * cosOf a) (2 ^ 52) k
def lockQ (a : Word) (y : Int) (k : Nat) : Int := roundOpen (-2 * y * sinOf a) (2 ^ 52) k

/-! Responses, at a frequency of `w` × 2^−32 of the rate at which the filter works. -/

/-- The sum of products of coefficients and a function of their numbers. -/
def tapSum (c : List Int) (f : Nat → Int) : Int := ((c.zip (List.range c.length)).map (fun p => p.1 * f p.2)).foldl (· + ·) 0

/-- The real and imaginary parts of the response of taps `c`, in 2^−52 of their unit. -/
def respRe (c : List Int) (w : Nat) : Int := tapSum c (fun t => cosOf (BitVec.ofNat 32 (t * w)))
def respIm (c : List Int) (w : Nat) : Int := -tapSum c (fun t => sinOf (BitVec.ofNat 32 (t * w)))

/-- The magnitude, in 2^−52 of their unit, of the response of the symmetric filter with taps c_0 … c_m … c_0. -/
def symResp (c : List Int) (w : Nat) : Nat :=
  (tapSum c (fun t => (if t + 1 = c.length then 1 else 2) * cosOf (BitVec.ofNat 32 ((c.length - 1 - t) * w)))).natAbs

/-- The response of a decimator of order `k` by `q` at its output rate, in 2^−52 (R145, R155). -/
def droop (k q w : Nat) : Nat :=
  if w = 0 then 2 ^ 52
  else ((sinOf (BitVec.ofNat 32 (w / 2))).toNat * 2 ^ 52 / (q * (sinOf (BitVec.ofNat 32 (w / 2 / q))).toNat)) ^ k / 2 ^ (52 * (k - 1))

/-- The frequencies at which a response is judged: every 512th part of the rate, up to its half. -/
def respGrid : List Nat := (List.range 257).map (· * 2 ^ 23)

/-- A symmetric filter whose unit is `one`, with a decimator's response `d` before it, is flat from `lo` to `hi` × 10^−9 up to
frequency `pass`, stays below `stop` × 10^−9 from frequency `from'`, and nowhere rises above `hi` (R146, R517). -/
def symMeets (c : List Int) (one : Nat) (d : Nat → Nat) (lo hi stop pass from' : Nat) : Bool :=
  respGrid.all (fun w =>
    let a := symResp c w * d w * 10 ^ 9
    let unit := one * 2 ^ 104
    decide (a ≤ hi * unit) && (decide (pass < w) || decide (lo * unit ≤ a)) && (decide (w < from') || decide (a ≤ stop * unit)))

/-! FIR-A and FIR-B (Table 6.3), coefficients in 2^−30. The limits hold with the droop of the sinc decimator at OSR 65,536:
no one set holds them at every OSR. -/

/-- FIR-A of order `k`, c_0 … c_63 of its 127 symmetric taps: flat ±0.0005 dB to 0.20, 120 dB from 0.30 of the sinc rate. -/
def firAMeets (k : Nat) (c : List Int) : Bool :=
  symMeets c (2 ^ 30) (droop k 65536) 999942438 1000057566 1000 (102 * 2 ^ 23) (154 * 2 ^ 23)

/-- The square of the magnitude of taps `c` with the droop of order `k`, × 10^18. -/
def magSq (k : Nat) (c : List Int) (w : Nat) : Nat :=
  (respRe c w * respRe c w + respIm c w * respIm c w).toNat * droop k 65536 w ^ 2 * 10 ^ 18

/-- The group delay of taps `c` is within `tol` hundredths of 5 sinc outputs. -/
def delayMeets (c : List Int) (tol w : Nat) : Bool :=
  let num := tapSum c (fun t => t * cosOf (BitVec.ofNat 32 (t * w))) * respRe c w -
    tapSum c (fun t => t * sinOf (BitVec.ofNat 32 (t * w))) * respIm c w
  let den := respRe c w * respRe c w + respIm c w * respIm c w
  decide ((100 * num - 500 * den).natAbs ≤ tol * den.natAbs)

/-- FIR-B of order `k`, 31 taps: flat ±0.01 dB to 0.10, −3 dB at 0.30 of the sinc rate, no rise above the flat band's limit;
5.0 sinc outputs of delay at DC, within 0.3 to 0.10. -/
def firBMeets (k : Nat) (c : List Int) : Bool :=
  let unit := (2 ^ 30 * 2 ^ 104) ^ 2
  respGrid.all (fun w =>
      decide (magSq k c w ≤ 1001151955 ^ 2 * unit) &&
        (decide (51 * 2 ^ 23 < w) || (decide (998849370 ^ 2 * unit ≤ magSq k c w) && delayMeets c 30 w))) &&
    delayMeets c 5 0 && decide (495450191 * 10 ^ 9 * unit ≤ magSq k c 1288490189) &&
    decide (magSq k c 1288490189 ≤ 506990709 * 10 ^ 9 * unit)

/-- A set that meets the limits of FIR-A for sinc3. -/
def firA3 : List Int :=
  [-307, 911, 2194, -3893, -8231, 11206, 22995, -26088, -53501, 52712, 109082, -95755, -200516, 159648, 338076,
   -247514] ++
  [-528508, 359933, 771152, -493776, -1053835, 641366, 1349459, -790268, -1614495, 923921, 1790586, -1023187,
   -1810258, 1068717, 1607191, -1043820] ++
  [-1130727, 937356, 363379, -746067, 660710, 475776, -1838985, -141005, 2987998, -237235, -3837148, 635459, 4028855,
   -1033373, -3122449, 1421103] ++
  [593991, -1808696, 4185197, 2241054, -12030031, -2829260, 24181634, 3837322, -43008126, -5990773, 74354702,
   11983946, -138217544, -39360772, 359542925, 599113177]

/-- A set that meets them for sinc5. -/
def firA5 : List Int :=
  [-771, 914, 4010, -3884, -13435, 11276, 35216, -26465, -78633, 53973, 155718, -99024, -280093, 166898, 464368,
   -261844] ++
  [-716311, 385815, 1033978, -537125, -1400680, 709369, 1780903, -890836, -2118690, 1064706, 2339934, -1210129,
   -2359770, 1304184, 2095547, -1324479] ++
  [-1484932, 1251984, 507558, -1073596, 792344, 783831, -2285554, -385153, 3742938, -113482, -4828292, 700136,
   5099206, -1365796, -4012611, 2113422] ++
  [925687, -2972573, 4928365, 4026729, -14534938, -5475331, 29375647, 7805599, -52223991, -12384143, 89707479,
   24191697, -162919925, -72426339, 374705116, 648830444]

/-- A set that meets the limits of FIR-B for sinc3. -/
def firB3 : List Int :=
  [232223, -14019224, 91413011, -261019073, 305504964, 829516631, 305504964, -261019073, 91413011, -14019224, 232223,
   0, 0, 0, 0, 0] ++
  [0, 0, 0, 0, 0, 0, 0, 0, 0, 0, 0, 0, 0, 0, 0]

/-- A set that meets them for sinc5. -/
def firB5 : List Int :=
  [7666280, -65580694, 251330838, -535275355, 513095646, 731268685, 513095646, -535275355, 251330838, -65580694,
   7666280, 0, 0, 0, 0, 0] ++
  [0, 0, 0, 0, 0, 0, 0, 0, 0, 0, 0, 0, 0, 0, 0]

/-- The fixed set of FIR-A, for an order: any that meets its limits. The spec gives no coefficient: it is the open one where
that meets them. -/
def firA (k : Nat) : List Int :=
  let c := (List.range 64).map (fun t => Config.firCoef (128 * k + t))
  if firAMeets k c then c else if k = 3 then firA3 else firA5

/-- The fixed set of FIR-B. -/
def firB (k : Nat) : List Int :=
  let c := (List.range 31).map (fun t => Config.firCoef (128 * k + 64 + t))
  if firBMeets k c then c else if k = 3 then firB3 else firB5

/-- FIR `f`, 1 FIR-A or 2 FIR-B, of order `k` on its inputs, oldest first; the rounding is open. -/
def stockFir (f k : Nat) (ys : List Int) (n : Nat) : Int :=
  let c := if f = 1 then firA k ++ ((firA k).take 63).reverse else firB k
  roundOpen (tapSum c (fun t => ys.reverse.getD t 0)) (2 ^ 30) n

/-! The stock Swift banks (Table 6.6), coefficients in 2^−18. Bank 3's limits hold with the droop of the CIC at Q = 64: no one
set holds them at every Q of 8 or more. No 63 symmetric taps hold both of bank 2's limits: its coefficients stay open. -/

/-- Coefficients c_0 … c_31 of stock bank `b` meet its limits: banks 1 and 2 alone, bank 3 with the CIC (R517). -/
def bankMeets (b : Nat) (c : List Int) : Bool :=
  match b with
  | 1 => symMeets c (2 ^ 18) (fun _ => 2 ^ 52) 999884878 1000115135 10000 (102 * 2 ^ 23) (154 * 2 ^ 23)
  | 2 => symMeets c (2 ^ 18) (fun _ => 2 ^ 52) 999884878 1000115135 31622 (51 * 2 ^ 23) (77 * 2 ^ 23)
  | _ => symMeets c (2 ^ 18) (droop 4 64) 998849370 1001151955 10000000 (128 * 2 ^ 23) (231 * 2 ^ 23)

/-- A set that meets the limits of bank 1. -/
def bank1Set : List Int :=
  [0, 4, 6, -14, -25, 34, 70, -67, -159, 122, 324, -200, -601, 304, 1039, -435] ++
  [-1703, 588, 2678, -759, -4092, 936, 6162, -1107, -9330, 1259, 14739, -1379, -26603, 1455, 83032, 129590]

/-- A set that meets the limits of bank 3. -/
def bank3Set : List Int :=
  [9, 13, -41, 37, -31, 65, -97, 71, -33, 51, -62, -26, 133, -130, 121, -277] ++
  [437, -325, 135, -253, 314, 430, -1523, 1714, -2029, 5655, -10543, 3444, 29248, -72694, 49430, 255665]

/-- The coefficients of stock bank `b`, fixed and the same in every device (R157): the open ones where they meet its limits. -/
def stockBank (b : Nat) : List Int :=
  let c := (List.range 32).map (fun t => (Config.stockCoef (32 * b + t)).toInt)
  if bankMeets b c then c
  else match b with
    | 1 => bank1Set
    | 3 => bank3Set
    | _ => c

end Sys2Proof.Machine
end

