-- ==== Sys2Proof/Machine/Filter.lean ====
section
/-! DEFINITION. Chapter 6: the arithmetic of the filter chains, the completion of Fine and Swift results, and the
windows on coefficients and DC estimates. -/

namespace Sys2Proof.Machine

/-- `f` of each element with the number of an open value of its own. -/
def mapOpen {α β : Type} (k : Nat) (l : List α) (f : Nat → α → β) : List β :=
  (l.zip (List.range l.length)).map (fun p => f (k + p.2) p.1)

/-! Fine path (R107, R141–R154). -/

/-- Stage 2 (R107): y = (x − OFS/8) × (1 + DEV × 2^−24), rounded to the nearest code. -/
def correctFine (w : Word) (x : Int) (k : Nat) : Int := roundNear ((8 * x - coefOfs w) * (2 ^ 24 + coefDev w)) (2 ^ 27) k

/-- The periods that INT_N = `N` mains cycles cover (R101, R149). -/
def Block.intPeriods (s : Block) (n : Nat) (r : Run) : Nat :=
  let cycles := pIntN r.profile
  if s.mainsLocked n then 245760 * cycles
  else (roundDiv (cycles * 12288000 * 65536) (max 1 r.freq)).toNat

/-- FIR-C's length (R148). -/
def Block.firC (s : Block) (n : Nat) (r : Run) : Nat :=
  if s.mainsLocked n then 245760 / pOsr r.profile else 12288000 / (pOsr r.profile * s.nomHz)

/-- The sinc outputs that enter the next output of stage 4, and the number of the first (R147, R149). -/
def Block.fineInputs (s : Block) (n : Nat) (r : Run) : Nat × Nat :=
  let osr := pOsr r.profile
  let len := s.intPeriods n r
  if pIntN r.profile ≠ 0 then (ceilDiv ((r.outs + 1) * len) osr - r.outs * len / osr, r.outs * len / osr)
  else match pFir r.profile with
    | 0 => (1, r.outs)
    | 1 => (127, 2 * r.outs)
    | 2 => (31, r.outs)
    | _ => (s.firC n r, r.outs)

/-- The weight, in periods, with which sinc output `j` enters block `b` of `len` periods (R149). -/
def blockWeight (osr len b j : Nat) : Int :=
  ((min ((j + 1) * osr) ((b + 1) * len) : Nat) : Int) - (max (j * osr) (b * len) : Nat)

/-- Stages 3 and 4: FIR or mains integration of corrected sinc outputs, the first of them number `j0`. -/
def Block.fineStage4 (s : Block) (n : Nat) (r : Run) (j0 : Nat) (ys : List Int) (k : Nat) : Int :=
  if pIntN r.profile ≠ 0 then
    let len := s.intPeriods n r
    let ws := (ys.zip (List.range ys.length)).map (fun p => blockWeight (pOsr r.profile) len r.outs (j0 + p.2) * p.1)
    roundNear (sumInt ws) len k
  else match pFir r.profile with
    | 0 => ys.getD 0 0
    | 3 => roundOpen (sumInt ys) ys.length k
    | f => stockFir f (pOrder r.profile) ys k

/-- The sinc order of a profile (R145). -/
def sincOrder (r : Run) : Nat := pOrder r.profile

/-- The first period that enters sinc output `j`: no period before sampling start enters one (R145, R163). -/
def firstPeriod (r : Run) (j : Nat) : Nat := j * pOsr r.profile + sincOrder r - 1

/-- The modulator periods taken since sampling start once stage 4 has its next output: the last sinc output of it, number `j`,
ends with period (k + j) × OSR − 1 (R145, R147). -/
def Block.fineTotal (s : Block) (n : Nat) (r : Run) : Nat :=
  let (need, j0) := s.fineInputs n r
  (sincOrder r + j0 + need - 1) * pOsr r.profile

/-- The last period of stage 4's next output (R144): that of its last sinc output, or, with mains integration, the period
before modulator edge (b + 1) × L + (k − 1) × OSR (R149). -/
def Block.lastPeriod (s : Block) (n : Nat) (r : Run) : Nat :=
  if pIntN r.profile ≠ 0 then (r.outs + 1) * s.intPeriods n r + (sincOrder r - 1) * pOsr r.profile - 1
  else s.fineTotal n r - 1

/-- The periods between outputs of stage 4 (R145–R149). -/
def Block.stage4Rate (s : Block) (n : Nat) (r : Run) : Nat :=
  if pIntN r.profile ≠ 0 then s.intPeriods n r else if pFir r.profile = 1 then 2 * pOsr r.profile else pOsr r.profile

/-- Twice the group delay of stages 1–4 in periods (R145, R149, Table 6.3). -/
def Block.stage4Delay (s : Block) (n : Nat) (r : Run) : Nat :=
  let osr := pOsr r.profile
  let sinc := pOrder r.profile * (osr - 1)
  if pIntN r.profile ≠ 0 then sinc + (s.intPeriods n r - osr)
  else match pFir r.profile with
    | 0 => sinc
    | 1 => sinc + 126 * osr
    | 2 => sinc + 10 * osr
    | _ => sinc + (s.firC n r - 1) * osr

/-- The coefficient `a` of the DC block as a 24-bit fraction, but for its rounding: ⌊(1 − exp(−2π 2^−k)) × 2^24⌋ (R150). -/
def dcCoef (k : Nat) : Nat :=
  [1568829, 803663, 406762, 204629, 102628, 51392, 25716, 12863, 6432, 3216, 1608, 804, 402, 201, 100, 50, 25, 12, 6].getD
    (k - 6) 0

/-- An estimate that FILT_DC_VAL has set and no output has used yet, and when. -/
def Block.dcSet (s : Block) (n e : Nat) : Option (Nat × Int) := Bank.get (fun _ => none) s.acq.dcNew (16 * n + e)

/-- The DC estimate of entry `e` of SP`n` for an output that completes at local count `t`, in 2^−24 code units: a write of
FILT_DC_VAL counts from 8 HALF cycles (5.3 ns) after it (R151). -/
def Block.dcOf (s : Block) (n e t : Nat) : Int :=
  let d := Bank.get (fun _ => 0) s.acq.dc (16 * n + e)
  match s.dcSet n e with
  | some (t0, v) => if t0 + 6 ≤ t then v else d
  | none => d

/-- The estimate becomes `d` at local count `t`; a write that counts by then has been used. -/
def Block.setDc (s : Block) (n e t : Nat) (d : Int) : Block :=
  let used := match s.dcSet n e with
    | some (t0, _) => decide (t0 + 6 ≤ t)
    | none => true
  let s := (s.withAcq { s.acq with dc := Bank.set (fun _ => 0) s.acq.dc (16 * n + e) d })
  if used then (s.withAcq { s.acq with dcNew := Bank.set (fun _ => none) s.acq.dcNew (16 * n + e) none }) else s

/-- Stage 5, the DC block (R150, R151), on an output that completes at local count `t`. An output that carries OVERRANGE does
not update the estimate. -/
def Block.dcBlock (s : Block) (n : Nat) (r : Run) (x : Int) (isOver : Bool) (t : Nat) : Int × Block :=
  if pDcK r.profile = 0 then (x, s)
  else
    let (k, s) := s.drawN 2
    let d := s.dcOf n r.entry t
    let y := roundOpen (2 ^ 24 * x - d) (2 ^ 24) k
    let a := dcCoef (pDcK r.profile) + Config.dcRound (pDcK r.profile) % 2
    if bitOf (s.regAt (Reg.FDCFRZ n) t).toNat r.entry ∨ isOver ∨ exceeds24 y then (y, s)
    else (y, s.setDc n r.entry t (d + roundOpen (a * (2 ^ 24 * x - d)) (2 ^ 24) (k + 1)))

/-- The taps of stage 6 relative to the output's index, and the fraction in 1/256 (R152). -/
def delayTaps (pd : BitVec 16) : Int × Int × Int :=
  let q := -pd.toInt
  if q % 256 = 0 then (q / 256, q / 256, 0) else (q / 256 - 1, q / 256 + 2, q % 256)

/-- The index of the output that is released when stage 6 holds input `m` (R152). -/
def releasedIndex (pd : BitVec 16) (m : Nat) : Option Nat :=
  let (lo, hi, _) := delayTaps pd
  let n : Int := m - max 0 hi
  if 0 ≤ n ∧ 0 ≤ n + lo then some n.toNat else none

/-- The value of stage 6 from its taps in ascending order: the one tap, or cubic Lagrange interpolation (R152). -/
def interpolate (frac : Int) (taps : List Int) (k : Nat) : Int :=
  match taps with
  | [x] => x
  | [a, b, c, d] =>
    let f := frac
    let n := -(f * (f - 256) * (f - 512)) * a + 3 * ((f + 256) * (f - 256) * (f - 512)) * b -
      3 * ((f + 256) * f * (f - 512)) * c + ((f + 256) * f * (f - 256)) * d
    roundOpen n (6 * 256 ^ 3) k
  | _ => 0

/-- A result of converter `n` goes to its record and its destinations (R75, R176, R177). -/
def Block.putResult (s : Block) (n : Nat) (r : Run) (x : Int) (isOver refBad phaseQ : Bool) (centre : Nat) : Block :=
  let comp := s.flag (Reg.SP_CFG_TS n)
  let flags := flagBits (isOver || exceeds24 x || r.allOver) (s.openWire (dInput r.dfn)) refBad r.restarted r.settling r.stale
    phaseQ r.missed comp (r.kind == .urgent)
  let time := if comp then s.now else centre
  let s := s.noteRef (refUnit n) refBad
  s.deliverRec n (dDest r.dfn) centre (resultRec (saturate 24 x) flags n r.entry r.epoch (BitVec.ofNat 64 time))

/-- A result, or an I and Q pair, has been delivered: the run counts it and ends with its LENGTH-th (R133, R166, R175). -/
def Block.afterResult (s : Block) (n : Nat) : Block :=
  match (s.sp n).act with
  | none => s
  | some r =>
    let s := s.setSp n { s.sp n with act := some { r with delivered := r.delivered + 1 }, calGap := (s.sp n).cal.isSome }
    if dLength r.dfn = 0 ∨ r.delivered + 1 < dLength r.dfn then s
    else
      let s := s.endAct n
      if r.kind = .urgent then s.endUrgent n
      else s.endSeqRun n r.entry r.dfn

/-- Stage 1 (R145): `need` sinc outputs from number `j0` on, of the kept periods, the first of which is number `base`. -/
def sincOutputs (r : Run) (j0 need base : Nat) (kept : List Int) (f : Nat) : List Int :=
  mapOpen f (List.range need) (fun f i =>
    sincOf (sincOrder r) (pOsr r.profile)
      ((kept.drop (firstPeriod r (j0 + i) - base)).take (sincOrder r * (pOsr r.profile - 1) + 1)) f)

/-- The sinc outputs of which `got` periods already told: those before this number. -/
def sincsTold (r : Run) : Nat := r.got / pOsr r.profile + 1 - sincOrder r

/-- Stage 6 and the record: the outputs that the phase delay holds release one, if its taps are there (R144, R152). -/
def Block.release (s : Block) (n : Nat) (r : Run) (f : Nat) : Block :=
  let (pn, pd) := s.modPeriod n
  let (lo, hi, frac) := delayTaps r.pd
  match releasedIndex r.pd (r.outs - 1) with
  | none => s
  | some i =>
    let tap := fun (d : Int) => r.hist.getD (r.outs - 1 - ((i : Int) + d).toNat) ⟨0, false, false, 0⟩
    let taps := if lo = hi then [tap lo] else [tap lo, tap (lo + 1), tap (lo + 2), tap (lo + 3)]
    let v := interpolate frac (taps.map (·.val)) f
    let delay : Int := 256 * (s.stage4Delay n { r with outs := i } : Int) + 2 * r.pd.toInt * (s.stage4Rate n r : Int)
    let centre := roundNear ((512 * (tap 0).edge : Nat) * (pd : Int) - 192 * delay * pn) (192 * 512 * pd) (f + 1)
    (s.putResult n r v (taps.any (·.isOver)) (taps.any (·.refBad)) false centre.toNat).afterResult n

/-- FINE_RESULT: the chain of F`n` completes its next stage-5 output from the modulator periods that it has kept and those, `ms`,
that it has taken since, once the modulator edge after the last of them is reached; the phase delay releases a result when
it holds the inputs that one needs (R141–R154). -/
def doFineResult (n : Nat) (ms : List Int) (s : Block) : Block :=
  match (s.sp n).act with
  | none => s
  | some r =>
    let (need, j0) := s.fineInputs n r
    let total := s.fineTotal n r
    let done := s.periodAt n r (s.lastPeriod n r + 1)
    if r.kind = .cal ∨ r.stage ≠ .sampling ∨ r.got + ms.length ≠ total ∨ 192 * s.now < done then s
    else
      let (f, s) := s.drawN (2 * need + 3)
      let kept := r.kept ++ s.inputCodes n r r.got ms
      let xs := sincOutputs r j0 need (total - kept.length) kept f
      let corr := mapOpen (f + need) (xs.zip (List.range need)) (fun f p =>
        let t := s.periodAt n r ((sincOrder r + j0 + p.2) * pOsr r.profile) / 192
        if bitsOf (s.regAt (Reg.FINE_CFG n) t) 0 0 = 1 then correctFine (s.regAt (Reg.FINE_COEF n (dGain r.dfn)) t) p.1 f
        else p.1)
      let ys := corr.map (saturate 24)
      let x := s.fineStage4 n r j0 ys (f + 2 * need)
      let isOver := corr.any exceeds24 || exceeds24 x || s.spanOver n r (firstPeriod r j0) (total - 1)
      let refBad := s.spanBadRef n r (firstPeriod r j0) (total - 1)
      let (y, s) := s.dcBlock n r x isOver (done / 192)
      let s := (s.each (corr.drop (sincsTold r - j0)) (fun s c => s.noteChain n (exceeds24 c))).noteChain n
        (exceeds24 (corr.getLastD 0) || exceeds24 x || exceeds24 y)
      let r := { r with
        hist := ((⟨y, isOver || exceeds24 y, refBad, s.periodAt n r (s.lastPeriod n r)⟩ : Samp) :: r.hist).take 132
        outs := r.outs + 1, got := total }
      let r := { r with kept := kept.drop (firstPeriod r (s.fineInputs n r).2 - (total - kept.length)) }
      (s.setAct n (some r)).release n r (f + 2 * need + 1)

/-! Swift path (R127, R132, R155–R160). -/

/-- Correction of a sample (R127): y = (64 × C − OFS) × (1 + DEV × 2^−24), rounded to the nearest 24-bit code. -/
def correctSwift (w : Word) (c : Int) (k : Nat) : Int := roundNear ((64 * c - coefOfs w) * (2 ^ 24 + coefDev w)) (2 ^ 24) k

/-- The CIC of order 4 (R155): every `q`-th sum of the four-fold box, scaled to unity gain within one unit. -/
def cicOutputs (q k : Nat) (l : List Int) : List Int :=
  let full := boxSums q (boxSums q (boxSums q (boxSums q l)))
  let kept := (List.range ((full.length + q - 1) / q)).map (fun i => full.getD (i * q) 0)
  if q = 1 then kept else mapOpen k kept (fun k x => withinOne x ((q ^ 4 : Nat)) k)

/-- Coefficient `t` of bank `b` (R156, R157). -/
def Block.coefOf (s : Block) (b t : Nat) : BitVec 20 :=
  if b = 0 then 0 else if b < 4 then BitVec.ofInt 20 ((stockBank b).getD t 0) else Bank.get (fun _ => 0) s.acq.coefs (32 * b + t)

/-- The 63-tap symmetric FIR of bank `b` on 63 inputs (R156). -/
def Block.firSwift (s : Block) (b : Nat) (l : List Int) (k : Nat) : Int :=
  roundOpen (sumInt ((l.zip (List.range 63)).map (fun p =>
    (s.coefOf b (if p.2 ≤ 31 then p.2 else 62 - p.2)).toInt * p.1))) (2 ^ 18) k

/-- The CIC outputs and the samples that enter one Swift result (R155, R156, R159). -/
def swiftCics (p : Word) : Nat := (2 ^ pAvg p - 1) * pDec p + (if pBank p = 0 then 1 else 63)
def swiftSamples (p : Word) : Nat := (swiftCics p - 1) * pCic p + 4 * (pCic p - 1) + 1

/-- The CIC outputs before the first that depends only on samples of the entry, that one included (R155). -/
def cicFirst (q : Nat) : Nat := if q = 1 then 1 else if q ≤ 3 then 3 else 4

/-- The samples taken since sampling start once the next result, or pair, completes: output `i` of the CIC ends with sample
Q × (m0 + i) − 1, and results follow every 2^AVG FIR outputs (R155, R156, R159). -/
def swiftTotal (r : Run) : Nat :=
  let p := r.profile
  pCic p * (cicFirst (pCic p) + r.outs * 2 ^ pAvg p * pDec p + swiftCics p - 1)

/-- CIC, FIR and averager on one stream of products or corrected samples. -/
def Block.swiftChain (s : Block) (p : Word) (k : Nat) (l : List Int) : Int :=
  let cics := cicOutputs (pCic p) k l
  let k := k + cics.length
  let firs := mapOpen k (List.range (2 ^ pAvg p)) (fun k i =>
    if pBank p = 0 then cics.getD (i * pDec p) 0 else s.firSwift (pBank p) ((cics.drop (i * pDec p)).take 63) k)
  roundNear (sumInt firs) (2 ^ pAvg p) (k + firs.length)

/-- The group delay of a Swift setting, in half samples (R155, R156, R159). -/
def swiftDelay (p : Word) : Nat :=
  4 * (pCic p - 1) + (if pBank p = 0 then 0 else 62 * pCic p) + (2 ^ pAvg p - 1) * pCic p * pDec p

/-- The oscillator's angle of S`j` at sample edge `t`, with PHASE (R132). -/
def Block.ncoAngle (s : Block) (j t : Nat) : Word :=
  let (acc, ph) := ncoAt t (s.nco j)
  acc + BitVec.ofNat 32 (ph.toNat * 65536)

/-- SWIFT_RESULT: the chain of S`j` completes a result, or an I and Q pair, from the samples that it has kept and those, `ms`,
that it has taken since, once the last of them is taken (R133, R155–R160). -/
def doSwiftResult (j : Nat) (ms : List Int) (s : Block) : Block :=
  let n := 32 + j
  match (s.sp n).act with
  | none => s
  | some r =>
    let p := r.profile
    let need := swiftSamples p
    let total := swiftTotal r
    if r.kind = .cal ∨ r.stage ≠ .sampling ∨ r.got + ms.length ≠ total ∨ 192 * s.now < s.inputAt n r (total - 1) then s
    else
      let chain := swiftCics p + 2 ^ pAvg p + 1
      let (k, s) := s.drawN (3 * need + 2 * chain)
      let fresh := s.swiftCodes n r r.got ms
      let kept := r.kept ++ fresh
      let samples := kept.drop (kept.length - need)
      let at' := fun (i : Nat) => s.inputAt n r (total - need + i) / 192
      let corr := mapOpen k (samples.zip (List.range need)) (fun k c =>
        if bitsOf (s.regAt (Reg.SWIFT_CFG j) (at' c.2 + 40)) 0 0 = 1 then
          correctSwift (s.regAt (Reg.SWIFT_COEF j (dGain r.dfn)) (at' c.2 + 40)) c.1 k
        else 64 * c.1)
      let ys := (corr.map (saturate 24)).zip (List.range need)
      let isOver := samples.any swiftExtreme || corr.any exceeds24 || s.spanOver n r (total - need) (total - 1)
      let refBad := s.spanBadRef n r (total - need) (total - 1)
      let centre := at' (need - 1) - 25 * swiftDelay p
      let i := s.swiftChain p (k + need)
        (mapOpen (k + need + chain) ys (fun k y => if pLockin p = 0 then y.1 else lockI (s.ncoAngle j (at' y.2)) y.1 k))
      let q := s.swiftChain p (k + 2 * need + chain)
        (mapOpen (k + 2 * need + 2 * chain) ys (fun k y => lockQ (s.ncoAngle j (at' y.2)) y.1 k))
      let s := (s.each fresh (fun s c => s.noteChain n (swiftExtreme c))).noteChain n
        (swiftExtreme (samples.getLastD 0) || exceeds24 i || (pLockin p == 1 && exceeds24 q))
      let r := { r with outs := r.outs + 1, got := total }
      let r := { r with kept := kept.drop (swiftTotal r - need - (total - kept.length)) }
      let s := (s.setAct n (some r)).putResult n r i isOver refBad false centre
      let s := if pLockin p = 1 then s.putResult n r q isOver refBad true centre else s
      s.afterResult n

/-! Windows on the coefficients and the DC estimates (R151, R157). An index register exists once for each agent. -/

/-- A field of agent `ag`'s FILT_COEF_IDX or FILT_DC_IDX. -/
def coefFld (ag hi lo : Nat) : Fld := ⟨ownCopy ag Reg.FILT_COEF_IDX, hi, lo⟩
def dcFld (ag hi lo : Nat) : Fld := ⟨ownCopy ag Reg.FILT_DC_IDX, hi, lo⟩

/-- TAP advances by 1 and wraps from 31 to 0. -/
def Block.advanceTap (s : Block) (ag : Nat) : Block := s.put (coefFld ag 4 0) (s.get (coefFld ag 4 0) + 1)

/-- A Swift entry in progress has copied a profile that names bank `b`. -/
def Block.bankInUse (s : Block) (b : Nat) : Bool :=
  (List.range 16).any (fun j =>
    match (s.sp (32 + j)).act with
    | some r => r.kind != .cal && pBank r.profile == b
    | none => false)

/-- Coefficient `k` of the banks, 32 to a bank, becomes `v`, unless its bank is fixed or in use (R157, R158). -/
def Block.setCoef (s : Block) (k : Nat) (v : Word) : Block :=
  if k / 32 < 4 ∨ s.bankInUse (k / 32) then s.put Reg.FILT_STATUS_COEF_IGNORED_SEEN 1
  else (s.withAcq { s.acq with coefs := Bank.set (fun _ => 0) s.acq.coefs k (v.setWidth 20) })

/-- A write of FILT_COEF_DATA. -/
def Block.writeCoefData (s : Block) (ag : Nat) (v : Word) : Block :=
  (s.setCoef (32 * s.get (coefFld ag 10 8) + s.get (coefFld ag 4 0)) v).advanceTap ag

/-- A read of FILT_COEF_DATA. -/
def Block.readCoefData (s : Block) (ag : Nat) : Word × Block :=
  ((s.coefOf (s.get (coefFld ag 10 8)) (s.get (coefFld ag 4 0))).setWidth 32, s.advanceTap ag)

/-- FILT_COEF_DATA_ACCESS: a write of `v`, or a read, by agent `ag`. -/
def doFiltCoefDataAccess (ag : Nat) (v : Option Word) (s : Block) : Block :=
  match v with
  | some v => if s.writable Reg.FILT_COEF_DATA then s.writeCoefData ag v else s
  | none => if s.writable Reg.FILT_COEF_DATA then (s.readCoefData ag).2 else s

/-- A write of FILT_DC_VAL sets the estimate of the entry that the agent's index names, from the first output that completes
at least 8 HALF cycles on (R151). -/
def Block.writeDcVal (s : Block) (ag : Nat) (v : Word) : Block :=
  let n := s.get (dcFld ag 8 4)
  let e := s.get (dcFld ag 3 0)
  let s := s.setDc n e s.now (s.dcOf n e s.now)
  (s.withAcq { s.acq with
    dcNew := Bank.set (fun _ => none) s.acq.dcNew (16 * n + e) (some (s.now, 2 ^ 24 * signed 24 (bitsOf v 23 0))) })

/-- A read of FILT_DC_VAL: the estimate in code units, as last written or formed, its rounding open. -/
def Block.readDcVal (s : Block) (ag : Nat) : Word × Block :=
  let (k, s) := s.draw
  let d := s.dcOf (s.get (dcFld ag 8 4)) (s.get (dcFld ag 3 0)) (s.now + 6)
  (BitVec.ofNat 32 (toBits 24 (roundOpen d (2 ^ 24) k)), s)

/-! The commands of this file, with the operands that the command table's rows take here. -/

def execFineResult (q : Fin 8) (i : Fin 4) (ms : List Int) (s : State) : Out := .next (s.withBlock (doFineResult (4 * q + i) ms s.toBlock))
def execSwiftResult (q : Fin 4) (i : Fin 4) (ms : List Int) (s : State) : Out := .next (s.withBlock (doSwiftResult (4 * q + i) ms s.toBlock))
def execFiltCoefDataAccess (ag : Fin 3) (v : Option Word) (s : State) : Out := .next (s.withBlock (doFiltCoefDataAccess ag v s.toBlock))

end Sys2Proof.Machine
end

