-- ==== Sys2Proof/Machine/Steps.lean ====
section
/-! DEFINITION. The step table (R206–R212): opening, arming, sealing, cancelling and expiry of steps, the instant of a
fire and what hubs report of it. Hub `h` of trunk `t` is named 64 `t` + `h`; instants of fires are in 1/6 ns. -/

namespace Sys2Proof.Machine

/-! States and causes (Tables 8.11 and 8.27). -/

abbrev STEP_FREE : Nat := 0
abbrev STEP_OPENED : Nat := 1
abbrev STEP_SEALED : Nat := 2
abbrev STEP_FIRED : Nat := 3
abbrev STEP_CANCELLED : Nat := 4
abbrev STEP_PARTIAL : Nat := 5

abbrev CAUSE_TAINT : Nat := 1
abbrev CAUSE_LOST : Nat := 2
abbrev CAUSE_EXPIRED : Nat := 3
abbrev CAUSE_OWNER : Nat := 4
abbrev CAUSE_REQUEST : Nat := 5
abbrev CAUSE_CLOCK : Nat := 6
abbrev CAUSE_PARTIAL : Nat := 7
abbrev CAUSE_EMPTY : Nat := 8

def stepList : List Nat := List.range 32
def trunkList : List Nat := List.range 12

def Block.stepState (s : Block) (i : Nat) : Nat := s.get (Reg.STEP_STAT_STATE i)

/-- The requester of a register agent (R206): Skein A 3, Skein B 2, Bear 4. -/
def agentReq (ag : Nat) : Nat := if ag = 0 then 3 else if ag = 1 then 2 else 4

/-- The trunk sends frames: its forward clock runs. -/
def Block.clockRuns (s : Block) (t : Nat) : Bool := s.flag (Reg.TRK_STATUS_UP t)

/-- The trunks on which a step has armed hubs. -/
def Step.trunks (p : Step) : List Nat := trunkList.filter (fun t => p.hubs.any (fun k => k / 64 == t))

/-- STEP_FAULT is raised on each trunk of the step, with the first hub it armed there (R210, R211, Table 17.10). -/
def Block.stepFault (s : Block) (i : Nat) : Block :=
  s.each (s.step' i).trunks (fun s t =>
    let h := ((s.step' i).hubs.filter (fun k => k / 64 == t)).foldl (fun a k => min a (k % 64)) 63
    (s.put (Reg.TRK_STATUS_STEP_FAULT_SEEN t) 1).raise (662 + 8 * t) (nodeAddr t h 0 + 2 ^ 24 * i))

/-- The domain of a quality figure keeps it as its last (R292, Table 11.10). -/
def Block.domain (s : Block) (d : Nat) : Domain := Bank.get (fun _ => Domain.reset) s.stock.doms d

def Block.setDom (s : Block) (d : Nat) (v : Domain) : Block :=
  (s.withStock { s.stock with doms := Bank.set (fun _ => Domain.reset) s.stock.doms d v })

/-- The hubs of a partner die. -/
def dieHubs (d : Nat) : List Nat := (dieTrunks d).flatMap trunkHubs

/-- A restore step of R218 has fired on hub `k`: a returned die on whose every hub one has fired is ready for its AT_RETURN
requests (R298). -/
def Block.noteRestored (s : Block) (k : Nat) : Block :=
  let now := s.stock.returning.map (fun p => (p.1, if dieOf (k / 64) = p.1 ∧ !p.2.elem k then k :: p.2 else p.2))
  let full := fun (p : Nat × List Nat) => (dieHubs p.1).all (fun k => p.2.elem k)
  s.withStock { s.stock with
    returning := now.filter (fun p => !full p), returned := s.stock.returned ++ (now.filter full).map (·.1) }

/-- A restore step has ended (R294, R298, R426): the packet that waits for it completes, bit 3 of its w2 telling of a
cancelled step. -/
def Block.restoreEnded (s : Block) (i : Nat) : Block :=
  match s.sett.restoring.find? (fun r => r.step == i) with
  | none => s
  | some r =>
    let rest := s.sett.restoring.filter (fun r => r.step != i)
    let s := (s.withSett { s.sett with restoring := rest })
    match r.owner with
    | .packet h tag _ =>
      match (s.host h).runningTag tag with
      | some p =>
        if p.opcode = 0x41 then
          let w := Bank.get (fun _ => 0) p.results 0 ||| (if s.stepState i = STEP_CANCELLED then 8#32 else 0#32)
          (s.put Reg.CMD_STATUS_RESTORE_BUSY 0).finishPacket h tag 0 [w]
        else s
      | none => s
    | _ => s

/-! Seals that wait for the step's arms (R206, R258). -/

/-- STEP_ARMs of step `i` that requester `r` still has queued. -/
def Block.armsQueued (s : Block) (r i : Nat) : Bool :=
  trunkList.any (fun t => (s.queue t r).any (fun x => x.op == 6 && x.leaf / 512 == i && !bitOf x.leaf 8))

/-- The seal of step `i` is told to who asked: 0 sealed, 3 NOT_OWNER, 4 EMPTY (Table 10.8). -/
def Block.sealDone (s : Block) (owner : TxnOwner) (code : Nat) : Block :=
  match owner with
  | .packet h tag _ =>
    let bad := match (s.host h).runningTag tag with
      | some p => p.firstBad
      | none => none
    match bad with
    | some j => s.finish h tag 0x32 j false [BitVec.ofNat 32 code]
    | none => s.finishPacket h tag 0 [BitVec.ofNat 32 code]
  | _ => s

/-- The seal is performed: with no hub armed the step is cancelled with cause EMPTY (R206). The code of Table 10.8. -/
def Block.sealNow (s : Block) (i : Nat) : Nat × Block :=
  if (s.step' i).hubs = [] then
    (4, (s.put (Reg.STEP_STAT_STATE i) STEP_CANCELLED).put (Reg.STEP_STAT_CAUSE i) CAUSE_EMPTY)
  else (0, (s.setStep i { s.step' i with sealedAt := s.now, heldFor := 0 }).put (Reg.STEP_STAT_STATE i) STEP_SEALED)

/-- Every waiting seal whose step has no queued arm left is performed; one whose step is no longer OPEN ends with
NOT_OWNER. -/
def Block.settleSeals (s : Block) : Block :=
  s.each stepList (fun s i =>
    match (s.step' i).sealing with
    | none => s
    | some o =>
      if s.stepState i ≠ STEP_OPENED then (s.setStep i { s.step' i with sealing := none }).sealDone o 3
      else if s.armsQueued (s.get (Reg.STEP_CTL_OWNER i)) i then s
      else
        let (code, s) := (s.setStep i { s.step' i with sealing := none }).sealNow i
        s.sealDone o code)

/-! Cancelling (R209, R210). -/

/-- A step that is OPEN or SEALED and whose fire no marker carries is cancelled: its disarm becomes due on each trunk
where it armed hubs (at once counted as sent where the clock is stopped), and STEP_FAULT is raised there. -/
def Block.cancelStep (s : Block) (i cause : Nat) : Block :=
  let p := s.step' i
  if (s.stepState i = STEP_OPENED ∨ s.stepState i = STEP_SEALED) ∧ p.carried = [] then
    let s := (s.put (Reg.STEP_STAT_STATE i) STEP_CANCELLED).put (Reg.STEP_STAT_CAUSE i) cause
    let s := s.setStep i { p with disarm := p.disarm ++ (p.trunks.filter (fun t => s.clockRuns t && !p.disarm.elem t)) }
    ((s.stepFault i).settleSeals).restoreEnded i
  else s

/-- The owner `r` halts, is reset, is masked or is powered down: its OPEN steps are cancelled with cause OWNER, and its
waiting opens are dropped (R210). -/
def Block.ownerGone (s : Block) (r : Nat) : Block :=
  s.each stepList (fun s i =>
    let p := s.step' i
    let s := match p.waiting with
      | some w => if w.req = r then (s.setStep i { p with waiting := none }).put (Reg.STEP_CTL_OPEN i) 0 else s
      | none => s
    if s.stepState i = STEP_OPENED ∧ s.get (Reg.STEP_CTL_OWNER i) = r then s.cancelStep i CAUSE_OWNER else s)

/-! Opening (R206, Table 8.11). -/

/-- Step `i` opens for requester `r` on timebase `tb`. -/
def Block.openNow (s : Block) (i r tb : Nat) : Block :=
  let s := ((s.setReg (Reg.STEP_STAT i) 0).put (Reg.STEP_STAT_STATE i) STEP_OPENED).put (Reg.STEP_CTL_OWNER i) r
  (s.put (Reg.STEP_CTL_OPEN i) 0).setStep i { Step.reset with tb := tb }

/-- What an open answers: 0 opened, 1 BUSY, 2 BAD_TB (Table 10.8), or that it waits for disarms. -/
inductive OpenRes where
  | code (n : Nat)
  | waits
  deriving DecidableEq, Repr

/-- Requester `r` opens step `i` on timebase `tb` with MAXWAIT `mw`; `at'` is the LOCAL fire instant of an engine's or a
packet's open. A refused open changes nothing. -/
def Block.openStep (s : Block) (i r tb mw : Nat) (at' : Option Count) (o : TxnOwner) : OpenRes × Block :=
  if 4 < tb then (.code 2, s)
  else if s.stepState i = STEP_OPENED ∨ s.stepState i = STEP_SEALED ∨ (s.step' i).waiting.isSome then (.code 1, s)
  else
    let s := (s.put (Reg.STEP_CTL_TB i) tb).put (Reg.STEP_CTL_MAXWAIT i) mw
    let s := match at' with
      | some c => s.setPair (Reg.STEP_AT_LO i) (Reg.STEP_AT_HI i) c
      | none => s
    if (s.step' i).disarm = [] then (.code 0, s.openNow i r tb)
    else (.waits, (s.setStep i { s.step' i with waiting := some ⟨r, tb, o⟩ }).put (Reg.STEP_CTL_OPEN i) 1)

/-- Every disarm of step `i` has been sent and the open that waits proceeds: the open, if there was one. -/
def Block.completeOpen (s : Block) (i : Nat) : Option OpenReq × Block :=
  let p := s.step' i
  match p.waiting with
  | some w => if p.disarm = [] then (some w, s.openNow i w.req w.tb) else (none, s)
  | none => (none, s)

/-! Arming and sealing (R206). -/

/-- Step `i` is OPEN under requester `r`. -/
def Block.stepMine (s : Block) (i r : Nat) : Bool :=
  s.stepState i == STEP_OPENED && s.get (Reg.STEP_CTL_OWNER i) == r

/-- The grant of a STEP_ARM of step `i` to hub `k`: the hub is armed, and the grant is the posting instant so far. -/
def Block.armGranted (s : Block) (i k : Nat) : Block :=
  let p := s.step' i
  let hubs := if p.hubs.elem k then p.hubs else k :: p.hubs
  (s.setStep i { p with hubs := hubs, posting := s.now }).put (Reg.STEP_STAT_HUBS i) hubs.length

/-- Requester `r` seals step `i`: 3 NOT_OWNER; otherwise the seal waits for the step's queued arms. -/
def Block.sealStep (s : Block) (i r : Nat) (o : TxnOwner) : Block :=
  if s.stepMine i r then (s.setStep i { s.step' i with sealing := some o }).settleSeals
  else s.sealDone o 3

/-! The step registers (Table 8.26). -/

/-- A write of STEP_CTL by agent `ag`. A refused open is ignored with the MAXWAIT and TB it carries; SEAL is ignored from
an agent other than the owner; CANCEL is accepted from any. -/
def Block.writeStepCtl (s : Block) (ag i : Nat) (v : Word) : Block :=
  let s :=
    if bitsOf v 0 0 = 1 then (s.openStep i (agentReq ag) (bitsOf v 5 3) (bitsOf v 26 11) none .none).2
    else (s.put (Reg.STEP_CTL_MAXWAIT i) (bitsOf v 26 11)).put (Reg.STEP_CTL_TB i) (bitsOf v 5 3)
  let s := if bitsOf v 1 1 = 1 ∧ s.stepMine i (agentReq ag) then s.sealStep i (agentReq ag) .none else s
  if bitsOf v 2 2 = 1 then s.cancelStep i CAUSE_REQUEST else s

/-- STEP_OPEN: a write of STEP_CTL with OPEN = 1. -/
def doStepOpen (ag i : Nat) (v : Word) (s : Block) : Block :=
  if s.writable (Reg.STEP_CTL i) then s.writeStepCtl ag i (v ||| 1#32) else s

/-- STEP_SEAL: a write of STEP_CTL with SEAL = 1. -/
def doStepSeal (ag i : Nat) (v : Word) (s : Block) : Block :=
  if s.writable (Reg.STEP_CTL i) then s.writeStepCtl ag i (v ||| 2#32) else s

/-- STEP_CANCEL: a write of STEP_CTL with CANCEL = 1. -/
def doStepCancel (ag i : Nat) (v : Word) (s : Block) : Block :=
  if s.writable (Reg.STEP_CTL i) then s.writeStepCtl ag i (v ||| 4#32) else s

/-! Expiry (R210). -/

/-- MAXWAIT of step `i` in ns: its own, or the default. -/
def Block.maxWait (s : Block) (i : Nat) : Nat :=
  1000 * (if s.get (Reg.STEP_CTL_MAXWAIT i) = 0 then s.get Reg.SETT_STEPCFG_MAXWAIT else s.get (Reg.STEP_CTL_MAXWAIT i))

/-- STEP_EXPIRE: step `i` has stayed SEALED for longer than its MAXWAIT, not counting time with RST# low. -/
def doStepExpire (i : Nat) (s : Block) : Block :=
  let p := s.step' i
  if s.stepState i = STEP_SEALED ∧ !s.rstHeld ∧ p.sealedAt + p.heldFor + s.maxWait i ≤ s.now then
    s.cancelStep i CAUSE_EXPIRED
  else s

/-- RST# has been low for `d` ns: no sealed step counts them in its MAXWAIT, but those since its seal. -/
def Block.creditSteps (s : Block) (d : Nat) : Block :=
  s.each stepList (fun s i =>
    if s.stepState i = STEP_SEALED then
      s.setStep i { s.step' i with heldFor := (s.step' i).heldFor + min d (s.now - (s.step' i).sealedAt) }
    else s)

/-! What hubs report of a fire (R211). -/

/-- HUB_STATE.REFUSED of hub `k`. -/
def Block.setRefused (s : Block) (k : Nat) (b : Bool) : Block := s.setHubRec k { s.hubRec k with refused := b }

/-- Step `i` becomes PARTIAL: HUB_STATE.REFUSED names the hubs that did not fire, of those it named. -/
def Block.stepPartial (s : Block) (i : Nat) : Block :=
  let p := s.step' i
  let s := s.each (p.hubs.filter (fun k => p.reported.elem k)) (fun s k => s.setRefused k (p.refusers.elem k))
  (((s.put (Reg.STEP_STAT_STATE i) STEP_PARTIAL).put (Reg.STEP_STAT_CAUSE i) CAUSE_PARTIAL).stepFault i).restoreEnded i

/-- Hub `k` counts as refusing the fire of step `i`: the step is PARTIAL, and the hub is named in HUB_STATE. -/
def Block.refuseFire (s : Block) (i k : Nat) : Block :=
  let p := s.step' i
  if p.carried ≠ [] ∧ p.hubs.elem k ∧ !p.reported.elem k ∧ (s.stepState i = STEP_SEALED ∨ s.stepState i = STEP_PARTIAL) then
    let s := s.setStep i { p with reported := k :: p.reported, refusers := k :: p.refusers }
    if s.stepState i = STEP_PARTIAL then s.setRefused k true else s.stepPartial i
  else s

/-- Hub `k` reports the fire of step `i`. When every hub has, the step is FIRED and STEP_T holds the local count of the
fire instant. -/
def Block.fireReported (s : Block) (i k : Nat) : Block :=
  let p := s.step' i
  if p.carried ≠ [] ∧ p.hubs.elem k ∧ !p.reported.elem k ∧ (s.stepState i = STEP_SEALED ∨ s.stepState i = STEP_PARTIAL) then
    let p := { p with reported := k :: p.reported }
    let s := (s.withStock { s.stock with fired := (i, k) :: s.stock.fired })
    let s := s.setStep i p
    let s := if p.restores then s.noteRestored k else s
    if s.stepState i = STEP_PARTIAL then s.setRefused k false
    else if p.hubs.all (fun j => p.reported.elem j) then
      ((s.put (Reg.STEP_STAT_STATE i) STEP_FIRED).setPair (Reg.STEP_T_LO i) (Reg.STEP_T_HI i)
        (BitVec.ofNat 64 ((p.fire.getD 0) / 6))).restoreEnded i
    else s
  else s

/-- The bit times from a slot of a hub to its next, by its trunk (R200). -/
def slotBits (t : Nat) : Nat := if t < 8 then 2048 else if t < 10 then 4096 else 128

/-- STEP_REPORT_TIMEOUT: hub `k` has reported no fire within 16 of its slots after the fire of step `i` (R211). -/
def doStepReportTimeout (i t h : Nat) (s : Block) : Block :=
  match (s.step' i).fire with
  | some f => if f + 16 * slotBits t ≤ 6 * s.now then s.refuseFire i (64 * t + h) else s
  | none => s

/-! Fire instants (R41, R207). -/

/-- A window takes its place among others by its start. -/
def insertWin (v : Win) : List Win → List Win
  | [] => [v]
  | u :: l => if v.st ≤ u.st then v :: u :: l else u :: insertWin v l

/-- The quiet windows of LINE`w` that are in force now or will be (R39, R41), in order: those of the present superframe, and
those of the tables that wait for later ones, judged by the present superframe's length. -/
def Block.windows (s : Block) (w : Nat) : List Win :=
  let l := s.lineTb w
  ((l.qwNext.filter (fun q => qwValid l.sfLen 0 q.wins)).flatMap (fun q => s.winsFrom w q.sf q.at' q.wins)).foldr insertWin
    (s.tableWins w)

/-- A window of LINE`w` meets the conditions of R41 for a posting instant, or an issue, at `from'`. -/
def Block.windowOk (s : Block) (w : Nat) (v : Win) (from' : Nat) : Bool := v.leads from' && s.lockedFor w v.st

/-- The fire latency of a trunk. -/
def Block.flat (s : Block) (t : Nat) : Nat := s.get (Reg.TRK_FLAT_LAT t)

/-- The earliest instant that the marker starting at `m6` can carry on every trunk of the step. -/
def Block.earliest (s : Block) (p : Step) (m6 : Nat) : Nat :=
  p.trunks.foldl (fun a t => max a (m6 + 64 + s.flat t)) 0

/-- The first window of a list that the step can still take at the marker that starts at `m6`, and whether windows before
it passed over, with the start of the last of those. -/
def Block.pickWindow (s : Block) (w : Nat) (p : Step) (m6 : Nat) : List Win → Option Nat × Option Nat
  | [] => (none, none)
  | v :: rest =>
    if !s.longEnough w v.len ∨ v.st ≤ p.after ∨ v.st < 6 * p.sealedAt then s.pickWindow w p m6 rest
    else if s.windowOk w v p.posting ∧ s.earliest p m6 ≤ v.st + 48 ∧ !s.rstHeld then (some (v.st + 48), none)
    else if v.st + 48 < s.earliest p m6 then
      let (f, passed) := s.pickWindow w p m6 rest
      (f, some (passed.getD v.st))
    else s.pickWindow w p m6 rest

/-- The fire instant of a sealed step as it stands before the marker that starts at `m6`, and the start of the last window
it has passed over. -/
def Block.fireInstant (s : Block) (i m6 : Nat) : Option Nat × Option Nat :=
  let p := s.step' i
  if p.tb = 0 then
    if s.rstHeld then (none, none)
    else
      let at' := (s.pair (Reg.STEP_AT_LO i) (Reg.STEP_AT_HI i)).toNat
      (some (max (6 * max at' (p.posting + 400)) (s.earliest p m6)), none)
  else s.pickWindow (p.tb - 1) p m6 (s.windows (p.tb - 1))

/-! The commands of this file, with the operands that the command table's rows take here. -/

def execStepReportTimeout (i : Fin 32) (t : Fin 12) (h : Fin 64) (s : State) : Out := .next (s.withBlock (doStepReportTimeout i t h s.toBlock))
def execStepOpen (ag : Fin 3) (i : Fin 32) (v : Word) (s : State) : Out := .next (s.withBlock (doStepOpen ag i v s.toBlock))
def execStepSeal (ag : Fin 3) (i : Fin 32) (v : Word) (s : State) : Out := .next (s.withBlock (doStepSeal ag i v s.toBlock))
def execStepCancel (ag : Fin 3) (i : Fin 32) (v : Word) (s : State) : Out := .next (s.withBlock (doStepCancel ag i v s.toBlock))
def execStepExpire (i : Fin 32) (s : State) : Out := .next (s.withBlock (doStepExpire i s.toBlock))

end Sys2Proof.Machine
end

