-- ==== Sys2Proof/Machine/Sett.lean ====
section
/-! DEFINITION. Chapter 8: the Sett network. Hubs and what they do with commands, markers and fires; return slots, tags
and retries; training, quarantine, partner dies; the trunks' markers. Hub `h` of trunk `t` is named `k` = 64 `t` + `h`. -/

namespace Sys2Proof.Machine

/-! Hubs on their dies (R193, R197–R201, R512). -/

/-- The address of leaf `l` of hub `k`. -/
def hubLeaf (k l : Nat) : Nat := nodeAddr (k / 64) (k % 64) l

/-- The limit a hub holds for kind `d`: LO, or HI, with SIGNED in bit 12. -/
def hubLimit (t : Nat) (u : Hub) (d : Nat) (hi : Bool) : Nat :=
  match Bank.get (fun _ => none) u.limits (2 * d + hi.toNat) with
  | some v => v
  | none => (Config.hubLimit (128 * t + 2 * d + hi.toNat)).toNat

/-- The limit as a code. -/
def limitVal (v : Nat) : Int := codeVal (bitOf v 12) v

/-- A code lies within the limits that the hub holds for the kind (R512). -/
def withinLimits (t : Nat) (u : Hub) (d code : Nat) : Bool :=
  let lo := hubLimit t u d false
  let hi := hubLimit t u d true
  decide (limitVal lo ≤ codeVal (bitOf lo 12) code) && decide (codeVal (bitOf hi 12) code ≤ limitVal hi)

/-- A hub queues an answer to a command that took effect at `took`; at most 15 (R201). -/
def Hub.reply (u : Hub) (tag kind payload took : Nat) : Hub :=
  if u.replies.length < 15 then { u with replies := u.replies ++ [⟨tag, kind, payload, took⟩] } else u

/-- The tag of a posted command: ID 15, GEN 0. -/
abbrev postedTag : Nat := 60

/-- A REJECT (Table 8.8). -/
def Hub.reject (u : Hub) (tag op leaf took : Nat) : Hub := u.reply tag 5 (op * 2 ^ 14 + leaf) took

/-- A command reaches hub `k`: it exists and is powered. -/
def Block.hubUp (s : Block) (k : Nat) : Bool := hubExists (k / 64) (k % 64) && (s.hub k).powered

/-- A hub that is powered changes. -/
def Block.onHub (s : Block) (k : Nat) (f : Hub → Hub) : Block := if s.hubUp k then s.setHub k (f (s.hub k)) else s

/-- A node command at hub `k`: rejected when the hub's own map marks the leaf ABSENT, else performed. -/
def Block.atNode (s : Block) (k op leaf tag took : Nat) (f : Block → Block) : Block :=
  if !s.hubUp k then s
  else if ownKind (k / 64) leaf = 63 then s.setHub k ((s.hub k).reject tag op leaf took)
  else f s

/-- WRITE_SHADOW at hub `h` of trunk `t`: shadow ← code, or a REJECT when the code lies outside the hub's own limits. -/
def Block.hubWrite (s : Block) (t h leaf code took : Nat) : Block :=
  let k := 64 * t + h
  s.atNode k 1 leaf postedTag took (fun s =>
    if withinLimits t (s.hub k) (ownKind t leaf) code then s.setShadow (hubLeaf k leaf) (BitVec.ofNat 12 code)
    else s.setHub k ((s.hub k).reject postedTag 1 leaf took))

/-- WRITE_SHADOW_INCR: shadow ← shadow plus the signed increment, limited to the kind's limits (R194). -/
def Block.hubIncr (s : Block) (t h leaf inc took : Nat) : Block :=
  let k := 64 * t + h
  s.atNode k 2 leaf postedTag took (fun s =>
    let u := s.hub k
    let lo := hubLimit t u (ownKind t leaf) false
    let hi := hubLimit t u (ownKind t leaf) true
    let sum := codeVal (bitOf lo 12) (s.shadowOf (hubLeaf k leaf)).toNat + signed 12 inc
    s.setShadow (hubLeaf k leaf) (BitVec.ofInt 12 (clampInt (limitVal lo) (limitVal hi) sum)))

/-- READ_SHADOW and READ_ACTIVE (`op` 3 and 4): a DATA answer with the code. -/
def Block.hubRead (s : Block) (t h op leaf tag took : Nat) : Block :=
  let k := 64 * t + h
  s.atNode k op leaf tag took (fun s =>
    let v := if op = 3 then s.shadowOf (hubLeaf k leaf) else s.activeOf (hubLeaf k leaf)
    s.setHub k ((s.hub k).reply tag 1 (ownKind t leaf * 4096 + v.toNat) took))

/-- Every node of hub `k`: shadow ← active. -/
def Block.copyAll (s : Block) (k : Nat) : Block :=
  (s.withSett { s.sett with
    shadow := Bank.copyRange s.sett.shadow s.sett.active (hubLeaf k 0) (hubLeaf k 0 + 16384) })

/-- COPY_ACTIVE_TO_SHADOW: the node, or with ALL = 1 every node of the hub, which also clears TAINT. -/
def Block.hubCopy (s : Block) (t h leaf : Nat) (all : Bool) (took : Nat) : Block :=
  let k := 64 * t + h
  if all then
    if s.hubUp k then (s.copyAll k).setHub k { s.hub k with taint := false } else s
  else s.atNode k 5 leaf postedTag took (fun s => s.setShadow (hubLeaf k leaf) (s.activeOf (hubLeaf k leaf)))

/-- STEP_ARM at the hub: sets the step's bit of its armed set, or clears it. -/
def Block.hubArm (s : Block) (t h step : Nat) (disarm : Bool) : Block :=
  s.onHub (64 * t + h) (fun u => { u with armed := withBits u.armed step step (!disarm).toNat })

/-- STEP_FIRE, the node fire: active ← shadow for this node, at once. -/
def Block.hubNodeFire (s : Block) (t h leaf took : Nat) : Block :=
  let k := 64 * t + h
  s.atNode k 7 leaf postedTag took (fun s => s.setActive (hubLeaf k leaf) (s.shadowOf (hubLeaf k leaf)))

/-- Every hub of the trunk opens its tap, but those of a list. -/
def Block.openTaps (s : Block) (t : Nat) (but : List Nat) : Block :=
  s.each (trunkHubs t) (fun s j => if but.elem j ∨ (s.hub j).tap = none then s else s.setHub j { s.hub j with tap := none })

/-- SENSE_SELECT: every hub of the trunk opens its tap; the named hub connects the node's tap and answers SENSED, or
answers REJECT where the leaf is ABSENT or has no tap on the hub (R213, R512). The hubs of `bad` did not take the command. -/
def Block.hubSense (s : Block) (t h leaf tag took : Nat) (bad : List Nat) : Block :=
  let k := 64 * t + h
  let s := s.openTaps t bad
  if bad.elem k then s
  else s.atNode k 8 leaf tag took (fun s =>
    if hasTap t leaf then s.setHub k ({ s.hub k with tap := some leaf }.reply tag 2 leaf took)
    else s.setHub k ((s.hub k).reject tag 8 leaf took))

/-- The payload of an IDLE slot (Table 8.8). -/
def Hub.idlePayload (u : Hub) : Nat :=
  u.fresh.toNat * 2 ^ 23 + u.taint.toNat * 2 ^ 22 + u.markerErr.toNat * 2 ^ 21 + u.lastFired % 32 * 2 ^ 16 +
    u.tgl.toNat * 2 ^ 15 + u.fwdErr % 128 * 2 ^ 8 + u.replies.length

/-- A status word (Table 8.9). -/
def Hub.statusWord (t : Nat) (u : Hub) (w : Nat) : Nat :=
  match w with
  | 0 => u.idlePayload
  | 1 => kindSignature (ownKind t) 16384
  | 2 => bitsOf u.armed 15 0
  | _ => bitsOf u.armed 31 16

/-- HUB_STATUS: a STATUS answer with the word. -/
def Block.hubStatus (s : Block) (t h word tag took : Nat) : Block :=
  s.onHub (64 * t + h) (fun u => u.reply tag 3 (u.statusWord t word) took)

/-- HOLD_SILENT: the hub stops sending and discards its queued answers; RELEASE_SILENT: it sends in its slot again. -/
def Block.hubSilence (s : Block) (t h : Nat) (hold : Bool) : Block :=
  s.onHub (64 * t + h) (fun u => if hold then { u with silent := true, replies := [] } else { u with silent := false })

/-- The hub's limit for kind `d`, LO or HI, becomes `v`, SIGNED in bit 12. -/
def Hub.setLimit (u : Hub) (d : Nat) (hi : Bool) (v : Nat) : Hub :=
  { u with limits := Bank.set (fun _ => none) u.limits (2 * d + hi.toNat) (some v) }

/-- TRAIN (Table 8.6): ALIGN shifts the slot start by VALUE, signed, in 1/16 bit time, and is answered; FLIGHT sets the fire
delay; LIMIT sets the LO or HI limit of a kind; function 3 is rejected (R512). -/
def Block.hubTrain (s : Block) (t h leaf tag value took : Nat) : Block :=
  s.onHub (64 * t + h) (fun u =>
    match leaf / 4096 with
    | 0 => { u with align := u.align + signed 12 value }.reply tag 4 0 took
    | 1 => { u with flight := value }
    | 2 => u.setLimit (leaf / 64 % 64) (bitOf leaf 0) (value % 4096 + 4096 * (bitOf leaf 1).toNat)
    | _ => u.reject tag 13 leaf took)

/-- What the hubs do with a command that took effect at `took` (Table 8.6). IDLE, and the reserved opcodes that a hub treats as
IDLE, do nothing. -/
def Block.hubPerforms (s : Block) (t : Nat) (x : OnWire) (took : Nat) : Block :=
  let h := wordHub x.word
  let leaf := wordLeaf x.word
  let tag := wordTag x.word
  let v := wordVal x.word
  match wordOp x.word with
  | 1 => s.hubWrite t h leaf v took
  | 2 => s.hubIncr t h leaf v took
  | 3 => s.hubRead t h 3 leaf tag took
  | 4 => s.hubRead t h 4 leaf tag took
  | 5 => s.hubCopy t h leaf (bitOf v 0) took
  | 6 => s.hubArm t h (leaf / 512) (bitOf leaf 8)
  | 7 => s.hubNodeFire t h leaf took
  | 8 => s.hubSense t h leaf tag took x.bad
  | 9 => s.openTaps t x.bad
  | 10 => s.hubStatus t h (leaf % 4) tag took
  | 11 => s.hubSilence t h true
  | 12 => s.hubSilence t h false
  | 13 => s.hubTrain t h leaf tag v took
  | _ => s

/-! From the trunk to its hubs (R198, R199). Instants at a hub are in 1/96 ns of local time. -/

/-- When hub `k` performs a command on the wire: its forward flight is as its training measured it. -/
def Block.takesAt (s : Block) (k : Nat) (x : OnWire) : Nat := 16 * x.due + (s.hubRec k).flight

/-- An instant has come. -/
def Block.reached (s : Block) (e : Nat) : Bool := decide (e ≤ 96 * s.now + 95)

/-- Two commands are performed in the order of their positions: they name one hub, or both move the trunk's taps. -/
def ordered (a b : BitVec 48) : Bool :=
  (wordHub a == wordHub b && wordOp a != 9 && wordOp b != 9) ||
    ((wordOp a == 8 || wordOp a == 9) && (wordOp b == 8 || wordOp b == 9))

/-- Hub `k` has still to perform a fire that comes before instant `e`, or a command that does. -/
def Block.fireBefore (s : Block) (k e : Nat) : Bool :=
  match (s.hub k).fires with
  | (_, f) :: _ => decide (f < e)
  | [] => false

def Block.commandBefore (s : Block) (k e : Nat) : Bool :=
  (s.trunk (k / 64)).wire.any (fun x => wordHub x.word == k % 64 && wordOp x.word != 9 && decide (s.takesAt k x < e))

/-- Command `c` is the next on the wire of trunk `t` among those performed in order with it, and the named hub is to perform
it now. -/
def Block.arrived (s : Block) (t : Nat) (c : BitVec 48) : Option OnWire :=
  let k := 64 * t + wordHub c
  ((s.trunk t).wire.find? (fun x => ordered x.word c)).filter (fun x =>
    x.word == c && s.reached (s.takesAt k x) && !s.fireBefore k (s.takesAt k x))

/-- The hubs of trunk `t` take the command `c` that has arrived. -/
def Block.hubsTake (s : Block) (t : Nat) (c : BitVec 48) : Block :=
  match s.arrived t c with
  | none => s
  | some x =>
    (s.setTrunk t { s.trunk t with wire := (s.trunk t).wire.erase x }).hubPerforms t x (s.takesAt (64 * t + wordHub c) x)

/-- A command that no other row of the table spells: an IDLE, a reserved opcode, or a TRAIN of function 3. -/
def otherWord (w : BitVec 48) : Bool :=
  wordOp w == 0 || wordOp w == 14 || wordOp w == 15 || (wordOp w == 13 && wordLeaf w / 4096 == 3)

/-- IDLE: hub `h` takes its next command, when that is one it treats as IDLE, or rejects (R198, R512). -/
def doIdle (t h : Nat) (s : Block) : Block :=
  match (s.trunk t).wire.find? (fun x => wordHub x.word == h && wordOp x.word != 9) with
  | some x => if otherWord x.word then s.hubsTake t x.word else s
  | none => s

def doWriteShadow (t h leaf code : Nat) (s : Block) : Block := s.hubsTake t (commandWord 1 h leaf postedTag code)
def doWriteShadowIncr (t h leaf inc : Nat) (s : Block) : Block := s.hubsTake t (commandWord 2 h leaf postedTag inc)
def doReadShadow (t h leaf tag : Nat) (s : Block) : Block := s.hubsTake t (commandWord 3 h leaf tag 0)
def doReadActive (t h leaf tag : Nat) (s : Block) : Block := s.hubsTake t (commandWord 4 h leaf tag 0)
def doCopyActiveToShadow (t h leaf : Nat) (all : Bool) (s : Block) : Block :=
  s.hubsTake t (commandWord 5 h leaf postedTag all.toNat)
def doStepArm (t h step : Nat) (disarm : Bool) (s : Block) : Block :=
  s.hubsTake t (commandWord 6 h (512 * step + 256 * disarm.toNat) postedTag 0)
def doStepFire (t h leaf : Nat) (s : Block) : Block := s.hubsTake t (commandWord 7 h leaf postedTag 0)
def doSenseSelect (t h leaf tag : Nat) (s : Block) : Block := s.hubsTake t (commandWord 8 h leaf tag 0)

/-- SENSE_RELEASE, whatever its HUB field. -/
def doSenseRelease (t : Nat) (s : Block) : Block :=
  match (s.trunk t).wire.find? (fun x => wordOp x.word == 8 || wordOp x.word == 9) with
  | some x => if wordOp x.word = 9 then s.hubsTake t x.word else s
  | none => s

def doHubStatus (t h word tag : Nat) (s : Block) : Block := s.hubsTake t (commandWord 10 h word tag 0)
def doHoldSilent (t h : Nat) (s : Block) : Block := s.hubsTake t (commandWord 11 h 0 postedTag 0)
def doReleaseSilent (t h : Nat) (s : Block) : Block := s.hubsTake t (commandWord 12 h 0 postedTag 0)
def doTrainAlign (t h value tag : Nat) (s : Block) : Block := s.hubsTake t (commandWord 13 h 0 tag value)
def doTrainFlight (t h value : Nat) (s : Block) : Block := s.hubsTake t (commandWord 13 h 0x1000 postedTag value)
def doTrainLimit (t h kind : Nat) (sgn hi : Bool) (value : Nat) (s : Block) : Block :=
  s.hubsTake t (commandWord 13 h (0x2000 + 64 * kind + 2 * sgn.toNat + hi.toNat) postedTag value)

/-- A command with a bad CHECK sets TAINT and counts (R199). -/
def Hub.tainted (u : Hub) : Hub := { u with taint := true, fwdErr := u.fwdErr + 1, news := u.news || !u.taint }

/-- FWD_CHECK_FAIL: the `n`th command on the wire, an IDLE when there are fewer, reaches hub `h` with the bits of `flips`
inverted. When its CHECK fails the hub discards it: the hub that it names does not perform it. -/
def doFwdCheckFail (t h n : Nat) (flips : BitVec 48) (s : Block) : Block :=
  let k := 64 * t + h
  let u := s.trunk t
  let x : OnWire := u.wire.getD n { word := commandWord 0 0 0 0 0, due := 0, bad := [] }
  let got := x.word ^^^ flips
  if !s.hubUp k ∨ !s.clockRuns t ∨ x.bad.elem k ∨ !s.reached (s.takesAt k x) ∨ crc6 got.toNat = bitsOf got 5 0 then s
  else
    let gone := wordHub x.word == h && wordOp x.word != 8 && wordOp x.word != 9
    let s := s.setTrunk t { u with
      wire := if gone then u.wire.eraseIdx n else u.wire.set n { x with bad := k :: x.bad } }
    s.setHub k (s.hub k).tainted

/-- HUB_MARKER_RECEIVE: the marker of the frame reaches the hub with the bits of `flips` inverted, once (R197, R209). A bad CHK
discards it with what it carries and sets MARKER_ERR; a disarm clears the step's bit; a fire waits for its instant (R208). -/
def doHubMarkerReceive (t h : Nat) (flips : Word) (s : Block) : Block :=
  let k := 64 * t + h
  let p := s.trunk t
  let came := 16 * p.frame + (s.hubRec k).flight
  if !s.hubUp k ∨ !s.clockRuns t ∨ p.heard.elem k ∨ !s.reached (came + 512) ∨ s.commandBefore k (came + 512) then s
  else
    let s := s.setTrunk t { p with heard := k :: p.heard }
    let m := p.marker ^^^ flips
    let u := s.hub k
    if crc3 m.toNat ≠ bitsOf m 2 0 then s.setHub k { u with markerErr := true, news := true }
    else if bitsOf m 31 24 ≠ 0xB8 then s
    else
      let u := { u with markerAt := s.now }
      let i := bitsOf m 19 15
      let at' := bitsOf m 14 3
      if bitsOf m 20 20 = 0 then s.setHub k u
      else if 64 ≤ at' ∧ at' ≤ 2111 then s.setHub k { u with fires := u.fires ++ [(i, came + 16 * at' + u.flight)] }
      else s.setHub k { u with armed := withBits u.armed i i 0 }

/-- HUB_FIRE: the instant of the oldest fire that the hub has taken (R199, R208). An armed hub brings every shadow trim
into force and clears the step's bit; a tainted one refuses, keeping its trims, and so does one that the Sett counts as
refusing (R210); one that is not armed ignores it. -/
def doHubFire (t h : Nat) (s : Block) : Block :=
  let k := 64 * t + h
  let u := s.hub k
  match u.fires with
  | [] => s
  | (i, e) :: rest =>
    if !s.hubUp k ∨ !s.reached e ∨ s.commandBefore k e then s
    else if !u.armed.getLsbD i then s.setHub k { u with fires := rest }
    else
      let u := { u with fires := rest, armed := withBits u.armed i i 0, news := true }
      if u.taint ∨ (s.step' i).refusers.elem k then s.setHub k u
      else
        let s := (s.withSett { s.sett with
          active := Bank.copyRange s.sett.active s.sett.shadow (hubLeaf k 0) (hubLeaf k 0 + 16384) })
        s.setHub k { u with lastFired := i, tgl := !u.tgl, fresh := false }

/-- HUB_MARKER_TIMEOUT: no valid marker for 4 frame times; the armed set is cleared and the trims kept (R209). -/
def doHubMarkerTimeout (t h : Nat) (s : Block) : Block :=
  let k := 64 * t + h
  if s.hubUp k ∧ 3 * (s.hub k).markerAt + 4096 ≤ 3 * s.now then s.setHub k { s.hub k with armed := 0, fires := [] } else s

/-! Hub states (Table 8.13). -/

abbrev HUB_ABSENT : Nat := 0
abbrev HUB_TRAINING : Nat := 1
abbrev HUB_ACTIVE : Nat := 2
abbrev HUB_LOST : Nat := 3
abbrev HUB_QUARANTINED : Nat := 4
abbrev HUB_MISMATCH : Nat := 5

/-! Completions (R205). -/

/-- A spindle's SENSE_SELECT completes (R214): its entry goes on to its settle, which counts from now (R213); when the completion is not OK it runs
connected to the input short and its results carry OVERRANGE. -/
def Block.tapDone (s : Block) (n code : Nat) : Block :=
  match (s.sp n).act with
  | some r =>
    if r.sensing then
      s.setAct n (some { r with
        sensing := false, allOver := r.allOver || decide (code ≠ 0),
        stage := if r.stage = .sense then .settle else r.stage
        since := if r.stage = .sense then s.now else r.since })
    else s
  | none => s

/-- The words of a node packet's final reply after the header (R419–R421, Table 16.8). -/
def nodePacketData (p : Packet) : List Word :=
  match p.opcode with
  | 0x20 | 0x21 =>
    [BitVec.ofNat 32 (min p.clamped 255 * 2 ^ 24 + min p.notSent 255 * 2 ^ 16 + min p.failed 255 * 2 ^ 8)]
  | 0x22 => (List.range p.total).map (fun i => Bank.get (fun _ => 0) p.results i)
  | 0x24 => [0#32]
  | 0xA3 => []
  | _ => [Bank.get (fun _ => 0) p.results 0]

/-- A packet whose transactions are complete is ended by them: every node packet but ONESHOT, which ends at its seal, and
KEEP_NODES, which goes on to its record. -/
def endsWithNodes (p : Packet) : Bool :=
  match p.opcode with
  | 0x24 => bitsOf (p.word 1) 10 8 == 1
  | 0x20 | 0x21 | 0x22 | 0x23 | 0x25 | 0xA3 => true
  | _ => false

/-- The HOST record of a KEEP_NODES whose reads are complete (R333, R427). -/
def keepRecord (h tag : Nat) (p : Packet) : JReq :=
  { type := 3, flags := 2, domain := 0x3FF, owner := .packet h tag 0,
    runs := [(bitsOf (p.word 1) 23 0, bitsOf (p.word 2) 15 0,
      (List.range p.total).map (fun i => bitsOf (Bank.get (fun _ => 0) p.results i) 11 0))] }

/-- The node transactions of a packet are complete: OK, or NODE_FAIL with the first index that failed (R420). A KEEP_NODES
goes on to its record. -/
def Block.endNodePacket (s : Block) (h tag : Nat) : Block :=
  match (s.host h).runningTag tag with
  | none => s
  | some p =>
    if p.finished < p.total then s
    else if p.opcode = 0x43 then
      match p.firstBad with
      | some j => s.finish h tag 0x32 j false []
      | none => (s.withHoard { s.hoard with appends := s.hoard.appends ++ [keepRecord h tag p] })
    else if !endsWithNodes p then s
    else match p.firstBad with
      | some j => s.finish h tag 0x32 j false (nodePacketData p)
      | none => s.finish h tag 0 (if p.opcode = 0x24 then 0 else 0xFFFFFF) false (nodePacketData p)

/-- The word that reports a transaction's outcome (R255). -/
def outcomeWord (code payload : Nat) : Word := BitVec.ofNat 32 (code * 2 ^ 28 + (if code = 0 then payload % 2 ^ 24 else 0))

/-- Transaction `i` of the packet with tag `tag` of host `h` completes. -/
def Block.packetNode (s : Block) (h tag i code payload : Nat) : Block :=
  match (s.host h).runningTag tag with
  | none => s
  | some p =>
    let bad := decide (2 ≤ code)
    let p := { p with
      finished := p.finished + 1, results := Bank.set (fun _ => 0) p.results i (outcomeWord code payload),
      clamped := p.clamped + (if code = 1 then 1 else 0),
      notSent := p.notSent + (if 2 ≤ code ∧ code ≤ 6 then 1 else 0),
      failed := p.failed + (if 7 ≤ code then 1 else 0),
      firstBad := if bad then some (match p.firstBad with
        | some j => min i j
        | none => i) else p.firstBad }
    (s.setRunning h tag p).endNodePacket h tag

/-- A transaction of window `w`'s guard completes (R307): the write records its code, and its node fire follows it as
requester 0's head; the fire's grant sets GUARD_FIRED. Other completions than OK and CLAMPED count as failures. -/
def Block.guardDone (s : Block) (w : Nat) (x : Txn) (code : Nat) : Block :=
  let o := s.owlWin w
  let s := if x.op = 1 then s.setOwlWin w { o with wstat := withBits o.wstat 5 2 code }
    else if code = 0 then s.setOwlWin w { o with wstat := withBits o.wstat 6 6 1 }
    else s
  if 2 ≤ code then
    let o := s.owlWin w
    (s.setOwlWin w { o with wcnt := withBits o.wcnt 31 24 (satAdd 8 (bitsOf o.wcnt 31 24) 1) }).put Reg.OWL_STATUS_GUARD_FAIL_SEEN 1
  else if x.op = 1 then s.setQueue x.trunk 0 ({ x with op := 7, val := 0, issues := 0 } :: s.queue x.trunk 0)
  else s

/-- A write of the restore requester completes: when it was the restore's last, RESTORE_DONE is raised (R355). -/
def Block.restoreWritten (s : Block) (x : Txn) : Block :=
  if x.op = 1 ∧ s.flag Reg.HD_STATUS_RESTORING ∧ trunkList.all (fun t => (s.queue t 1).all (fun y => y.op != 1)) then
    (s.put Reg.HD_STATUS_RESTORING 0).raise 878 (s.reg Reg.HD_JSEQ_LO).toNat
  else s

/-- A command of the Sett itself that trains a hub is answered, or is not (R215): an ALIGN is sent until the hub's slot lands
within ±0.5 bit time, and what is not answered is sent again. -/
def Block.settDone (s : Block) (x : Txn) (code : Nat) : Block :=
  let r := s.hubRec (64 * x.trunk + x.hub)
  let u := s.trunk x.trunk
  if r.state ≠ HUB_TRAINING ∨ !s.clockRuns x.trunk then s
  else if x.op = 13 then
    if code ≠ 0 ∨ 8 < r.offset.natAbs then s.setTrunk x.trunk { u with own := .align x.hub :: u.own } else s
  else if code ≠ 0 then s.setTrunk x.trunk { u with own := .status x.hub x.leaf :: u.own } else s

/-- A transaction completes to its requester with a code of Table 8.10. -/
def Block.complete (s : Block) (x : Txn) (code payload : Nat) : Block :=
  match x.owner with
  | .none => s
  | .restore => s.restoreWritten x
  | .fox n reg =>
    let g := s.engine n
    s.setEngine n { g with done := g.done ++ [⟨reg, code, payload⟩] }
  | .packet h tag i => s.packetNode h tag i code payload
  | .spindle n => s.tapDone n code
  | .guard w => s.guardDone w x code
  | .sett => s.settDone x code

/-! Judging heads (R192–R195, R204, R206, R225, R516). -/

/-- What becomes of a head: it may be sent, it waits for its hub's training, or it completes with a code unsent. -/
inductive Verdict where
  | send
  | wait
  | unsent (code : Nat)
  deriving DecidableEq, Repr

/-- The operation addresses one leaf. -/
def leafOp (x : Txn) : Bool := x.op ≠ 6 && x.op ≠ 9 && x.op ≠ 10 && !(x.op == 5 && bitOf x.val 0)

def Block.judge (s : Block) (x : Txn) : Verdict :=
  let kind := s.kindAt x.trunk x.leaf
  let k := 64 * x.trunk + x.hub
  if x.op = 9 then (if s.clockRuns x.trunk then .send else .unsent 4)
  else if !hubExists x.trunk x.hub then .unsent 2
  else if leafOp x ∧ kind = 63 then .unsent 2
  else if x.op = 8 ∧ !s.kindSense x.trunk kind then .unsent 3
  else if x.op = 6 ∧ !bitOf x.leaf 8 ∧ !s.stepMine (x.leaf / 512) x.req then .unsent 2
  else match (s.hubRec k).state with
    | 0 => .unsent 4
    | 1 => .wait
    | 2 => .send
    | 3 => .unsent 4
    | 4 => if hasReply x.op then .unsent 5 else .send
    | _ => .unsent 6

/-- NODE_LIMIT of the trunk of a transaction, counted in REFUSED (R195). -/
def Block.refusedNode (s : Block) (x : Txn) : Block :=
  if x.trunk < 12 then
    (s.bump (Reg.TRK_CNT1_REFUSED x.trunk) 1).raise (663 + 8 * x.trunk) (nodeAddr x.trunk x.hub x.leaf)
  else s

/-- A SENSE_SELECT that completes sets TSCUR: the node selected with OK, invalid otherwise; a SENSE_RELEASE leaves it invalid
(R213). -/
def Block.senseDone (s : Block) (x : Txn) (code : Nat) : Block :=
  if (x.op ≠ 8 ∧ x.op ≠ 9) ∨ 12 ≤ x.trunk then s
  else if x.op = 8 ∧ code = 0 then (s.put (Reg.TRK_TSCUR_NODE x.trunk) (nodeAddr x.trunk x.hub x.leaf)).put (Reg.TRK_TSCUR_VALID x.trunk) 1
  else s.put (Reg.TRK_TSCUR_VALID x.trunk) 0

/-- A transaction completes unsent. -/
def Block.completeUnsent (s : Block) (x : Txn) (code : Nat) : Block :=
  let s := if code = 2 ∨ code = 3 then s.refusedNode x else s
  ((s.senseDone x code).complete x code 0).settleSeals

/-- Heads of requester `r` on trunk `t` that complete unsent are completed, one after the other. -/
def Block.settleHeads : Nat → Block → Nat → Nat → Block
  | 0, s, _, _ => s
  | fuel + 1, s, t, r =>
    match s.queue t r with
    | [] => s
    | x :: rest =>
      match s.judge x with
      | .unsent code => Block.settleHeads fuel (((s.setQueue t r rest).endBurst t r).completeUnsent x code) t r
      | _ => s

/-- The heads of every requester on trunk `t` are judged. -/
def Block.settleTrunk (s : Block) (t : Nat) : Block :=
  s.each (List.range 23) (fun s r => Block.settleHeads ((s.queue t r).length) s t r)

/-- A transaction joins its requester's queue, or completes at once when no such trunk exists (R192). -/
def Block.submit (s : Block) (x : Txn) : Block :=
  if 12 ≤ x.trunk then s.completeUnsent x 2
  else
    let s := s.pushTxn x
    Block.settleHeads ((s.queue x.trunk x.req).length) s x.trunk x.req

/-! Tags (R202–R204). -/

/-- A free tag ID of hub `k`. -/
def Block.freeTag (s : Block) (k : Nat) : Option Nat :=
  (List.range 15).find? (fun i => (s.tagSt k i).busy.isNone && (s.tagSt k i).slots == 0)

/-- One more slot of hub `k` has passed. -/
def Block.countSlot (s : Block) (k : Nat) : Block :=
  s.each (List.range 15) (fun s i =>
    let g := s.tagSt k i
    match g.busy with
    | some _ => s.setTag k i { g with slots := g.slots + 1 }
    | none => if g.slots = 0 then s else s.setTag k i { g with slots := g.slots - 1 })

/-- Requester `r`'s head on trunk `t` is presented: it need not wait for a tag ID. -/
def Block.presented (s : Block) (t r : Nat) : Bool :=
  match s.queue t r with
  | [] => false
  | x :: _ => !hasReply x.op || (s.freeTag (64 * x.trunk + x.hub)).isSome

/-- A busy transaction is issued again (R204, R516), or completes with NO_REPLY at its third failure. A retry becomes the
head, but behind a non-privileged requester's presented head; a command of training is the Sett's own again (R513). -/
def Block.retry (s : Block) (x : Txn) : Block :=
  let t := x.trunk
  if x.owner = .sett then (s.bump (Reg.TRK_CNT1_RETRIES t) 1).settDone x 7
  else if 3 ≤ x.issues then ((s.bump (Reg.TRK_CNT0_NO_REPLY t) 1).senseDone x 7).complete x 7 0
  else
    let s := s.bump (Reg.TRK_CNT1_RETRIES t) 1
    match s.queue t x.req with
    | y :: rest =>
      if 5 ≤ x.req ∧ s.presented t x.req then s.setQueue t x.req (y :: x :: rest) else s.setQueue t x.req (x :: y :: rest)
    | [] => s.setQueue t x.req [x]

/-- The use of tag ID `i` of hub `k` ends; it is kept for `hold` slots. -/
def Block.endTag (s : Block) (k i hold : Nat) : Block := s.setTag k i { s.tagSt k i with busy := none, slots := hold }

/-- REPLY_TIMEOUT: no reply to tag ID `i` of the hub has arrived 32 of its slots after the grant. -/
def doReplyTimeout (t h i : Nat) (s : Block) : Block :=
  let k := 64 * t + h
  match (s.tagSt k i).busy with
  | some x => if 32 ≤ (s.tagSt k i).slots then (s.endTag k i 64).retry x else s
  | none => s

/-! The Sett's state of a hub (Table 8.13). -/

/-- The register and bit of hub `h` in a pair of bit arrays that starts at `lo`. -/
def hubBit (lo h : Nat) : Nat × Nat := if h < 32 then (lo, h) else (lo + 4, h - 32)

/-- DIE_DOWN of the die of trunk `t`: every hub of the die is LOST (R191). -/
def Block.showDie (s : Block) (t : Nat) : Block :=
  let d := dieOf t
  s.setBit Reg.SETT_STATUS (12 + d)
    ((dieTrunks d).all (fun t => (trunkHubs t).all (fun k => (s.hubRec k).state == HUB_LOST)))

/-- Hub `k` enters a state; the state bits of its trunk follow, and its die's DIE_DOWN (R191). Heads that waited for its
training are judged by the new state (R516). -/
def Block.enterHub (s : Block) (k st : Nat) : Block :=
  let t := k / 64
  let h := k % 64
  let s := s.setHubRec k { s.hubRec k with
    state := st, missing := 0,
    away := (s.hubRec k).away || decide (st = HUB_ABSENT ∨ st = HUB_LOST) }
  let s := s.setBit (hubBit (Reg.TRK_LOST_LO t) h).1 (hubBit (Reg.TRK_LOST_LO t) h).2 (decide (st = HUB_ABSENT ∨ st = HUB_LOST))
  let s := s.setBit (hubBit (Reg.TRK_QUAR_LO t) h).1 (hubBit (Reg.TRK_QUAR_LO t) h).2 (decide (st = HUB_QUARANTINED))
  let s := s.putB (Reg.TRK_STATUS_TRAINING t) ((trunkHubs t).any (fun j => (s.hubRec j).state == HUB_TRAINING))
  (s.showDie t).settleTrunk t

/-- The Sett's own commands for hub `h` of trunk `t` are replaced by `l`. -/
def Block.setOwn (s : Block) (t h : Nat) (l : List SettCmd) : Block :=
  let p := s.trunk t
  let mine : SettCmd → Bool
    | .align j => j == h
    | .flight j => j == h
    | .limit j _ _ => j == h
    | .status j _ => j == h
    | .hold j => j == h
    | .release j => j == h
  s.setTrunk t { p with own := p.own.filter (fun c => !mine c) ++ l }

/-- The commands of training (R215). -/
def trainCmds (h : Nat) : List SettCmd :=
  [.align h, .flight h] ++ (List.range 63).flatMap (fun d => [.limit h d false, .limit h d true]) ++ [.status h 0, .status h 1]

/-- Hub `k` is to be trained. -/
def Block.trainHub (s : Block) (k : Nat) : Block :=
  (s.setOwn (k / 64) (k % 64) (trainCmds (k % 64))).enterHub k HUB_TRAINING

/-- Hub `k` becomes LOST (R215): HUB_LOST is raised, steps that name it are cancelled, or meet a refusal of their fire. -/
def Block.loseHub (s : Block) (k : Nat) : Block :=
  let t := k / 64
  let s := ((s.setOwn t (k % 64) []).enterHub k HUB_LOST).put (Reg.TRK_STATUS_LOST_SEEN t) 1
  let s := s.raise (656 + 8 * t) (hubLeaf k 0)
  s.each stepList (fun s i => if (s.step' i).hubs.elem k then (s.cancelStep i CAUSE_LOST).refuseFire i k else s)

/-- Hub `k` becomes QUARANTINED (R217): HOLD_SILENT is sent to it. -/
def Block.quarantine (s : Block) (k : Nat) : Block :=
  let t := k / 64
  let s := (s.setOwn t (k % 64) [.hold (k % 64)]).enterHub k HUB_QUARANTINED
  let s := (s.setHubRec k { s.hubRec k with quarAt := s.now }).put (Reg.TRK_STATUS_QUAR_SEEN t) 1
  s.raise (659 + 8 * t) (hubLeaf k 0)

/-- A quarantined hub is released: RELEASE_SILENT is sent and the hub retrained (R217). -/
def Block.releaseHub (s : Block) (k : Nat) : Block :=
  let t := k / 64
  let s := s.setHubRec k { s.hubRec k with coll := 0 }
  let s := s.setOwn t (k % 64) (.release (k % 64) :: trainCmds (k % 64))
  s.enterHub k HUB_TRAINING

/-! Return slots (R200–R203, R216). -/

/-- The slot that hub `k` sends and the hub after it: the answer at the head of its queue when one is due, else IDLE; and
IDLE in its place when news waits and 3 slots carried answers (R201). -/
def sendSlot (h : Nat) (u : Hub) (due : Bool) : Nat × Hub :=
  let frame := fun (tag kind payload : Nat) =>
    let w := 0b110010 * 2 ^ 58 + h * 2 ^ 52 + tag * 2 ^ 46 + kind * 2 ^ 42 + payload % 2 ^ 24 * 2 ^ 18
    w + crc8 w * 2 ^ 10
  match u.replies with
  | r :: rest =>
    if due ∧ !(u.news && decide (3 ≤ u.answers)) then
      (frame r.tag r.kind r.payload, { u with replies := rest, answers := u.answers + 1 })
    else (frame postedTag 0 u.idlePayload, { u with answers := 0, news := false, markerErr := false })
  | [] => (frame postedTag 0 u.idlePayload, { u with answers := 0, news := false, markerErr := false })

/-- The transaction that a slot of hub `k` answers is issued again, its tag ID kept for `hold` slots. -/
def Block.retryTag (s : Block) (k tag hold : Nat) : Block :=
  let g := s.tagSt k (tag / 4)
  match g.busy with
  | some x => if tag / 4 < 15 ∧ g.gen = tag % 4 then (s.endTag k (tag / 4) hold).retry x else s
  | none => s

/-- The hub reports its state in an IDLE slot (R199, R210, R211). -/
def Block.idleReport (s : Block) (k payload : Nat) : Block :=
  let t := k / 64
  let taint := bitOf payload 22
  let merr := bitOf payload 21
  let last := payload / 2 ^ 16 % 32
  let tgl := bitOf payload 15
  let r := s.hubRec k
  let s := s.setHubRec k { r with taint := taint, marker := merr, tgl := tgl }
  let s := if taint ∧ !r.taint then s.bump (Reg.TRK_CNT1_TAINTS t) 1 else s
  let s := if (taint ∧ !r.taint) ∨ merr then
      (s.put (Reg.TRK_STATUS_TAINT_SEEN t) 1).raise (661 + 8 * t) (hubLeaf k 0) else s
  s.each stepList (fun s i =>
    if (s.step' i).hubs.elem k then
      let s := if tgl ≠ r.tgl ∧ last = i then s.fireReported i k else s
      if taint ∨ merr then (s.cancelStep i CAUSE_TAINT).refuseFire i k else s
    else s)

/-- The payload of an answer as its requester is given it: for DATA the kind and code, for SENSED the leaf (R255). -/
def answerPayload (kind payload : Nat) : Nat :=
  match kind with
  | 1 => payload % 2 ^ 18
  | 2 => payload % 2 ^ 14
  | _ => payload % 2 ^ 24

/-- An answer with a live tag completes its transaction. Words 2 and 3 of HUB_STATUS update the armed set (Table 8.17). -/
def Block.deliverAnswer (s : Block) (k i : Nat) (x : Txn) (kind payload : Nat) : Block :=
  let s := s.endTag k i 0
  let code := if kind = 5 then 9 else 0
  let r := s.hubRec k
  let s := if kind ≠ 3 ∨ x.op ≠ 10 then s
    else match x.leaf % 4 with
      | 2 => s.setHubRec k { r with armed := withBits r.armed 15 0 payload }
      | 3 => s.setHubRec k { r with armed := withBits r.armed 31 16 payload }
      | _ => s
  (s.senseDone x code).complete x code (answerPayload kind payload)

/-- A slot taken from hub `k`, its CHECK good: IDLE, an answer, a posted command's REJECT, or a stale slot (R203). -/
def Block.takeSlot (s : Block) (k tag kind payload : Nat) : Block :=
  let t := k / 64
  if tag / 4 = 15 then
    if kind = 0 then s.idleReport k payload
    else if kind = 5 then
      (s.bump (Reg.TRK_CNT1_REFUSED t) 1).raise (663 + 8 * t) (hubLeaf k (payload % 2 ^ 14))
    else s
  else
    let g := s.tagSt k (tag / 4)
    let live := match g.busy with
      | some x => if g.gen = tag % 4 then some x else none
      | none => none
    match live with
    | some x => s.deliverAnswer k (tag / 4) x kind payload
    | none => ((s.bump (Reg.TRK_CNT0_STALE_GEN t) 1).put (Reg.TRK_STATUS_STALE_SEEN t) 1).raise (660 + 8 * t) (hubLeaf k 0)

/-- One missing slot of hub `k` (R215, R217): the eighth in a row makes it LOST, unless it is ABSENT or QUARANTINED. -/
def Block.missSlot (s : Block) (k : Nat) : Block :=
  let r := s.hubRec k
  if r.state = HUB_ABSENT ∨ r.state = HUB_QUARANTINED ∨ r.state = HUB_LOST then s
  else if 7 ≤ r.missing then s.loseHub k
  else s.setHubRec k { r with missing := r.missing + 1 }

/-- No preamble is found in a slot of hub `k` (R216): it ends a run of collisions (R217), and a neighbour's collision has
nothing to discard in it. -/
def Block.noSlot (s : Block) (k : Nat) : Block :=
  let r := s.hubRec k
  (s.setHubRec k { r with discard := false, coll := if r.state = HUB_QUARANTINED then r.coll else 0 }).missSlot k

/-- SLOT_MISSING: hub `h`'s slot carries no preamble. -/
def doSlotMissing (t h : Nat) (s : Block) : Block :=
  let k := 64 * t + h
  if hubExists t h ∧ s.clockRuns t then (s.countSlot k).noSlot k else s

/-- The third collision of hub `k` in a row quarantines it (R217). -/
def Block.collide (s : Block) (k : Nat) (off : Int) : Block :=
  let t := k / 64
  let r := s.hubRec k
  let s := s.bump (Reg.TRK_CNT0_COLLISIONS t) 1
  let s := s.setHubRec k { r with coll := min 3 (r.coll + 1), missing := 0 }
  let next := 64 * t + (k % 64 + 1) % hubCount t
  let s := if 0 < off ∧ next ≠ k then s.setHubRec next { s.hubRec next with discard := true } else s
  if 2 ≤ r.coll ∧ r.state ≠ HUB_QUARANTINED then s.quarantine k else s

/-- SLOT_RECEIVE: the slot of hub `h` arrives at `off` sixteenths of a bit time from nominal, with the bits of `flips`
inverted on the way. `due`: it starts at least 64 bit times after the hub's oldest unanswered command took effect, which
cannot be before 64 bit times have passed since then.
`early`: the next hub's slot begins more than 5 bit times early, so that it collides with this one (R201, R216). -/
def doSlotReceive (t h : Nat) (off : Int) (flips : BitVec 64) (due early : Bool) (s : Block) : Block :=
  let k := 64 * t + h
  let u := s.hub k
  if !hubExists t h ∨ !s.clockRuns t ∨ !u.powered ∨ u.silent then s
  else
    let (slot, u) := sendSlot h u (due && (u.replies.head?).all (fun r => s.reached (r.took + 1024)))
    let tag := slot / 2 ^ 46 % 64
    let s := (s.setHub k u).countSlot k
    let got := Nat.xor slot flips.toNat
    let clash := early || (s.hubRec k).discard
    if off < -128 ∨ 128 < off ∨ got / 2 ^ 58 % 64 ≠ 0b110010 then s.noSlot k
    else
      let s := s.setHubRec k { s.hubRec k with offset := off, discard := false }
      if off < -80 ∨ 80 < off then (s.retryTag k tag 64).collide k off
      else
        let s := s.setHubRec k { s.hubRec k with coll := 0, missing := 0 }
        let s :=
          if off < -48 ∨ 48 < off then
            let b := hubBit (Reg.TRK_DRIFT_LO t) h
            let was := s.bit b.1 b.2
            let s := (s.setBit b.1 b.2 true).put (Reg.TRK_STATUS_DRIFT_SEEN t) 1
            if was then s else s.raise (658 + 8 * t) (hubLeaf k 0)
          else s
        if clash then s.retryTag k tag 64
        else if crc8 got ≠ got / 2 ^ 10 % 256 ∨ 6 ≤ got / 2 ^ 42 % 16 then
          (s.bump (Reg.TRK_CNT0_SLOT_CHECK t) 1).retryTag k tag 0
        else
          let s := if (s.hubRec k).state = HUB_ABSENT ∨ (s.hubRec k).state = HUB_LOST then s.trainHub k else s
          s.takeSlot k (got / 2 ^ 46 % 64) (got / 2 ^ 42 % 16) (got / 2 ^ 18 % 2 ^ 24)

/-! Training (R215, R515, R218, R219). -/

/-- FLAT: the longest forward flight of the trunk's hubs, rounded up to a bit time (R515). -/
def Block.measureFlat (s : Block) (t : Nat) : Nat :=
  ceilDiv (((trunkHubs t).filter (fun j => (s.hubRec j).state ≠ HUB_ABSENT ∧ (s.hubRec j).state ≠ HUB_LOST)).foldl
    (fun a j => max a (s.hubRec j).flight) 0) 16

/-- The Sett holds a command for hub `h` of trunk `t`. -/
def Block.ownLeft (s : Block) (t h : Nat) : Bool :=
  (s.trunk t).own.any (fun c => match c with
    | .align j => j == h
    | .flight j => j == h
    | .limit j _ _ => j == h
    | .status j _ => j == h
    | .hold j => j == h
    | .release j => j == h)

/-- The limits of every kind of trunk `t`, as training gives them to a hub. -/
def Block.trainLimits (s : Block) (t : Nat) (u : Hub) : Hub :=
  (List.range 63).foldl (fun u d =>
    let sg := 4096 * (s.kindSigned t d).toNat
    (u.setLimit d false (bitsOf (s.kindLim t d) 11 0 + sg)).setLimit d true (bitsOf (s.kindLim t d) 27 16 + sg)) u

/-- The training of hub `h` of trunk `t` still has a command that waits, is on the wire or is unanswered. -/
def Block.trainsOn (s : Block) (t h : Nat) : Bool :=
  s.ownLeft t h || (s.trunk t).wire.any (fun x => wordHub x.word == h && wordOp x.word != 9) ||
    (List.range 15).any (fun i => (s.tagSt (64 * t + h) i).busy.any (fun x => x.owner == .sett))

/-- TRAINING_COMPLETE: the training of hub `h` ends, its slot within ±0.5 bit time of nominal and every command of it done, its forward flight measured as `flight` sixteenths of a bit time; hub
0 gives the trunk's return latency. The hub becomes ACTIVE or MISMATCH by its signature. A hub back from a stopped clock
that is not FRESH has its active trims copied to its shadow trims by the restore requester. -/
def doTrainingComplete (t h flight rlat : Nat) (s : Block) : Block :=
  let k := 64 * t + h
  let r := s.hubRec k
  let u := s.hub k
  if !hubExists t h ∨ r.state ≠ HUB_TRAINING ∨ !s.clockRuns t ∨ !u.powered ∨ u.silent ∨ s.trainsOn t h ∨
      8 < r.offset.natAbs then s
  else
    let s := s.setHubRec k { r with
      flight := flight, taint := false, marker := false, armed := 0, coll := 0, discard := false, fresh := u.fresh,
      tgl := u.tgl }
    let s := s.put (Reg.TRK_FLAT_LAT t) (s.measureFlat t)
    let s := if h = 0 then s.put (Reg.TRK_RLAT_LAT t) rlat else s
    let s := s.setHub k (s.trainLimits t { u with taint := false, markerErr := false, armed := 0 })
    let s := s.each (trunkHubs t) (fun s j =>
      if (s.hubRec j).flight ≠ 0 ∧ (s.hub j).powered then
        s.setHub j { s.hub j with flight := 16 * s.flat t - (s.hubRec j).flight }
      else s)
    if kindSignature (s.kindAt t) 16384 = kindSignature (ownKind t) 16384 then
      let all := s.flag Reg.SETT_CTL_RESTORE_ALL
      let s := s.setHubRec k { s.hubRec k with
        away := false, stopped := false, restore := u.fresh || (r.stopped && all) }
      let s := s.enterHub k HUB_ACTIVE
      let s := if r.stopped ∧ !u.fresh ∧ !all then
          s.submit { req := 1, op := 5, trunk := t, hub := h, leaf := 0, val := 1, owner := .restore, issues := 0 } else s
      if r.away then s.raise (657 + 8 * t) (hubLeaf k 0) else s
    else
      let s := (s.enterHub k HUB_MISMATCH).put (Reg.TRK_STATUS_MISMATCH_SEEN t) 1
      s.raise (661 + 8 * t) (hubLeaf k 0)

/-! Hub commands (Table 8.23). -/

/-- The hub that agent `ag`'s HUB_IDX names, when it exists. -/
def Block.idxHub (s : Block) (ag : Nat) : Option Nat :=
  let w := s.reg (ownCopy ag Reg.HUB_IDX)
  if hubExists (bitsOf w 3 0) (bitsOf w 9 4) then some (64 * bitsOf w 3 0 + bitsOf w 9 4) else none

/-- A write of HUB_CMD by agent `ag`: 1 RELEASE of a quarantined hub, 2 RETRAIN, 3 QUARANTINE. A hub that is QUARANTINED
leaves that state only by RELEASE (R217); a trunk that sends no frames trains and quarantines nothing. -/
def Block.writeHubCmd (s : Block) (ag : Nat) (cmd : Nat) : Block :=
  match s.idxHub ag with
  | none => s
  | some k =>
    if !s.clockRuns (k / 64) then s
    else match cmd with
      | 1 => if (s.hubRec k).state = HUB_QUARANTINED then s.releaseHub k else s
      | 2 => if (s.hubRec k).state = HUB_QUARANTINED then s else s.trainHub k
      | 3 => if (s.hubRec k).state = HUB_QUARANTINED then s else s.quarantine k
      | _ => s

def doHubRelease (ag : Nat) (s : Block) : Block := if s.writable Reg.HUB_CMD then s.writeHubCmd ag 1 else s
def doHubRetrain (ag : Nat) (s : Block) : Block := if s.writable Reg.HUB_CMD then s.writeHubCmd ag 2 else s
def doHubQuarantine (ag : Nat) (s : Block) : Block := if s.writable Reg.HUB_CMD then s.writeHubCmd ag 3 else s

/-- QUARANTINE_AUTO_RELEASE: AUTO_REL ms after its quarantine, firmware releases the hub. -/
def doQuarantineAutoRelease (t h : Nat) (s : Block) : Block :=
  let k := 64 * t + h
  let ms := s.get Reg.SETT_QCFG_AUTO_REL
  if hubExists t h ∧ (s.hubRec k).state = HUB_QUARANTINED ∧ s.clockRuns t ∧ s.fwUp ∧ ms ≠ 0 ∧
      (s.hubRec k).quarAt + 1000000 * ms ≤ s.now then s.releaseHub k else s

/-- HUB_STATE of hub `k` (Table 8.22). -/
def Block.hubStateWord (s : Block) (k : Nat) : Word :=
  let r := s.hubRec k
  BitVec.ofNat 32 (r.state + 2 ^ 8 * toBits 9 r.offset + 2 ^ 17 * r.coll + 2 ^ 19 * r.taint.toNat + 2 ^ 20 * r.fresh.toNat +
    2 ^ 21 * r.refused.toNat)

/-- TAINT_RECOVERY: firmware issues COPY_ACTIVE_TO_SHADOW with ALL = 1 to a hub known tainted, as requester 4 (R199). -/
def doTaintRecovery (t h : Nat) (s : Block) : Block :=
  if hubExists t h ∧ (s.hubRec (64 * t + h)).taint ∧ s.fwUp ∧ s.coreOn then
    s.submit { req := 4, op := 5, trunk := t, hub := h, leaf := 0, val := 1, owner := .none, issues := 0 }
  else s

/-! Partner dies (R190, R218). -/

/-- The trims of every node of die `d` are forgotten: each holds its kind's default. -/
def Block.dropTrims (s : Block) (d : Nat) : Block :=
  (s.withSett { s.sett with
    shadow := s.sett.shadow.filter (fun p => dieOf (nodeTrunk p.1) ≠ d),
    active := s.sett.active.filter (fun p => dieOf (nodeTrunk p.1) ≠ d) })

/-- PARTNER_DIE_POWER_LOSS: die `d` loses power. -/
def doPartnerDiePowerLoss (d : Nat) (s : Block) : Block :=
  let s := (s.dropTrims d).each (dieTrunks d) (fun s t =>
    s.each (trunkHubs t) (fun s k => s.setHub k { Hub.reset with powered := false }))
  s.withStock { s.stock with returning := Bank.erase s.stock.returning d }

/-- PARTNER_DIE_POWER_UP: die `d` returns; its hubs are FRESH and hold their kinds' defaults. The AT_RETURN requests of its
domains wait for its restore (R298). -/
def doPartnerDiePowerUp (d : Nat) (s : Block) : Block :=
  let back := (dieHubs d).any (fun k => !(s.hub k).powered)
  let s := if back then s.withStock { s.stock with returning := Bank.insert s.stock.returning d [] } else s
  s.each (dieTrunks d) (fun s t =>
    s.each (trunkHubs t) (fun s k => if (s.hub k).powered then s else s.setHub k { Hub.reset with markerAt := s.now }))

/-! Trunks: enabling, stopping (R196, R219). -/

/-- The trunk's domain is powered, its TRK_EN bit is 1, subsystem 10 is not in reset and the test port does not hold the
trunks (R504): it sends frames. -/
def Block.mayRun (s : Block) (t : Nat) : Bool :=
  s.bit Reg.SETT_CTL t && s.domainOn (36 + t) && s.coreOn && !s.busySS 10 && !s.tap.inst.drives

/-- What is left of the network when Ralnex loses it: the hubs, which keep their trims, but not the fires that had not come. -/
def Block.hubsAlone (s : Block) (f : Hub → Hub) : SettSt :=
  { SettSt.reset with
    hubs := Bank.mapVals (fun _ => Hub.reset) s.sett.hubs f, shadow := s.sett.shadow, active := s.sett.active }

/-- Trunk `t` starts its frames, if it may; the table pointer is 0 for its first position (R232). -/
def Block.startTrunk (s : Block) (t : Nat) : Block :=
  if s.mayRun t ∧ !s.clockRuns t then
    let s := s.setTrunk t { s.trunk t with frame := 6 * s.now, heard := trunkHubs t }
    let s := s.withWhorl { s.whorl with idle := Bank.erase s.whorl.idle t }
    ((s.put (Reg.TRK_STATUS_UP t) 1).setBit Reg.SETT_STATUS t true).put (Reg.WH_STATUS_PTR t) 0
  else s

/-- Busy transactions of trunk `t` complete with ABORTED (R219). -/
def Block.abortBusy (s : Block) (t : Nat) : Block :=
  s.each (trunkHubs t) (fun s k =>
    s.each (List.range 15) (fun s i =>
      match (s.tagSt k i).busy with
      | some x => ((s.endTag k i 0).senseDone x 8).complete x 8 0
      | none => s))

/-- The forward path of trunk `t` falls silent: commands and fires whose instants at the hubs have not come are lost (R210). -/
def Block.silenceTrunk (s : Block) (t : Nat) : Block :=
  let u := s.trunk t
  let now := 96 * s.now
  let s := s.setTrunk t { u with
    own := [], heard := trunkHubs t
    wire := u.wire.filter (fun x => decide (s.takesAt (64 * t + wordHub x.word) x ≤ now)) }
  s.each (trunkHubs t) (fun s k =>
    let v := s.hub k
    if v.fires = [] then s else s.setHub k { v with fires := v.fires.filter (fun f => decide (f.2 ≤ now)) })

/-- The forward clock of trunk `t` stops (R209, R210, R219). -/
def Block.stopTrunk (s : Block) (t : Nat) : Block :=
  if !s.clockRuns t then s
  else
    let s := (s.put (Reg.TRK_STATUS_UP t) 0).setBit Reg.SETT_STATUS t false
    let s := s.silenceTrunk t
    let s := s.each stepList (fun s i =>
      let p := s.step' i
      let s := if p.disarm.elem t then s.setStep i { p with disarm := p.disarm.filter (· ≠ t) } else s
      if (s.step' i).trunks.elem t then
        let s := s.cancelStep i CAUSE_CLOCK
        let late := match (s.step' i).fire with
          | some f => decide (6 * s.now < f)
          | none => false
        if late then s.each ((s.step' i).hubs.filter (fun k => k / 64 == t)) (fun s k => s.refuseFire i k) else s
      else s)
    let s := s.abortBusy t
    s.each (trunkHubs t) (fun s k =>
      (s.setHubRec k { s.hubRec k with stopped := true }).enterHub k HUB_ABSENT)

/-- A write of SETT_CTL: trunks whose bit changes start or stop. -/
def Block.writeSettCtl (s : Block) (v : Word) : Block :=
  let s := s.writeFields Reg.SETT_CTL v
  s.each trunkList (fun s t => if s.bit Reg.SETT_CTL t then s.startTrunk t else s.stopTrunk t)

/-- TRK_EN_WRITE: a write of SETT_CTL. -/
def doTrkEnWrite (v : Word) (s : Block) : Block := if s.writable Reg.SETT_CTL then s.writeSettCtl v else s

/-! Kinds (R193). -/

/-- The kind table of trunk `t` may be written: the trunk's TRK_EN is 0. -/
def Block.kindsOpen (s : Block) (t : Nat) : Bool := decide (t < 12) && !s.bit Reg.SETT_CTL t

/-- A limit lies within a WIDTH of 1–12 bits. -/
def fitsWidth (sg : Bool) (width v : Nat) : Bool :=
  decide (1 ≤ width) && decide (width ≤ 12) &&
    (if sg then decide (-(2 ^ (width - 1) : Nat) ≤ signed 12 v) && decide (signed 12 v ≤ (2 ^ (width - 1) : Nat) - 1)
     else decide (v < 2 ^ width))

/-- A kind's definition and limits agree: LO ≤ HI, both within WIDTH. -/
def kindOk (d l : Word) : Bool :=
  let sg := bitsOf d 16 16 == 1
  let w := bitsOf d 15 12
  fitsWidth sg w (bitsOf l 11 0) && fitsWidth sg w (bitsOf l 27 16) &&
    decide (codeVal sg (bitsOf l 11 0) ≤ codeVal sg (bitsOf l 27 16))

/-- A kind write is ignored. -/
def Block.kindIgnored (s : Block) : Block := s.put Reg.SETT_STATUS_KIND_IGNORED 1

/-- A write of KIND_DEF, or KIND_LIM, by agent `ag`. Kind 63 cannot be written; a write on an enabled trunk, or one whose
limits disagree, is ignored. -/
def Block.writeKind (s : Block) (ag : Nat) (lim : Bool) (v : Word) : Block :=
  let w := s.reg (ownCopy ag Reg.KIND_IDX)
  let t := bitsOf w 3 0
  let d := bitsOf w 9 4
  let def' := if lim then s.kindDef t d else v &&& 0x3FFFF#32
  let lim' := if lim then v &&& 0x0FFF0FFF#32 else s.kindLim t d
  if !s.kindsOpen t ∨ d = 63 ∨ !kindOk def' lim' then s.kindIgnored
  else (s.withSett { s.sett with
    kdef := Bank.set (fun _ => 0) s.sett.kdef (64 * t + d) def', klim := Bank.set (fun _ => 0) s.sett.klim (64 * t + d) lim' })

/-- KIND_WRITE: a write of KIND_DEF or KIND_LIM. -/
def doKindWrite (ag : Nat) (lim : Bool) (v : Word) (s : Block) : Block :=
  if s.writable Reg.KIND_DEF then s.writeKind ag lim v else s

/-- KMAP_IDX.LEAF advances after an access of KMAP_DATA. -/
def Block.advanceKmap (s : Block) (ag : Nat) : Block :=
  let f : Fld := ⟨ownCopy ag Reg.KMAP_IDX, 17, 4⟩
  s.put f (s.get f + 1)

/-- A write of KMAP_DATA by agent `ag`. -/
def Block.writeKmap (s : Block) (ag : Nat) (v : Word) : Block :=
  let w := s.reg (ownCopy ag Reg.KMAP_IDX)
  let t := bitsOf w 3 0
  let s := if s.kindsOpen t then
      (s.withSett { s.sett with
        kmap := Bank.set (fun _ => 63#6) s.sett.kmap (16384 * t + bitsOf w 17 4) (v.extractLsb' 0 6) })
    else s.kindIgnored
  s.advanceKmap ag

/-- A read of KMAP_DATA by agent `ag`; trunks 12–15 read 0. -/
def Block.readKmap (s : Block) (ag : Nat) : Word × Block :=
  let w := s.reg (ownCopy ag Reg.KMAP_IDX)
  (if bitsOf w 3 0 < 12 then BitVec.ofNat 32 (s.kindAt (bitsOf w 3 0) (bitsOf w 17 4)) else 0, s.advanceKmap ag)

/-- KMAP_DATA_ACCESS: a write of `v`, or a read. -/
def doKmapDataAccess (ag : Nat) (v : Option Word) (s : Block) : Block :=
  match v with
  | some v => if s.writable Reg.KMAP_DATA then s.writeKmap ag v else s
  | none => if s.coreOn then (s.readKmap ag).2 else s

/-! Markers (R197, R207, R209). -/

/-- A marker (Table 8.4). -/
def markerWord (fseq : Nat) (fv : Bool) (id at' : Nat) : Word :=
  let w := 0xB8 * 2 ^ 24 + fseq % 8 * 2 ^ 21 + fv.toNat * 2 ^ 20 + id % 32 * 2 ^ 15 + at' % 4096 * 2 ^ 3
  BitVec.ofNat 32 (w + crc3 w)

/-- The frame, counted from the one that starts at `m6`, whose marker carries a fire at `f` on trunk `t`; none when it has
been formed already. -/
def Block.fireFrame (s : Block) (t m6 f : Nat) : Option Nat :=
  if m6 + 64 + s.flat t ≤ f then some ((f - (m6 + 64 + s.flat t)) / 2048) else none

/-- The trunks of a step whose markers are still to carry its fire, with the frames that carry it. -/
def Block.fireFrames (s : Block) (p : Step) (m6 f : Nat) : List (Nat × Nat) :=
  (p.trunks.filter (fun t => s.clockRuns t && !p.carried.elem t)).filterMap (fun t => (s.fireFrame t m6 f).map (fun n => (t, n)))

/-- Step `i` passes over its window, or its instant. -/
def Block.passOver (s : Block) (i st : Nat) : Block :=
  (s.setStep i { s.step' i with after := st }).put (Reg.STEP_STAT_MOVED i) 1

/-- A sealed step that no marker carries yet is judged before the markers that start at `m6`: it passes over windows it can
no longer take, and commits to its fire instant when the first marker of its fire is due and no other fire has that
marker. `res` lists the trunks and frames already spoken for. -/
def Block.commitStep (m6 : Nat) (a : Block × List (Nat × Nat)) (i : Nat) : Block × List (Nat × Nat) :=
  let (s, res) := a
  if s.stepState i ≠ STEP_SEALED ∨ (s.step' i).carried ≠ [] then (s, res)
  else
    let (f, passed) := s.fireInstant i m6
    let s := match passed with
      | some st => s.passOver i st
      | none => s
    match f with
    | none => (s, res)
    | some f =>
      let fr := s.fireFrames (s.step' i) m6 f
      if !fr.any (fun x => x.2 == 0) then (s, res)
      else if fr.any (fun x => res.elem x) then (s.passOver i (f - 48), res)
      else (s.setStep i { s.step' i with fire := some f }, fr ++ res)

/-- The marker of trunk `t`'s next frame, which starts at `m6`, is `w`. -/
def Block.sendMarker (s : Block) (m6 t : Nat) (w : Word) : Block :=
  let p := s.trunk t
  s.setTrunk t { p with marker := w, frame := m6, heard := [], fseq := p.fseq + 1 }

/-- What the marker of trunk `t` that starts at `m6` carries: a fire, else the lowest due disarm. DESIGN CHOICE: a step whose
fire one trunk already carries when RST# falls is still carried on its other trunks, so that its hubs fire together
(R207); the spec tells only of fires not yet formed (R212). -/
def Block.formMarker (s : Block) (m6 t : Nat) : Block :=
  if !s.clockRuns t then s
  else
    let p := s.trunk t
    let fire := stepList.find? (fun i =>
      match (s.step' i).fire with
      | some f => (s.stepState i == STEP_SEALED || s.stepState i == STEP_PARTIAL) &&
          (s.fireFrames (s.step' i) m6 f).elem (t, 0)
      | none => false)
    match fire with
    | some i =>
      let f := ((s.step' i).fire).getD 0
      let s := s.setStep i { s.step' i with carried := t :: (s.step' i).carried }
      s.sendMarker m6 t (markerWord p.fseq true i (f - m6 - s.flat t))
    | none =>
      match stepList.find? (fun i => (s.step' i).disarm.elem t) with
      | some i =>
        let s := s.setStep i { s.step' i with disarm := (s.step' i).disarm.filter (· ≠ t) }
        s.sendMarker m6 t (markerWord p.fseq true i 0)
      | none => s.sendMarker m6 t (markerWord p.fseq false 0 0)

/-- The trunks and frames that the fires already carried in part still need. -/
def Block.reserved (s : Block) (m6 : Nat) : List (Nat × Nat) :=
  stepList.flatMap (fun i =>
    match (s.step' i).fire with
    | some f => if (s.step' i).carried ≠ [] ∧ (s.stepState i = STEP_SEALED ∨ s.stepState i = STEP_PARTIAL) then
        s.fireFrames (s.step' i) m6 f else []
    | none => [])

/-- MARKER_FORM: every running trunk forms the marker of the frame that starts 8 ns and `sub` thirds of a ns from now. -/
def doMarkerForm (sub : Nat) (s : Block) : Block :=
  let m6 := 6 * (s.now + 8) + 2 * sub
  let (s, _) := stepList.foldl (Block.commitStep m6) (s, s.reserved m6)
  s.each trunkList (Block.formMarker · m6)

/-! The commands of this file, with the operands that the command table's rows take here. -/

def execIdle (t : Fin 12) (h : Fin 64) (s : State) : Out := .next (s.withBlock (doIdle t h s.toBlock))
def execWriteShadow (t : Fin 12) (h : Fin 64) (leaf : Fin 16384) (code : Fin 4096) (s : State) : Out := .next (s.withBlock (doWriteShadow t h leaf code s.toBlock))
def execWriteShadowIncr (t : Fin 12) (h : Fin 64) (leaf : Fin 16384) (inc : Fin 4096) (s : State) : Out := .next (s.withBlock (doWriteShadowIncr t h leaf inc s.toBlock))
def execReadShadow (t : Fin 12) (h : Fin 64) (leaf : Fin 16384) (tag : Fin 64) (s : State) : Out := .next (s.withBlock (doReadShadow t h leaf tag s.toBlock))
def execReadActive (t : Fin 12) (h : Fin 64) (leaf : Fin 16384) (tag : Fin 64) (s : State) : Out := .next (s.withBlock (doReadActive t h leaf tag s.toBlock))
def execCopyActiveToShadow (t : Fin 12) (h : Fin 64) (leaf : Fin 16384) (all : Bool) (s : State) : Out := .next (s.withBlock (doCopyActiveToShadow t h leaf all s.toBlock))
def execStepArm (t : Fin 12) (h : Fin 64) (step : Fin 32) (disarm : Bool) (s : State) : Out := .next (s.withBlock (doStepArm t h step disarm s.toBlock))
def execStepFire (t : Fin 12) (h : Fin 64) (leaf : Fin 16384) (s : State) : Out := .next (s.withBlock (doStepFire t h leaf s.toBlock))
def execSenseSelect (t : Fin 12) (h : Fin 64) (leaf : Fin 16384) (tag : Fin 64) (s : State) : Out := .next (s.withBlock (doSenseSelect t h leaf tag s.toBlock))
def execSenseRelease (t : Fin 12) (s : State) : Out := .next (s.withBlock (doSenseRelease t s.toBlock))
def execHubStatus (t : Fin 12) (h : Fin 64) (word : Fin 4) (tag : Fin 64) (s : State) : Out := .next (s.withBlock (doHubStatus t h word tag s.toBlock))
def execHoldSilent (t : Fin 12) (h : Fin 64) (s : State) : Out := .next (s.withBlock (doHoldSilent t h s.toBlock))
def execReleaseSilent (t : Fin 12) (h : Fin 64) (s : State) : Out := .next (s.withBlock (doReleaseSilent t h s.toBlock))
def execTrainAlign (t : Fin 12) (h : Fin 64) (value : Fin 4096) (tag : Fin 64) (s : State) : Out := .next (s.withBlock (doTrainAlign t h value tag s.toBlock))
def execTrainFlight (t : Fin 12) (h : Fin 64) (value : Fin 4096) (s : State) : Out := .next (s.withBlock (doTrainFlight t h value s.toBlock))
def execTrainLimit (t : Fin 12) (h kind : Fin 64) (sgn hi : Bool) (value : Fin 4096) (s : State) : Out := .next (s.withBlock (doTrainLimit t h kind sgn hi value s.toBlock))
def execFwdCheckFail (t : Fin 12) (h : Fin 64 × Nat × BitVec 48) (s : State) : Out :=
  .next (s.withBlock (doFwdCheckFail t h.1 h.2.1 h.2.2 s.toBlock))
def execHubMarkerReceive (t : Fin 12) (h : Fin 64) (flips : Word) (s : State) : Out := .next (s.withBlock (doHubMarkerReceive t h flips s.toBlock))
def execHubFire (t : Fin 12) (h : Fin 64) (s : State) : Out := .next (s.withBlock (doHubFire t h s.toBlock))
def execHubMarkerTimeout (t : Fin 12) (h : Fin 64) (s : State) : Out := .next (s.withBlock (doHubMarkerTimeout t h s.toBlock))
def execMarkerForm (sub : Fin 3) (s : State) : Out := .next (s.withBlock (doMarkerForm sub s.toBlock))
def execSlotReceive (t : Fin 12) (h : Fin 64) (off : Int) (flips : BitVec 64) (due early : Bool) (s : State) : Out := .next (s.withBlock (doSlotReceive t h off flips due early s.toBlock))
def execSlotMissing (t : Fin 12) (h : Fin 64) (s : State) : Out := .next (s.withBlock (doSlotMissing t h s.toBlock))
def execReplyTimeout (t : Fin 12) (h : Fin 64) (i : Fin 15) (s : State) : Out := .next (s.withBlock (doReplyTimeout t h i s.toBlock))
def execHubRelease (ag : Fin 3) (s : State) : Out := .next (s.withBlock (doHubRelease ag s.toBlock))
def execHubRetrain (ag : Fin 3) (s : State) : Out := .next (s.withBlock (doHubRetrain ag s.toBlock))
def execHubQuarantine (ag : Fin 3) (s : State) : Out := .next (s.withBlock (doHubQuarantine ag s.toBlock))
def execQuarantineAutoRelease (t : Fin 12) (h : Fin 64) (s : State) : Out := .next (s.withBlock (doQuarantineAutoRelease t h s.toBlock))
def execTrainingComplete (t : Fin 12) (h : Fin 64) (flight rlat : Nat) (s : State) : Out := .next (s.withBlock (doTrainingComplete t h flight rlat s.toBlock))
def execPartnerDiePowerLoss (d : Fin 5) (s : State) : Out := .next (s.withBlock (doPartnerDiePowerLoss d s.toBlock))
def execPartnerDiePowerUp (d : Fin 5) (s : State) : Out := .next (s.withBlock (doPartnerDiePowerUp d s.toBlock))
def execTaintRecovery (t : Fin 12) (h : Fin 64) (s : State) : Out := .next (s.withBlock (doTaintRecovery t h s.toBlock))
def execTrkEnWrite (v : Word) (s : State) : Out := .next (s.withBlock (doTrkEnWrite v s.toBlock))
def execKindWrite (ag : Fin 3) (lim : Bool) (v : Word) (s : State) : Out := .next (s.withBlock (doKindWrite ag lim v s.toBlock))
def execKmapDataAccess (ag : Fin 3) (v : Option Word) (s : State) : Out := .next (s.withBlock (doKmapDataAccess ag v s.toBlock))

end Sys2Proof.Machine
end

