-- ==== Sys2Proof/Machine/Whorl.lean ====
section
/-! DEFINITION. Chapter 9: the Whorl arbiters: masks, the decision of a position, grants, withdrawals, time tables,
rankings and starvation watches. -/

namespace Sys2Proof.Machine

/-! Masks (R226, Table 9.1). -/

/-- Some unit is in forerunner mode (R186, R269). -/
def Block.anyForerunner (s : Block) : Bool :=
  spindleList.any (fun n => s.flag (Reg.SP_CFG_FRM n)) || (List.range 16).any (fun n => s.flag (Reg.FX_CTL_FRM n))

/-- Engine `n` is halted (states IDLE, HALTED and FAULTED), in reset or powered down. -/
def Block.engineOff (s : Block) (n : Nat) : Bool :=
  let st := s.get (Reg.FX_STATUS_STATE n)
  st == 0 || st == 3 || st == 4 || s.busySS 12 || !s.domainOn (48 + n / 4)

/-- Requester `r` is masked by sideband now. -/
def Block.masked (s : Block) (r : Nat) : Bool :=
  match r with
  | 0 => s.busySS 13
  | 1 => !s.domainOn 7 || !s.coreOn
  | 2 => !s.interpUp
  | 3 => !s.interpUp || s.flag Reg.RST_STATUS_AUTO
  | 4 => !s.flag Reg.BEAR_STATUS_RUNNING
  | 21 => s.busySS 8
  | 22 => !s.anyForerunner && s.queued 22 == 0
  | r => if 5 ≤ r ∧ r ≤ 20 then s.engineOff (r - 5) else true

/-- Transactions of requester `r` that were granted and await a reply are given up: a reply to them is stale (R226). -/
def Block.forgetBusy (s : Block) (r : Nat) : Block :=
  s.each (s.sett.tags.map (·.1)) (fun s j =>
    let g := s.tagSt (j / 16) (j % 16)
    match g.busy with
    | some x => if x.req = r then s.setTag (j / 16) (j % 16) { g with busy := none, slots := 0 } else s
    | none => s)

/-- The mask of requester `r` is asserted: its queues and its OPEN steps go with it (R210, R226). -/
def Block.maskReq (s : Block) (r : Nat) : Block := (((s.dropQueues r).forgetBusy r).ownerGone r).settleSeals

/-- MASK_ASSERT: a sideband mask of requester `r` is asserted. -/
def doMaskAssert (r : Nat) (s : Block) : Block := if s.masked r then s.maskReq r else s

/-! The decision (R228, Table 9.2). -/

/-- Slot `i` of bank `b` of trunk `t`. -/
def Block.slotOf (s : Block) (t b i : Nat) : Word := Bank.get (fun _ => 0x20#32) s.whorl.slots (64 * (2 * t + b) + i)

/-- Ranking entry `r` of bank `b` of trunk `t`. -/
def Block.rankOf (s : Block) (t b r : Nat) : Word :=
  Bank.get (fun j => BitVec.ofNat 32 (j % 32)) s.whorl.ranks (32 * (2 * t + b) + r)

/-- The active bank. -/
def Block.bankOf (s : Block) (t : Nat) : Nat := s.get (Reg.WH_CTL_ACTIVE t)

/-- Requester `r` is an engine whose job came from another that still has transactions queued on trunk `t` (R272). -/
def Block.behind (s : Block) (t r : Nat) : Bool :=
  decide (5 ≤ r) && decide (r ≤ 20) &&
    match (s.engine (r - 5)).behind with
    | some a => s.queue t (5 + a) != []
    | none => false

/-- Requester `r` presents a head on trunk `t`. -/
def Block.presents (s : Block) (t r : Nat) : Bool := s.presented t r && !s.masked r && !s.behind t r

/-- The governor excludes requester `r` from position `p` (R237). -/
def Block.governed (s : Block) (p r : Nat) : Bool :=
  decide (2 ≤ r) &&
    match s.get Reg.WH_GSTATUS_MODE with
    | 1 => decide (p % 2 = 1)
    | 2 => true
    | _ => false

/-- The head's hub is TRAINING (R516). -/
def Block.headTraining (s : Block) (t r : Nat) : Bool :=
  match s.queue t r with
  | x :: _ => s.judge x == .wait
  | [] => false

/-- Requester `r` takes part in the decision of position `p`, those of `out` withdrawn from it. -/
def Block.competes (s : Block) (t p : Nat) (out : Nat → Bool) (r : Nat) : Bool :=
  s.presents t r && !s.governed p r && !s.headTraining t r && !out r

/-- The winner of position `p` among the requesters by Table 9.2. -/
def Block.winner (s : Block) (t p : Nat) (out : Nat → Bool) : Option Nat :=
  let ok := s.competes t p out
  let b := s.bankOf t
  let slot := s.slotOf t b (s.get (Reg.WH_STATUS_PTR t))
  let owner := bitsOf slot 4 0
  if ok 0 then some 0
  else if bitsOf slot 5 5 = 0 ∧ ok owner then some owner
  else ((List.range 32).map (fun i => bitsOf (s.rankOf t b i) 4 0)).find? (fun r => decide (r < 23) && ok r)

/-! Grants (R202, R229–R231). -/

/-- A granted transaction of a job counts in its progress; a retry does not (R231). -/
def Block.progress (s : Block) (x : Txn) : Block :=
  if x.issues ≠ 0 then s
  else match x.owner with
    | .packet h tag _ =>
      match (s.host h).runningTag tag with
      | some p => s.setRunning h tag { p with granted := p.granted + 1 }
      | none => s
    | _ => if x.req = 1 then s.setRestoreProg x.trunk (some (match s.restoreProg x.trunk with
          | some (h, n) => if h = x.hub then (h, n + 1) else (x.hub, 1)
          | none => (x.hub, 1)))
      else if 5 ≤ x.req ∧ x.req ≤ 20 then
        s.bump (Reg.FX_PROG_COUNT (x.req - 5) x.trunk) 1
      else s

/-- The code of a WRITE_SHADOW within its kind's limits (R194). -/
def Block.clampCode (s : Block) (x : Txn) : Nat :=
  let d := s.kindAt x.trunk x.leaf
  let sg := s.kindSigned x.trunk d
  let l := s.kindLim x.trunk d
  toBits 12 (clampInt (codeVal sg (bitsOf l 11 0)) (codeVal sg (bitsOf l 27 16)) (codeVal sg x.val))

/-- A transaction with a reply is issued in position `p` under tag ID `i`, at the ID's next generation. -/
def Block.issueTagged (s : Block) (p : Nat) (x : Txn) (i : Nat) : Block :=
  let k := 64 * x.trunk + x.hub
  let g := (s.tagSt k i).gen
  let s := s.setTag k i { gen := (g + 1) % 4, busy := some { x with issues := x.issues + 1 }, slots := 0 }
  s.send x.trunk p (commandWord x.op x.hub x.leaf (4 * i + (g + 1) % 4) x.val)

/-- A posted transaction is sent, and completes at its grant with OK or CLAMPED (R194, R204). -/
def Block.issuePosted (s : Block) (p : Nat) (x : Txn) : Block :=
  let t := x.trunk
  let code := if x.op = 1 then s.clampCode x else x.val % 4096
  let clamped := x.op == 1 && code != x.val % 4096
  let s := s.send t p (commandWord x.op x.hub x.leaf postedTag code)
  let s := if clamped then
      (s.bump (Reg.TRK_CNT1_CLAMPS t) 1).raise (663 + 8 * t) (nodeAddr t x.hub x.leaf) else s
  let s := if x.op = 6 ∧ !bitOf x.leaf 8 then s.armGranted (x.leaf / 512) (64 * t + x.hub) else s
  let s := if x.op = 9 then s.put (Reg.TRK_TSCUR_VALID t) 0 else s
  (s.complete x clamped.toNat 0).settleSeals

/-- The head of requester `r` on trunk `t` is granted position `p`. -/
def Block.grant (s : Block) (t p r : Nat) : Block :=
  match s.queue t r with
  | [] => s
  | x :: rest =>
    let s := ((s.setQueue t r rest).progress x).endBurst t r
    let s := if hasReply x.op then
        (match s.freeTag (64 * t + x.hub) with
        | some i => s.issueTagged p x i
        | none => s)
      else s.issuePosted p x
    Block.settleHeads ((s.queue t r).length) s t r

/-- The Sett's own command as a transaction: training's ALIGN and HUB_STATUS are answered (R215, R513). -/
def Block.ownTxn (s : Block) (t : Nat) (c : SettCmd) : Txn :=
  let r := fun (h : Nat) => s.hubRec (64 * t + h)
  let x := fun (op h leaf v : Nat) => ({ req := 23, op := op, trunk := t, hub := h, leaf := leaf, val := v, owner := .sett, issues := 0 } : Txn)
  match c with
  | .align h => x 13 h 0 (toBits 12 (-(r h).offset))
  | .flight h => x 13 h 0x1000 (16 * s.flat t - (r h).flight)
  | .limit h d hi =>
    let l := s.kindLim t d
    x 13 h (0x2000 + 64 * d + 2 * (s.kindSigned t d).toNat + hi.toNat) (if hi then bitsOf l 27 16 else bitsOf l 11 0)
  | .status h w => x 10 h w 0
  | .hold h => x 11 h 0 0
  | .release h => x 12 h 0 0

/-- The transaction is answered: an ALIGN or a HUB_STATUS. -/
def ownReplies (x : Txn) : Bool := x.op == 10 || (x.op == 13 && x.leaf == 0)

/-- The Sett's next own command for trunk `t` that it can send now: one that is answered needs a free tag ID (R202). -/
def Block.ownNext (s : Block) (t : Nat) : Option (Txn × List SettCmd) :=
  match (s.trunk t).own with
  | [] => none
  | c :: rest =>
    let x := s.ownTxn t c
    if ownReplies x && (s.freeTag (64 * t + x.hub)).isNone then none else some (x, rest)

/-- The Sett's own command `x` goes in position `p`, `rest` left to send. -/
def Block.sendOwn (s : Block) (t p : Nat) (x : Txn) (rest : List SettCmd) : Block :=
  let s := s.setTrunk t { s.trunk t with own := rest }
  match s.freeTag (64 * t + x.hub) with
  | some i => if ownReplies x then s.issueTagged p x i else s.send t p (commandWord x.op x.hub x.leaf postedTag x.val)
  | none => s.send t p (commandWord x.op x.hub x.leaf postedTag x.val)

/-! Starvation watches (R236). -/

/-- The wait that watch `w` of trunk `t` counts. -/
def Block.waitOf (s : Block) (t w : Nat) : Nat := Bank.get (fun _ => 0) s.whorl.waits (4 * t + w)

def Block.setWait (s : Block) (t w v : Nat) : Block :=
  (s.withWhorl { s.whorl with waits := Bank.set (fun _ => 0) s.whorl.waits (4 * t + w) v })

/-- The watch sets STARVED again at the next load cycle. -/
def Block.watchAgain (s : Block) (t w : Nat) : Bool := Bank.get (fun _ => false) s.whorl.again (4 * t + w)

def Block.setAgain (s : Block) (t w : Nat) (b : Bool) : Block :=
  (s.withWhorl { s.whorl with again := Bank.set (fun _ => false) s.whorl.again (4 * t + w) b })

/-- Watch `w` after the load cycle of position `p`, in which `pres` lists the requesters that presented and `got` was
granted. -/
def Block.watch (s : Block) (t p : Nat) (pres : List Nat) (got : Option Nat) (w : Nat) : Block :=
  if !s.flag (Reg.WH_WATCH_EN t w) then s
  else
    let r := s.get (Reg.WH_WATCH_ID t w)
    let s :=
      if s.governed p r then s
      else if got = some r ∨ !pres.elem r then s.setWait t w 0
      else s.setWait t w (satAdd 24 (s.waitOf t w) 1)
    let s := if s.get (Reg.WH_WSTAT_PEAK t w) < s.waitOf t w then s.put (Reg.WH_WSTAT_PEAK t w) (s.waitOf t w) else s
    let hit := s.watchAgain t w || decide (max 1 (s.get (Reg.WH_WATCH_LIMIT t w)) ≤ s.waitOf t w)
    let s := if s.watchAgain t w then s.setAgain t w false else s
    if hit ∧ !s.flag (Reg.WH_WSTAT_STARVED t w) then
      ((s.put (Reg.WH_WSTAT_STARVED t w) 1).put (Reg.WH_STATUS_STARVE_SEEN t) 1).raise (960 + 2 * t) r
    else s

/-! Positions. -/

/-- A pending swap becomes effective at a position whose slot is 0 (R232). -/
def Block.tableSwap (s : Block) (t : Nat) : Block :=
  if s.flag (Reg.WH_CTL_SWAP_PENDING t) ∧ s.get (Reg.WH_STATUS_PTR t) = 0 then
    let b := 1 - s.bankOf t
    ((s.put (Reg.WH_CTL_ACTIVE t) b).put (Reg.WH_CTL_SWAP_PENDING t) 0).raise (961 + 2 * t) b
  else s

/-- A register that counts wrapping. -/
def Block.countWrap (s : Block) (a : Nat) : Block := s.setReg a (s.reg a + 1#32)

/-- The position ends, granted to `got`, or to the Sett (`own`): counts and the table pointer. -/
def Block.endPosition (s : Block) (t : Nat) (got : Option Nat) (own : Bool) : Block :=
  let s := s.when (got.isSome || own) (·.countWrap (Reg.WH_GCNT t))
  let s := if got = some (s.get (Reg.WH_PROBE_ID t)) then s.countWrap (Reg.WH_PROBECNT t) else s
  s.put (Reg.WH_STATUS_PTR t) (s.get (Reg.WH_STATUS_PTR t) + 1)

/-- Position `p` of trunk `t`'s frame is decided (R224–R231, R513), the requesters of `out` taking no part and those of `low`
presenting nothing. -/
def Block.position (s : Block) (t p : Nat) (out low : Nat → Bool) : Block :=
  let s := s.tableSwap t
  let pres := (List.range 23).filter (fun r => s.presents t r && !low r)
  let away := fun r => out r || low r
  match s.ownNext t, s.competes t p away 0 with
  | some (x, rest), false =>
    let s := s.sendOwn t p x rest
    (s.each [0, 1, 2, 3] (Block.watch · t p pres none)).endPosition t none true
  | _, _ =>
    let got := s.winner t p away
    let s := match got with
      | some r => s.grant t p r
      | none => s.send t p (commandWord 0 0 0 0 0)
    (s.each [0, 1, 2, 3] (Block.watch · t p pres got)).endPosition t got false

/-- The arbiter of trunk `t` grants nothing: subsystem 11 is in reset, or the frame started before its reset completed (R238). -/
def Block.whIdle (s : Block) (t : Nat) : Bool :=
  s.busySS 11 || match Bank.get (fun _ => none) s.whorl.idle t with
    | some c => decide ((s.trunk t).frame < 6 * c)
    | none => false

/-- The trunk's positions are decided again. -/
def Block.clearIdle (s : Block) (t : Nat) : Block :=
  if Bank.get (fun _ => none) s.whorl.idle t = none then s
  else s.withWhorl { s.whorl with idle := Bank.set (fun _ => none) s.whorl.idle t none }

/-- WHORL_DECIDE: the load cycle of position `p` of trunk `t`. Heads that complete unsent are completed first. The privileged
requesters of the mask `low` have lowered their heads (R227). A trunk that sends no frames has no position; an arbiter in
reset grants nothing (R238). -/
def doWhorlDecide (t p : Nat) (low : BitVec 5) (s : Block) : Block :=
  let s := s.settleTrunk t
  if !s.clockRuns t then s
  else if s.whIdle t then s.send t p (commandWord 0 0 0 0 0)
  else (s.clearIdle t).position t p (fun _ => false) low.getLsbD

/-- WHORL_WITHDRAW: as the load cycle of position `p`, but its winner, a privileged requester, withdraws in the next cycle
and the position is decided again without it (R229). The Sett's own commands are not withdrawn. -/
def doWhorlWithdraw (t p : Nat) (s : Block) : Block :=
  let s := s.settleTrunk t
  if !s.clockRuns t ∨ s.whIdle t then s
  else
    let s := s.clearIdle t
    let a := s.tableSwap t
    match a.winner t p (fun _ => false) with
    | some r =>
      if 4 < r ∨ ((a.ownNext t).isSome ∧ r ≠ 0) then s
      else (s.bump (Reg.WH_CNT_WITHDRAWALS t) 1).position t p (· == r) (fun _ => false)
    | none => s

/-! Tables and rankings (R232, R233). -/

/-- A write of WH_CTL: 1 to SWAP makes a swap pending. -/
def Block.writeWhCtl (s : Block) (t : Nat) (v : Word) : Block :=
  if bitsOf v 0 0 = 1 then s.put (Reg.WH_CTL_SWAP_PENDING t) 1 else s

/-- SWAP. -/
def doSwap (t : Nat) (s : Block) : Block := if s.writable (Reg.WH_CTL t) then s.put (Reg.WH_CTL_SWAP_PENDING t) 1 else s

/-- TABLE_SWAP: the first position of slot 0 comes. -/
def doTableSwap (t : Nat) (s : Block) : Block := if s.clockRuns t ∧ !s.busySS 11 then s.tableSwap t else s

/-- The SLOT or RANK field of an agent's index register advances. -/
def Block.advanceIdx (s : Block) (ag a : Nat) (hi lo : Nat) : Block :=
  let f : Fld := ⟨ownCopy ag a, hi, lo⟩
  s.put f (s.get f + 1)

/-- A write of WH_TDATA by agent `ag`: the slot of the index, unless the bank is active or the owner is 23–31.
While the trunk's domain is down its banks keep their cold-reset values (R238). -/
def Block.writeTdata (s : Block) (ag : Nat) (v : Word) : Block :=
  let w := s.reg (ownCopy ag Reg.WH_TIDX)
  let t := bitsOf w 3 0
  let b := bitsOf w 4 4
  let s :=
    if 12 ≤ t ∨ !s.domainOn (36 + t) then s
    else if b = s.bankOf t ∨ (bitsOf v 5 5 = 0 ∧ 23 ≤ bitsOf v 4 0) then s.put (Reg.WH_STATUS_CFG_IGNORED t) 1
    else (s.withWhorl { s.whorl with
      slots := Bank.set (fun _ => 0x20#32) s.whorl.slots (64 * (2 * t + b) + bitsOf w 10 5) (v &&& 0x3F#32) })
  s.advanceIdx ag Reg.WH_TIDX 10 5

/-- A read of WH_TDATA; trunks 12–15 read 0. -/
def Block.readTdata (s : Block) (ag : Nat) : Word × Block :=
  let w := s.reg (ownCopy ag Reg.WH_TIDX)
  (if bitsOf w 3 0 < 12 then s.slotOf (bitsOf w 3 0) (bitsOf w 4 4) (bitsOf w 10 5) else 0, s.advanceIdx ag Reg.WH_TIDX 10 5)

/-- WH_TDATA_ACCESS: a write of `v`, or a read. -/
def doWhTdataAccess (ag : Nat) (v : Option Word) (s : Block) : Block :=
  match v with
  | some v => if s.writable Reg.WH_TDATA then s.writeTdata ag v else s
  | none => if s.coreOn then (s.readTdata ag).2 else s

/-- A write of WH_RDATA by agent `ag`. -/
def Block.writeRdata (s : Block) (ag : Nat) (v : Word) : Block :=
  let w := s.reg (ownCopy ag Reg.WH_RIDX)
  let t := bitsOf w 3 0
  let b := bitsOf w 4 4
  let s :=
    if 12 ≤ t ∨ !s.domainOn (36 + t) then s
    else if b = s.bankOf t then s.put (Reg.WH_STATUS_CFG_IGNORED t) 1
    else (s.withWhorl { s.whorl with
      ranks := Bank.set (fun j => BitVec.ofNat 32 (j % 32)) s.whorl.ranks (32 * (2 * t + b) + bitsOf w 9 5) (v &&& 0x1F#32) })
  s.advanceIdx ag Reg.WH_RIDX 9 5

/-- A read of WH_RDATA. -/
def Block.readRdata (s : Block) (ag : Nat) : Word × Block :=
  let w := s.reg (ownCopy ag Reg.WH_RIDX)
  (if bitsOf w 3 0 < 12 then s.rankOf (bitsOf w 3 0) (bitsOf w 4 4) (bitsOf w 9 5) else 0, s.advanceIdx ag Reg.WH_RIDX 9 5)

/-- WH_RDATA_ACCESS: a write of `v`, or a read. -/
def doWhRdataAccess (ag : Nat) (v : Option Word) (s : Block) : Block :=
  match v with
  | some v => if s.writable Reg.WH_RDATA then s.writeRdata ag v else s
  | none => if s.coreOn then (s.readRdata ag).2 else s

/-- A write of WH_WSTAT: 1 clears STARVED and sets PEAK to the current wait; a wait still at LIMIT sets it again (R236). -/
def Block.writeWstat (s : Block) (t w : Nat) (v : Word) : Block :=
  if bitsOf v 24 24 = 1 then
    let starving := s.flag (Reg.WH_WSTAT_STARVED t w) && decide (max 1 (s.get (Reg.WH_WATCH_LIMIT t w)) ≤ s.waitOf t w)
    let s := if starving then s.setAgain t w true else s
    (s.put (Reg.WH_WSTAT_STARVED t w) 0).put (Reg.WH_WSTAT_PEAK t w) (s.waitOf t w)
  else s

/-- A write of WH_WATCH: another requester's wait, or that of a watch just enabled, is counted from 0. -/
def Block.writeWatch (s : Block) (t w : Nat) (v : Word) : Block :=
  let was := s.reg (Reg.WH_WATCH t w)
  let s := s.writeFields (Reg.WH_WATCH t w) v
  if bitsOf was 5 0 = bitsOf (s.reg (Reg.WH_WATCH t w)) 5 0 then s else (s.setWait t w 0).setAgain t w false

/-- WATCH_CLEAR. -/
def doWatchClear (t w : Nat) (s : Block) : Block :=
  if s.writable (Reg.WH_WSTAT t w) then s.writeWstat t w 0x1000000#32 else s

/-- WH_REQ and WH_MASK of trunk `t` as they read now. -/
def Block.whReq (s : Block) (t : Nat) : Word :=
  (List.range 23).foldl (fun a r => if s.presents t r then a ||| (1#32 <<< r) else a) 0
def Block.whMask (s : Block) : Word :=
  (List.range 23).foldl (fun a r => if s.masked r then a ||| (1#32 <<< r) else a) 0

/-! The commands of this file, with the operands that the command table's rows take here. -/

def execWhorlDecide (t : Fin 12) (p : Fin 42 × BitVec 5) (s : State) : Out := .next (s.withBlock (doWhorlDecide t p.1 p.2 s.toBlock))
def execWhorlWithdraw (t : Fin 12) (p : Fin 42) (s : State) : Out := .next (s.withBlock (doWhorlWithdraw t p s.toBlock))
def execMaskAssert (r : Fin 23) (s : State) : Out := .next (s.withBlock (doMaskAssert r s.toBlock))
def execSwap (t : Fin 12) (s : State) : Out := .next (s.withBlock (doSwap t s.toBlock))
def execTableSwap (t : Fin 12) (s : State) : Out := .next (s.withBlock (doTableSwap t s.toBlock))
def execWhTdataAccess (ag : Fin 3) (v : Option Word) (s : State) : Out := .next (s.withBlock (doWhTdataAccess ag v s.toBlock))
def execWhRdataAccess (ag : Fin 3) (v : Option Word) (s : State) : Out := .next (s.withBlock (doWhRdataAccess ag v s.toBlock))
def execWatchClear (t : Fin 12) (w : Fin 4) (s : State) : Out := .next (s.withBlock (doWatchClear t w s.toBlock))

end Sys2Proof.Machine
end

