-- ==== Sys2Proof/Machine/FoxCore.lean ====
section
/-! DEFINITION. Chapter 10, the Fox engines: their registers and memories, encodings, issue, faults, states and
commands. Engine FX`n` is requester 5 + `n`. -/

namespace Sys2Proof.Machine

/-! States (Table 10.15) and fault causes (Table 10.13). -/

abbrev FX_IDLE : Nat := 0
abbrev FX_RUNNING : Nat := 1
abbrev FX_DRAINING : Nat := 2
abbrev FX_HALTED : Nat := 3
abbrev FX_FAULTED : Nat := 4
abbrev FX_HELD : Nat := 5
abbrev FX_MIGRATING : Nat := 6

abbrev ILLEGAL : Nat := 1
abbrev ALIGN : Nat := 2
abbrev ADDRESS : Nat := 3
abbrev PM_ECC : Nat := 4
abbrev SCR_ECC : Nat := 5
abbrev RM_ECC : Nat := 6
abbrev PC_RANGE : Nat := 7

/-- The state of FX`n`. -/
def Block.fxState (s : Block) (n : Nat) : Nat := s.get (Reg.FX_STATUS_STATE n)

/-! Registers of an engine (R241). -/

/-- Scalar register `i`; s0 reads 0. -/
def Block.sx (s : Block) (n i : Nat) : Word := if i = 0 then 0 else Bank.get (fun _ => 0) (s.engine n).sregs i

/-- Scalar register `i` becomes `v`; s0 discards writes. -/
def Block.setSx (s : Block) (n i : Nat) (v : Word) : Block :=
  if i = 0 then s
  else s.setEngine n { s.engine n with sregs := Bank.set (fun _ => 0) (s.engine n).sregs i v }

/-- Vector register `i`: 16 lanes of 16 bits. -/
def Block.vx (s : Block) (n i : Nat) : BitVec 256 := Bank.get (fun _ => 0) (s.engine n).vregs i

def Block.setVx (s : Block) (n i : Nat) (v : BitVec 256) : Block :=
  s.setEngine n { s.engine n with vregs := Bank.set (fun _ => 0) (s.engine n).vregs i v }

/-- Accumulator `i`: 16 lanes of 40 bits. -/
def Block.ax (s : Block) (n i : Nat) : BitVec 640 := Bank.get (fun _ => 0) (s.engine n).accs i

def Block.setAx (s : Block) (n i : Nat) (v : BitVec 640) : Block :=
  s.setEngine n { s.engine n with accs := Bank.set (fun _ => 0) (s.engine n).accs i v }

/-- The 64-bit value of the pair sY, sY+1. -/
def Block.sPair (s : Block) (n y : Nat) : Count := s.sx n (y + 1) ++ s.sx n y

/-- Instruction `i` of FX`n`'s programme memory. -/
def Block.pmWord (s : Block) (n i : Nat) : Word := Bank.get (fun _ => 0) s.fox.pm (16384 * n + i)

/-- A word is written with valid check bits. -/
def Block.setPm (s : Block) (n i : Nat) (v : Word) : Block :=
  (s.withFox { s.fox with
    pm := Bank.set (fun _ => 0) s.fox.pm (16384 * n + i) v
    pmErr := Bank.set (fun _ => 0) s.fox.pmErr (16384 * n + i) 0 })

/-- How the check bits of instruction `i` decode (R244): 0 clean, 1 corrected, 2 uncorrectable. -/
def Block.pmCheck (s : Block) (n i : Nat) : Nat := Bank.get (fun _ => 0) s.fox.pmErr (16384 * n + i)

/-- Byte `a` of FX`n`'s scratch memory. -/
def Block.scratch (s : Block) (n a : Nat) : Byte := Bank.get (fun _ => 0) s.fox.scratch (32768 * n + a)

/-- A byte is written with valid check bits. -/
def Block.setScratch (s : Block) (n a : Nat) (v : Byte) : Block :=
  (s.withFox { s.fox with
    scratch := Bank.set (fun _ => 0) s.fox.scratch (32768 * n + a) v
    scrErr := Bank.set (fun _ => 0) s.fox.scrErr (32768 * n + a) 0 })

/-- How the check bits of byte `a` decode, as for `pmCheck`. -/
def Block.scrCheck (s : Block) (n a : Nat) : Nat := Bank.get (fun _ => 0) s.fox.scrErr (32768 * n + a)

/-- The program counter, a byte address. -/
def Block.pc (s : Block) (n : Nat) : Nat := 4 * s.get (Reg.FX_PC_PC n)

def Block.setPc (s : Block) (n a : Nat) : Block := s.put (Reg.FX_PC_PC n) (a / 4)

/-- The engine is in forerunner mode, and its active half. -/
def Block.frm (s : Block) (n : Nat) : Bool := s.flag (Reg.FX_CTL_FRM n)
def Block.actHalf (s : Block) (n : Nat) : Nat := s.get (Reg.FX_CTL_ACT_HALF n)

/-- A byte address lies in the programme memory, in forerunner mode in its active half (R269). -/
def Block.pcOk (s : Block) (n : Nat) (a : Int) : Bool :=
  decide (0 ≤ a) && decide (a < 65536) && (!s.frm n || decide (a / 32768 = s.actHalf n))

/-! Encodings (R247, R252, Table 10.1). -/

def encR (op x y z fn : Nat) : Word := BitVec.ofNat 32 (op * 2 ^ 26 + x % 16 * 2 ^ 22 + y % 16 * 2 ^ 18 + z % 16 * 2 ^ 14 + fn % 2 ^ 14)
def encI (op x y imm : Nat) : Word := BitVec.ofNat 32 (op * 2 ^ 26 + x % 16 * 2 ^ 22 + y % 16 * 2 ^ 18 + imm % 2 ^ 18)
def encL (op x imm : Nat) : Word := BitVec.ofNat 32 (op * 2 ^ 26 + x % 16 * 2 ^ 22 + imm % 2 ^ 22)

/-- A field names a register pair: an even number, 2–14. -/
def isPair (y : Nat) : Bool := decide (2 ≤ y) && y % 2 == 0

/-- SYS, OP 0x00. -/
def legalSys (x y z fn : Nat) : Bool :=
  match fn % 256 with
  | 0 | 1 | 2 => x == 0 && y == 0 && z == 0 && fn / 256 == 0
  | 3 => y == 0 && z == 0 && (decide (fn / 256 ≤ 5) || (decide (8 ≤ fn / 256) && decide (fn / 256 ≤ 11)))
  | 4 => y == 0 && z == 0
  | _ => false

/-- Vector operations, OP 0x30. -/
def legalVector (x y z fn : Nat) : Bool :=
  match fn with
  | 14 | 15 => decide (x < 8) && decide (y < 8)
  | 16 => decide (x < 8) && z == 0
  | 17 => decide (y < 8)
  | 18 => decide (x < 8)
  | 19 => decide (y < 8) && z == 0
  | 20 => decide (x < 8) && y == 0 && z == 0
  | f => decide (f ≤ 21) && decide (x < 8) && decide (y < 8) && decide (z < 8)

/-- Accumulator operations, OP 0x31. -/
def legalAcc (x y z fn : Nat) : Bool :=
  match fn with
  | 0 | 1 | 2 => decide (x < 4) && decide (y < 8) && decide (z < 8)
  | 3 => decide (x < 4) && y == 0 && z == 0
  | 4 | 5 => decide (x < 4) && decide (y < 8) && z == 0
  | 6 => decide (x < 4) && decide (y < 8)
  | 7 => decide (x < 8) && decide (y < 4)
  | 8 => decide (y < 4)
  | _ => false

/-- NODE, OP 0x38. -/
def legalNode (y z fn : Nat) : Bool :=
  match fn % 8 with
  | 0 | 1 => z == 0 && fn / 8 == 0
  | 2 | 3 => decide (y < 8) && fn / 8 % 2 == 0 && fn / 256 == 0
  | 4 | 5 => z == 0 && fn / 16 == 0
  | 6 => y == 0 && z == 0 && fn / 8 == 0
  | _ => false

/-- STEP.ARM, OP 0x39. -/
def legalStep (z fn : Nat) : Bool :=
  fn / 64 == 0 &&
    match fn % 8 with
    | 0 => if fn / 8 = 0 then z % 2 == 0 else z == 0
    | 1 => fn / 8 == 0
    | 2 | 3 | 4 => fn / 8 == 0 && z == 0
    | _ => false

/-- WAIT, OP 0x3A. -/
def legalWait (y fn : Nat) : Bool :=
  fn / 8192 == 0 &&
    match fn % 8 with
    | 0 | 1 => isPair y && fn / 8 == 0
    | 2 => y == 0 && fn / 32 == 0
    | 3 => y == 0 && fn / 8 % 4 == 0
    | 4 => y == 0 && fn / 8 == 0
    | _ => false

/-- A word is an instruction: a defined opcode and function, its unused fields 0 and its register fields in range (R247). -/
def foxLegal (w : Word) : Bool :=
  let x := bitsOf w 25 22
  let y := bitsOf w 21 18
  let z := bitsOf w 17 14
  let fn := bitsOf w 13 0
  match bitsOf w 31 26 with
  | 0x00 => legalSys x y z fn
  | 0x01 => decide (fn ≤ 14)
  | 0x02 | 0x03 | 0x04 | 0x05 | 0x07 | 0x08 => true
  | 0x06 => bitsOf w 17 7 == 0 && bitsOf w 6 5 != 3
  | 0x10 | 0x11 | 0x12 | 0x13 | 0x14 | 0x15 | 0x16 | 0x17 => true
  | 0x18 | 0x19 => decide (x < 8)
  | 0x20 | 0x21 | 0x22 | 0x23 | 0x24 | 0x25 | 0x26 | 0x27 => true
  | 0x30 => legalVector x y z fn
  | 0x31 => legalAcc x y z fn
  | 0x38 => legalNode y z fn
  | 0x39 => legalStep z fn
  | 0x3A => legalWait y fn
  | 0x3B => fn / 2048 == 0
  | 0x3C => z == 0 && fn / 256 == 0
  | _ => false

/-! Leaving and entering states (R226, R265, R266, R271). -/

/-- The detail of an engine's events (Table 17.10). -/
def Block.fxDetail (s : Block) (n : Nat) : Nat :=
  s.get (Reg.FX_STATUS_CAUSE n) + 16 * s.get (Reg.FX_PC_PC n) + 2 ^ 18 * s.get (Reg.FX_CTL_EPOCH n)

/-- A pending Fox migration is cancelled when its engines leave the required states (R271). -/
def Block.checkFoxMig (s : Block) : Block :=
  match s.fox.mig with
  | none => s
  | some m =>
    let b := s.fxState m.dst
    if s.fxState m.src = FX_RUNNING ∧ (b = FX_IDLE ∨ b = FX_HALTED ∨ b = FX_FAULTED) ∧ !s.frm m.dst ∨ s.flag Reg.FX_MIG_COPYING then s
    else
      let s := (s.withFox { s.fox with mig := none })
      (s.put Reg.FX_MIG_PENDING 0).finishPacket m.host m.tag 0x22 []

/-- FX`n` enters a state; the cycles it spent RUNNING are counted, 3 in each ns (Table 10.17). -/
def Block.setFx (s : Block) (n st : Nat) : Block :=
  let g := s.engine n
  let s :=
    if s.fxState n = FX_RUNNING ∧ st ≠ FX_RUNNING then s.setEngine n { g with cycles := g.cycles + 3 * (s.now - g.since) }
    else if s.fxState n ≠ FX_RUNNING ∧ st = FX_RUNNING then s.setEngine n { g with since := s.now }
    else s
  (s.put (Reg.FX_STATUS_STATE n) st).checkFoxMig

/-- FX_CYCLES as it reads now, wrapping. -/
def Block.fxCycles (s : Block) (n : Nat) : Word :=
  let g := s.engine n
  BitVec.ofNat 32 (if s.fxState n = FX_RUNNING then g.cycles + 3 * (s.now - g.since) else g.cycles)

/-- No instruction of FX`n` holds any more. -/
def Block.unhold (s : Block) (n : Nat) : Block :=
  (s.put (Reg.FX_STATUS_WAITING n) 0).setEngine n { s.engine n with holdAt := none }

/-- No engine waits any longer behind the transactions of engine `n` (R272). -/
def Block.aheadDone (s : Block) (n : Nat) : Block :=
  s.each (List.range 16) (fun s m =>
    if (s.engine m).behind = some n then s.setEngine m { s.engine m with behind := none } else s)

/-- FX`n` halts, faults or is stopped: it enters a masked state, its queue is discarded, its OPEN steps are cancelled, and
pending registers take no completion (R226, R266). A completed forerunner load stays pending: only a stop, or a reset,
cancels it (R270, R275). -/
def Block.offFx (s : Block) (n st : Nat) : Block :=
  let s := (s.unhold n).setFx n st
  let g := s.engine n
  let s := s.setEngine n { g with
    pend := [], done := g.done.map (fun d => { d with reg := none }), part := [] }
  (s.maskReq (5 + n)).aheadDone n

/-- A fault of FX`n` (R265). -/
def Block.faultFx (s : Block) (n cause : Nat) : Block :=
  let s := (s.put (Reg.FX_STATUS_CAUSE n) cause).put (Reg.FX_FAULT_PC_PC n) (s.get (Reg.FX_PC_PC n))
  let s := (s.put (Reg.FX_STATUS_FAULT_SEEN n) 1).offFx n FX_FAULTED
  s.raise (593 + 4 * n) (s.fxDetail n)

/-! Issue (R245, R246). -/

/-- FX`n` is powered and out of reset. -/
def Block.fxUp (s : Block) (n : Nat) : Bool := s.coreOn && s.domainOn (48 + n / 4) && !s.busySS 12

/-- FX`n` issues the instruction `w`, its effect `f`, if it is the one at its program counter. `regs` are the scalar
registers that it reads or writes: one that is pending holds it. A word that is no instruction faults, as does one that
cannot be corrected; a corrected one sets CE_SEEN (R244). Under GUARD_ONLY the engine enters HELD in place of issuing
(R274), but a vector access on its way goes on. -/
def Block.issue (s : Block) (n : Nat) (w : Word) (regs : List Nat) (f : Block → Block) : Block :=
  let at' := s.pmWord n (s.get (Reg.FX_PC_PC n))
  let check := s.pmCheck n (s.get (Reg.FX_PC_PC n))
  if !s.fxUp n ∨ s.fxState n ≠ FX_RUNNING then s
  else if s.get Reg.WH_GSTATUS_MODE = 2 ∧ (s.engine n).part = [] then s.setFx n FX_HELD
  else if 2 ≤ check then s.faultFx n PM_ECC
  else if !foxLegal at' then s.faultFx n ILLEGAL
  else if at' ≠ w ∨ regs.any (fun i => (s.engine n).pend.elem i) then s
  else f (if check = 1 then s.put (Reg.FX_STATUS_CE_SEEN n) 1 else s)

/-- The instruction completes and the next one follows; past the last instruction that is a fault (Table 10.4). -/
def Block.nextFx (s : Block) (n : Nat) : Block :=
  let s := s.unhold n
  if s.pcOk n (s.pc n + 4) then s.setPc n (s.pc n + 4) else s.faultFx n PC_RANGE

/-- Control goes to the byte address `t`, or faults. -/
def Block.jumpFx (s : Block) (n : Nat) (t : Int) (f : Block → Block) : Block :=
  if s.pcOk n t then (f s).setPc n t.toNat else s.faultFx n PC_RANGE

/-- A blocking instruction holds at issue. -/
def Block.holdFx (s : Block) (n : Nat) : Block :=
  let g := s.engine n
  (s.put (Reg.FX_STATUS_WAITING n) 1).setEngine n { g with holdAt := some (g.holdAt.getD s.now) }

/-- The result of an instruction in sX, and the next instruction. -/
def Block.result (s : Block) (n x : Nat) (v : Word) : Block := (s.setSx n x v).nextFx n

/-! Commands (R266, Table 10.15). -/

/-- START. -/
def Block.fxStart (s : Block) (n : Nat) : Block :=
  let st := s.fxState n
  if !s.fxUp n ∨ (st ≠ FX_IDLE ∧ st ≠ FX_HALTED ∧ st ≠ FX_FAULTED) then s
  else
    let s := (s.put (Reg.FX_CTL_EPOCH n) (s.get (Reg.FX_CTL_EPOCH n) + 1)).put (Reg.FX_STATUS_CAUSE n) 0
    let a := 4 * s.get (Reg.FX_START_ADDR n)
    let s := s.setPc n (if s.frm n then a % 32768 + 32768 * s.actHalf n else (a + 32768 * s.actHalf n) % 65536)
    (s.setEngine n { s.engine n with fence := (0, 0, 0), behind := none, byHalt := false }).setFx n FX_RUNNING

/-- STOP: issue ends, the queue is discarded and the engine is HALTED; a handover is cancelled (R32, R270). -/
def Block.fxStop (s : Block) (n : Nat) : Block :=
  let st := s.fxState n
  if st = FX_RUNNING ∨ st = FX_DRAINING ∨ st = FX_HELD then
    (s.setEngine n { s.engine n with frmLoaded := false }).offFx n FX_HALTED
  else s

/-- STOP_DRAIN: issue ends; the engine drains. Its OPEN steps are cancelled. -/
def Block.fxStopDrain (s : Block) (n : Nat) : Block :=
  let st := s.fxState n
  if st = FX_RUNNING ∨ st = FX_HELD then
    let s := (s.unhold n).setFx n FX_DRAINING
    (s.setEngine n { s.engine n with frmLoaded := false, part := [] }).ownerGone (5 + n)
  else s

/-- A command of Table 10.15; 0 and 4–7 have no effect. -/
def Block.fxCommand (s : Block) (cmd n : Nat) : Block :=
  match cmd with
  | 1 => s.fxStart n
  | 2 => s.fxStop n
  | 3 => s.fxStopDrain n
  | _ => s

/-- The engines of a mask. -/
def maskEngines (m : BitVec 16) : List Nat := (List.range 16).filter (fun n => m.getLsbD n)

/-- FX_START, FX_STOP, FX_STOP_DRAIN: the command is written for the engines of a mask, by FX_CTL or FX_GCMD. -/
def doFxStart (m : BitVec 16) (s : Block) : Block :=
  if s.writable Reg.FX_GCMD then s.each (maskEngines m) (Block.fxCommand · 1) else s
def doFxStop (m : BitVec 16) (s : Block) : Block :=
  if s.writable Reg.FX_GCMD then s.each (maskEngines m) (Block.fxCommand · 2) else s
def doFxStopDrain (m : BitVec 16) (s : Block) : Block :=
  if s.writable Reg.FX_GCMD then s.each (maskEngines m) (Block.fxCommand · 3) else s

/-- Engine `n` holds no queued transaction. -/
def Block.queueEmpty (s : Block) (n : Nat) : Bool := s.queued (5 + n) == 0

/-- FX_DRAIN_COMPLETE: a DRAINING engine with nothing queued, pending or buffered enters HALTED (R266). -/
def doFxDrainComplete (n : Nat) (s : Block) : Block :=
  if s.fxState n = FX_DRAINING ∧ s.queueEmpty n ∧ (s.engine n).pend = [] ∧ (s.engine n).wbuf = [] then
    s.offFx n FX_HALTED
  else s

/-! Completions of node transactions (R255–R257). -/

/-- A count that saturates at 255. -/
def sat8 (n : Nat) : Nat := min n 255

/-- NODE_COMPLETION: the oldest completion of FX`n` is counted and gives its register its value. -/
def doNodeCompletion (n : Nat) (s : Block) : Block :=
  let g := s.engine n
  match g.done with
  | [] => s
  | d :: rest =>
    let (c, ns, f) := g.fence
    let isNs := decide (2 ≤ d.code) && decide (d.code ≤ 6)
    let isF := decide (7 ≤ d.code)
    let g := { g with done := rest, fence := (c + (d.code == 1).toNat, ns + isNs.toNat, f + isF.toNat) }
    let s := match d.reg with
      | some x => (s.setEngine n { g with pend := g.pend.erase x }).setSx n x (outcomeWord d.code d.payload)
      | none => s.setEngine n g
    let s := if d.code = 1 then s.bump (Reg.FX_NCNT_CLAMPED n) 1
      else if isNs then s.bump (Reg.FX_NCNT_NOT_SENT n) 1
      else if isF then s.bump (Reg.FX_NCNT_FAILED n) 1
      else s
    if (isNs || isF) ∧ !s.flag (Reg.FX_STATUS_NODE_SEEN n) then
      (s.put (Reg.FX_STATUS_NODE_SEEN n) 1).raise (595 + 4 * n) (s.fxDetail n)
    else s

/-! Stores on their way (R249). -/

/-- Two runs of bytes overlap. -/
def Store.meets (a b : Store) : Bool := overlaps (a.offset, a.bytes.length) (b.offset, b.bytes.length)

/-- WRITE_BUFFER_DRAIN: store `i` of FX`n`'s write buffer, oldest first, is performed at its bank. A store waits for an
earlier one that it overlaps. -/
def doWriteBufferDrain (n i : Nat) (s : Block) : Block :=
  let g := s.engine n
  match g.wbuf[i]? with
  | none => s
  | some x =>
    if (g.wbuf.take i).any (fun y => y.meets x) then s
    else (s.memWrite x.offset x.bytes).setEngine n { g with wbuf := g.wbuf.eraseIdx i }

/-! FX_DBG_IDX and FX_DBG_DATA (R268, Table 10.27). -/

/-- The word of register SEL of FX`n`. -/
def Block.dbgRead (s : Block) (n sel : Nat) : Word :=
  if sel < 16 then s.sx n sel
  else if sel < 80 then (s.vx n ((sel - 16) / 8)).extractLsb' (32 * ((sel - 16) % 8)) 32
  else if sel < 208 then
    let l := ((s.ax n ((sel - 80) / 32)).extractLsb' (40 * ((sel - 80) % 32 / 2)) 40)
    if sel % 2 = 0 then l.extractLsb' 0 32 else (l.extractLsb' 32 8).signExtend 32
  else 0

/-- The word of register SEL of FX`n` becomes `v`. -/
def Block.dbgWrite (s : Block) (n sel : Nat) (v : Word) : Block :=
  if sel < 16 then s.setSx n sel v
  else if sel < 80 then
    let lo := 32 * ((sel - 16) % 8)
    s.setVx n ((sel - 16) / 8) (withBits (s.vx n ((sel - 16) / 8)) (lo + 31) lo v.toNat)
  else if sel < 208 then
    let r := (sel - 80) / 32
    let lo := 40 * ((sel - 80) % 32 / 2)
    if sel % 2 = 0 then s.setAx n r (withBits (s.ax n r) (lo + 31) lo v.toNat)
    else s.setAx n r (withBits (s.ax n r) (lo + 39) (lo + 32) v.toNat)
  else s

/-- SEL advances after an access, from 207 to 0. -/
def Block.advanceDbg (s : Block) (ag : Nat) : Block :=
  let f : Fld := ⟨ownCopy ag Reg.FX_DBG_IDX, 7, 0⟩
  s.put f (if s.get f = 207 then 0 else s.get f + 1)

/-- A write of FX_DBG_DATA by agent `ag`: performed on a stopped engine. -/
def Block.writeDbg (s : Block) (ag : Nat) (v : Word) : Block :=
  let w := s.reg (ownCopy ag Reg.FX_DBG_IDX)
  let n := bitsOf w 11 8
  let st := s.fxState n
  let s := if st = FX_IDLE ∨ st = FX_HALTED ∨ st = FX_FAULTED then s.dbgWrite n (bitsOf w 7 0) v else s
  s.advanceDbg ag

/-- A read of FX_DBG_DATA by agent `ag`. -/
def Block.readDbg (s : Block) (ag : Nat) : Word × Block :=
  let w := s.reg (ownCopy ag Reg.FX_DBG_IDX)
  (s.dbgRead (bitsOf w 11 8) (bitsOf w 7 0), s.advanceDbg ag)

/-- FX_DBG_DATA_ACCESS: a write of `v`, or a read. -/
def doFxDbgDataAccess (ag : Nat) (v : Option Word) (s : Block) : Block :=
  match v with
  | some v => if s.writable Reg.FX_DBG_DATA then s.writeDbg ag v else s
  | none => if s.coreOn then (s.readDbg ag).2 else s

/-! Writes to the memories (R267, R269). -/

/-- A Skein write to byte address `a` of FX`n`'s programme memory is ignored. -/
def Block.pmLocked (s : Block) (n a : Nat) : Bool :=
  let st := s.fxState n
  !(st == FX_IDLE || st == FX_HALTED || st == FX_FAULTED) || (s.frm n && a / 32768 == s.actHalf n)

/-- A write of the word at byte address `a` of FX`n`'s programme memory. -/
def Block.writePm (s : Block) (n a : Nat) (v : Word) : Block :=
  if s.pmLocked n a then s.put (Reg.FX_STATUS_PM_IGNORED n) 1 else s.setPm n (a / 4) v

/-- A write of byte `a` of FX`n`'s scratch memory. -/
def Block.writeScr (s : Block) (n a : Nat) (v : Byte) : Block :=
  let st := s.fxState n
  if st = FX_IDLE ∨ st = FX_HALTED ∨ st = FX_FAULTED then s.setScratch n a v else s.put (Reg.FX_STATUS_PM_IGNORED n) 1

/-! Rings of quality figures (R263). -/

/-- A write of FX_QFRING. EN written 1 enables the ring only where it is clear of enabled FIFOs and rings, of the
mailbox region, and aligned in the memory as a FIFO must be. -/
def Block.writeQfring (s : Block) (n : Nat) (v : Word) : Block :=
  let was := s.flag (Reg.FX_QFRING_EN n)
  let s := s.put (Reg.FX_QFRING_PLY n) (bitsOf v 5 5)
  let s := if was then s
    else (s.put (Reg.FX_QFRING_BASE n) (bitsOf v 22 12)).put (Reg.FX_QFRING_SIZE n) (bitsOf v 2 0)
  if bitsOf v 4 4 = 0 then s.put (Reg.FX_QFRING_EN n) 0
  else if was then s
  else
    let r := s.ringRegion n
    let clear := r.1 % r.2 == 0 && decide (0x10000 ≤ r.1) && decide (r.1 + r.2 ≤ memSize) &&
      s.fifoRegions.all (fun q => !overlaps r q.2) && s.ringRegions.all (fun q => !overlaps r q.2)
    if clear then
      let s := (s.put (Reg.FX_QFRING_EN n) 1).put (Reg.FX_QFRING_CFG_BAD n) 0
      ((s.put (Reg.FX_QFWP_PTR n) 0).put (Reg.FX_QFRP_PTR n) 0).put (Reg.FX_QFLOST_COUNT n) 0
    else s.put (Reg.FX_QFRING_CFG_BAD n) 1

/-- RING_ENABLE. -/
def doRingEnable (n : Nat) (v : Word) (s : Block) : Block :=
  if s.writable (Reg.FX_QFRING n) then s.writeQfring n v else s

/-- A write of FX_QFRP, performed by the rule of R180. -/
def Block.writeQfrp (s : Block) (n : Nat) (v : Word) : Block :=
  let wp := s.get (Reg.FX_QFWP_PTR n)
  let rp := s.get (Reg.FX_QFRP_PTR n)
  if (v.toNat % 65536 + 65536 - rp) % 65536 ≤ (wp + 65536 - rp) % 65536 then s.put (Reg.FX_QFRP_PTR n) v.toNat else s

/-- A record enters FX`n`'s ring; a full ring loses its oldest. -/
def Block.pushRing (s : Block) (n : Nat) (r : Rec) : Block :=
  if !s.flag (Reg.FX_QFRING_EN n) then s
  else
    let (base, bytes) := s.ringRegion n
    let wp := s.get (Reg.FX_QFWP_PTR n)
    let rp := s.get (Reg.FX_QFRP_PTR n)
    let s := if (wp + 65536 - rp) % 65536 < bytes / 16 then s
      else ((s.put (Reg.FX_QFRP_PTR n) (rp + 1)).bump (Reg.FX_QFLOST_COUNT n) 1).put (Reg.FX_STATUS_QF_LOST_SEEN n) 1
    (s.memWrite (base + 16 * (wp % (bytes / 16))) (recBytes r)).put (Reg.FX_QFWP_PTR n) (wp + 1)

/-! Migration (R271–R273). -/

/-- FOX_MIGRATE_SWITCH: the switch instant of the pending migration is reached; engine A issues nothing further; a vector access on its
way to the mailbox region is carried out first. -/
def doFoxMigrateSwitch (s : Block) : Block :=
  match s.fox.mig with
  | none => s
  | some m =>
    if s.flag Reg.FX_MIG_COPYING ∨ s.tbNow m.tb < m.instant ∨ (s.engine m.src).part ≠ [] then s
    else
      let s := (s.put Reg.FX_MIG_PENDING 0).put Reg.FX_MIG_COPYING 1
      let s := (s.unhold m.src).setFx m.src FX_MIGRATING
      s.finishPacket m.host m.tag 0 (pairWords s.localCount)

/-- The keys of a bank that start at `from'` are those of `n` keys that start at `to'`. -/
def moveKeys {α : Type} (b : Bank α) (from' to' n : Nat) : Bank α :=
  b.filter (fun p => decide (p.1 < to')) ++
    (b.filter (fun p => decide (from' ≤ p.1) && decide (p.1 < from' + n))).map (fun p => (p.1 - from' + to', p.2)) ++
    b.filter (fun p => decide (to' + n ≤ p.1))

/-- FOX_MIGRATE_COPY_DONE: engine A's buffer and pending registers are done with and the copy into B is complete (R272): B
runs under the new epoch, owns A's steps, and A drains. -/
def doFoxMigrateCopyDone (s : Block) : Block :=
  match s.fox.mig with
  | none => s
  | some m =>
    let a := s.engine m.src
    if !s.flag Reg.FX_MIG_COPYING ∨ a.wbuf ≠ [] ∨ a.pend ≠ [] then s
    else
      let s := (s.withFox { s.fox with
        mig := none
        pm := moveKeys s.fox.pm (16384 * m.src) (16384 * m.dst) 16384
        scratch := moveKeys s.fox.scratch (32768 * m.src) (32768 * m.dst) 32768
        pmErr := s.fox.pmErr.filter (fun p => p.1 / 16384 != m.dst)
        scrErr := s.fox.scrErr.filter (fun p => p.1 / 32768 != m.dst) })
      let s := s.put Reg.FX_MIG_COPYING 0
      let s := s.each (List.range 8) (fun s e => s.setReg (Reg.FX_EVSEL m.dst e) (s.reg (Reg.FX_EVSEL m.src e)))
      let s := s.each (List.range 4) (fun s i => s.setReg (Reg.FX_ARG m.dst i) (s.reg (Reg.FX_ARG m.src i)))
      let s := (s.setReg (Reg.FX_START m.dst) (s.reg (Reg.FX_START m.src))).setPc m.dst (s.pc m.src)
      let s := s.putB (Reg.FX_STATUS_SIGNAL m.dst) (s.flag (Reg.FX_STATUS_SIGNAL m.src))
      let s := s.put (Reg.FX_CTL_EPOCH m.dst) (s.get (Reg.FX_CTL_EPOCH m.src) + 1)
      let s := s.setEngine m.dst { s.engine m.dst with
        sregs := a.sregs, vregs := a.vregs, accs := a.accs, latches := a.latches, capHi := a.capHi, fence := a.fence
        pend := [], done := [], behind := some m.src, byHalt := false, frmLoaded := false, entry := 0, holdAt := none
        part := [] }
      let s := (s.withStock { s.stock with
        doms := s.stock.doms.map (fun (p : Nat × Domain) => (p.1, if p.2.engine = some m.src then { p.2 with engine := some m.dst } else p.2)) })
      let s := s.each stepList (fun s i =>
        let s := if s.get (Reg.STEP_CTL_OWNER i) = 5 + m.src then s.put (Reg.STEP_CTL_OWNER i) (5 + m.dst) else s
        match (s.step' i).waiting with
        | some w => if w.req = 5 + m.src then
            s.setStep i { s.step' i with waiting := some { w with req := 5 + m.dst, owner := .fox m.dst none } } else s
        | none => s)
      let s := (s.put (Reg.FX_STATUS_CAUSE m.dst) 0).setFx m.dst FX_RUNNING
      s.setFx m.src FX_DRAINING

/-! The commands of this file, with the operands that the command table's rows take here. -/

def execNodeCompletion (n : Fin 16) (s : State) : Out := .next (s.withBlock (doNodeCompletion n s.toBlock))
def execWriteBufferDrain (n : Fin 16) (i : Fin 8) (s : State) : Out := .next (s.withBlock (doWriteBufferDrain n i s.toBlock))
def execFxStart (m : BitVec 16) (s : State) : Out := .next (s.withBlock (doFxStart m s.toBlock))
def execFxStop (m : BitVec 16) (s : State) : Out := .next (s.withBlock (doFxStop m s.toBlock))
def execFxStopDrain (m : BitVec 16) (s : State) : Out := .next (s.withBlock (doFxStopDrain m s.toBlock))
def execFxDrainComplete (n : Fin 16) (s : State) : Out := .next (s.withBlock (doFxDrainComplete n s.toBlock))
def execFxDbgDataAccess (ag : Fin 3) (v : Option Word) (s : State) : Out := .next (s.withBlock (doFxDbgDataAccess ag v s.toBlock))
def execRingEnable (n : Fin 16) (v : Word) (s : State) : Out := .next (s.withBlock (doRingEnable n v s.toBlock))
def execFoxMigrateSwitch (s : State) : Out := .next (s.withBlock (doFoxMigrateSwitch s.toBlock))
def execFoxMigrateCopyDone (s : State) : Out := .next (s.withBlock (doFoxMigrateCopyDone s.toBlock))

end Sys2Proof.Machine
end

