-- ==== Sys2Proof/Machine/FoxScalar.lean ====
section
/-! DEFINITION. The scalar instructions of a Fox engine: register and immediate operations, branches, loads and stores
(R242–R252, Tables 10.3 and 10.4). `n` is the engine, `x`, `y`, `z` its register numbers. -/

namespace Sys2Proof.Machine

/-! Register operations, OP 0x01. -/

/-- sX ← `f` sY sZ, function code `fn`. -/
def Block.scalarOp (s : Block) (fn n x y z : Nat) (f : Word → Word → Word) : Block :=
  s.issue n (encR 0x01 x y z fn) [x, y, z] (fun s => s.result n x (f (s.sx n y) (s.sx n z)))

/-- A truth value as a word. -/
def boolWord (b : Bool) : Word := if b then 1 else 0

def doAdd (n x y z : Nat) (s : Block) : Block := s.scalarOp 0 n x y z (· + ·)
def doSub (n x y z : Nat) (s : Block) : Block := s.scalarOp 1 n x y z (· - ·)
def doAnd (n x y z : Nat) (s : Block) : Block := s.scalarOp 2 n x y z (· &&& ·)
def doOr (n x y z : Nat) (s : Block) : Block := s.scalarOp 3 n x y z (· ||| ·)
def doXor (n x y z : Nat) (s : Block) : Block := s.scalarOp 4 n x y z (· ^^^ ·)
def doShl (n x y z : Nat) (s : Block) : Block := s.scalarOp 5 n x y z (fun a b => a <<< bitsOf b 4 0)
def doShr (n x y z : Nat) (s : Block) : Block := s.scalarOp 6 n x y z (fun a b => a >>> bitsOf b 4 0)
def doSar (n x y z : Nat) (s : Block) : Block := s.scalarOp 7 n x y z (fun a b => a.sshiftRight (bitsOf b 4 0))
def doLt (n x y z : Nat) (s : Block) : Block := s.scalarOp 8 n x y z (fun a b => boolWord (a.slt b))
def doLtu (n x y z : Nat) (s : Block) : Block := s.scalarOp 9 n x y z (fun a b => boolWord (a.ult b))
def doMul (n x y z : Nat) (s : Block) : Block := s.scalarOp 10 n x y z (· * ·)
def doMulhs (n x y z : Nat) (s : Block) : Block :=
  s.scalarOp 11 n x y z (fun a b => BitVec.ofInt 32 (a.toInt * b.toInt / 2 ^ 32))
def doMin (n x y z : Nat) (s : Block) : Block := s.scalarOp 12 n x y z (fun a b => if a.slt b then a else b)
def doMax (n x y z : Nat) (s : Block) : Block := s.scalarOp 13 n x y z (fun a b => if a.slt b then b else a)

/-- DIV: signed, truncated toward 0; a divisor of 0 gives 0, and 0x8000_0000 / −1 gives 0x8000_0000 (Table 10.3). -/
def doDiv (n x y z : Nat) (s : Block) : Block :=
  s.scalarOp 14 n x y z (fun a b => if b = 0 then 0 else BitVec.ofInt 32 (a.toInt.tdiv b.toInt))

/-! Immediate operations. IMM is 18 bits. -/

/-- sX ← `f` sY IMM. -/
def Block.immOp (s : Block) (op n x y : Nat) (imm : BitVec 18) (f : Word → Word) : Block :=
  s.issue n (encI op x y imm.toNat) [x, y] (fun s => s.result n x (f (s.sx n y)))

def doAddk (n x y : Nat) (imm : BitVec 18) (s : Block) : Block := s.immOp 0x02 n x y imm (· + imm.signExtend 32)
def doAndk (n x y : Nat) (imm : BitVec 18) (s : Block) : Block := s.immOp 0x03 n x y imm (· &&& imm.setWidth 32)
def doOrk (n x y : Nat) (imm : BitVec 18) (s : Block) : Block := s.immOp 0x04 n x y imm (· ||| imm.setWidth 32)
def doXork (n x y : Nat) (imm : BitVec 18) (s : Block) : Block := s.immOp 0x05 n x y imm (· ^^^ imm.setWidth 32)

/-- SHIFTK: IMM[6:5] selects SHL, SHR or SAR, IMM[4:0] the amount. -/
def doShiftk (n x y : Nat) (imm : BitVec 18) (s : Block) : Block :=
  s.immOp 0x06 n x y imm (fun a =>
    match bitsOf imm 6 5 with
    | 0 => a <<< bitsOf imm 4 0
    | 1 => a >>> bitsOf imm 4 0
    | _ => a.sshiftRight (bitsOf imm 4 0))

def doLtk (n x y : Nat) (imm : BitVec 18) (s : Block) : Block :=
  s.immOp 0x07 n x y imm (fun a => boolWord (a.slt (imm.signExtend 32)))

/-- HIGHK: sX ← IMM × 2^10. -/
def doHighk (n x : Nat) (imm : BitVec 22) (s : Block) : Block :=
  s.issue n (encL 0x08 x imm.toNat) [x] (fun s => s.result n x (BitVec.ofNat 32 (imm.toNat * 1024)))

/-! Branches and calls. OFF counts words from the instruction's address. -/

/-- The branch is taken when sX and sY compare so. -/
def Block.branch (s : Block) (op n x y : Nat) (off : BitVec 18) (c : Word → Word → Bool) : Block :=
  s.issue n (encI op x y off.toNat) [x, y] (fun s =>
    if c (s.sx n x) (s.sx n y) then s.jumpFx n ((s.pc n : Int) + 4 * off.toInt) id else s.nextFx n)

def doIfeq (n x y : Nat) (off : BitVec 18) (s : Block) : Block := s.branch 0x20 n x y off (fun a b => a == b)
def doIfne (n x y : Nat) (off : BitVec 18) (s : Block) : Block := s.branch 0x21 n x y off (fun a b => a != b)
def doIflt (n x y : Nat) (off : BitVec 18) (s : Block) : Block := s.branch 0x22 n x y off (fun a b => a.slt b)
def doIfge (n x y : Nat) (off : BitVec 18) (s : Block) : Block := s.branch 0x23 n x y off (fun a b => !a.slt b)
def doIflo (n x y : Nat) (off : BitVec 18) (s : Block) : Block := s.branch 0x24 n x y off (fun a b => a.ult b)
def doIfhs (n x y : Nat) (off : BitVec 18) (s : Block) : Block := s.branch 0x25 n x y off (fun a b => !a.ult b)

/-- CALL: sX ← the address after; control goes to the target. -/
def doCall (n x : Nat) (off : BitVec 22) (s : Block) : Block :=
  s.issue n (encL 0x26 x off.toNat) [x] (fun s =>
    s.jumpFx n ((s.pc n : Int) + 4 * off.toInt) (fun s => s.setSx n x (BitVec.ofNat 32 (s.pc n + 4))))

/-- CALLR: to (sY + IMM) with bits [1:0] cleared; in forerunner mode to its bits [14:0] in the active half (R269). -/
def doCallr (n x y : Nat) (imm : BitVec 18) (s : Block) : Block :=
  s.issue n (encI 0x27 x y imm.toNat) [x, y] (fun s =>
    let t := (s.sx n y + imm.signExtend 32).toNat / 4 * 4
    let t := if s.frm n then t % 32768 + 32768 * s.actHalf n else t
    s.jumpFx n t (fun s => s.setSx n x (BitVec.ofNat 32 (s.pc n + 4))))

/-! Data addresses (R242, R243). -/

/-- Where an access of `size` bytes at address `a` goes. -/
inductive Place where
  | scratch (a : Nat)
  | mailbox (o : Nat)     -- offset in the result memory
  | memory (o : Nat)
  | fault (cause : Nat)
  deriving DecidableEq, Repr

/-- Alignment is judged before the address (R242, R243). -/
def placeOf (a size : Nat) : Place :=
  if a % size ≠ 0 then .fault ALIGN
  else if a + size ≤ 0x8000 then .scratch a
  else if 0x800000 ≤ a ∧ a + size ≤ 0x810000 then .mailbox (a - 0x800000)
  else if 0x800000 ≤ a ∧ a + size ≤ 0x1000000 then .memory (a - 0x800000)
  else .fault ADDRESS

/-- `k` bytes of FX`n`'s scratch memory from `a` up. -/
def Block.scratchBytes (s : Block) (n a k : Nat) : List Byte := (List.range k).map (fun i => s.scratch n (a + i))

/-- `k` bytes of FX`n`'s scratch memory from `a` up, loaded by `f`: a corrected one sets CE_SEEN, one that cannot be
corrected is a SCR_ECC fault (R244). -/
def Block.scratchLoad (s : Block) (n a k : Nat) (f : Block → List Byte → Block) : Block :=
  if (List.range k).any (fun i => decide (2 ≤ s.scrCheck n (a + i))) then s.faultFx n SCR_ECC
  else f (if (List.range k).any (fun i => s.scrCheck n (a + i) == 1) then s.put (Reg.FX_STATUS_CE_SEEN n) 1 else s)
    (s.scratchBytes n a k)

/-- Bytes written to FX`n`'s scratch memory from `a` up. -/
def Block.scratchWrite (s : Block) (n : Nat) : Nat → List Byte → Block
  | _, [] => s
  | a, b :: t => (s.setScratch n a b).scratchWrite n (a + 1) t

/-- The byte at offset `o` in the newest buffered store that holds it (R249). -/
def buffered (o : Nat) : List Store → Option Byte
  | [] => none
  | x :: rest =>
    match buffered o rest with
    | some b => some b
    | none => if x.offset ≤ o ∧ o < x.offset + x.bytes.length then x.bytes[o - x.offset]? else none

/-- `k` bytes of the result memory from offset `o` up as FX`n` loads them: its buffered stores over the memory; whether one
was uncorrectable. The access lies in one bank, of which `told` says that it has been reported. -/
def Block.loadFrom (s : Block) (n : Nat) : Bool → Nat → Nat → List Byte × Bool × Block
  | _, _, 0 => ([], false, s)
  | told, o, k + 1 =>
    match buffered o (s.engine n).wbuf with
    | some b =>
      let (bs, bad, s) := s.loadFrom n told (o + 1) k
      (b :: bs, bad, s)
    | none =>
      let (bs, ce, ue, s) := s.memReadFrom (.fox n) (if told then [memBank o] else []) o 1
      let s := s.when ce (·.put (Reg.FX_STATUS_CE_SEEN n) 1)
      let (cs, bad, s) := s.loadFrom n (ue || told) (o + 1) k
      (bs ++ cs, ue || bad, s)

/-- The access of `k` bytes at offset `o`. -/
def Block.loadBytes (s : Block) (n o k : Nat) : List Byte × Bool × Block := s.loadFrom n false o k

/-- A load of `k` bytes at sY + IMM: `f` takes the bytes and completes the instruction. A mailbox access holds until the
write buffer is empty (R250); one wider than 32 bits is performed 32 bits at a time, each of them a command of its own, so
that other agents come between (R26, R243). -/
def Block.load (s : Block) (n y k : Nat) (imm : BitVec 18) (f : Block → List Byte → Block) : Block :=
  match placeOf (s.sx n y + imm.signExtend 32).toNat k with
  | .fault c => s.faultFx n c
  | .scratch a => s.scratchLoad n a k f
  | .mailbox o =>
    if (s.engine n).wbuf ≠ [] then s
    else
      let got := (s.engine n).part.take (k - min k 4)
      let (bs, ue, s) := s.loadBytes n (o + got.length) (min k 4)
      if ue then s.faultFx n RM_ECC
      else if got.length + 4 < k then s.setEngine n { s.engine n with part := got ++ bs }
      else f (s.setEngine n { s.engine n with part := [] }) (got ++ bs)
  | .memory o =>
    let (bs, ue, s) := s.loadBytes n o k
    if ue then s.faultFx n RM_ECC else f s bs

/-- A store of bytes at sY + IMM (R248–R250). -/
def Block.store (s : Block) (n y : Nat) (imm : BitVec 18) (bs : List Byte) : Block :=
  match placeOf (s.sx n y + imm.signExtend 32).toNat bs.length with
  | .fault c => s.faultFx n c
  | .scratch a => (s.scratchWrite n a bs).nextFx n
  | .mailbox o =>
    if (s.engine n).wbuf ≠ [] then s
    else
      let put := (s.engine n).part.take (bs.length - min bs.length 4)
      let s := s.memWrite (o + put.length) ((bs.drop put.length).take 4)
      if put.length + 4 < bs.length then s.setEngine n { s.engine n with part := put ++ (bs.drop put.length).take 4 }
      else (s.setEngine n { s.engine n with part := [] }).nextFx n
  | .memory o =>
    let g := s.engine n
    if 8 ≤ g.wbuf.length then s else (s.setEngine n { g with wbuf := g.wbuf ++ [⟨o, bs⟩] }).nextFx n

/-- A scalar load of `k` bytes, extended by `ext`. -/
def Block.scalarLoad (s : Block) (op n x y k : Nat) (imm : BitVec 18) (ext : Word → Word) : Block :=
  s.issue n (encI op x y imm.toNat) [x, y] (fun s => s.load n y k imm (fun s bs => s.result n x (ext (bytesWord bs))))

def doLoad32 (n x y : Nat) (imm : BitVec 18) (s : Block) : Block := s.scalarLoad 0x10 n x y 4 imm id
def doLoad16s (n x y : Nat) (imm : BitVec 18) (s : Block) : Block :=
  s.scalarLoad 0x11 n x y 2 imm (fun w => (w.extractLsb' 0 16).signExtend 32)
def doLoad16u (n x y : Nat) (imm : BitVec 18) (s : Block) : Block := s.scalarLoad 0x12 n x y 2 imm id
def doLoad8s (n x y : Nat) (imm : BitVec 18) (s : Block) : Block :=
  s.scalarLoad 0x13 n x y 1 imm (fun w => (w.extractLsb' 0 8).signExtend 32)
def doLoad8u (n x y : Nat) (imm : BitVec 18) (s : Block) : Block := s.scalarLoad 0x14 n x y 1 imm id

/-- A scalar store of the low `k` bytes of sX. -/
def Block.scalarStore (s : Block) (op n x y k : Nat) (imm : BitVec 18) : Block :=
  s.issue n (encI op x y imm.toNat) [x, y] (fun s => s.store n y imm ((wordBytes (s.sx n x)).take k))

def doStore32 (n x y : Nat) (imm : BitVec 18) (s : Block) : Block := s.scalarStore 0x15 n x y 4 imm
def doStore16 (n x y : Nat) (imm : BitVec 18) (s : Block) : Block := s.scalarStore 0x16 n x y 2 imm
def doStore8 (n x y : Nat) (imm : BitVec 18) (s : Block) : Block := s.scalarStore 0x17 n x y 1 imm

/-- The 256-bit value of 32 bytes, lane 0 at the lowest address (R241). -/
def bytesVec (bs : List Byte) : BitVec 256 :=
  BitVec.ofNat 256 (bs.foldr (fun b a => b.toNat + 256 * a) 0)

/-- The 32 bytes of a vector. -/
def vecBytes (v : BitVec 256) : List Byte := (List.range 32).map (fun i => v.extractLsb' (8 * i) 8)

/-- VLOAD: vX ← 32 bytes at sY + IMM. -/
def doVload (n x y : Nat) (imm : BitVec 18) (s : Block) : Block :=
  s.issue n (encI 0x18 x y imm.toNat) [y] (fun s =>
    s.load n y 32 imm (fun s bs => (s.setVx n x (bytesVec bs)).nextFx n))

/-- VSTORE: 32 bytes at sY + IMM ← vX. -/
def doVstore (n x y : Nat) (imm : BitVec 18) (s : Block) : Block :=
  s.issue n (encI 0x19 x y imm.toNat) [y] (fun s => s.store n y imm (vecBytes (s.vx n x)))

/-! The commands of this file, with the operands that the command table's rows take here. -/

def execAdd (n x y z : Fin 16) (s : State) : Out := .next (s.withBlock (doAdd n x y z s.toBlock))
def execSub (n x y z : Fin 16) (s : State) : Out := .next (s.withBlock (doSub n x y z s.toBlock))
def execAnd (n x y z : Fin 16) (s : State) : Out := .next (s.withBlock (doAnd n x y z s.toBlock))
def execOr (n x y z : Fin 16) (s : State) : Out := .next (s.withBlock (doOr n x y z s.toBlock))
def execXor (n x y z : Fin 16) (s : State) : Out := .next (s.withBlock (doXor n x y z s.toBlock))
def execShl (n x y z : Fin 16) (s : State) : Out := .next (s.withBlock (doShl n x y z s.toBlock))
def execShr (n x y z : Fin 16) (s : State) : Out := .next (s.withBlock (doShr n x y z s.toBlock))
def execSar (n x y z : Fin 16) (s : State) : Out := .next (s.withBlock (doSar n x y z s.toBlock))
def execLt (n x y z : Fin 16) (s : State) : Out := .next (s.withBlock (doLt n x y z s.toBlock))
def execLtu (n x y z : Fin 16) (s : State) : Out := .next (s.withBlock (doLtu n x y z s.toBlock))
def execMul (n x y z : Fin 16) (s : State) : Out := .next (s.withBlock (doMul n x y z s.toBlock))
def execMulhs (n x y z : Fin 16) (s : State) : Out := .next (s.withBlock (doMulhs n x y z s.toBlock))
def execMin (n x y z : Fin 16) (s : State) : Out := .next (s.withBlock (doMin n x y z s.toBlock))
def execMax (n x y z : Fin 16) (s : State) : Out := .next (s.withBlock (doMax n x y z s.toBlock))
def execDiv (n x y z : Fin 16) (s : State) : Out := .next (s.withBlock (doDiv n x y z s.toBlock))
def execAddk (n x y : Fin 16) (imm : BitVec 18) (s : State) : Out := .next (s.withBlock (doAddk n x y imm s.toBlock))
def execAndk (n x y : Fin 16) (imm : BitVec 18) (s : State) : Out := .next (s.withBlock (doAndk n x y imm s.toBlock))
def execOrk (n x y : Fin 16) (imm : BitVec 18) (s : State) : Out := .next (s.withBlock (doOrk n x y imm s.toBlock))
def execXork (n x y : Fin 16) (imm : BitVec 18) (s : State) : Out := .next (s.withBlock (doXork n x y imm s.toBlock))
def execShiftk (n x y : Fin 16) (imm : BitVec 18) (s : State) : Out := .next (s.withBlock (doShiftk n x y imm s.toBlock))
def execLtk (n x y : Fin 16) (imm : BitVec 18) (s : State) : Out := .next (s.withBlock (doLtk n x y imm s.toBlock))
def execHighk (n x : Fin 16) (imm : BitVec 22) (s : State) : Out := .next (s.withBlock (doHighk n x imm s.toBlock))
def execLoad32 (n x y : Fin 16) (imm : BitVec 18) (s : State) : Out := .next (s.withBlock (doLoad32 n x y imm s.toBlock))
def execLoad16s (n x y : Fin 16) (imm : BitVec 18) (s : State) : Out := .next (s.withBlock (doLoad16s n x y imm s.toBlock))
def execLoad16u (n x y : Fin 16) (imm : BitVec 18) (s : State) : Out := .next (s.withBlock (doLoad16u n x y imm s.toBlock))
def execLoad8s (n x y : Fin 16) (imm : BitVec 18) (s : State) : Out := .next (s.withBlock (doLoad8s n x y imm s.toBlock))
def execLoad8u (n x y : Fin 16) (imm : BitVec 18) (s : State) : Out := .next (s.withBlock (doLoad8u n x y imm s.toBlock))
def execStore32 (n x y : Fin 16) (imm : BitVec 18) (s : State) : Out := .next (s.withBlock (doStore32 n x y imm s.toBlock))
def execStore16 (n x y : Fin 16) (imm : BitVec 18) (s : State) : Out := .next (s.withBlock (doStore16 n x y imm s.toBlock))
def execStore8 (n x y : Fin 16) (imm : BitVec 18) (s : State) : Out := .next (s.withBlock (doStore8 n x y imm s.toBlock))
def execVload (n x y : Fin 16) (imm : BitVec 18) (s : State) : Out := .next (s.withBlock (doVload n x y imm s.toBlock))
def execVstore (n x y : Fin 16) (imm : BitVec 18) (s : State) : Out := .next (s.withBlock (doVstore n x y imm s.toBlock))
def execIfeq (n x y : Fin 16) (off : BitVec 18) (s : State) : Out := .next (s.withBlock (doIfeq n x y off s.toBlock))
def execIfne (n x y : Fin 16) (off : BitVec 18) (s : State) : Out := .next (s.withBlock (doIfne n x y off s.toBlock))
def execIflt (n x y : Fin 16) (off : BitVec 18) (s : State) : Out := .next (s.withBlock (doIflt n x y off s.toBlock))
def execIfge (n x y : Fin 16) (off : BitVec 18) (s : State) : Out := .next (s.withBlock (doIfge n x y off s.toBlock))
def execIflo (n x y : Fin 16) (off : BitVec 18) (s : State) : Out := .next (s.withBlock (doIflo n x y off s.toBlock))
def execIfhs (n x y : Fin 16) (off : BitVec 18) (s : State) : Out := .next (s.withBlock (doIfhs n x y off s.toBlock))
def execCall (n x : Fin 16) (off : BitVec 22) (s : State) : Out := .next (s.withBlock (doCall n x off s.toBlock))
def execCallr (n x y : Fin 16) (imm : BitVec 18) (s : State) : Out := .next (s.withBlock (doCallr n x y imm s.toBlock))

end Sys2Proof.Machine
end

