-- ==== Sys2Proof/Machine/Ply.lean ====
section
/-! DEFINITION. The Ply link: lanes and training, statistics streams and STAT.PULL, the outbound queues
(R365–R376, R261). Link 0 is inbound, link 1 outbound; lane `i` of Table 14.17 is PI`i` below 8 and PO(`i` − 8) above. -/

namespace Sys2Proof.Machine

/-! Statistics streams (R370–R373). -/

def Block.stream (s : Block) (k : Nat) : Stream := Bank.get (fun _ => Stream.reset) s.ply.streams k

def Block.setStream (s : Block) (k : Nat) (v : Stream) : Block :=
  (s.withPly { s.ply with streams := Bank.set (fun _ => Stream.reset) s.ply.streams k v })

/-- The slots of a stream, by number. -/
def Block.slotList (s : Block) (k : Nat) : List (Nat × Slot) :=
  (List.range (s.get (Reg.PLY_STREAM_SLOTS k) + 1)).map (fun i => (i, Bank.get (fun _ => .empty) (s.stream k).slots i))

def Block.setSlotOf (s : Block) (k i : Nat) (v : Slot) : Block :=
  s.setStream k { s.stream k with slots := Bank.set (fun _ => .empty) (s.stream k).slots i v }

/-- The offset of slot `i` of stream `k` in the result memory. -/
def Block.slotAt (s : Block) (k i : Nat) : Nat := (s.streamRegion k).1 + i * (4096 * 2 ^ s.get (Reg.PLY_STREAM_SIZE k))

/-- PLY_SSTAT.READY counts the ready blocks that no engine has taken. -/
def Block.showReady (s : Block) (k : Nat) : Block :=
  s.put (Reg.PLY_SSTAT_READY k) ((s.slotList k).filter (fun p => match p.2 with
    | .ready _ _ _ => true
    | _ => false)).length

/-- The oldest ready block: its slot, BSEQ and data units. -/
def oldestReady (l : List (Nat × Slot)) : Option (Nat × Nat × Nat) :=
  (l.foldl (fun (a : Option (Nat × Nat × Nat × Nat)) p => match p.2 with
    | .ready o b u => match a with
      | some (o', q) => if o < o' then some (o, p.1, b, u) else some (o', q)
      | none => some (o, p.1, b, u)
    | _ => a) none).map (·.2)

/-- The open block of a stream and its slot. -/
def openBlock (l : List (Nat × Slot)) : Option (Nat × OpenBlock) :=
  l.findSome? (fun p => match p.2 with
    | .opened b => some (p.1, b)
    | _ => none)

/-- The open block of stream `k` is discarded (R372). -/
def Block.discardOpen (s : Block) (k : Nat) : Block :=
  match openBlock (s.slotList k) with
  | none => s
  | some (i, _) =>
    let first := !s.flag Reg.PLY_STATUS_STAT_SEEN
    let s := (s.setSlotOf k i .empty).bump (Reg.PLY_SSTAT_BAD k) 1
    if first then (s.put Reg.PLY_STATUS_STAT_SEEN 1).raise 763 (256 * k) else s

/-- A block of stream `k` is discarded to make room, or for want of room (R373). -/
def Block.statDrop (s : Block) (k : Nat) : Block := (s.bump (Reg.PLY_SSTAT_DROPS k) 1).raise 759 (256 * k)

/-- A block opens: in the lowest empty slot, else in that of the oldest ready block, which is discarded (R373). -/
def Block.openIn (s : Block) (k : Nat) (b : OpenBlock) : Block :=
  let l := s.slotList k
  match l.find? (fun p => p.2 == .empty) with
  | some (i, _) => s.setSlotOf k i (.opened b)
  | none =>
    let s := s.statDrop k
    match oldestReady l with
    | some (i, _, _) => (s.setSlotOf k i (.opened b)).showReady k
    | none => s

/-- The header of a block (Table 14.8), and whether its times could be converted (R371). -/
def Block.blockHeader (s : Block) (k : Nat) (b : OpenBlock) : List Byte :=
  let st := s.lineState b.wave
  let timed := st == LOCKED || st == HOLDOVER
  let conv (t : Word) : Nat := if timed then s.lineToLocal b.wave (nearest64 (s.lineNow b.wave) t) else 0
  leNum 2 (b.units + 1) ++ leNum 1 k ++ leNum 1 b.bseq ++ leNum 1 (if timed then 0 else 1) ++ leNum 3 0 ++
    leNum 8 (conv b.acqStart) ++ leNum 8 (conv b.acqEnd) ++ wordBytes b.fmt ++ leNum 4 0
where
  /-- `n` bytes of a number, little-endian (R10). -/
  leNum (n v : Nat) : List Byte := (List.range n).map (fun i => BitVec.ofNat 8 (v / 256 ^ i))

/-- A part's data is written; after the last part the header is, and the block is ready (R371). -/
def Block.acceptPart (s : Block) (k i : Nat) (b : OpenBlock) (ofs units : Nat) (last : Bool) (data : List Byte) : Block :=
  if 4096 * 2 ^ s.get (Reg.PLY_STREAM_SIZE k) < 32 + 32 * (ofs + units) then s.discardOpen k
  else
    let s := s.memWrite (s.slotAt k i + 32 + 32 * ofs) data
    let b := { b with units := ofs + units }
    if !last then s.setSlotOf k i (.opened b)
    else
      let s := s.memWrite (s.slotAt k i) (s.blockHeader k b)
      let v := s.stream k
      let s := (s.setStream k { v with order := v.order + 1 }).setSlotOf k i (.ready v.order b.bseq b.units)
      (s.put (Reg.PLY_SSTAT_LAST_BSEQ k) b.bseq).showReady k

/-- The layout of a STAT packet of an enabled stream: 1–64 data units after two words (Table 14.7). -/
def Block.statLayout (s : Block) (ch : Nat) (pl : List (BitVec 64)) : Bool :=
  decide (ch < 64) && s.flag (Reg.PLY_STREAM_EN ch) && decide (6 ≤ pl.length) && decide (pl.length ≤ 258) &&
    (pl.length - 2) % 4 == 0

/-- STAT_PACKET: a part of a block arrives (R371–R373). -/
def doStatPacket (ws : List (BitVec 64)) (valid : Bool) (s : Block) : Block :=
  match s.takePacket 1 ws valid s.statLayout with
  | (none, s) => s
  | (some (k, pl), s) =>
    let h := pl.headD 0
    let t := pl.getD 1 0
    let ofs := bitsOf h 55 46
    let units := (pl.length - 2) / 4
    let data : List Byte := (pl.drop 2).flatMap (fun w => (List.range 8).map (fun i => w.extractLsb' (8 * i) 8))
    let last := bitsOf h 44 44 == 1
    if bitsOf h 45 45 = 1 then
      let s := s.discardOpen k
      if ofs ≠ 0 then s
      else
        let b : OpenBlock :=
          { bseq := bitsOf h 63 56, fmt := BitVec.ofNat 32 (bitsOf h 31 0), acqStart := BitVec.ofNat 32 (bitsOf t 63 32),
            acqEnd := BitVec.ofNat 32 (bitsOf t 31 0), wave := bitsOf h 43 42, units := 0 }
        let s := s.openIn k b
        match openBlock (s.slotList k) with
        | some (i, b) => s.acceptPart k i b ofs units last data
        | none => s
    else
      match openBlock (s.slotList k) with
      | some (i, b) =>
        if b.bseq = bitsOf h 63 56 ∧ b.units = ofs then s.acceptPart k i b ofs units last data else s.discardOpen k
      | none => s

/-- Stream `k` may be enabled (R370). -/
def Block.streamOk (s : Block) (k : Nat) : Bool :=
  let r := s.streamRegion k
  s.get (Reg.PLY_STREAM_SLOTS k) != 0 && r.1 % (4096 * 2 ^ s.get (Reg.PLY_STREAM_SIZE k)) == 0 && decide (0x10000 ≤ r.1) &&
    decide (r.1 + r.2 ≤ memSize) && s.fifoRegions.all (fun q => !overlaps r q.2) &&
    s.ringRegions.all (fun q => !overlaps r q.2) && s.streamRegions.all (fun q => q.1 == k || !overlaps r q.2)

/-- A write of PLY_STREAM (R370). -/
def Block.writePlyStream (s : Block) (k : Nat) (v : Word) : Block :=
  if s.flag (Reg.PLY_STREAM_EN k) then
    if bitsOf v 0 0 = 1 then s
    else (((s.discardOpen k).setStream k Stream.reset).put (Reg.PLY_STREAM_EN k) 0).put (Reg.PLY_SSTAT_READY k) 0
  else
    let s := ((s.put (Reg.PLY_STREAM_BASE k) (bitsOf v 22 12)).put (Reg.PLY_STREAM_SLOTS k) (bitsOf v 11 8)).put
      (Reg.PLY_STREAM_SIZE k) (bitsOf v 5 4)
    if bitsOf v 0 0 = 0 then s
    else if s.streamOk k then
      ((s.put (Reg.PLY_STREAM_EN k) 1).put (Reg.PLY_STREAM_CFG_BAD k) 0).setStream k Stream.reset
    else s.put (Reg.PLY_STREAM_CFG_BAD k) 1

/-- STREAM_ENABLE: a write of PLY_STREAM. -/
def doStreamEnable (k : Nat) (v : Word) (s : Block) : Block :=
  if s.writable (Reg.PLY_STREAM k) then s.writePlyStream k v else s

/-- STAT_PULL: STAT.PULL, OP 0x3B (R261, R373). -/
def doStatPull (n x y z units : Nat) (wait : Bool) (s : Block) : Block :=
  s.issue n (encR 0x3B x y z (units % 1024 + 1024 * wait.toNat)) [x, y, z] (fun s =>
    let k := (s.sx n z).toNat
    let a := (s.sx n y).toNat
    if a % 32 ≠ 0 then s.faultFx n ALIGN
    else if 63 < k then s.result n x (BitVec.ofNat 32 (2 ^ 28 + 2 ^ 31))
    else
      match (if s.flag (Reg.PLY_STREAM_EN k) then oldestReady (s.slotList k) else none) with
      | none => if wait then s.holdFx n else s.result n x (BitVec.ofNat 32 (2 ^ 31))
      | some (i, bseq, u) =>
        let most := if units % 1024 = 0 then 1024 else units % 1024
        let m := min (u + 1) most
        if 0x8000 < a + 32 * m then s.faultFx n ADDRESS
        else
          let (bs, ce, ue, s) := s.memRead (.pull n) (s.slotAt k i) (32 * m)
          let s := s.when ce (·.put (Reg.FX_STATUS_CE_SEEN n) 1)
          let s := ((s.scratchWrite n a bs).setSlotOf k i .empty).showReady k
          s.result n x (BitVec.ofNat 32 (m + 65536 * bseq + 2 ^ 29 * ue.toNat + 2 ^ 30 * (decide (m < u + 1)).toNat)))

/-! Outbound queues (R374, R375). -/

/-- The outbound link has left UP: every queued record is discarded and counted by queue (R375). -/
def Block.dropOut (s : Block) : Block :=
  let p := s.ply
  let s := (s.withPly { p with evtQ := [], qfQ := [], resQ := [] })
  let drop (s : Block) (q src : Nat) (f : Fld) (k : Nat) : Block := if k = 0 then s else (s.bump f k).plyDrop q src
  drop (drop (drop s 0 795 Reg.PLY_CNT1_EVT_DROP p.evtQ.length) 1 791 Reg.PLY_CNT1_QF_DROP p.qfQ.length) 2 787
    Reg.PLY_CNT1_RES_DROP p.resQ.length

/-- Queue `q` (0 EVT, 1 QF, 2 RES), its packet size and its gather time, ns. -/
def Block.outQueue (s : Block) (q : Nat) : List (Nat × Rec) :=
  match q with
  | 0 => s.ply.evtQ
  | 1 => s.ply.qfQ
  | _ => s.ply.resQ

def outCount (q : Nat) : Nat := if q = 2 then 128 else 16
def outGather (q : Nat) : Nat := if q = 2 then 1000 else 100

/-- Queue `q` is to send: it holds its count, or its oldest record has waited the gather time. -/
def Block.outDue (s : Block) (q : Nat) : Bool :=
  match s.outQueue q with
  | [] => false
  | (t, _) :: _ => decide (outCount q ≤ (s.outQueue q).length) || decide (t + outGather q ≤ s.now)

/-- The words of an outbound packet (Tables 14.4 and 14.9). -/
def outPacket (q seq : Nat) (l : List Rec) : List (BitVec 64) :=
  let kind : Nat := if q = 0 then 0xA else if q = 1 then 9 else 8
  let h := BitVec.ofNat 64 (kind * 2 ^ 60 + seq * 2 ^ 36 + 2 * l.length * 2 ^ 24)
  let pl := h :: l.flatMap (fun r => [r.extractLsb' 64 64, r.extractLsb' 0 64])
  pl ++ [BitVec.ofNat 64 ((crc32 (pl.flatMap beBytes)).toNat * 2 ^ 32)]

/-- OUTBOUND_SEND: queue `q` sends a packet; the EVT queue goes first, then QF, then RES (R374). -/
def doOutboundSend (q : Nat) (s : Block) : Block :=
  if s.get Reg.PLY_STATUS_OUT_STATE ≠ 2 ∨ 2 < q ∨ !s.outDue q ∨ (List.range q).any s.outDue then s
  else
    let l := (s.outQueue q).take (outCount q)
    let rest := (s.outQueue q).drop (outCount q)
    let p := { s.ply with outSeq := (s.ply.outSeq + 1) % 65536, sent := outPacket q s.ply.outSeq (l.map Prod.snd) }
    (s.withPly (match q with
      | 0 => { p with evtQ := rest }
      | 1 => { p with qfQ := rest }
      | _ => { p with resQ := rest }))

/-! Links (R366, R367). -/

def linkState (d : Nat) : Fld := if d = 0 then Reg.PLY_STATUS_IN_STATE else Reg.PLY_STATUS_OUT_STATE
def linkEnable (d : Nat) : Fld := if d = 0 then Reg.PLY_CTL_IN_EN else Reg.PLY_CTL_OUT_EN

/-- The domain of link `d` is powered, and VDD_PLY is not under its limit (R468): PLY_RX inbound, PLY_TX outbound. -/
def Block.plyUp (s : Block) (d : Nat) : Bool := s.domainOn (9 - d) && !s.railDown 2

/-- Link `d` is enabled and powered. -/
def Block.linkOn (s : Block) (d : Nat) : Bool := s.flag (linkEnable d) && s.plyUp d

/-- The lanes of a link. -/
def linkLanes (d : Nat) : List Nat := (List.range 8).map (fun i => 8 * d + i)

/-- Link `d` goes to state `st`, not UP. When it leaves UP, its lanes are no longer in use; an inbound link's open blocks
and an outbound link's queued records are discarded (R372, R375). -/
def Block.leaveLink (s : Block) (d st : Nat) : Block :=
  if s.get (linkState d) ≠ 2 then s.put (linkState d) st
  else
    let s := s.each (linkLanes d) (fun s i => if s.get (Reg.PLY_LANE_STATE i) = 2 then s.put (Reg.PLY_LANE_STATE i) 1 else s)
    let s := s.put (linkState d) st
    if d = 0 then (s.put Reg.PLY_STATUS_IN_DOWN_SEEN 1).each (List.range 64) Block.discardOpen
    else (s.put Reg.PLY_STATUS_OUT_DOWN_SEEN 1).dropOut

/-- Link `d` trains, when it is enabled; `again` counts the training in RETRAINS. -/
def Block.trainLink (s : Block) (d : Nat) (again : Bool) : Block :=
  let s := s.when again (·.bump Reg.PLY_CNT0_RETRAINS 1)
  s.leaveLink d (if s.linkOn d then 1 else 0)

/-- The width and the first lane that link `d` takes: the largest width not below MIN_WIDTH of which a whole set is
locked, and its lowest set (R366). -/
def Block.pickWidth (s : Block) (d : Nat) : Option (Nat × Nat) :=
  ([3, 2, 1, 0].filter (fun c => decide (s.get Reg.PLY_CTL_MIN_WIDTH ≤ c))).findSome? (fun c =>
    ((List.range (8 / 2 ^ c)).find? (fun k =>
      (List.range (2 ^ c)).all (fun i => s.get (Reg.PLY_LANE_STATE (8 * d + k * 2 ^ c + i)) != 0))).map
        (fun k => (c, 8 * d + k * 2 ^ c)))

/-- LINK_TRAIN: a training of link `d` ends; on the inbound link the ECHO blocks have measured the round trip and brought
TURN, in 1/16 ns (R366, R367). A link that stays DOWN is trained again every 100 µs. -/
def doLinkTrain (d trip turn : Nat) (s : Block) : Block :=
  if 1 < d ∨ s.get (linkState d) = 2 ∨ !s.linkOn d ∨
      (s.get (linkState d) = 0 ∧ s.now < Bank.get (fun _ => 0) s.ply.tryAt d) then s
  else
    match s.pickWidth d with
    | none => (s.withPly { s.ply with tryAt := Bank.set (fun _ => 0) s.ply.tryAt d (s.now + 100000) }).put (linkState d) 0
    | some (c, lo) =>
      let s := s.each (linkLanes d) (fun s i => s.put (Reg.PLY_LANE_ERR i) 0)
      let s := (s.withPly { s.ply with laneErr := s.ply.laneErr.filter (fun p => !(linkLanes d).elem p.1) })
      let s := s.each (List.range (2 ^ c)) (fun s i => s.put (Reg.PLY_LANE_STATE (lo + i)) 2)
      let s := (s.put (linkState d) 2).put (if d = 0 then Reg.PLY_STATUS_IN_WIDTH else Reg.PLY_STATUS_OUT_WIDTH) c
      let s := if d = 0 then s.put Reg.PLY_LAT_LAT ((trip - turn) / 2) else s
      let was := if d = 0 then s.ply.inWidth else s.ply.outWidth
      let s := (s.withPly (if d = 0 then { s.ply with inWidth := some c } else { s.ply with outWidth := some c }))
      if was.isSome ∧ was ≠ some c then (s.put Reg.PLY_STATUS_WIDTH_SEEN 1).raise (if d = 0 then 771 else 799) 0 else s

/-- Invalid sync headers of lane `i` are counted; LANE_ERR at each multiple of 256 that the count passes (R377). -/
def Block.laneErrors (s : Block) (i k : Nat) : Block :=
  let n := Bank.get (fun _ => 0) s.ply.laneErr i
  let s := (s.withPly { s.ply with laneErr := Bank.set (fun _ => 0) s.ply.laneErr i (n + k) })
  let s := s.put (Reg.PLY_LANE_ERR i) (min 255 (n + k))
  if n / 256 < (n + k) / 256 then s.raise (754 + 4 * i) (s.get (Reg.PLY_LANE_ERR i)) else s

/-- Lane `i` is powered. -/
def Block.laneOn (s : Block) (i : Nat) : Bool := decide (i < 16) && s.plyUp (i / 8)

/-- LANE_LOCK: lane `i` has received 64 consecutive valid sync headers, after `bad` invalid ones not yet counted. -/
def doLaneLock (i bad : Nat) (s : Block) : Block :=
  if !s.laneOn i then s
  else
    let s := s.laneErrors i bad
    if s.get (Reg.PLY_LANE_STATE i) ≠ 0 then s
    else (s.put (Reg.PLY_LANE_STATE i) 1).raise (753 + 4 * i) (s.get (Reg.PLY_LANE_ERR i))

/-- LANE_DOWN: lane `i` has received `bad` invalid sync headers not yet counted, the last 64 of them in a row, or its
receiver has lost its clock lock. The loss of an active lane trains the link again. -/
def doLaneDown (i bad : Nat) (clock : Bool) (s : Block) : Block :=
  if !s.laneOn i then s
  else
    let s := s.laneErrors i bad
    let was := s.get (Reg.PLY_LANE_STATE i)
    if was = 0 ∨ (bad < 64 ∧ !clock) then s
    else
      let s := (s.put (Reg.PLY_LANE_STATE i) 0).raise (752 + 4 * i) (s.get (Reg.PLY_LANE_ERR i))
      if was = 2 then s.trainLink (i / 8) true else s

/-- A write of PLY_CTL (R367). -/
def Block.writePlyCtl (s : Block) (v : Word) : Block :=
  let old := s.reg Reg.PLY_CTL
  let s := s.writeFields Reg.PLY_CTL v
  s.each [0, 1] (fun s d =>
    let was := bitsOf old d d
    let now := s.get (linkEnable d)
    if was ≠ now ∧ now = 1 then
      let s := (s.withPly (if d = 0 then { s.ply with inWidth := none } else { s.ply with outWidth := none }))
      s.trainLink d (bitsOf v 4 4 == 1)
    else if now = 0 then s.leaveLink d 0
    else if bitsOf v 4 4 = 1 then s.trainLink d true
    else s)

/-- PLY_RETRAIN: a write of PLY_CTL with RETRAIN = 1. -/
def doPlyRetrain (v : Word) (s : Block) : Block :=
  if s.writable Reg.PLY_CTL then s.writePlyCtl (withBits v 4 4 1) else s

/-- A write of PLY_STATUS; clearing DROP_SEEN lets each queue raise its drop event again (R375). -/
def Block.writePlyStatus (s : Block) (v : Word) : Block :=
  let s := s.writeFields Reg.PLY_STATUS v
  if bitsOf v 13 13 = 1 then (s.withPly { s.ply with dropped := 0 }) else s

/-! Power and resets (R376). -/

/-- PLY_RX (link 0) or PLY_TX (link 1) has been powered or has lost its power. -/
def Block.plyPower (s : Block) (d : Nat) (up : Bool) : Block :=
  if up then s.trainLink d false
  else
    let s := s.leaveLink d 0
    s.each (linkLanes d) (fun s i => s.put (Reg.PLY_LANE_STATE i) 0)

/-- A reset of subsystem 14: open blocks and queued records are discarded, every field that is not RWS takes its reset
value, and both links train again. Stream configurations, ready blocks and the lanes' lock stay. -/
def Block.plyReset (s : Block) : Block :=
  let up (i : Nat) : Bool := s.get (Reg.PLY_LANE_STATE i) != 0
  let s := (s.leaveLink 0 0).leaveLink 1 0
  let s := (s.withPly { s.ply with dropped := 0, laneErr := [] })
  let s := (s.warmReset 0xC000 0xD000 (fun _ => false)).each (List.range 64) Block.showReady
  let s := s.each (List.range 16) (fun s i => if up i then s.put (Reg.PLY_LANE_STATE i) 1 else s)
  (s.trainLink 0 false).trainLink 1 false

/-! The commands of this file, with the operands that the command table's rows take here. -/

def execStatPull (n x y z : Fin 16) (units : Fin 1024) (wait : Bool) (s : State) : Out := .next (s.withBlock (doStatPull n x y z units wait s.toBlock))
def execLaneLock (i : Fin 16) (bad : Nat) (s : State) : Out := .next (s.withBlock (doLaneLock i bad s.toBlock))
def execLaneDown (i : Fin 16) (bad : Nat) (clock : Bool) (s : State) : Out := .next (s.withBlock (doLaneDown i bad clock s.toBlock))
def execLinkTrain (d : Fin 2) (trip turn : Nat) (s : State) : Out := .next (s.withBlock (doLinkTrain d trip turn s.toBlock))
def execPlyRetrain (v : Word) (s : State) : Out := .next (s.withBlock (doPlyRetrain v s.toBlock))
def execStatPacket (ws : List (BitVec 64)) (valid : Bool) (s : State) : Out := .next (s.withBlock (doStatPacket ws valid s.toBlock))
def execStreamEnable (k : Fin 64) (v : Word) (s : State) : Out := .next (s.withBlock (doStreamEnable k v s.toBlock))
def execOutboundSend (q : Fin 3) (s : State) : Out := .next (s.withBlock (doOutboundSend q s.toBlock))

end Sys2Proof.Machine
end

