-- ==== Sys2Proof/Machine/Sign.lean ====
section
/-! DEFINITION. Signatures of the Hoard's objects (R326): SHA-384 by FIPS 180-4 and the verification of an ECDSA signature
on curve P-384 by FIPS 186-5. The constants of both standards are computed from their definitions or stated here
(PRESUMED: the spec names the standards and does not repeat them). -/

namespace Sys2Proof.Machine

/-- A list of bytes as a big-endian number. -/
def beNat (l : List Byte) : Nat := l.foldl (fun a b => a * 256 + b.toNat) 0

/-- The largest integer whose `k`-th power does not exceed `n`, below 2^`bits`. -/
def iroot (k n : Nat) : Nat → Nat
  | 0 => 0
  | bits + 1 =>
    let r := iroot k (n / 2 ^ k) bits
    if (2 * r + 1) ^ k ≤ n then 2 * r + 1 else 2 * r

/-- The first 80 primes. -/
def primes80 : List Nat :=
  (List.range 410).filter (fun n => decide (2 ≤ n) && (List.range n).all (fun d => decide (d < 2) || n % d != 0))

/-! SHA-384. -/

abbrev W64 : Type := BitVec 64

/-- The first 64 bits of the fractional parts of the cube roots of the first 80 primes. -/
def shaK : List W64 := primes80.map (fun p => BitVec.ofNat 64 (iroot 3 (p * 2 ^ 192) 68))

/-- The first 64 bits of the fractional parts of the square roots of the 9th to 16th primes. -/
def shaInit : List W64 := ((primes80.drop 8).take 8).map (fun p => BitVec.ofNat 64 (iroot 2 (p * 2 ^ 128) 68))

/-- The message schedule is extended by `n` words; the list holds it newest first. -/
def shaSchedule : Nat → List W64 → List W64
  | 0, w => w
  | n + 1, w =>
    let a := w.getD 1 0
    let b := w.getD 14 0
    let s1 := a.rotateRight 19 ^^^ a.rotateRight 61 ^^^ (a >>> 6)
    let s0 := b.rotateRight 1 ^^^ b.rotateRight 8 ^^^ (b >>> 7)
    shaSchedule n ((s1 + w.getD 6 0 + s0 + w.getD 15 0) :: w)

/-- One round on the working variables a … h. -/
def shaRound (v : List W64) (kw : W64 × W64) : List W64 :=
  match v with
  | [a, b, c, d, e, f, g, h] =>
    let s1 := e.rotateRight 14 ^^^ e.rotateRight 18 ^^^ e.rotateRight 41
    let t1 := h + s1 + ((e &&& f) ^^^ (~~~e &&& g)) + kw.1 + kw.2
    let s0 := a.rotateRight 28 ^^^ a.rotateRight 34 ^^^ a.rotateRight 39
    let t2 := s0 + ((a &&& b) ^^^ (a &&& c) ^^^ (b &&& c))
    [t1 + t2, a, b, c, d + t1, e, f, g]
  | v => v

/-- One block of 128 bytes. -/
def shaBlock (h : List W64) (blk : List Byte) : List W64 :=
  let w := (List.range 16).map (fun i => BitVec.ofNat 64 (beNat ((blk.drop (8 * i)).take 8)))
  let v := (shaK.zip (shaSchedule 64 w.reverse).reverse).foldl shaRound h
  (h.zip v).map (fun p => p.1 + p.2)

/-- The blocks of a padded message, `n` of them. -/
def shaBlocks : Nat → List W64 → List Byte → List W64
  | 0, h, _ => h
  | n + 1, h, m => shaBlocks n (shaBlock h (m.take 128)) (m.drop 128)

/-- SHA-384 of a message, as a number of 384 bits. -/
def sha384 (m : List Byte) : Nat :=
  let len := m.length
  let pad := (239 - len % 128) % 128
  let tail := (List.range 16).map (fun i => BitVec.ofNat 8 (8 * len / 256 ^ (15 - i)))
  let all := m ++ [0x80#8] ++ List.replicate pad 0#8 ++ tail
  let h := shaBlocks (all.length / 128) shaInit all
  (h.take 6).foldl (fun a w => a * 2 ^ 64 + w.toNat) 0

/-! Curve P-384. -/

def p384 : Nat := 2 ^ 384 - 2 ^ 128 - 2 ^ 96 + 2 ^ 32 - 1
def n384 : Nat := 0xFFFFFFFFFFFFFFFFFFFFFFFFFFFFFFFFFFFFFFFFFFFFFFFFC7634D81F4372DDF581A0DB248B0A77AECEC196ACCC52973
def b384 : Nat := 0xB3312FA7E23EE7E4988E056BE3F82D19181D9C6EFE8141120314088F5013875AC656398D8A2ED19D2A85C8EDD3EC2AEF
def gx384 : Nat := 0xAA87CA22BE8B05378EB1C71EF320AD746E1D3B628BA79B9859F741E082542A385502F25DBF55296C3A545E3872760AB7
def gy384 : Nat := 0x3617DE4A96262C6F5D9E98BF9292DC29F8F41DBD289A147CE9DA3113B5F0B8C00A60B1CE1D7E819D7A431D7C90EA0E5F

/-- `b` to the power `e` modulo `m`, over the low `bits` bits of `e`. -/
def powMod (m b e : Nat) : Nat → Nat
  | 0 => 1 % m
  | bits + 1 =>
    let r := powMod m (b * b % m) (e / 2) bits
    if e % 2 = 1 then b * r % m else r

/-- The inverse modulo the prime `m`. -/
def invMod (m a : Nat) : Nat := powMod m (a % m) (m - 2) 384

/-- The difference modulo `m`. -/
def subMod (m a b : Nat) : Nat := (a % m + (m - b % m)) % m

/-- The sum of two points; `none` is the point at infinity. -/
def pointAdd : Option (Nat × Nat) → Option (Nat × Nat) → Option (Nat × Nat)
  | none, q => q
  | p, none => p
  | some (x1, y1), some (x2, y2) =>
    let third (l : Nat) : Option (Nat × Nat) :=
      let x3 := subMod p384 (subMod p384 (l * l) x1) x2
      some (x3, subMod p384 (l * subMod p384 x1 x3) y1)
    if x1 = x2 then
      if y1 = y2 ∧ y1 ≠ 0 then third (subMod p384 (3 * x1 * x1) 3 * invMod p384 (2 * y1) % p384) else none
    else third (subMod p384 y2 y1 * invMod p384 (subMod p384 x2 x1) % p384)

/-- `k` times a point, over the low `bits` bits of `k`. -/
def pointMul (k : Nat) (p : Option (Nat × Nat)) : Nat → Option (Nat × Nat)
  | 0 => none
  | bits + 1 =>
    let q := pointMul (k / 2) (pointAdd p p) bits
    if k % 2 = 1 then pointAdd p q else q

/-- The verification of the signature (`r`, `s`) of a message with digest `e` under the public key (`x`, `y`). -/
def ecdsaOk (e r s x y : Nat) : Bool :=
  if r = 0 ∨ s = 0 ∨ n384 ≤ r ∨ n384 ≤ s ∨ p384 ≤ x ∨ p384 ≤ y ∨
      y * y % p384 ≠ (subMod p384 (x * x * x) (3 * x) + b384) % p384 then false
  else
    let w := invMod n384 s
    match pointAdd (pointMul (e * w % n384) (some (gx384, gy384)) 384) (pointMul (r * w % n384) (some (x, y)) 384) with
    | some (px, _) => px % n384 == r
    | none => false

/-- A signed object is accepted (R326, Table 13.5): the digest of its public key is that of a fuse slot that is not
revoked, and the signature over header and body verifies. `signed` is the header and the body, `env` the envelope. -/
def objectOk (signed env : List Byte) : Bool :=
  let idx := (env.headD 0).toNat
  let key := (env.drop 16).take 97
  decide (idx < 4) && !Config.fuseRevoked idx && Config.fuseDigest idx == sha384 key && key.headD 0 == 4#8 &&
    ecdsaOk (sha384 signed) (beNat ((env.drop 128).take 48)) (beNat ((env.drop 176).take 48))
      (beNat ((key.drop 1).take 48)) (beNat ((key.drop 49).take 48))

end Sys2Proof.Machine
end

