-- ==== Sys2Proof/Machine/HoardStore.lean ====
section
/-! DEFINITION. The Hoard's contents (chapter 13): bytes, words and rows (R318–R321), wear and retention (R346–R353), the
configuration store (R343–R345), and the frames of the frame engine. -/

namespace Sys2Proof.Machine

/-! Bytes. -/

abbrev mib : Nat := 0x100000
abbrev hoardSize : Nat := 0x3000000

/-- Bytes as a little-endian number, and a number as `n` bytes (R10). -/
def leNat (l : List Byte) : Nat := l.foldr (fun b a => b.toNat + 256 * a) 0
def leBytes (n v : Nat) : List Byte := (List.range n).map (fun i => BitVec.ofNat 8 (v / 256 ^ i))

/-- The next multiple of `m` from `n` up. -/
def roundUp (m n : Nat) : Nat := (n + m - 1) / m * m

/-- A list of bytes with zeros up to `n` of them. -/
def padBytes (n : Nat) (l : List Byte) : List Byte := l ++ List.replicate (n - l.length) 0#8

/-- What an unlisted byte reads: the Trail is 0 at manufacture (R458); the configuration store lists no record at
manufacture, so that its items have their factory values; the rest is as manufacture left it. -/
def hoardDefault (o : Nat) : Byte :=
  if (32 * mib ≤ o ∧ o < 40 * mib) ∨ (40 * mib ≤ o ∧ o < 41 * mib) then 0 else Config.hoardByte o

/-- The row that holds row `r`: itself, or the spare that replaced it (R347). -/
def Block.hRow (s : Block) (r : Nat) : Nat :=
  match Bank.get (fun _ => none) s.hoard.wear.remap r with
  | some k => 11264 + k
  | none => r

/-- Where the byte at Hoard offset `o` is stored. -/
def Block.hPhys (s : Block) (o : Nat) : Nat := 4096 * s.hRow (o / 4096) + o % 4096

/-- The byte at Hoard offset `o`. The metadata region's layout is not given (R346). -/
def Block.hByte (s : Block) (o : Nat) : Byte :=
  if 41 * mib ≤ o ∧ o < 42 * mib then Config.metaByte s.hoard.flushes o
  else Bank.get hoardDefault s.hoard.bytes (s.hPhys o)

/-- `n` bytes from offset `o`, and the number they hold. -/
def Block.hBytes (s : Block) (o n : Nat) : List Byte := (List.range n).map (fun i => s.hByte (o + i))
def Block.hNat (s : Block) (o n : Nat) : Nat := leNat (s.hBytes o n)

/-- The 32-byte word at offset `o` reads UE (R319). -/
def Block.hUe (s : Block) (o : Nat) : Bool := Bank.get (fun _ => false) s.hoard.ue (s.hPhys o / 32)

/-- Some word of the `n` bytes from `o` reads UE. -/
def Block.hBad (s : Block) (o n : Nat) : Bool := (List.range ((o % 32 + n + 31) / 32)).any (fun i => s.hUe (o / 32 * 32 + 32 * i))

/-- The Hoard's contents change. -/
def Block.setHoard (s : Block) (h : HoardSt) : Block := (s.withHoard (h))

/-- The Hoard runs: HOARD is powered with CORE and out of reset (R354). -/
def Block.hoardUp (s : Block) : Bool := s.coreOn && !s.busySS 15

/-- Firmware can use the Hoard. -/
def Block.fwHoard (s : Block) : Bool := s.fwUp && s.hoardUp

/-- The temperature of R350, 0.125 °C: the higher of IC26 (sensor 38) and DEN_TJ. -/
def Block.hoardTemp (s : Block) : Int :=
  let tj := signed 16 (s.get Reg.DEN_TJ_DEN_TJ)
  match Bank.get (fun _ => ⟨0, true⟩) s.den.sensors 38 with
  | ⟨r, false⟩ => if s.domainOn 30 then max tj r.toInt else tj
  | _ => tj

/-- VDD_NVM is out of range (R468). -/
def Block.nvmOut (s : Block) : Bool := Bank.get (fun _ => false) s.power.railEffect 5

/-- Hoard writes are deferred (R352, R468): a deferral has begun and has not ended, or its condition holds. -/
def Block.deferring (s : Block) : Bool :=
  s.hoard.deferOn || decide (960 ≤ s.hoardTemp) || s.nvmOut

/-! Regions and wear (Table 13.4, R346, R347). -/

/-- The region of an offset: 0 and 1 firmware slots, 2 factory image, 3 and 4 working images, 5 journal, 6 Trail,
7 configuration store, 8 metadata, 9 library, 10 parameters, 11 spare rows. -/
def hoardRegion (o : Nat) : Nat :=
  if o < 2 * mib then 0 else if o < 4 * mib then 1 else if o < 12 * mib then 2 else if o < 20 * mib then 3
  else if o < 28 * mib then 4 else if o < 32 * mib then 5 else if o < 40 * mib then 6 else if o < 41 * mib then 7
  else if o < 42 * mib then 8 else if 2 * o < 87 * mib then 9 else if o < 44 * mib then 10 else 11

/-- The rows of a region. -/
def regionRows (g : Nat) : List Nat := (List.range 12288).filter (fun r => hoardRegion (4096 * r) == g)

/-- The write counter of the row that holds row `r`. -/
def Block.rowCount (s : Block) (r : Nat) : Nat := Bank.get (fun _ => 0) s.hoard.wear.rows (s.hRow r)

def Block.setWear (s : Block) (w : Wear) : Block := s.setHoard { s.hoard with wear := w }

/-- HD_WEAR shows the spares in use and the highest counter of a row in use. -/
def Block.showWear (s : Block) : Block :=
  let used := (s.hoard.wear.remap.filter (fun p => p.2.isSome)).length
  (s.put Reg.HD_WEAR_SPARES_USED used).put Reg.HD_WEAR_MAXCOUNT
    (min (2 ^ 20 - 1) ((s.hoard.wear.rows.filter (fun p => s.hRow p.1 == p.1)).foldl (fun a p => max a p.2) 0))

/-- A lifetime counter rises (R353). -/
def Block.life (s : Block) (i k : Nat) : Block :=
  let w := s.hoard.wear
  s.setWear { w with life := Bank.set (fun _ => 0) w.life i ((Bank.get (fun _ => 0) w.life i + k) % 2 ^ 64) }

/-- Row `r` is retired to a free spare, or, where none is free, its region becomes read-only (R347). -/
def Block.retireRow (s : Block) (r : Nat) : Block :=
  let w := s.hoard.wear
  let used := (w.remap.filter (fun p => p.2.isSome)).length
  if used < 1024 then
    let data := (List.range 4096).map (fun i => Bank.get hoardDefault s.hoard.bytes (4096 * s.hRow r + i))
    let s := s.setHoard { s.hoard with
      bytes := Bank.putRun hoardDefault s.hoard.bytes (4096 * (11264 + used)) data
      wear := { w with remap := Bank.set (fun _ => none) w.remap r (some used) } }
    let s := (s.showWear.put Reg.HD_STATUS_WEAR_SEEN 1).raise 872 (r / 8 * 4096)
    if used + 1 = 921 then (s.put Reg.HD_STATUS_SPARE_LOW_SEEN 1).raise 873 (r / 8 * 4096) else s
  else
    let g := hoardRegion (4096 * r)
    let s := s.setHoard { s.hoard with readOnly := if s.hoard.readOnly.elem g then s.hoard.readOnly else s.hoard.readOnly ++ [g] }
    s.put Reg.HD_STATUS_READ_ONLY 1

/-- Before a write of row `r`: a row whose counter has reached 950,000 is retired (R347). -/
def Block.readyRow (s : Block) (r : Nat) : Block := if s.rowCount r < 950000 then s else s.retireRow r

/-- Row `r` takes writes: its region is not read-only; a read-only Trail still takes first-fault records (R347), and the
factory image none (R21). -/
def Block.rowTakes (s : Block) (r : Nat) : Bool :=
  let g := hoardRegion (4096 * r)
  g != 2 && (!s.hoard.readOnly.elem g || (g == 6 && decide (r < 8192 + 16) && decide (s.rowCount r < 950000)))

/-- A region's age is 0 once every row of it has been rewritten (R350). -/
def Block.rewrote (s : Block) (r : Nat) : Block :=
  let g := hoardRegion (4096 * r)
  let fresh := Bank.set (fun _ => false) s.hoard.fresh r true
  if (regionRows g).all (fun q => Bank.get (fun _ => false) fresh q) then
    let w := s.hoard.wear
    s.setHoard { s.hoard with
      fresh := fresh.filter (fun p => hoardRegion (4096 * p.1) != g), wear := { w with ages := Bank.erase w.ages g } }
  else s.setHoard { s.hoard with fresh := fresh }

/-- A write pass over the bytes from offset `o`, all of one row. -/
def Block.writeRow (s : Block) (o : Nat) (bs : List Byte) : Block :=
  let r := o / 4096
  let s := s.readyRow r
  if !s.rowTakes r then s
  else
    let w := s.hoard.wear
    let p := s.hPhys o
    let s := s.setHoard { s.hoard with
      bytes := Bank.putRun hoardDefault s.hoard.bytes p bs
      ue := s.hoard.ue.filter (fun u => !(decide (p ≤ 32 * u.1) && decide (32 * u.1 + 32 ≤ p + bs.length)))
      wear := { w with rows := Bank.set (fun _ => 0) w.rows (s.hRow r) (s.rowCount r + 1) } }
    ((s.rewrote r).showWear).life 11 bs.length

/-- A write pass from offset `o`, row by row; `fuel` bounds the rows. -/
def Block.hWriteFuel : Nat → Block → Nat → List Byte → Block
  | 0, s, _, _ => s
  | fuel + 1, s, o, bs =>
    if bs = [] then s
    else
      let n := 4096 - o % 4096
      Block.hWriteFuel fuel (s.writeRow o (bs.take n)) (o + n) (bs.drop n)

/-- Firmware writes bytes from offset `o` (R320). -/
def Block.hWrite (s : Block) (o : Nat) (bs : List Byte) : Block := s.hWriteFuel (bs.length / 4096 + 2) o bs

/-! Image headers (Table 13.7, R331). -/

def imageBase (k : Nat) : Nat := if k = 0 then 4 * mib else if k = 1 then 12 * mib else 20 * mib

def Block.imageValid (s : Block) (k : Nat) : Bool :=
  let o := imageBase k
  s.hNat o 4 == 0x4E4C4E49 && !s.hBad o 256 && s.hNat (o + 252) 4 == (crc32 (s.hBytes o 252)).toNat

def Block.imageSeq (s : Block) (k : Nat) : Nat := s.hNat (imageBase k + 8) 4
def Block.imageCovered (s : Block) (k : Nat) : Nat := s.hNat (imageBase k + 16) 8
def Block.imageJofs (s : Block) (k : Nat) : Nat := s.hNat (imageBase k + 24) 4
def Block.imageKsig (s : Block) (k t : Nat) : Nat := s.hNat (imageBase k + 32 + 2 * t) 2

/-- The current image: the valid working image of higher SEQ, else the factory image. -/
def Block.currentImage (s : Block) : Nat :=
  match s.imageValid 1, s.imageValid 2 with
  | true, true => if s.imageSeq 1 < s.imageSeq 2 then 2 else 1
  | true, false => 1
  | false, true => 2
  | false, false => 0

/-! The configuration store (R343). -/

/-- The offset of word `w` of half `h`. -/
def cfgAt (h w : Nat) : Nat := 40 * mib + 0x80000 * h + 32 * w

/-- Half `h` is valid: MAGIC, and the CRC of its header. -/
def Block.halfOk (s : Block) (h : Nat) : Bool :=
  s.hNat (cfgAt h 0) 2 == 0x4353 && !s.hBad (cfgAt h 0) 32 && s.hNat (cfgAt h 0 + 28) 4 == (crc32 (s.hBytes (cfgAt h 0) 28)).toNat

def Block.halfSeq (s : Block) (h : Nat) : Nat := s.hNat (cfgAt h 0 + 4) 4

/-- The live half. -/
def Block.liveHalf (s : Block) : Option Nat :=
  if s.halfOk 0 ∧ (!s.halfOk 1 ∨ s.halfSeq 1 < s.halfSeq 0) then some 0 else if s.halfOk 1 then some 1 else none

/-- The words of a record with `len` bytes of value. -/
def itemWords (len : Nat) : Nat := (12 + len + 31) / 32

/-- A record found in a half: its item, GEN, value's length and place. -/
structure ItemRec where
  item : Nat
  gen : Nat
  len : Nat
  at' : Nat
  deriving DecidableEq, Repr

/-- A valid record starts at word `w` of half `h`: its CRC matches and it holds no UE word. -/
def Block.itemAt (s : Block) (h w : Nat) : Option ItemRec :=
  let o := cfgAt h w
  let len := s.hNat (o + 2) 2
  let n := 32 * itemWords len
  if s.hNat o 2 ≠ 0 ∧ w + itemWords len ≤ 16384 ∧ !s.hBad o n ∧
      s.hNat (o + n - 4) 4 = (crc32 (s.hBytes o (n - 4) ++ leBytes 4 0)).toNat then
    some ⟨s.hNat o 2, s.hNat (o + 4) 4, len, o⟩
  else none

/-- The valid records of half `h` from word `w` on, and the first word after the last of them. -/
def Block.scanItems (s : Block) (h : Nat) : Nat → Nat → Nat → List ItemRec → List ItemRec × Nat
  | 0, _, last, acc => (acc, last)
  | fuel + 1, w, last, acc =>
    match s.itemAt h w with
    | some r => Block.scanItems s h fuel (w + itemWords r.len) (w + itemWords r.len) (acc ++ [r])
    | none => Block.scanItems s h fuel (w + 1) last acc

/-- The records of the live half, and its first free word. -/
def Block.liveItems (s : Block) : List ItemRec × Nat :=
  match s.liveHalf with
  | some h => s.scanItems h 16384 1 1 []
  | none => ([], 1)

/-- The record of highest GEN among those of an item. -/
def newest (l : List ItemRec) (it : Nat) : Option ItemRec :=
  (l.filter (fun r => r.item == it)).foldl (fun a r =>
    match a with
    | some b => if b.gen < r.gen then some r else a
    | none => some r) none

/-- The items written at manufacture only (Table 13.10), whose layout the spec does not give: the node map of trunk `t`, its
64 KIND_DEF words, its 64 KIND_LIM words and a byte of kind for each leaf; and the stored reference ratios (R112) of IC0,
IC1 and IC2, four bytes of ratio × 2^32 for each whole °C from −40 to 125. -/
def factoryItem (it : Nat) : Option (List Byte) :=
  if 0x700 ≤ it ∧ it ≤ 0x70B then
    let t := it - 0x700
    let words (f : Nat → Word) : List Byte := (List.range 64).flatMap (fun k => leBytes 4 (f (64 * t + k)).toNat)
    some (words Config.mapDef ++ words Config.mapLim ++ (List.range 16384).map (fun l => BitVec.ofNat 8 (mapKindOf t l)))
  else if it = 0x710 then
    some ((List.range 3).flatMap (fun c => (List.range 166).flatMap (fun (i : Nat) => leBytes 4 (Config.storedRatio c (8 * ((i : Int) - 40))))))
  else none

/-- The stored value of an item, with its GEN. -/
def Block.item (s : Block) (it : Nat) : Option (Nat × List Byte) :=
  match newest s.liveItems.1 it with
  | some r => some (r.gen, s.hBytes (r.at' + 8) r.len)
  | none => (factoryItem it).map (fun v => (1, v))

/-- A record's bytes, closed by its CRC. -/
def itemBytes (it gen : Nat) (v : List Byte) : List Byte :=
  let n := 32 * itemWords v.length
  let b := padBytes (n - 4) (leBytes 2 it ++ leBytes 2 v.length ++ leBytes 4 gen ++ v)
  b ++ leBytes 4 (crc32 (b ++ leBytes 4 0)).toNat

/-- The header of a half. -/
def halfHeader (seq : Nat) : List Byte :=
  let b := padBytes 28 (leBytes 2 0x4353 ++ leBytes 2 0 ++ leBytes 4 seq)
  b ++ leBytes 4 (crc32 b).toNat

/-- Every item of the live half is copied into the other half, whose header with the next HSEQ is written last. -/
def Block.copyHalf (s : Block) : Block :=
  let h := s.liveHalf.getD 1
  let seq := if s.liveHalf.isSome then s.halfSeq h else 0
  let recs := s.liveItems.1
  let its := (recs.map (·.item)).eraseDups
  let (s, _) := its.foldl (fun (a : Block × Nat) it =>
    match newest recs it with
    | some r =>
      let b := itemBytes it r.gen (s.hBytes (r.at' + 8) r.len)
      (a.1.hWrite (cfgAt (1 - h) a.2) b, a.2 + b.length / 32)
    | none => a) (s, 1)
  s.hWrite (cfgAt (1 - h) 0) (halfHeader (seq + 1))

/-- An item is written (R343): the new GEN and the state. -/
def Block.writeItem (s : Block) (it : Nat) (v : List Byte) : Nat × Block :=
  let s := if s.liveHalf.isSome ∧ s.liveItems.2 + itemWords v.length ≤ 16384 then s else s.copyHalf
  let gen := (match s.item it with
    | some (g, _) => g
    | none => 0) + 1
  let s := s.hWrite (cfgAt (s.liveHalf.getD 0) s.liveItems.2) (itemBytes it gen v)
  (gen, s.setHoard { s.hoard with items := s.now :: s.hoard.items })

/-- At most 4,096 item writes in any 24 h (R345): `n` more are allowed. -/
def Block.itemsLeft (s : Block) (n : Nat) : Bool :=
  decide ((s.hoard.items.filter (fun t => s.now < t + 86400 * 10 ^ 9)).length + n ≤ 4096)

/-- A refusal by R345 is reported. -/
def Block.configRefused (s : Block) : Block := s.raise 879 0

/-- The stored value of an item as a number, or its factory value. -/
def Block.itemNat (s : Block) (it factory : Nat) : Nat :=
  match s.item it with
  | some (_, v) => leNat v
  | none => factory

/-- The commit settings, item 0x0600: COMMIT_MIN in minutes, COMMIT_FILL in percent, COMMIT_MAX in hours, two bytes each
(R336; the layout is the model's). -/
def Block.commitItem (s : Block) : Nat := s.itemNat 0x600 (10 + 25 * 2 ^ 16 + 24 * 2 ^ 32)
def Block.commitMin (s : Block) : Nat := s.commitItem % 65536
def Block.commitFill (s : Block) : Nat := s.commitItem / 65536 % 65536
def Block.commitMax (s : Block) : Nat := s.commitItem / 2 ^ 32 % 65536

/-- The step pool and the calibration area, item 0x0601: two words as CAL_SETUP gives them (R285, R287, R423). -/
def Block.calItem (s : Block) : Nat := s.itemNat 0x601 (0xFFFFFF00 + (0x400 + 0x200 * 2 ^ 11) * 2 ^ 32)
def Block.stepPool (s : Block) : List Nat := (List.range 32).filter (fun i => bitOf s.calItem i)

/-- The registers that follow an item at once (Tables 13.10 and 17.7). -/
def Block.applyItem (s : Block) (it : Nat) : Block :=
  match s.item it with
  | none => s
  | some (_, v) =>
    let word (i : Nat) : Word := BitVec.ofNat 32 (leNat ((v.drop (4 * i)).take 4))
    let words (s : Block) (n base : Nat) : Block := s.each (List.range n) (fun s i => s.writeFields (base + 4 * i) (word i))
    match it with
    | 0x600 => s.put Reg.HD_COMMIT_COMMIT_MIN (leNat (v.take 2))
    | 0x602 => (s.put Reg.RST_CFG_STUCK_S (leNat (v.take 1))).put Reg.RST_CFG_NEVER (leNat (v.take 1) / 128)
    | 0x803 => s.each (List.range 24) (fun s i => s.put (Reg.THERM_HI i) (leNat ((v.drop (2 * i)).take 2)))
    | 0x820 => s.each (List.range 65) (fun s g => s.writeEvClass g (word g))
    | 0x821 => words s 33 (Reg.EV_EN_A 0)
    | 0x822 => words s 33 (Reg.EV_EN_B 0)
    | 0x823 => words s 33 (Reg.EV_EN_P 0)
    | 0x824 => words s 33 (Reg.EV_EN_T 0)
    | 0x825 => words s 4 (Reg.EV_BUDGET 0)
    | _ => s

/-- CONFIG_ITEM_WRITE: firmware writes an item (R343–R345). Those written at manufacture only are not written. -/
def doConfigItemWrite (it : Nat) (v : List Byte) (s : Block) : Block :=
  if !s.fwHoard ∨ s.deferring ∨ it = 0 ∨ (0x700 ≤ it ∧ it ≤ 0x710) ∨ 65535 < v.length then s
  else if !s.itemsLeft 1 then s.configRefused
  else ((s.writeItem it v).2).applyItem it

/-! Frames (R320, Table 13.1). -/

def Block.macroSt (s : Block) (m : Nat) : Macro := Bank.get (fun _ => Macro.reset) s.hoard.macros m

def Block.setMacro (s : Block) (m : Nat) (v : Macro) : Block :=
  s.setHoard { s.hoard with macros := Bank.set (fun _ => Macro.reset) s.hoard.macros m v }

/-- The Hoard offset of macro address `a` of macro `m` (R318). -/
def macroOffset (m a : Nat) : Nat := 32768 * (a / 4096) + 4096 * m + a % 4096

/-- A frame's span: aligned to 32, 32–4,096 bytes, within one row. -/
def spanOk (a n : Nat) : Bool :=
  a % 32 == 0 && n % 32 == 0 && decide (32 ≤ n) && decide (a % 4096 + n ≤ 4096) && decide (a + n ≤ 6 * mib)

/-- MACRO_READ: `n` bytes at address `a` of macro `m`, of which `ce` words were corrected; the words `bad`, by number in
the frame, are found uncorrectable and read UE until they are written (R319). -/
def doMacroRead (m a n ce : Nat) (bad : List Nat) (s : Block) : Block :=
  if !s.hoardUp ∨ !spanOk a n ∨ 8 ≤ m then s
  else
    let o := macroOffset m a
    let s := s.setHoard { s.hoard with
      ue := bad.foldl (fun u i => if 32 * i < n then Bank.set (fun _ => false) u (s.hPhys o / 32 + i) true else u) s.hoard.ue }
    let ues := ((List.range (n / 32)).filter (fun i => s.hUe (o + 32 * i))).length
    let q := s.macroSt m
    let old := s.get (Reg.HD_MACRO_CE m)
    let s := s.setMacro m { q with data := s.hBytes o n, ce := q.ce || decide (0 < ce), ue := q.ue || decide (0 < ues) }
    let s := (s.bump (Reg.HD_MACRO_CE m) ce).bump (Reg.HD_MACRO_UE m) ues
    let s := if old / 256 < s.get (Reg.HD_MACRO_CE m) / 256 then s.raise (848 + m) a else s
    if 0 < ues then s.raise (856 + m) a else s

/-- MACRO_WRITE: the words of `bs` at address `a` of macro `m` are programmed, the last of them within 60 ns (R321); `err`
is the write error of the macro. It is firmware that writes (R20): not while the Bear core does not run, nor while writes are
deferred (R352), and never the factory image or the working image that is current (R21). -/
def doMacroWrite (m a : Nat) (bs : List Byte) (err : Bool) (s : Block) : Block :=
  if !s.fwHoard ∨ !spanOk a bs.length ∨ 8 ≤ m ∨ s.deferring ∨ hoardRegion (macroOffset m a) = s.currentImage + 2 then s
  else
    let o := macroOffset m a
    let lastO := o + bs.length - 32
    let old := s.hBytes lastO 32
    let s := s.writeRow o bs
    s.setMacro m { s.macroSt m with prog := some (lastO, old, s.now + 60), werr := (s.macroSt m).werr || err }

/-- MACRO_STATUS: the status byte; its flags count from the last one. -/
def doMacroStatus (m : Nat) (s : Block) : Block :=
  if !s.hoardUp ∨ 8 ≤ m then s
  else
    let q := s.macroSt m
    let busy := match q.prog with
      | some (_, _, t) => decide (s.now < t)
      | none => false
    s.setMacro m { q with
      data := [BitVec.ofNat 8 (busy.toNat + 2 * q.ce.toNat + 4 * q.ue.toNat + 8 * q.werr.toNat)]
      ce := false, ue := false, werr := false, prog := if busy then q.prog else none }

/-- Programming in progress on macro `m` ends: the word holds its old data, its new data, or data that reads UE (R319). -/
def Block.cutMacro (s : Block) (m : Nat) : Block :=
  let q := s.macroSt m
  match q.prog with
  | none => s
  | some (o, old, t) =>
    let s := s.setMacro m { q with prog := none }
    if t ≤ s.now then s
    else
      let (k, s) := s.draw
      match Config.freeNat k % 3 with
      | 0 => s.setHoard { s.hoard with bytes := Bank.putRun hoardDefault s.hoard.bytes (s.hPhys o) old }
      | 1 => s
      | _ => s.setHoard { s.hoard with ue := Bank.set (fun _ => false) s.hoard.ue (s.hPhys o / 32) true }

/-- MACRO_RESET. -/
def doMacroReset (m : Nat) (s : Block) : Block := if s.hoardUp ∧ m < 8 then s.cutMacro m else s

/-- Every macro's programming ends (R319, R354). -/
def Block.cutHoard (s : Block) : Block := s.each (List.range 8) Block.cutMacro

/-- MACRO_IDENT: 8 bytes of identity, which the spec does not give. -/
def doMacroIdent (m : Nat) (s : Block) : Block :=
  if s.hoardUp ∧ m < 8 then
    let (k, s) := s.drawN 8
    s.setMacro m { s.macroSt m with data := (List.range 8).map (fun i => Config.freeByte (k + i)) }
  else s

/-! Wear metadata, forecast, retention (R346, R348, R350, R351). -/

/-- The older metadata copy is written (R346): it counts its own write. -/
def Block.flush (s : Block) : Block :=
  let copy := if s.hoard.flushes % 2 = 0 then 41 * mib else 41 * mib + mib / 2
  let s := s.hWrite copy (List.replicate (mib / 2) 0#8)
  s.setHoard { s.hoard with
    flushed := s.hoard.wear, flushes := s.hoard.flushes + 1, flushAt := s.now
    bytes := s.hoard.bytes.filter (fun p => hoardRegion p.1 != 8) }

/-- WEAR_FLUSH: 4 h have passed since the last flush. -/
def doWearFlush (s : Block) : Block :=
  if s.fwHoard ∧ !s.deferring ∧ s.hoard.flushAt + 14400 * 10 ^ 9 ≤ s.now then s.flush else s

/-- At a cold start or a return of CORE the wear record is read back, and every journal and Trail row is charged with the most writes since
the last flush: 12 at the factory COMMIT_MIN of 10 min for the journal, 17 for the Trail (R346). The forecast counts growth from
there (R348). -/
def Block.readWear (s : Block) : Block :=
  let w := s.hoard.flushed
  let more := (120 + s.commitMin - 1) / (max 1 s.commitMin)
  let s := s.setWear w
  let rows := (regionRows 5).foldl (fun b r => Bank.set (fun _ => 0) b (s.hRow r) (Bank.get (fun _ => 0) b (s.hRow r) + more)) w.rows
  let rows := (regionRows 6).foldl (fun b r => Bank.set (fun _ => 0) b (s.hRow r) (Bank.get (fun _ => 0) b (s.hRow r) + 17)) rows
  let s := s.setHoard { s.hoard with wear := { w with rows := rows }, history := [(s.now, rows)] }
  s.showWear

/-- Days until a row with counter `c` that grows by `g` in `d` days reaches 950,000; none when it does not grow. -/
def daysLeft (c g d : Nat) : Option Nat := if g = 0 then none else some (ceilDiv ((950000 - c) * d) g)

/-- A number put in its place among numbers in rising order. -/
def insertNat (n : Nat) : List Nat → List Nat
  | [] => [n]
  | a :: t => if n ≤ a then n :: a :: t else a :: insertNat n t

/-- The number at place `i` of some numbers in rising order. -/
def nthLeast (l : List Nat) (i : Nat) : Option Nat := (l.foldr insertNat [])[i]?

/-- HD_FORECAST shows the last forecast. -/
def Block.showDays (s : Block) : Block :=
  (s.put Reg.HD_FORECAST_DAYS_ROW s.hoard.days.1).put Reg.HD_FORECAST_DAYS_SPARE s.hoard.days.2

/-- WEAR_FORECAST: every 24 h, from the growth of the last 30 days or of the time since cold start (R348). -/
def doWearForecast (s : Block) : Block :=
  let last := s.hoard.history.headD (0, s.hoard.wear.rows)
  if !s.fwHoard ∨ s.now < last.1 + 86400 * 10 ^ 9 then s
  else
    let base := match s.hoard.history[29]? with
      | some b => b
      | none => s.hoard.history.getLastD (0, s.hoard.wear.rows)
    let d := max 1 ((s.now - base.1) / (86400 * 10 ^ 9))
    let days := (s.hoard.wear.rows.filter (fun p => s.hRow p.1 == p.1)).filterMap (fun p =>
      daysLeft p.2 (p.2 - Bank.get (fun _ => 0) base.2 p.1) d)
    let left := 1024 - s.get Reg.HD_WEAR_SPARES_USED
    let spare := (nthLeast days left).getD 65535
    let low := decide (spare < 365)
    let s := if low ∧ !s.hoard.daysLow then s.raise 871 0 else s
    (s.setHoard { s.hoard with
      daysLow := low, history := ((s.now, s.hoard.wear.rows) :: s.hoard.history).take 30
      days := (min 65535 ((nthLeast days 0).getD 65535), min 65535 spare) }).showDays

/-- 10^9 × 2^(k / 160), to the next lower integer or the one above it: equivalent ns of one second at `k` eighths of a degree
above 105 °C (R350; the rounding is open). -/
def ageGain (k : Int) (d : Nat) : Nat :=
  let n := if 0 ≤ k then 10 ^ 1440 * 2 ^ k.toNat else 10 ^ 1440 / 2 ^ (-k).toNat
  iroot 160 n 36 + Config.freeNat d % 2

/-- One equivalent year in ns. -/
def eqYear : Nat := 31557600 * 10 ^ 9

def Block.age (s : Block) (g : Nat) : Nat := Bank.get (fun _ => 0) s.hoard.wear.ages g

/-- HD_RETENTION shows the factory image's age and the highest of the others, 1/256 equivalent year. -/
def Block.showAges (s : Block) : Block :=
  let show' (n : Nat) : Nat := min 65535 (256 * n / eqYear)
  (s.put Reg.HD_RETENTION_FACT_AGE (show' (s.age 2))).put Reg.HD_RETENTION_MAX_AGE
    (show' (((List.range 12).filter (· ≠ 2)).foldl (fun a g => max a (s.age g)) 0))

/-- A region is refreshed (R351): a working image by a commit, another by rewriting each of its rows. -/
def Block.refresh (s : Block) (g : Nat) : Block :=
  if g = 3 ∨ g = 4 then
    if s.hoard.want.isSome ∨ s.hoard.commit.isSome then s
    else (s.setHoard { s.hoard with want := some .none }).raise 875 0
  else
    let s := s.each (regionRows g) (fun s r => s.writeRow (4096 * r) (s.hBytes (4096 * r) 4096))
    let w := s.hoard.wear
    (s.setHoard { s.hoard with wear := { w with ages := Bank.erase w.ages g } }).raise 875 0

/-- RETENTION_UPDATE: every 1 s, every region ages by the time that has passed (R350), and those at 16 equivalent years are
refreshed (R351). -/
def doRetentionUpdate (s : Block) : Block :=
  if !s.fwHoard ∨ s.now < s.hoard.ageAt + 10 ^ 9 then s
  else
    let (k, s) := s.draw
    let gain := (s.now - s.hoard.ageAt) * ageGain (s.hoardTemp - 840) k / 10 ^ 9
    let s := s.setHoard { s.hoard with ageAt := s.now }
    let w := s.hoard.wear
    let s := s.setWear { w with ages := (List.range 12).foldl (fun b g => Bank.set (fun _ => 0) b g (s.age g + gain)) w.ages }
    let s := if 16 * eqYear ≤ s.age 2 ∧ !s.hoard.warned then
        ((s.setHoard { s.hoard with warned := true }).put Reg.HD_STATUS_RET_SEEN 1).raise 874 0 else s
    let s := if s.deferring then s
      else s.each ((List.range 12).filter (fun g => g ≠ 2 ∧ 16 * eqYear ≤ s.age g)) Block.refresh
    s.showAges

/-! The commands of this file, with the operands that the command table's rows take here. -/

def execMacroRead (m : Fin 8) (a : Fin 0x600000) (n : Fin 4097) (ce : Nat) (bad : List Nat) (s : State) : Out := .next (s.withBlock (doMacroRead m a n ce bad s.toBlock))
def execMacroWrite (m : Fin 8) (a : Fin 0x600000) (bs : List Byte) (err : Bool) (s : State) : Out := .next (s.withBlock (doMacroWrite m a bs err s.toBlock))
def execMacroStatus (m : Fin 8) (s : State) : Out := .next (s.withBlock (doMacroStatus m s.toBlock))
def execMacroReset (m : Fin 8) (s : State) : Out := .next (s.withBlock (doMacroReset m s.toBlock))
def execMacroIdent (m : Fin 8) (s : State) : Out := .next (s.withBlock (doMacroIdent m s.toBlock))
def execConfigItemWrite (it : Fin 65536) (v : List Byte) (s : State) : Out := .next (s.withBlock (doConfigItemWrite it v s.toBlock))
def execWearFlush (s : State) : Out := .next (s.withBlock (doWearFlush s.toBlock))
def execWearForecast (s : State) : Out := .next (s.withBlock (doWearForecast s.toBlock))
def execRetentionUpdate (s : State) : Out := .next (s.withBlock (doRetentionUpdate s.toBlock))

end Sys2Proof.Machine
end

