-- ==== Sys2Proof/Machine/Domains.lean ====
section
/-! DEFINITION. Calibration domains: numbers, records, nodes and code tables (R278–R280, R287, Tables 11.1, 11.3, 11.8,
11.9). -/

namespace Sys2Proof.Machine

/-! Numbers (Table 11.1). -/

/-- The calibration of domain `d`, 1–11; 12 for a host domain, 0 for a reserved number. -/
def domainCal (d : Nat) : Nat :=
  if d < 16 then 1 else if d < 32 then 2 else if d < 48 then 3 else if d < 64 then 4 else if d < 80 then 5
  else if d < 84 then 6 else if d < 96 then 0 else if d < 112 then 7 else if d < 128 then 8 else if d < 144 then 9
  else if d < 192 then 10 else if d < 195 then 11 else if d < 512 then 0 else if d < 1024 then 12 else 0

/-- The base of a calibration's domains. -/
def calBase (c : Nat) : Nat := [0, 0, 16, 32, 48, 64, 80, 96, 112, 128, 144, 192, 512].getD c 0

def domainUnit (d : Nat) : Nat := d - calBase (domainCal d)

/-- Every domain, in order. -/
def domainList : List Nat := (List.range 1024).filter (fun d => domainCal d ≠ 0)

/-! Records (R280, Table 11.3). -/

structure DomRec where
  engine : Nat
  policy : Nat
  sensor : Nat
  delta : Nat
  minGap : Nat
  maxIter : Nat
  param : Nat
  deriving DecidableEq, Repr

/-- The factory placement. A host domain names firmware, no sensor and one iteration (the model's choice); no sensor is 60,
which reads INVALID and which no packet can name. -/
def factoryEngine (d : Nat) : Nat :=
  let u := domainUnit d
  match domainCal d with
  | 5 => 8 + u / 8
  | 6 => 8 + u / 2
  | 7 => 11 + u / 4
  | 8 => 11 + u / 4
  | 10 => 255
  | 11 => 255
  | 12 => 255
  | _ => u / 2

def factorySensor (d : Nat) : Nat :=
  let u := domainUnit d
  match domainCal d with
  | 5 => 48 + u / 2
  | 6 => 48 + 2 * u
  | 8 => 56 + u / 4
  | 10 => if u < 32 then 24 + u / 4 else 32 + (u - 32) / 4
  | 11 => 36
  | 7 => 60
  | 12 => 60
  | _ => 40 + u / 2

def factoryPolicy (d : Nat) : Nat :=
  match domainCal d with
  | 7 => 0x24
  | 11 => 0x0F
  | 12 => 0x06
  | _ => 0x1F

def factoryRecord (d : Nat) : DomRec :=
  { engine := factoryEngine d, policy := factoryPolicy d, sensor := factorySensor d, delta := 24, minGap := 100,
    maxIter := [0, 1, 1, 6, 8, 4, 6, 1024, 16, 1, 1, 1, 1].getD (domainCal d) 1, param := 0 }

/-- The 16 bytes of a record, and the record they hold. -/
def DomRec.bytes (r : DomRec) (d : Nat) : List Byte :=
  leBytes 2 d ++ leBytes 1 r.engine ++ leBytes 1 r.policy ++ leBytes 1 r.sensor ++ leBytes 1 0 ++ leBytes 2 r.delta ++
    leBytes 2 r.minGap ++ leBytes 2 r.maxIter ++ leBytes 4 r.param

def DomRec.ofBytes (l : List Byte) : DomRec :=
  let f (i n : Nat) : Nat := leNat ((l.drop i).take n)
  { engine := f 2 1, policy := f 3 1, sensor := f 4 1, delta := f 6 2, minGap := f 8 2, maxIter := f 10 2, param := f 12 4 }

/-- The record of domain `d`: item 0x0200 + `d`, or the factory record. -/
def Block.domRec (s : Block) (d : Nat) : DomRec :=
  match s.item (0x200 + d) with
  | some (_, v) => DomRec.ofBytes v
  | none => factoryRecord d

/-- Bits of POLICY. -/
def DomRec.tempEn (r : DomRec) : Bool := bitOf r.policy 0
def DomRec.schedEn (r : DomRec) : Bool := bitOf r.policy 1
def DomRec.hostEn (r : DomRec) : Bool := bitOf r.policy 2
def DomRec.atStart (r : DomRec) : Bool := bitOf r.policy 3
def DomRec.atReturn (r : DomRec) : Bool := bitOf r.policy 4
def DomRec.continuous (r : DomRec) : Bool := bitOf r.policy 5
def DomRec.hold (r : DomRec) : Bool := bitOf r.policy 6

/-- A record holds no reserved value, and names no engine for a domain of SC10 or SC11. -/
def recordOk (l : List Byte) (d : Nat) : Bool :=
  let r := DomRec.ofBytes l
  let top := if r.continuous then 65535 else 255
  l.length == 16 && leNat (l.take 2) == d && domainCal d != 0 && (decide (r.engine < 16) || r.engine == 255) &&
    !(decide (10 ≤ domainCal d ∧ domainCal d ≤ 11) && decide (r.engine ≠ 255)) && !bitOf r.policy 7 &&
    decide (r.sensor < 60) && leNat ((l.drop 5).take 1) == 0 && decide (2 ≤ r.delta) && decide (r.delta ≤ 256) &&
    decide (1 ≤ r.maxIter) && decide (r.maxIter ≤ top)

/-! Nodes (Table 11.9). -/

/-- The nodes that a stock calibration writes for a domain: how many, and the `j`-th in ascending address. -/
def ncode (d : Nat) : Nat := [0, 4096, 4096, 4096, 32768, 16384, 4, 1, 1, 2, 0, 0, 0].getD (domainCal d) 0

/-- Node `i` of slice `k` of receive lane `l`, and of cell `c` of transmit lane `l`. -/
def sliceNode (l k i : Nat) : Nat := nodeAddr (l / 2) (16 * (l % 2) + k / 256) (k % 256 * 64 + i)
def cellNode (l c i : Nat) : Nat := nodeAddr (8 + l / 8) (8 * (l % 8) + c / 2048) (c % 2048 * 8 + i)
def serviceNode (w l : Nat) : Nat := nodeAddr (10 + w / 2) (w % 2) l

def domainNode (d j : Nat) : Nat :=
  let u := domainUnit d
  match domainCal d with
  | 1 => sliceNode u j 0
  | 2 => sliceNode u j 1
  | 3 => sliceNode u j 2
  | 4 => sliceNode u (j / 8) (8 + j % 8)
  | 5 => cellNode u j 0
  | 6 => cellNode (4 * u + j) 0 7
  | 7 => serviceNode (u / 4) (64 + u % 4)
  | 8 => serviceNode (u / 4) (128 + u % 4)
  | 9 => sliceNode u 0 (40 + j)
  | _ => 0

def domainNodes (d : Nat) : List Nat := (List.range (ncode d)).map (domainNode d)

/-- The hubs that hold nodes of a domain, as trunk × 64 + hub. -/
def nodeHubs (l : List Nat) : List Nat := (l.map (fun a => 64 * nodeTrunk a + nodeHub a)).eraseDups

/-- The stock domain, and the entry of its code table, that hold a node. -/
def nodeEntry (a : Nat) : Option (Nat × Nat) :=
  let t := nodeTrunk a
  let h := nodeHub a
  let l := nodeLeaf a
  if t < 8 then
    let lane := 2 * t + h / 16
    let k := h % 16 * 256 + l / 64
    let i := l % 64
    if i < 3 then some (16 * i + lane, k)
    else if 8 ≤ i ∧ i < 16 then some (48 + lane, 8 * k + (i - 8))
    else if (i = 40 ∨ i = 41) ∧ k = 0 then some (128 + lane, i - 40)
    else none
  else if t < 10 then
    let lane := 8 * (t - 8) + h / 8
    let c := h % 8 * 2048 + l / 8
    if l % 8 = 0 then some (64 + lane, c)
    else if l % 8 = 7 ∧ c = 0 then some (80 + lane / 4, lane % 4)
    else none
  else if t < 12 then
    let w := 2 * (t - 10) + h
    if 64 ≤ l ∧ l < 68 then some (96 + 4 * w + (l - 64), 0)
    else if 128 ≤ l ∧ l < 132 then some (112 + 4 * w + (l - 128), 0)
    else none
  else none

/-- The timebase code of a domain's step: LINE`w` of the lane's wavelength, LOCAL for SC07 (Tables 2.1 and 11.8). -/
def domainTb (d : Nat) : Nat :=
  let u := domainUnit d
  match domainCal d with
  | 6 => 1 + u
  | 7 => 0
  | _ => 1 + u / 4

/-! Job blocks (R287, Table 11.5). -/

/-- The length of a job block, and where it starts: the blocks stand in domain order, each a multiple of 64 bytes (the
model's choice). -/
def jobLen (d : Nat) : Nat := roundUp 64 (64 + 2 * ncode d)

def Block.jobAt (s : Block) (d : Nat) : Nat :=
  4096 * (s.stock.area % 2048) + (((List.range d).filter (fun e => ncode e ≠ 0)).map jobLen).foldl (· + ·) 0

/-- Firmware writes bytes of the result memory, offset `o` up. -/
def Block.memPut (s : Block) (o : Nat) (bs : List Byte) : Block :=
  (s.withMem (Bank.fill s.mem o (bs.take (memSize - o))))

/-- A byte and a halfword of the result memory as firmware reads them in a job block. -/
def Block.memNat (s : Block) (o n : Nat) : Nat := leNat ((List.range n).map (fun i => (s.byteAt (o + i)).getD (Config.freeByte (o + i))))

/-- Code `j` of domain `d`'s table. -/
def Block.tableCode (s : Block) (d j : Nat) : Nat := s.memNat (s.jobAt d + 64 + 2 * j) 2 % 4096

/-- Domain `d`'s code table holds `codes`. -/
def Block.putTable (s : Block) (d : Nat) (codes : List Nat) (readback : Bool) : Block :=
  let s := s.memPut (s.jobAt d + 64) (codes.flatMap (leBytes 2))
  (s.withStock { s.stock with
    built := Bank.set (fun _ => false) s.stock.built d true
    readback := Bank.set (fun _ => false) s.stock.readback d readback })

/-- Domain `d`'s code table has been built since CORE returned. -/
def Block.tableBuilt (s : Block) (d : Nat) : Bool := Bank.get (fun _ => false) s.stock.built d
def Block.tableReadback (s : Block) (d : Nat) : Bool := Bank.get (fun _ => false) s.stock.readback d

end Sys2Proof.Machine
end

