-- ==== Sys2Proof/Machine/Owl.lean ====
section
/-! DEFINITION. Chapter 12: the Owl windows. An input is given in sixteenths of an LSB of the window's range, as the
window's comparators present it. -/

namespace Sys2Proof.Machine

/-! Classes: 0 none, 1 BELOW, 2 INSIDE, 3 ABOVE (Table 12.12). -/

abbrev BELOW : Nat := 1
abbrev INSIDE : Nat := 2
abbrev ABOVE : Nat := 3

def windowList : List Nat := List.range 256

def Block.owlLo (s : Block) (w : Nat) : Int := signed 10 (s.get (Reg.W_THR_LO w))
def Block.owlHi (s : Block) (w : Nat) : Int := signed 10 (s.get (Reg.W_THR_HI w))
def Block.owlMode (s : Block) (w : Nat) : Nat := s.get (Reg.W_CFG_MODE w)

/-- The class in force of window `w`. -/
def Block.owlClass (s : Block) (w : Nat) : Nat :=
  if !(s.owlWin w).known then 0
  else if s.bit (Reg.OWL_ABOVE (w / 32)) (w % 32) then ABOVE
  else if s.bit (Reg.OWL_BELOW (w / 32)) (w % 32) then BELOW
  else INSIDE

/-- The class by the plain thresholds, from a level in sixteenths of an LSB. -/
def plainClass (lo hi v : Int) : Nat := if v < 16 * lo then BELOW else if 16 * hi < v then ABOVE else INSIDE

/-- The hysteresis in sixteenths of an LSB. -/
def Block.owlHyst (s : Block) (w : Nat) : Int :=
  match s.get (Reg.W_CFG_HYST w) with
  | 0 => 0
  | 1 => 16
  | 2 => 32
  | _ => 64

/-- The class that follows `c` at level `v` (R302). -/
def nextClass (lo hi h v : Int) (c : Nat) : Nat :=
  match c with
  | 1 => if 16 * hi < v then ABOVE else if 16 * lo + h < v then INSIDE else BELOW
  | 2 => plainClass lo hi v
  | 3 => if v < 16 * lo then BELOW else if v < 16 * hi - h then INSIDE else ABOVE
  | _ => plainClass lo hi v

/-- The trip condition of window `w` for a class (R303). -/
def Block.trips (s : Block) (w c : Nat) : Bool :=
  match s.owlMode w with
  | 1 => c == BELOW || c == ABOVE
  | 2 => c == INSIDE
  | _ => false

/-! Suspension (R305). -/

/-- A reference gives the thresholds (R301). -/
def Block.owlRefOk (s : Block) : Bool := s.refSourceOk 0 || s.refSourceOk 1

/-- A self-check of window `w` runs. -/
def Block.owlChecked (s : Block) (w : Nat) : Bool :=
  match s.owl.check with
  | some c => c.window == w
  | none => false

/-- Window `w` must be suspended now, its self-check apart. -/
def Block.owlMust (s : Block) (w : Nat) : Bool :=
  let c := s.get (Reg.W_CFG_INPUT w)
  !s.sourceUp c || !s.domainOn (32 + w / 64) || !s.owlRefOk || decide (s.now < (s.owlWin w).until') ||
    (s.flag (Reg.W_CFG_BLANK_OW w) && s.ballsChecking 48 (codeBalls c))

/-- Window `w` is suspended. -/
def Block.suspended (s : Block) (w : Nat) : Bool :=
  s.bit (Reg.OWL_SUSP (w / 32)) (w % 32) || s.owlMust w || s.owlChecked w

/-- Windows that must be suspended are: their class state becomes undefined. -/
def Block.owlRefresh (s : Block) : Block :=
  s.each windowList (fun s w => if s.owlMust w ∧ !s.bit (Reg.OWL_SUSP (w / 32)) (w % 32) then s.suspend w 0 else s)

/-- Window `w` takes class `c`; the qualification count starts, goes on or breaks off. -/
def Block.setClass (s : Block) (w c : Nat) : Block :=
  let o := s.owlWin w
  let since := if s.trips w c then some (o.since.getD s.now) else none
  let s := s.setOwlWin w { o with known := true, since := since }
  let s := s.setBit (Reg.OWL_ABOVE (w / 32)) (w % 32) (decide (c = ABOVE))
  s.setBit (Reg.OWL_BELOW (w / 32)) (w % 32) (decide (c = BELOW))

/-- A level as compared: beyond the span of the range it lies beyond the nearer end (R300). -/
def spanLevel (v : Int) : Int := clampInt (-(513 * 16)) (512 * 16) v

/-- WINDOW_CLASS_CHANGE: in an OWL cycle window `w` finds its input at level `v`. -/
def doWindowClassChange (w : Nat) (v : Int) (s : Block) : Block :=
  if s.owlMode w = 0 ∨ s.suspended w ∨ !s.coreOn ∨ s.busySS 13 then s
  else s.setClass w (nextClass (s.owlLo w) (s.owlHi w) (s.owlHyst w) (spanLevel v) (s.owlClass w))

/-- SUSPEND_END: window `w`'s suspension ends with its input at level `v`; the class is taken from the plain thresholds. -/
def doSuspendEnd (w : Nat) (v : Int) (s : Block) : Block :=
  if s.owlMust w ∨ s.owlChecked w ∨ !s.coreOn ∨ s.busySS 13 then s
  else
    let s := s.setBit (Reg.OWL_SUSP (w / 32)) (w % 32) false
    if s.owlMode w = 0 then s else s.setClass w (plainClass (s.owlLo w) (s.owlHi w) (spanLevel v))

/-! Decisions and actions (R303, R304, R306, R307). -/

/-- The guard of window `w` is queued: its write, which the node fire follows (R307). -/
def Block.queueGuard (s : Block) (w : Nat) : Block :=
  let o := s.owlWin w
  let s := (s.setOwlWin w { o with wstat := withBits o.wstat 6 6 0 }).setBit (Reg.OWL_GARM (w / 32)) (w % 32) false
  s.submit (Txn.to 0 1 o.gnode.toNat o.gcode.toNat (.guard w))

/-- The latch of window `w` sets and the window takes its actions, in the order of Table 12.2. -/
def Block.trip (s : Block) (w : Nat) : Block :=
  let o := s.owlWin w
  let c := s.owlClass w
  let o := { o with
    wcnt := withBits o.wcnt 15 0 (satAdd 16 (bitsOf o.wcnt 15 0) 1), wt := s.localCount, wstat := withBits o.wstat 1 0 c }
  let s := (s.setOwlWin w o).setBit (Reg.OWL_LATCH (w / 32)) (w % 32) true
  let s := if s.flag (Reg.W_ACT_EV_EN w) then s.raise w (bitsOf o.wstat 6 0) else s
  let s := if s.flag (Reg.W_ACT_TRIG_EN w) then s.trigger (s.get (Reg.W_ACT_TRIG_GRP w)) else s
  let s := if s.flag (Reg.W_ACT_URG_EN w) ∧ s.get (Reg.W_ACT_URG_SP w) < 48 then s.raiseUrgent (s.get (Reg.W_ACT_URG_SP w)) else s
  if s.bit (Reg.OWL_GARM (w / 32)) (w % 32) then s.queueGuard w else s

/-- The local count of window `w`'s decision, while its trip condition holds (R303). -/
def Block.decisionAt (s : Block) (w : Nat) : Option Nat :=
  (s.owlWin w).since.map (fun t => t + 2 * s.get (Reg.W_CFG_QUAL w))

/-- The latch of window `w` is to set now: its decision has come. -/
def Block.decides (s : Block) (w : Nat) : Bool :=
  !s.suspended w && s.trips w (s.owlClass w) && !s.bit (Reg.OWL_LATCH (w / 32)) (w % 32) &&
    (match s.decisionAt w with
      | some d => decide (d ≤ s.now)
      | none => false)

/-- The windows of lower number than `w` whose decisions come in the OWL cycle of its own: they act before it (R306). -/
def Block.decideBefore (s : Block) (w : Nat) : List Nat :=
  (List.range w).filter (fun u => s.decides u && (s.decisionAt u).map (· / 2) == (s.decisionAt w).map (· / 2))

/-- WINDOW_DECISION: the trip condition of window `w` has held for QUAL + 1 consecutive cycles; the latch sets, unless it
is set. -/
def doWindowDecision (w : Nat) (s : Block) : Block :=
  if !s.coreOn ∨ s.busySS 13 ∨ !s.decides w then s else (s.each (s.decideBefore w) Block.trip).trip w

/-- The latch of window `w` is cleared in the OWL cycle of the local count `c`. A decision of that cycle leaves it set, as a
new setting; a trip condition that still holds otherwise is counted anew (R304). -/
def Block.clearLatch (s : Block) (w c : Nat) : Block :=
  let o := s.owlWin w
  if o.wt.toNat / 2 = c / 2 then s
  else
    let s := s.setBit (Reg.OWL_LATCH (w / 32)) (w % 32) false
    match s.decisionAt w with
    | none => s
    | some d => if d / 2 = c / 2 then (if s.decides w then s.trip w else s) else s.setOwlWin w { o with since := some (c + 2) }

/-- A write of OWL_LATCH`i` clears the latches written 1. -/
def Block.writeLatch (s : Block) (i : Nat) (v : Word) : Block :=
  s.each ((List.range 32).filter (fun b => v.getLsbD b && s.bit (Reg.OWL_LATCH i) b)) (fun s b => s.clearLatch (32 * i + b) s.now)

/-- LATCH_CLEAR. -/
def doLatchClear (i : Nat) (v : Word) (s : Block) : Block :=
  if s.writable (Reg.OWL_LATCH i) then s.writeLatch i v else s

/-- Schedule entry `n` fires: periodic latches that name it are cleared, in the next OWL cycle. -/
def Block.clearPeriodic (s : Block) (n : Nat) : Block :=
  s.each (windowList.filter (fun w => s.flag (Reg.W_CFG_LATCH w) && s.get (Reg.W_CFG_CLR_SCH w) == n &&
    s.bit (Reg.OWL_LATCH (w / 32)) (w % 32))) (fun s w => s.clearLatch w (s.now + 2))

/-! Configuration (R299, R300, R308). -/

/-- An input that a window may watch: an FT, AIN, TS or IC source, valid by R63. -/
def owlInputOk (c : Nat) : Bool := decide (1024 ≤ codeSource c) && decide (codeSource c < 1260) && diffOk c

/-- A write of W_CFG. -/
def Block.writeWcfg (s : Block) (w : Nat) (v : Word) : Block :=
  if bitsOf v 17 16 = 3 ∨ !owlInputOk (bitsOf v 11 0) then s.put Reg.OWL_STATUS_CFG_IGNORED_SEEN 1
  else
    let old := s.reg (Reg.W_CFG w)
    let c := s.owlClass w
    let s := s.writeFields (Reg.W_CFG w) v
    if bitsOf old 15 0 ≠ bitsOf v 15 0 then
      let s := s.suspend w (s.now + 40)
      (s.setBit (Reg.OWL_ABOVE (w / 32)) (w % 32) false).setBit (Reg.OWL_BELOW (w / 32)) (w % 32) false
    else if bitsOf old 17 16 = bitsOf v 17 16 then s
    else if bitsOf v 17 16 = 0 ∨ bitsOf old 17 16 = 0 then
      let s := s.setOwlWin w { s.owlWin w with known := false, since := none }
      (s.setBit (Reg.OWL_ABOVE (w / 32)) (w % 32) false).setBit (Reg.OWL_BELOW (w / 32)) (w % 32) false
    else s.setOwlWin w { s.owlWin w with since := if s.trips w c then some s.now else none }

/-- W_CFG_WRITE. -/
def doWCfgWrite (w : Nat) (v : Word) (s : Block) : Block := if s.writable (Reg.W_CFG w) then s.writeWcfg w v else s

/-- A write of W_THR. -/
def Block.writeWthr (s : Block) (w : Nat) (v : Word) : Block :=
  if signed 10 (bitsOf v 25 16) < signed 10 (bitsOf v 9 0) then s.put Reg.OWL_STATUS_CFG_IGNORED_SEEN 1
  else
    let old := s.reg (Reg.W_THR w)
    let s := s.writeFields (Reg.W_THR w) v
    if old = s.reg (Reg.W_THR w) then s
    else
      let s := s.suspend w (s.now + 40)
      (s.setBit (Reg.OWL_ABOVE (w / 32)) (w % 32) false).setBit (Reg.OWL_BELOW (w / 32)) (w % 32) false

/-- W_THR_WRITE. -/
def doWThrWrite (w : Nat) (v : Word) (s : Block) : Block := if s.writable (Reg.W_THR w) then s.writeWthr w v else s

/-- The guard arm of window `w`. -/
def Block.armGuard (s : Block) (w : Nat) (b : Bool) : Block := s.setBit (Reg.OWL_GARM (w / 32)) (w % 32) b

/-- A write of OWL_GCMD: 1 ARM, 2 DISARM. -/
def Block.writeGcmd (s : Block) (v : Word) : Block :=
  match bitsOf v 9 8 with
  | 1 => s.armGuard (bitsOf v 7 0) true
  | 2 => s.armGuard (bitsOf v 7 0) false
  | _ => s

/-- OWL_ARM and OWL_DISARM. -/
def doOwlArm (w : Nat) (s : Block) : Block := if s.writable Reg.OWL_GCMD then s.armGuard w true else s
def doOwlDisarm (w : Nat) (s : Block) : Block := if s.writable Reg.OWL_GCMD then s.armGuard w false else s

/-- Queued guards of a window are discarded with code 15, as R226 discards heads (R307). -/
def Block.dropGuards (s : Block) (w : Nat) : Block :=
  s.each trunkList (fun s t =>
    let q := s.queue t 0
    let mine : Txn → Bool := fun x => x.owner == .guard w
    if !q.any mine then s
    else
      let s := (s.setQueue t 0 (q.filter (fun x => !mine x))).bump (Reg.WH_CNT_MASK_DROPS t) 1
      s.setOwlWin w { s.owlWin w with wstat := withBits (s.owlWin w).wstat 5 2 15 })

/-- Domain OWL`d` loses power: its windows are suspended and their queued guards discarded (R315). -/
def Block.owlDown (s : Block) (d : Nat) : Block :=
  s.each ((List.range 64).map (fun i => 64 * d + i)) (fun s w => (s.suspend w 0).dropGuards w)

/-- Domain OWL`d` is powered up: its windows stay suspended for 2 µs (R305). -/
def Block.owlUp (s : Block) (d : Nat) : Block :=
  s.each ((List.range 64).map (fun i => 64 * d + i)) (fun s w => s.suspend w (s.now + 2000))

/-! Self-checks (R311–R313). -/

/-- A check of window `w` begins. -/
def Block.beginCheck (s : Block) (w kind : Nat) (code : Int) (visit : Bool) : Block :=
  let c : OwlCheck := { window := w, kind := kind, code := code, visit := visit, start := s.now, sampled := false }
  let s := (s.withOwl { s.owl with check := some c })
  let s := s.setOwlWin c.window { s.owlWin c.window with since := none }
  ((((s.setReg Reg.OWL_SCSTAT 0).put Reg.OWL_SCSTAT_BUSY 1).put Reg.OWL_SCSTAT_KIND c.kind).put Reg.OWL_SCSTAT_WINDOW c.window)

/-- A GO: refused for KIND 0 or 3, for a window that is off, or while a check runs; during a visit it waits. -/
def Block.requestCheck (s : Block) (v : Word) : Block :=
  let w := bitsOf v 7 0
  let kind := bitsOf v 9 8
  let busy := s.owl.check.isSome
  let inVisit := match s.owl.check with
    | some c => c.visit
    | none => false
  if kind = 0 ∨ kind = 3 ∨ s.owlMode w = 0 ∨ (busy ∧ !inVisit) ∨ s.owl.go.isSome then s.put Reg.OWL_STATUS_SC_REJECTED 1
  else if busy then (s.withOwl { s.owl with go := some v })
  else s.beginCheck w kind (signed 10 (bitsOf v 19 10)) false

/-- A write of OWL_SCREQ. -/
def Block.writeScreq (s : Block) (v : Word) : Block :=
  let s := s.writeFields Reg.OWL_SCREQ v
  if bitsOf v 31 31 = 1 then s.requestCheck v else s

/-- The running check has sampled its classes. -/
def Block.checkSampled (s : Block) (k : OwlCheck) : Block := s.withOwl { s.owl with check := some { k with sampled := true } }

/-- SELF_CHECK_TIE: the running TIE check samples class `c`, by the plain thresholds, in its cycle 25. Cycles are of 2 ns. -/
def doSelfCheckTie (c : Nat) (s : Block) : Block :=
  match s.owl.check with
  | some k =>
    if k.kind = 1 ∧ c ≠ 0 ∧ k.start + 50 ≤ s.now ∧ s.coreOn then (s.put Reg.OWL_SCSTAT_CLASS c).checkSampled k else s
  | none => s

/-- SELF_CHECK_SWAP: the running SWAP check has sampled the class of the exchanged wires in its cycle 25, and samples the
normal class in its cycle 50. -/
def doSelfCheckSwap (swapped normal : Nat) (s : Block) : Block :=
  match s.owl.check with
  | some k =>
    if k.kind = 2 ∧ swapped ≠ 0 ∧ normal ≠ 0 ∧ k.start + 100 ≤ s.now ∧ s.coreOn then
      ((s.put Reg.OWL_SCSTAT_CLASS swapped).put Reg.OWL_SCSTAT_CLASS_N normal).checkSampled k
    else s
  | none => s

/-- The class that a TIE level is expected to show; none within 4 LSB of a threshold (R312). -/
def expectedClass (lo hi code : Int) : Option Nat :=
  if (-4 ≤ code - lo ∧ code - lo ≤ 4) ∨ (-4 ≤ code - hi ∧ code - hi ≤ 4) then none
  else if code < lo then some BELOW
  else if hi < code then some ABOVE
  else some INSIDE

/-- A TIE result is judged. -/
def Block.judgeTie (s : Block) (k : OwlCheck) : Block :=
  match expectedClass (s.owlLo k.window) (s.owlHi k.window) k.code with
  | none => s.put Reg.OWL_SCSTAT_NA 1
  | some c =>
    if s.get Reg.OWL_SCSTAT_CLASS = c then s
    else
      let o := s.owlWin k.window
      let s := s.setOwlWin k.window { o with wcnt := withBits o.wcnt 23 16 (satAdd 8 (bitsOf o.wcnt 23 16) 1) }
      (s.put Reg.OWL_SCSTAT_DIFFER 1).put Reg.OWL_STATUS_SC_DIFFER_SEEN 1

/-- The windows that auto visits include, from `w` up, wrapping. -/
def Block.nextVisit (s : Block) (w : Nat) : Option Nat :=
  ((List.range 256).map (fun i => (w + i) % 256)).find? (fun w => s.flag (Reg.W_CFG_SC_AUTO w) && s.owlMode w != 0)

/-- The codes of a visit (R313). -/
def visitCodes (lo hi : Int) : List Int :=
  ([lo - 8] ++ (if 8 ≤ hi - lo then [(lo + hi) / 2] else []) ++ [hi + 8]).filter (fun c => decide (-512 ≤ c) && decide (c ≤ 511))

/-- The checks of a visit of window `w` begin. -/
def Block.visitWindow (s : Block) (w : Nat) : Block :=
  match visitCodes (s.owlLo w) (s.owlHi w) with
  | c :: rest => (s.withOwl { s.owl with rest := rest }).beginCheck w 1 c true
  | [] => s

/-- A visit begins with the window that NEXT names, or the next one included. -/
def Block.beginVisit (s : Block) : Block :=
  match s.nextVisit (s.get Reg.OWL_SCAUTO_NEXT) with
  | none => s.withOwl { s.owl with due := false }
  | some w =>
    ((s.withOwl { s.owl with due := false }).put Reg.OWL_SCAUTO_NEXT ((s.nextVisit ((w + 1) % 256)).getD w)).visitWindow w

/-- The time between visits, ns (Table 12.11). -/
def Block.visitPeriod (s : Block) : Nat := 1000 * max 1 (s.get Reg.OWL_SCAUTO_PERIOD)

/-- A write of OWL_SCAUTO; the first visit falls due one PERIOD after EN turns 1. -/
def Block.writeScauto (s : Block) (v : Word) : Block :=
  let was := s.flag Reg.OWL_SCAUTO_EN
  let s := s.writeFields Reg.OWL_SCAUTO v
  if was then s else s.withOwl { s.owl with visitAt := s.now }

/-- AUTO_VISIT: PERIOD µs have passed; a visit waits for a requested check that runs. -/
def doAutoVisit (s : Block) : Block :=
  let t := s.owl.visitAt + s.visitPeriod
  if !s.flag Reg.OWL_SCAUTO_EN ∨ !s.coreOn ∨ s.busySS 13 ∨ s.now < t then s
  else if s.owl.check.isSome then (s.withOwl { s.owl with due := true, visitAt := t })
  else (s.withOwl { s.owl with visitAt := t }).beginVisit

/-- What follows a check: the next of its visit, a GO that waits, or a visit that is due. -/
def Block.afterCheck (s : Block) (k : OwlCheck) : Block :=
  match s.owl.rest with
  | c :: rest => ((s.withOwl { s.owl with rest := rest })).beginCheck k.window 1 c true
  | [] =>
    match s.owl.go with
    | some v =>
      ((s.withOwl { s.owl with go := none })).beginCheck (bitsOf v 7 0) (bitsOf v 9 8) (signed 10 (bitsOf v 19 10)) false
    | none => if s.owl.due then s.beginVisit else s

/-- SELF_CHECK_END: the running check has sampled its classes and ends, a TIE check after 36 cycles, a SWAP check after 51; the
window's suspension by it ends with its class state as it was. -/
def doSelfCheckEnd (s : Block) : Block :=
  match s.owl.check with
  | none => s
  | some k =>
    if !k.sampled ∨ s.now < k.start + (if k.kind = 1 then 72 else 102) then s else
    let s := (s.withOwl { s.owl with check := none })
    let s := (s.put Reg.OWL_SCSTAT_DONE 1).put Reg.OWL_SCSTAT_BUSY 0
    let s := if k.kind = 1 then s.judgeTie k else s
    let o := s.owlWin k.window
    let s := if s.trips k.window (s.owlClass k.window) then s.setOwlWin k.window { o with since := some s.now } else s
    s.afterCheck k

/-! Indexed registers (R317). -/

/-- The window of agent `ag`'s OWL_WIDX and OWL_GIDX. -/
def Block.widx (s : Block) (ag : Nat) : Nat := bitsOf (s.reg (ownCopy ag Reg.OWL_WIDX)) 7 0
def Block.gidx (s : Block) (ag : Nat) : Nat := bitsOf (s.reg (ownCopy ag Reg.OWL_GIDX)) 7 0

/-- A write of OWL_WCNT sets the window's counts. -/
def Block.writeWcnt (s : Block) (w : Nat) (v : Word) : Block := s.setOwlWin w { s.owlWin w with wcnt := v }

/-! The commands of this file, with the operands that the command table's rows take here. -/

def execWindowDecision (w : Fin 256) (s : State) : Out := .next (s.withBlock (doWindowDecision w s.toBlock))
def execWCfgWrite (w : Fin 256) (v : Word) (s : State) : Out := .next (s.withBlock (doWCfgWrite w v s.toBlock))
def execWThrWrite (w : Fin 256) (v : Word) (s : State) : Out := .next (s.withBlock (doWThrWrite w v s.toBlock))
def execLatchClear (i : Fin 8) (v : Word) (s : State) : Out := .next (s.withBlock (doLatchClear i v s.toBlock))
def execOwlArm (w : Fin 256) (s : State) : Out := .next (s.withBlock (doOwlArm w s.toBlock))
def execOwlDisarm (w : Fin 256) (s : State) : Out := .next (s.withBlock (doOwlDisarm w s.toBlock))
def execSuspendEnd (w : Fin 256) (v : Int) (s : State) : Out := .next (s.withBlock (doSuspendEnd w v s.toBlock))
def execSelfCheckTie (c : Fin 4) (s : State) : Out := .next (s.withBlock (doSelfCheckTie c s.toBlock))
def execSelfCheckSwap (swapped normal : Fin 4) (s : State) : Out := .next (s.withBlock (doSelfCheckSwap swapped normal s.toBlock))
def execSelfCheckEnd (s : State) : Out := .next (s.withBlock (doSelfCheckEnd s.toBlock))
def execAutoVisit (s : State) : Out := .next (s.withBlock (doAutoVisit s.toBlock))
def execWindowClassChange (w : Fin 256) (v : Int) (s : State) : Out := .next (s.withBlock (doWindowClassChange w v s.toBlock))

end Sys2Proof.Machine
end

