-- ==== Sys2Proof/Machine/Schedule.lean ====
section
/-! DEFINITION. The 64 schedule entries (R54–R59, Table 2.4). -/

namespace Sys2Proof.Machine

/-- The target exists for the action (Table 2.4). -/
def targetOk (action target : Nat) : Bool :=
  match action with
  | 0 => true
  | 1 => decide (target < 32)
  | 2 => decide (target < 48)
  | 3 => domainCal target != 0
  | 4 => decide (target < 16)
  | 5 => true
  | _ => false

/-- The shortest period of a periodic entry of a timebase: 1,000 ns, 1,024 ticks, 256 units (R55). -/
def minPeriod (tb : Nat) : Nat := if tb = 0 then 1000 else if tb = 5 then 256 else 1024

/-- Entry `n` may be armed as its registers stand (R55). -/
def Block.armOk (s : Block) (n : Nat) : Bool :=
  let p := (s.reg (Reg.SCH_PERIOD n)).toNat
  decide (s.schTb n ≤ 5) && targetOk (s.get (Reg.SCH_CTL_ACTION n)) (s.get (Reg.SCH_CTL_TARGET n)) &&
    (p == 0 || decide (minPeriod (s.schTb n) ≤ p))

/-- A write of SCH_AT_LO, SCH_AT_HI or SCH_PERIOD of entry `n`, ignored while the entry is armed (R58). -/
def Block.writeSchTime (s : Block) (n a : Nat) (v : Word) : Block :=
  if s.flag (Reg.SCH_CTL_ARM n) then s.put (Reg.SCH_STAT_WR_IGNORED n) 1 else s.setReg a v

/-- The register that selector `i` of SCH_TIME_WRITE names: 0 SCH_AT_LO, 1 SCH_AT_HI, 2 SCH_PERIOD. -/
def schTimeReg (n i : Nat) : Nat := if i = 0 then Reg.SCH_AT_LO n else if i = 1 then Reg.SCH_AT_HI n else Reg.SCH_PERIOD n

/-- SCH_TIME_WRITE. -/
def doSchTimeWrite (n i : Nat) (v : Word) (s : Block) : Block :=
  if s.writable (Reg.SCH_CTL n) then s.writeSchTime n (schTimeReg n i) v else s

/-- Entry `n` waits: it is armed on a line timebase in a state in which entries wait (R56). -/
def Block.schWaits (s : Block) (n : Nat) : Bool :=
  let tb := s.schTb n
  s.flag (Reg.SCH_CTL_ARM n) && decide (1 ≤ tb) && decide (tb ≤ 4) && !lineFires (s.lineState (tb - 1))

/-- SCH_STAT as it reads. -/
def Block.schStat (s : Block) (n : Nat) : Word := withBits (s.reg (Reg.SCH_STAT n)) 27 27 (s.schWaits n).toNat

/-- The effect of an action (Table 2.4). CAL_REQUEST sets a bit of the request set (R434). -/
def Block.schAction (s : Block) (action target : Nat) : Block :=
  match action with
  | 1 => s.trigger target
  | 2 => s.raiseUrgent target
  | 3 => (s.setBit (Reg.DEN_REQ (target / 32)) (target % 32) true).put Reg.DEN_STATUS_REQ_PENDING 1
  | 4 => s.put (Reg.FX_STATUS_SIGNAL target) 1
  | 5 => s.snap
  | _ => s

/-- The entry fires: its action, one more in FIRES; Owl latches cleared by it are cleared (R304). -/
def Block.schFire (s : Block) (n : Nat) : Block :=
  let s := s.bump (Reg.SCH_STAT_FIRES n) 1
  (s.schAction (s.get (Reg.SCH_CTL_ACTION n)) (s.get (Reg.SCH_CTL_TARGET n))).clearPeriodic n

/-- A periodic entry's instant moves by `k` periods; a one-shot entry is disarmed (R56, R57). -/
def Block.schAdvance (s : Block) (n k : Nat) : Block :=
  let p := (s.reg (Reg.SCH_PERIOD n)).toNat
  if p = 0 then s.put (Reg.SCH_CTL_ARM n) 0
  else s.setPair (Reg.SCH_AT_LO n) (Reg.SCH_AT_HI n) (s.schAt n + BitVec.ofNat 64 (k * p))

/-- Entry `n` is armed, its instant is reached, and it is in no state in which it waits (R54, R56). -/
def Block.schDue (s : Block) (n : Nat) : Bool :=
  s.coreOn && !s.busySS 9 && s.flag (Reg.SCH_CTL_ARM n) && decide (s.schAt n ≤ s.tbNow (s.schTb n)) && !s.schWaits n

/-- Entry `n` fires if its instant is reached (R54, R56, R57). -/
def Block.fireEntry (s : Block) (n : Nat) : Block :=
  if !s.schDue n then s
  else if !Bank.get (fun _ => false) s.time.schLate n then (s.schFire n).schAdvance n 1
  else
    let p := (s.reg (Reg.SCH_PERIOD n)).toNat
    let k := if p = 0 then 1 else (s.tbNow (s.schTb n) - s.schAt n).toNat / p + 1
    let s := if s.flag (Reg.SCH_CTL_LATE_POL n) then s else s.schFire n
    let s := ((s.schAdvance n k).bump (Reg.SCH_STAT_SKIPS n) (k - 1)).setLate n false
    (s.put (Reg.SCH_STAT_LATE n) 1).raise 831 0

/-- SCHED_FIRE: the instant of entry `n` is reached. Entries below it whose instants are reached in the same cycle fire
before it (R56). -/
def doSchedFire (n : Nat) (s : Block) : Block :=
  let s := s.when (s.schWaits n && decide (s.schAt n ≤ s.tbNow (s.schTb n))) (fun s => s.setLate n true)
  s.each (List.range (n + 1)) Block.fireEntry

/-- A write of SCH_CTL (R55). A fire in the cycle of the write comes before it (R56). An instant already passed when its entry
is armed is reached late (R54). -/
def Block.writeSchCtl (s : Block) (n : Nat) (v : Word) : Block :=
  let s := (s.fireEntry n).writeFields (Reg.SCH_CTL n) v
  if !s.flag (Reg.SCH_CTL_ARM n) then s
  else if s.armOk n then
    let s := ((s.put (Reg.SCH_STAT_BAD n) 0).put (Reg.SCH_STAT_FIRES n) 0).put (Reg.SCH_STAT_SKIPS n) 0
    s.setLate n (decide (s.schAt n < s.tbNow (s.schTb n)))
  else (s.put (Reg.SCH_CTL_ARM n) 0).put (Reg.SCH_STAT_BAD n) 1

/-- SCH_CTL_WRITE. -/
def doSchCtlWrite (n : Nat) (v : Word) (s : Block) : Block :=
  if s.writable (Reg.SCH_CTL n) then s.writeSchCtl n v else s

/-! The commands of this file, with the operands that the command table's rows take here. -/

def execSchCtlWrite (n : Fin 64) (v : Word) (s : State) : Out := .next (s.withBlock (doSchCtlWrite n v s.toBlock))
def execSchTimeWrite (n : Fin 64) (i : Fin 3) (v : Word) (s : State) : Out := .next (s.withBlock (doSchTimeWrite n i v s.toBlock))
def execSchedFire (n : Fin 64) (s : State) : Out := .next (s.withBlock (doSchedFire n s.toBlock))

end Sys2Proof.Machine
end

