-- ==== Sys2Proof/Machine/Hoard.lean ====
section
/-! DEFINITION. The Hoard at work (chapter 13): images (R329–R331), the journal (R332–R335), commits (R336–R338), restores
(R339–R342, R218, R219) and deferral (R352). Images: 0 factory, 1 working A, 2 working B. -/

namespace Sys2Proof.Machine

/-- The previous image: the other valid working image. -/
def Block.previousImage (s : Block) : Option Nat :=
  if s.imageValid 1 ∧ s.imageValid 2 then some (3 - s.currentImage) else none

/-- HD_IMAGES and HD_SEQ show the headers. -/
def Block.showImages (s : Block) : Block :=
  let seq (k : Nat) : Word := if s.imageValid k then BitVec.ofNat 32 (s.imageSeq k) else 0
  let cur := if s.currentImage = 0 ∧ !s.imageValid 0 then 3 else s.currentImage
  (((((s.putB Reg.HD_IMAGES_F_VALID (s.imageValid 0)).putB Reg.HD_IMAGES_A_VALID (s.imageValid 1)).putB
    Reg.HD_IMAGES_B_VALID (s.imageValid 2)).put Reg.HD_IMAGES_CUR cur).setReg Reg.HD_SEQ_A (seq 1)).setReg Reg.HD_SEQ_B (seq 2)

/-! Segments (R329, R330). -/

/-- The hubs in segment order, and the segment of hub `k`. -/
def segmentHub (i : Nat) : Nat :=
  if i < 256 then 64 * (i / 32) + i % 32
  else if i < 384 then 64 * (8 + (i - 256) / 64) + (i - 256) % 64
  else 64 * (10 + (i - 384) / 2) + (i - 384) % 2

def segmentOf (k : Nat) : Nat :=
  let t := k / 64
  let h := k % 64
  if t < 8 then 32 * t + h else if t < 10 then 256 + 64 * (t - 8) + h else 384 + 2 * (t - 10) + h

/-- The leaves of a hub of trunk `t` that are not ABSENT. -/
def Block.leaves (s : Block) (t : Nat) : List Nat := (List.range 16384).filter (fun l => s.kindAt t l ≠ 63)

/-- 12-bit codes packed, padded to a multiple of 8 bytes. -/
def packCodes : List Nat → List Byte
  | a :: b :: t =>
    BitVec.ofNat 8 a :: BitVec.ofNat 8 (a / 256 % 16 + 16 * (b % 16)) :: BitVec.ofNat 8 (b / 16) :: packCodes t
  | [a] => [BitVec.ofNat 8 a, BitVec.ofNat 8 (a / 256 % 16)]
  | [] => []

def packed (l : List Nat) : List Byte := padBytes (roundUp 8 (packCodes l).length) (packCodes l)

/-- The bytes that `n` packed codes take. -/
def packedLen (n : Nat) : Nat := roundUp 8 ((3 * n + 1) / 2)

/-- Code `j` of the codes packed from Hoard offset `o` up. -/
def Block.packedCode (s : Block) (o j : Nat) : Nat := s.hNat (o + 3 * (j / 2) + j % 2) 2 / (if j % 2 = 0 then 1 else 16) % 4096

def Block.segmentLen (s : Block) (t : Nat) : Nat := packedLen (s.leaves t).length + 8

/-- The offset of segment `i` in its image. -/
def Block.segmentAt (s : Block) (i : Nat) : Nat :=
  256 + ((List.range i).map (fun j => s.segmentLen (segmentHub j / 64))).foldl (· + ·) 0

/-- A segment's trailer: SEG_SEQ, and the CRC of codes, SEG_SEQ and segment index. -/
def segmentTrailer (codes : List Byte) (seq i : Nat) : List Byte :=
  leBytes 4 seq ++ leBytes 4 (crc32 (codes ++ leBytes 4 seq ++ leBytes 2 i)).toNat

/-- Segment `i` of image `k` is good. -/
def Block.segmentGood (s : Block) (k i : Nat) : Bool :=
  let o := imageBase k + s.segmentAt i
  let n := s.segmentLen (segmentHub i / 64)
  !s.hBad o n && s.hNat (o + n - 8) 4 == s.imageSeq k &&
    s.hBytes (o + n - 8) 8 == segmentTrailer (s.hBytes o (n - 8)) (s.imageSeq k) i

/-! The journal (R332, R333). -/

abbrev journalWords : Nat := 131072
def journalAt (w : Nat) : Nat := 28 * mib + 32 * w

structure JRec where
  type : Nat
  jseq : Nat
  nrun : Nat
  len : Nat
  ofs : Nat                   -- word offset
  deriving DecidableEq, Repr

/-- The journal record that starts at word `w`, when its MAGIC and CRC hold and no word of it reads UE. -/
def Block.journalRec (s : Block) (w : Nat) : Option JRec :=
  let o := journalAt w
  let len := s.hNat (o + 20) 4
  let type := s.hNat (o + 2) 1
  let n := if type = 5 then 32 else 32 * len
  if s.hNat o 2 = 0x4A4E ∧ 1 ≤ len ∧ w + len ≤ journalWords ∧ 1 ≤ type ∧ type ≤ 5 ∧ !s.hBad o n ∧
      s.hNat (o + 28) 4 = (crc32 (s.hBytes o 28 ++ leBytes 4 0 ++ s.hBytes (o + 32) (n - 32))).toNat then
    some ⟨type, s.hNat (o + 4) 8, s.hNat (o + 18) 2, len, w⟩
  else none

/-- The records from word `w` on whose JSEQ runs on from `j`, up to JSEQ `last` where one is given; the word after them,
and whether the walk stopped at a record that fails (R340). -/
def Block.walkFrom (s : Block) (last : Option Nat) : Nat → Nat → Nat → List JRec → List JRec × Nat × Bool
  | 0, w, _, acc => (acc, w, false)
  | fuel + 1, w, j, acc =>
    if (match last with
      | some u => decide (u < j)
      | none => false) then (acc, w, false)
    else match s.journalRec w with
      | some r =>
        if r.jseq = j then Block.walkFrom s last fuel ((w + r.len) % journalWords) (j + 1) (acc ++ [r]) else (acc, w, true)
      | none => (acc, w, true)

/-- The records after image `k`'s JSEQ_COVERED. -/
def Block.walk (s : Block) (k : Nat) (last : Option Nat) : List JRec × Nat × Bool :=
  s.walkFrom last (journalWords + 1) (s.imageJofs k % journalWords) (s.imageCovered k + 1) []

/-- JSEQ of the last durable record, as firmware knows it. -/
def Block.jseq (s : Block) : Nat := (s.pair Reg.HD_JSEQ_LO Reg.HD_JSEQ_HI).toNat

/-- The runs of a record: START, STRIDE, COUNT and the place of the codes. -/
def Block.runsAt (s : Block) : Nat → Nat → List (Nat × Nat × Nat × Nat)
  | 0, _ => []
  | n + 1, o =>
    let c := s.hNat (o + 5) 2
    (s.hNat o 3, s.hNat (o + 3) 2, c, o + 8) :: s.runsAt n (o + 8 + packedLen c)

def Block.recRuns (s : Block) (r : JRec) : List (Nat × Nat × Nat × Nat) :=
  if 1 ≤ r.type ∧ r.type ≤ 3 then s.runsAt r.nrun (journalAt r.ofs + 32) else []

/-- The code that a run gives the node at address `a`: the last of its codes for that node. -/
def Block.runCode (s : Block) (a : Nat) (u : Nat × Nat × Nat × Nat) : Option Nat :=
  let (start, stride, count, o) := u
  ((List.range 257).map (fun m => 256 - m)).findSome? (fun m =>
    let d := (a + 2 ^ 24 - start) % 2 ^ 24 + m * 2 ^ 24
    if stride ≠ 0 ∧ d % stride = 0 ∧ d / stride < count then some (s.packedCode o (d / stride)) else none)

/-- The code that records give the node: a later one replaces an earlier. -/
def Block.journalCode (s : Block) (rs : List JRec) (a : Nat) : Option Nat :=
  rs.reverse.findSome? (fun r => (s.recRuns r).reverse.findSome? (s.runCode a))

/-- Domains named by the DIRTY records of a list. -/
def Block.dirtyOf (s : Block) (rs : List JRec) : List Nat :=
  ((rs.filter (fun r => r.type == 4)).flatMap (fun r =>
    (List.range 1024).filter (fun d => bitOf (s.hNat (journalAt r.ofs + 32 + d / 8) 1) (d % 8)))).eraseDups

/-- The journal record's header and body, closed by its CRC; `crcLen` bytes enter it. -/
def recordBytes (type flags jseq base domain nrun len time : Nat) (body : List Byte) : List Byte :=
  let h := leBytes 2 0x4A4E ++ leBytes 1 type ++ leBytes 1 flags ++ leBytes 8 jseq ++ leBytes 4 base ++ leBytes 2 domain ++
    leBytes 2 nrun ++ leBytes 4 len ++ leBytes 4 time
  h ++ leBytes 4 (crc32 (h ++ leBytes 4 0 ++ body)).toNat ++ body

/-- The next record may take `n` words from word `w`: every record there has a JSEQ no greater than the previous image's
JSEQ_COVERED (R335), or than the current image's where there is no previous one. -/
def Block.mayOverwrite (s : Block) (w n : Nat) : Bool :=
  (s.walk (s.previousImage.getD s.currentImage) (some s.jseq)).1.all (fun r =>
    decide (w + n ≤ r.ofs) || decide (r.ofs + r.len ≤ w))

/-- A record is written at the head of the journal; JSEQ rises (R332). -/
def Block.writeRecord (s : Block) (type flags domain nrun len : Nat) (body : List Byte) : Block :=
  let w := s.hoard.next
  let j := s.jseq + 1
  let s := s.hWrite (journalAt w) (recordBytes type flags j (s.imageSeq s.currentImage) domain nrun len (s.now / 2 ^ 30) body)
  let s := s.setHoard { s.hoard with
    next := (w + len) % journalWords, firstAt := some (s.hoard.firstAt.getD s.now) }
  s.setPair Reg.HD_JSEQ_LO Reg.HD_JSEQ_HI (BitVec.ofNat 64 j)

/-- A record is appended, after a PAD that fills the ring to its end where it would cross it. -/
def Block.appendRecord (s : Block) (type flags domain nrun : Nat) (body : List Byte) : Block :=
  let len := 1 + (body.length + 31) / 32
  let left := journalWords - s.hoard.next
  let s := if left < len then s.writeRecord 5 0 0x3FF 0 left [] else s
  s.writeRecord type flags domain nrun len (padBytes (32 * (len - 1)) body)

/-- Room for a record of `len` words, with the PAD it may need. -/
def Block.journalRoom (s : Block) (len : Nat) : Bool :=
  let left := journalWords - s.hoard.next
  if left < len then s.mayOverwrite s.hoard.next left && s.mayOverwrite 0 len else s.mayOverwrite s.hoard.next len

/-- Domain `d` is marked dirty. -/
def Block.markDirty (s : Block) (d : Nat) : Block :=
  if d = 0x3FF then s
  else s.setHoard { s.hoard with
    dirty := if s.hoard.dirty.elem d then s.hoard.dirty else s.hoard.dirty ++ [d]
    firstAt := some (s.hoard.firstAt.getD s.now) }

/-- The DIRTY record that names every dirty domain (R334). -/
def Block.writeDirty (s : Block) : Block :=
  let mask := s.hoard.dirty.foldl (fun a d => a ||| 2 ^ d) 0
  if s.journalRoom 5 then s.appendRecord 4 0 0x3FF 0 (leBytes 128 mask) else s

/-- The body of a record's runs. -/
def runsBody (l : List (Nat × Nat × List Nat)) : List Byte :=
  l.flatMap (fun (start, stride, codes) =>
    leBytes 3 start ++ leBytes 2 stride ++ leBytes 2 codes.length ++ leBytes 1 0 ++ packed codes)

/-- The codes of some nodes, in ascending address, as runs of equal stride. -/
def addRun (a c : Nat) : List (Nat × Nat × List Nat) → List (Nat × Nat × List Nat)
  | [] => [(a, 1, [c])]
  | (start, stride, codes) :: t =>
    match codes with
    | [b] => if 0 < start - a ∧ start - a < 65536 then (a, start - a, [c, b]) :: t else (a, 1, [c]) :: (start, stride, codes) :: t
    | _ => if a + stride = start ∧ codes.length < 65535 then (a, stride, c :: codes) :: t
        else (a, 1, [c]) :: (start, stride, codes) :: t

/-- Runs for nodes whose addresses rise. -/
def runsOf (l : List (Nat × Nat)) : List (Nat × Nat × List Nat) := l.foldr (fun p r => addRun p.1 p.2 r) []

/-- Runs for a domain's nodes: for SC04 one for each bit weight, of stride 64 (R333). -/
def domainRuns (d : Nat) (l : List (Nat × Nat)) : List (Nat × Nat × List Nat) :=
  if domainCal d = 4 then (List.range 8).flatMap (fun b => runsOf (l.filter (fun p => p.1 % 64 == 8 + b))) else runsOf l

/-- A record waits to be appended. -/
def Block.queueRecord (s : Block) (r : JReq) : Block := s.setHoard { s.hoard with appends := s.hoard.appends ++ [r] }

/-- The packet that waits for a record is told: a HOST record's packet its JSEQ or a refusal; a RESTORE record's packet
waits for its step. -/
def Block.recordTold (s : Block) (o : TxnOwner) (type status : Nat) : Block :=
  match o with
  | .packet h tag _ => if type = 3 then s.finishPacket h tag status (if status = 0 then pairWords (BitVec.ofNat 64 s.jseq) else []) else s
  | _ => s

/-- A deferral begins, where its condition holds and it has not begun (R352, R468). -/
def Block.noteDefer (s : Block) : Block :=
  if !s.hoard.deferOn ∧ (960 ≤ s.hoardTemp ∨ s.nvmOut) then
    (((s.setHoard { s.hoard with deferOn := true }).put Reg.HD_STATUS_DEFERRING 1).put Reg.HD_STATUS_DEFER_SEEN 1).raise 869 s.jseq
  else s

/-- JOURNAL_APPEND: the oldest record that waits is appended, or refused (R333–R335, R347, R352). -/
def doJournalAppend (s : Block) : Block :=
  match s.hoard.appends with
  | [] => s
  | r :: rest =>
    if !s.fwHoard then s
    else
      let s := s.setHoard { s.hoard with appends := rest }
      let body := runsBody r.runs
      let len := 1 + (body.length + 31) / 32
      if s.deferring then
        let s := s.noteDefer.markDirty r.domain
        let s := if r.domain = 0x3FF ∨ s.hoard.deferred.elem r.domain then s
          else s.setHoard { s.hoard with deferred := s.hoard.deferred ++ [r.domain] }
        s.recordTold r.owner r.type 0x20
      else if s.hoard.readOnly.elem 5 then (s.markDirty r.domain).recordTold r.owner r.type 0x30
      else if 65536 < s.get Reg.HD_JOURNAL_USED + len ∨ !s.journalRoom len then
        let s := (s.markDirty r.domain).put Reg.HD_JOURNAL_BUDGET_SPENT 1
        let s := if s.hoard.dirty = [] then s else s.writeDirty
        (s.raise 867 s.jseq).recordTold r.owner r.type 0x30
      else
        let s := s.appendRecord r.type r.flags r.domain r.runs.length body
        let s := s.put Reg.HD_JOURNAL_USED (s.get Reg.HD_JOURNAL_USED + len)
        let s := if r.type ≤ 2 ∧ r.domain ≠ 0x3FF then
            s.setDom r.domain { s.domain r.domain with image := 0, jseq := s.jseq } else s
        s.recordTold r.owner r.type 0

/-! What an image and the journal give (R339–R341). -/

/-- The image that supplies segment `i`, the first good one of `order` whose kind map is the trunk's in force, and how many
were skipped for failing R330. -/
def Block.sourceOf (s : Block) (i : Nat) : List Nat → Option Nat × Nat
  | [] => (none, 0)
  | k :: rest =>
    let t := segmentHub i / 64
    if !s.imageValid k ∨ s.imageKsig k t ≠ kindSignature (s.kindAt t) 16384 then s.sourceOf i rest
    else if s.segmentGood k i then (some k, 0)
    else
      let (r, n) := s.sourceOf i rest
      (r, n + 1)

/-- The order of R339, from image `k` on. -/
def Block.imageOrder (s : Block) (k : Nat) : List Nat :=
  let all := [s.currentImage] ++ (match s.previousImage with
    | some p => [p]
    | none => []) ++ (if s.currentImage = 0 then [] else [0])
  all.dropWhile (· ≠ k)

/-- What a restore or commit takes its codes from: the order of images, and which records apply to codes of image `k`. -/
structure Plan where
  order : List Nat
  recs : Nat → List JRec

/-- The plan of R339 and R340 for the images and journal as they stand, records up to JSEQ `last`. -/
def Block.planFrom (s : Block) (k : Nat) (last : Option Nat) : Plan :=
  let from' (j : Nat) : List JRec := (s.walk (if j = 0 then s.currentImage else j) last).1
  let a := from' 0
  let b := from' 1
  let c := from' 2
  { order := s.imageOrder k, recs := fun j => if j = 0 then a else if j = 1 then b else c }

/-- The plan of an image or domain restore packet: the segments of image `k` on, and with UPTO the records of R425. -/
def Block.packetPlan (s : Block) (k : Nat) (upto : Option Nat) : Plan :=
  match upto with
  | none => { order := s.imageOrder k, recs := fun _ => [] }
  | some u => s.planFrom k (some u)

/-- The default of the kind of a leaf. -/
def Block.kindDefault (s : Block) (t l : Nat) : Nat := bitsOf (s.kindDef t (s.kindAt t l)) 11 0

/-- Hub `k`'s codes by a plan, leaf by leaf: the image part, or the kind's default where no source is good, then the
journal. Also how many segments failed, and whether the factory image supplied it. -/
def Block.planCodes (s : Block) (p : Plan) (k : Nat) : List (Nat × Nat) × Nat × Bool × Bool :=
  let t := k / 64
  let i := segmentOf k
  let (src, bad) := s.sourceOf i p.order
  let rs := p.recs (src.getD 0)
  let ls := s.leaves t
  let codes := ls.zipIdx.map (fun (l, j) =>
    (l, match s.journalCode rs (hubLeaf k l) with
      | some c => c
      | none => match src with
        | some m => s.packedCode (imageBase m + s.segmentAt i) j
        | none => s.kindDefault t l))
  (codes, bad, src == some 0, src.isNone)

/-- CHECK_FAIL is raised, with the low word of the SEQ concerned (R355). -/
def Block.checkFail (s : Block) (d : Nat) : Block := ((s.put Reg.HD_STATUS_CHECK_FAIL_SEEN 1).raise 864 d).life 13 1

/-- The segments of a list of hubs are reported: one CHECK_FAIL for each that was skipped, and where no source is good;
FACTORY_USED where the factory image supplied it. The flags of Table 16.12 with them. -/
def Block.reportSources (s : Block) (p : Plan) (hubs : List Nat) : Nat × Block :=
  hubs.foldl (fun (a : Nat × Block) k =>
    let s := a.2
    let (src, bad) := s.sourceOf (segmentOf k) p.order
    let n := bad + (if src.isNone then 1 else 0)
    let seq := match p.order with
      | j :: _ => s.imageSeq j
      | [] => 0
    let s := (List.range n).foldl (fun s _ => s.checkFail seq) s
    let fact := src == some 0 && p.order.head? != some 0
    let s := if fact then (s.put Reg.HD_STATUS_FACTORY_USED_SEEN 1).raise 877 0 else s
    ((if 0 < n then a.1 ||| 1 else a.1) ||| (if fact then 2 else 0), s)) (0, s)

/-- JOURNAL_TORN is raised (R340). -/
def Block.torn (s : Block) : Block := (s.put Reg.HD_STATUS_TORN_SEEN 1).raise 868 s.jseq

/-! Restores (R218, R219, R339–R342). -/

/-- A hub's code by the plan, but for a node of a stock domain whose code table has been built since CORE returned
(R341). -/
def Block.withTables (s : Block) (k : Nat) (codes : List (Nat × Nat)) : List (Nat × Nat) :=
  codes.map (fun (l, c) =>
    match nodeEntry (hubLeaf k l) with
    | some (d, j) => if s.tableBuilt d ∧ s.kindAt (k / 64) l ≠ 63 then (l, s.tableCode d j) else (l, c)
    | none => (l, c))

/-- The restore requester writes codes to hub `k`; to a FRESH hub none that equals its kind's default (R342). -/
def Block.restoreWrites (s : Block) (k : Nat) (codes : List (Nat × Nat)) : Block :=
  s.each (codes.filter (fun (l, c) => !((s.hub k).fresh && c == s.kindDefault (k / 64) l))) (fun s (l, c) =>
    s.submit (Txn.to 1 1 (hubLeaf k l) c .restore))

/-- The pool steps that firmware may open: free, no disarm due, and assigned to no run (R285). -/
def Block.freeSteps (s : Block) : List Nat :=
  s.stepPool.filter (fun i =>
    s.stepState i ≠ STEP_OPENED && s.stepState i ≠ STEP_SEALED && (s.step' i).waiting.isNone && (s.step' i).disarm == [] &&
      !s.stock.doms.any (fun p => p.2.steps.elem i) && !s.sett.restoring.any (fun r => r.step == i))

/-- A restore step on timebase `tb` is opened as step `i`, armed on the hubs and sealed, by requester 1. A LOCAL step names
the present instant, so that it fires as soon as it can (the model's choice). -/
def Block.restoreStep (s : Block) (i tb : Nat) (hubs : List Nat) (o : TxnOwner) : Block :=
  let s := (s.openStep i 1 tb 0 (if tb = 0 then some s.localCount else none) .restore).2
  let s := s.setStep i { s.step' i with restores := o == .restore }
  let s := (s.withSett { s.sett with restoring := s.sett.restoring ++ [({ step := i, hubs := hubs, owner := o } : Restoring)] })
  let s := s.each hubs (fun s k => s.submit
    { req := 1, op := 6, trunk := k / 64, hub := k % 64, leaf := 512 * i, val := 0, owner := .restore, issues := 0 })
  s.sealStep i 1 .restore

/-- The hubs in the order of R342: T8 and T9 alternating, T0–T7, T10–T11. -/
def restoreOrder : List Nat :=
  (List.range 64).flatMap (fun h => [64 * 8 + h, 64 * 9 + h]) ++ (List.range 8).flatMap trunkHubs ++ [10, 11].flatMap trunkHubs

/-- The timebases of some hubs' trunks, each once. -/
def Block.restoreTbs (s : Block) (hubs : List Nat) : List Nat :=
  (hubs.map (fun k => min 4 (s.get (Reg.TRK_RESTORE_TB (k / 64))))).eraseDups

/-- A restore is under way until its last write has completed (R355). -/
def Block.beginRestoring (s : Block) : Block :=
  if trunkList.all (fun t => (s.queue t 1).all (fun y => y.op != 1)) then s.raise 878 (s.reg Reg.HD_JSEQ_LO).toNat
  else s.put Reg.HD_STATUS_RESTORING 1

/-- Some hubs are rewritten by a plan, by code tables where `tables` allows, and one restore step for each timebase is
sealed on them. Nothing begins while the pool has too few free steps. -/
def Block.restoreHubs (s : Block) (p : Plan) (hubs : List Nat) (tables : Bool) (o : TxnOwner) : Nat × Block :=
  let tbs := s.restoreTbs hubs
  if hubs = [] ∨ s.freeSteps.length < tbs.length then (0, s)
  else
    let steps := s.freeSteps
    let (flags, s) := s.reportSources p hubs
    let s := s.each hubs (fun s k =>
      let c := (s.planCodes p k).1
      (s.restoreWrites k (if tables then s.withTables k c else c)).setHubRec k { s.hubRec k with restore := false })
    let s := s.each (tbs.zip steps) (fun s (tb, i) =>
      s.restoreStep i tb (hubs.filter (fun k => min 4 (s.get (Reg.TRK_RESTORE_TB (k / 64))) == tb)) o)
    (flags, s.beginRestoring)

/-- The code table of stock domain `d` is built: from the plan's codes, or for a dirty domain whose hubs are not FRESH
from the trims in force (R287, R341). -/
def Block.buildTable (s : Block) (p : Plan) (dirty : List Nat) (d : Nat) : Block :=
  let nodes := domainNodes d
  let fresh := (nodeHubs nodes).any (fun k => (s.hub k).fresh)
  if dirty.elem d ∧ !fresh then s.putTable d (nodes.map (fun a => (s.activeOf a).toNat)) true
  else
    let hubs := (nodeHubs nodes).map (fun k => (k, (s.planCodes p k).1))
    s.putTable d (nodes.map (fun a =>
      match hubs.find? (fun q => q.1 == 64 * nodeTrunk a + nodeHub a) with
      | some q => match q.2.find? (fun lc => lc.1 == nodeLeaf a) with
        | some lc => lc.2
        | none => 0
      | none => 0)) false

/-- Codes that a plan gives domain `d` came from hub readback: a source image, or a record that names the domain, says so
(R294, Tables 13.7, 13.8). -/
def Block.planReadback (s : Block) (p : Plan) (d : Nat) : Bool :=
  (nodeHubs (domainNodes d)).any (fun k =>
    let src := (s.sourceOf (segmentOf k) p.order).1
    (match src with
      | some m => bitOf (s.hNat (imageBase m + 7) 1) 1
      | none => false) ||
    (p.recs (src.getD 0)).any (fun r => bitOf (s.hNat (journalAt r.ofs + 3) 1) 1 &&
      (domainNodes d).any (fun a => decide (64 * nodeTrunk a + nodeHub a = k) && (s.journalCode [r] a).isSome)))

/-- The stock domains that have a code table. -/
def tableDomains : List Nat := (List.range 144).filter (fun d => ncode d ≠ 0)

/-- Firmware reads domain `d`'s code table. A data error makes it abandon what it reads for, and rebuild the table from the
image and the journal (R435). -/
def Block.readTable (s : Block) (d : Nat) : Option (List Nat) × Block :=
  let (bs, _, ue, s) := s.memRead .bear (s.jobAt d + 64) (2 * ncode d)
  if ue then (none, s.buildTable (s.planFrom s.currentImage (if s.jseq = 0 then none else some s.jseq)) [] d)
  else (some ((List.range (ncode d)).map (fun j => leNat ((bs.drop (2 * j)).take 2) % 4096)), s)

/-- Every code table that is not built is built. -/
def Block.buildTables (s : Block) (p : Plan) : Block :=
  let dirty := (s.hoard.dirty ++ s.dirtyOf (p.recs s.currentImage)).eraseDups
  s.each (tableDomains.filter (fun d => !s.tableBuilt d)) (fun s d => s.buildTable p dirty d)

/-- The plan for a restore that names no image. -/
def Block.ownPlan (s : Block) : Plan := s.planFrom s.currentImage (if s.jseq = 0 then none else some s.jseq)

/-- The hubs that are to be rewritten from the image (R218, R219). -/
def Block.flagged (s : Block) (hubs : List Nat) : List Nat :=
  hubs.filter (fun k => (s.hubRec k).restore && (s.hubRec k).state == HUB_ACTIVE)

/-- The walk of a plan that names no image stops at a record that fails: JOURNAL_TORN is raised (R340). -/
def Block.ownTorn (s : Block) : Block :=
  if s.jseq ≠ 0 ∧ (s.walk s.currentImage (some s.jseq)).2.2 then s.torn else s

/-- RESTORE: every hub that training has marked is rewritten and stepped (R218, R219, R339–R342), and code tables that CORE
lost are built. -/
def doRestore (s : Block) : Block :=
  if !s.fwHoard ∨ s.flag Reg.HD_STATUS_RESTORING then s
  else
    let p := s.ownPlan
    ((s.ownTorn.restoreHubs p (s.flagged restoreOrder) true .restore).2).buildTables p

/-- PARTNER_RESTORE: the marked hubs of die `d` are rewritten and stepped (R218). -/
def doPartnerRestore (d : Nat) (s : Block) : Block :=
  let hubs := s.flagged (restoreOrder.filter (fun k => dieOf (k / 64) == d))
  if !s.fwHoard ∨ s.flag Reg.HD_STATUS_RESTORING ∨ hubs = [] then s
  else ((s.ownTorn.restoreHubs s.ownPlan hubs true .restore).2).life 10 1

/-! Start of the Hoard's firmware (R354). -/

/-- Firmware reads the headers, of which one that fails its check is reported (R355), and walks the journal: the registers of the HOARD block are set again. -/
def Block.readHoard (s : Block) : Block :=
  let s := s.each [0, 1, 2] (fun s k =>
    if s.hNat (imageBase k) 4 = 0x4E4C4E49 ∧ !s.imageValid k then s.checkFail (s.imageSeq k) else s)
  let s := s.showImages
  let k := s.currentImage
  let (rs, next, stop) := s.walk k none
  let used := ((rs.filter (fun r => r.type ≤ 3)).map (·.len)).foldl (· + ·) 0
  let last := s.imageCovered k + rs.length
  let s := s.setHoard { s.hoard with
    next := next, dirty := s.dirtyOf rs, firstAt := if rs = [] then none else some (s.hoard.firstAt.getD s.now) }
  let s := s.setPair Reg.HD_JSEQ_LO Reg.HD_JSEQ_HI (BitVec.ofNat 64 last)
  let s := ((s.put Reg.HD_JOURNAL_USED used).put Reg.HD_COMMIT_COMMIT_MIN s.commitMin).showWear.showAges
  let s := (s.putB Reg.HD_STATUS_READ_ONLY (s.hoard.readOnly ≠ [])).putB Reg.HD_STATUS_DEFERRING s.hoard.deferOn
  let s := (s.putB Reg.HD_JOURNAL_BUDGET_SPENT (rs.any (fun r => r.type == 4))).putB Reg.HD_STATUS_RESTORING
    (trunkList.any (fun t => (s.queue t 1).any (fun y => y.op == 1)))
  let s := s.showDays
  if stop then s.torn else s

/-! Commits (R336–R338, R427). -/

/-- A commit has something to write: records after the current image, or a dirty domain. -/
def Block.commitDue (s : Block) : Bool := s.imageCovered s.currentImage < s.jseq || s.hoard.dirty != []

/-- COMMIT_MIN has passed since the last commit began. -/
def Block.commitMinOver (s : Block) : Bool :=
  match s.hoard.begunAt with
  | some t => decide (t + 60 * 10 ^ 9 * s.commitMin ≤ s.now)
  | none => true

/-- A commit begins into the working image that is not current: its header is invalidated. -/
def Block.beginCommit (s : Block) (o : TxnOwner) (src : Option (Nat × Nat)) : Block :=
  let cur := s.currentImage
  let t := if cur = 1 then 2 else 1
  let s := s.setHoard { s.hoard with
    commit := some ⟨t, (if cur = 0 then 0 else s.imageSeq cur) + 1, s.jseq, s.hoard.next, src, o⟩, want := none, wantSrc := none,
    begunAt := some s.now }
  let s := s.hWrite (imageBase t) (leBytes 4 0 ++ s.hBytes (imageBase t + 4) 28)
  ((s.showImages.put Reg.HD_IMAGES_TARGET (t - 1)).put Reg.HD_IMAGES_BUILDING 1).put Reg.HD_STATUS_COMMITTING 1

/-- What a commit's owner is told. -/
def Block.commitTold (s : Block) (o : TxnOwner) (status seq : Nat) : Block :=
  match o with
  | .packet h tag _ =>
    match (s.host h).runningTag tag with
    | some p =>
      if p.opcode = 0x40 then (s.put Reg.CMD_STATUS_RESTORE_BUSY 0).finishPacket h tag status [Bank.get (fun _ => 0) p.results 0, BitVec.ofNat 32 seq]
      else s.finishPacket h tag status (if status = 0 then [BitVec.ofNat 32 seq] else [])
    | none => s
  | _ => s

/-- The commit in progress, or the one wanted, is given up (R337, R347). -/
def Block.abandonCommit (s : Block) (o : TxnOwner) (status : Nat) : Block :=
  let s := s.setHoard { s.hoard with commit := none, want := none, wantSrc := none, begunAt := some s.now }
  let s := (s.put Reg.HD_IMAGES_BUILDING 0).put Reg.HD_STATUS_COMMITTING 0
  (s.raise 866 (s.imageSeq s.currentImage)).commitTold o status (s.imageSeq s.currentImage)

/-- COMMIT_BEGIN: one of the conditions of R336 holds, or a commit is wanted. -/
def doCommitBegin (s : Block) : Block :=
  let fill := 65536 * s.commitFill ≤ 100 * s.get Reg.HD_JOURNAL_USED
  let old := match s.hoard.firstAt with
    | some t => decide (t + 3600 * 10 ^ 9 * s.commitMax ≤ s.now)
    | none => false
  if !s.fwHoard ∨ s.deferring ∨ s.hoard.commit.isSome ∨ !s.commitMinOver ∨
      !(s.hoard.want.isSome || (s.commitDue && (decide fill || old))) then s
  else
    let o := s.hoard.want.getD .none
    if s.hoard.readOnly.elem (if s.currentImage = 1 then 4 else 3) then s.abandonCommit o 0x30
    else s.beginCommit o s.hoard.wantSrc

/-- The codes that a commit writes for hub `k`: the current image's, or the restored ones, and the code tables of dirty
domains. -/
def Block.commitCodes (s : Block) (p : Plan) (k : Nat) : List Nat :=
  (s.planCodes p k).1.map (fun (l, c) =>
    match nodeEntry (hubLeaf k l) with
    | some (d, j) => if s.hoard.dirty.elem d ∧ s.tableBuilt d then s.tableCode d j else c
    | none => c)

/-- The segments of an image. -/
def Block.commitBody (s : Block) (p : Plan) (seq : Nat) : List Byte :=
  (List.range 388).flatMap (fun i =>
    let b := packed (s.commitCodes p (segmentHub i))
    b ++ segmentTrailer b seq i)

/-- An image's header. -/
def Block.header (s : Block) (t flags seq covered jofs commits : Nat) : List Byte :=
  let b := padBytes 252 (leBytes 4 0x4E4C4E49 ++ leBytes 2 1 ++ leBytes 1 t ++ leBytes 1 flags ++ leBytes 4 seq ++ leBytes 2 388 ++
    leBytes 2 0 ++ leBytes 8 covered ++ leBytes 4 jofs ++ leBytes 4 0 ++
    trunkList.flatMap (fun n => leBytes 2 (kindSignature (s.kindAt n) 16384)) ++ leBytes 8 s.now ++ leBytes 4 commits)
  b ++ leBytes 4 (crc32 b).toNat

/-- The value of item 0x0720: the coefficient registers in address order (the model's layout). -/
def Block.coefValue (s : Block) : List Byte :=
  (List.range 32).flatMap (fun k => (List.range 8).flatMap (fun g => wordBytes (s.reg (Reg.FINE_COEF k g)))) ++
    (List.range 16).flatMap (fun j => (List.range 4).flatMap (fun g => wordBytes (s.reg (Reg.SWIFT_COEF j g))))

/-- Domains whose codes image `seq` now holds say so (Table 16.11). -/
def Block.noteImage (s : Block) (seq jlast : Nat) : Block :=
  s.each (s.stock.doms.map (·.1)) (fun s d =>
    let v := s.domain d
    if (v.jseq ≠ 0 ∧ v.jseq ≤ jlast) ∨ s.hoard.dirty.elem d then s.setDom d { v with image := seq, jseq := 0 } else s)

/-- The dirty mark, budget and counts start anew after an image that covers JSEQ `jlast` (R334, R337). -/
def Block.newInterval (s : Block) (jlast : Nat) : Block :=
  let rs := (s.walk s.currentImage (some s.jseq)).1
  let used := ((rs.filter (fun r => r.type ≤ 3)).map (·.len)).foldl (· + ·) 0
  let s := s.setHoard { s.hoard with dirty := [], firstAt := if s.jseq ≤ jlast then none else some s.now, commit := none }
  ((((s.put Reg.HD_JOURNAL_USED used).put Reg.HD_JOURNAL_BUDGET_SPENT 0).put Reg.HD_IMAGES_BUILDING 0).put
    Reg.HD_STATUS_COMMITTING 0).showImages

/-- The rows of segment `i` of image `k` are retired (R337). -/
def Block.retireSegment (s : Block) (k i : Nat) : Block :=
  let o := imageBase k + s.segmentAt i
  let n := s.segmentLen (segmentHub i / 64)
  if i < 388 then s.each ((List.range ((o + n - 1) / 4096 + 1)).drop (o / 4096)) Block.retireRow else s

/-- COMMIT_DONE: the segments `bad` were found bad at their first read-back, so that their rows are retired and they are
written again. The segments and the header are durable and the header has been read back, and the target becomes current;
or, with `fail`, a read-back has failed twice and the commit is abandoned. -/
def doCommitDone (bad : List Nat) (fail : Bool) (s : Block) : Block :=
  match s.hoard.commit with
  | none => s
  | some c =>
    if !s.fwHoard ∨ s.deferring then s
    else if fail then (s.each bad (fun s i => s.retireSegment c.target i)).abandonCommit c.owner 0x31
    else
      let s := s.each bad (fun s i => s.retireSegment c.target i)
      let p := match c.src with
        | some (k, u) => s.packetPlan k (if u = 0 then none else some (u - 1))
        | none => s.planFrom s.currentImage (some c.jlast)
      let s := s.buildTables p
      let n := Bank.get (fun _ => 0) s.hoard.wear.life 8 + 1
      let rb := if s.hoard.dirty.any (fun d => s.tableReadback d) then 2 else 0
      let s := s.hWrite (imageBase c.target + 256) (s.commitBody p c.seq)
      let s := (s.hWrite (imageBase c.target) (s.header c.target rb c.seq c.jlast c.jofs n)).life 8 1
      let s := ((s.noteImage c.seq c.jlast).newInterval c.jlast).flush
      let s := if s.itemsLeft 1 then
          ((s.writeItem 0x720 s.coefValue).2).hWrite (imageBase c.target) (s.header c.target (rb + 1) c.seq c.jlast c.jofs n)
        else s.configRefused
      (s.raise 865 c.seq).commitTold c.owner 0 c.seq

/-- A commit in progress is begun again (R352, R354). -/
def Block.restartCommit (s : Block) : Block :=
  match s.hoard.commit with
  | some c => s.beginCommit c.owner c.src
  | none => s

/-! Deferral (R352, R468). -/

/-- WRITE_DEFER: the temperature of R350 is 120 °C or above, or VDD_NVM is out of range. -/
def doWriteDefer (s : Block) : Block := if s.fwHoard then s.noteDefer else s

/-- WRITE_RESUME: below 115 °C, and with VDD_NVM in range, writes resume. Each domain dirtied during the deferral has its whole
code table appended; a commit that was in progress begins again. -/
def doWriteResume (s : Block) : Block :=
  if s.fwHoard ∧ s.hoard.deferOn ∧ s.hoardTemp < 920 ∧ !s.nvmOut then
    let s := ((s.setHoard { s.hoard with deferOn := false }).put Reg.HD_STATUS_DEFERRING 0).raise 870 s.jseq
    let s := s.each (s.hoard.deferred.filter (fun d => s.tableBuilt d)) (fun s d =>
      match s.readTable d with
      | (some codes, s) => s.queueRecord
          { type := 1, flags := 1, domain := d, owner := .none, runs := domainRuns d ((domainNodes d).zip codes) }
      | (none, s) => s)
    (s.setHoard { s.hoard with deferred := [] }).restartCommit
  else s

/-! The commands of this file, with the operands that the command table's rows take here. -/

def execPartnerRestore (d : Fin 5) (s : State) : Out := .next (s.withBlock (doPartnerRestore d s.toBlock))
def execJournalAppend (s : State) : Out := .next (s.withBlock (doJournalAppend s.toBlock))
def execCommitBegin (s : State) : Out := .next (s.withBlock (doCommitBegin s.toBlock))
def execCommitDone (ended : List Nat × Bool) (s : State) : Out := .next (s.withBlock (doCommitDone ended.1 ended.2 s.toBlock))
def execRestore (s : State) : Out := .next (s.withBlock (doRestore s.toBlock))
def execWriteDefer (s : State) : Out := .next (s.withBlock (doWriteDefer s.toBlock))
def execWriteResume (s : State) : Out := .next (s.withBlock (doWriteResume s.toBlock))

end Sys2Proof.Machine
end

