-- ==== Sys2Proof/Machine/Den.lean ====
section
/-! DEFINITION. Chapter 17: sensors (R442, R443), the watchdog and Bear restarts (R435, R436, R440, R441), the event
controller's own commands (R450–R454, R461), the Trail (R455–R458) and the figure log (R459). -/

namespace Sys2Proof.Machine

/-! Firmware's raises (R461). -/

/-- Firmware fills EV_FWDATA and raises a Den source: word 0 as given, what the spec does not give open. -/
def Block.fwRaise (s : Block) (src : Nat) (d : Option Nat) : Block :=
  let (k, s) := s.drawN 8
  let w (i : Nat) : Word := match d, i with
    | some v, 0 => BitVec.ofNat 32 v
    | _, _ => Config.freeWord (k + i)
  let s := s.each (List.range 8) (fun s i => s.setReg (Reg.EV_FWDATA i) (w i))
  s.raiseWith src ((List.range 8).map w) false

/-! Sensors (R279, R442, R443). -/

/-- The partner die that a scanned diode measures: T0–T3 receive die 0, T4–T7 die 1, lanes 0–7 and 8–15 the transmit
dies, the photonic die (Tables 8.1 and 11.2). -/
def sensorDie (n : Nat) : Nat := if n < 44 then 0 else if n < 48 then 1 else if n < 52 then 2 else if n < 56 then 3 else 4

/-- A die is down by R191. -/
def Block.dieDown (s : Block) (d : Nat) : Bool := s.bit Reg.SETT_STATUS (12 + d)

/-- Sensor `n` cannot be presented now: its AFE domain or its die is down, or there is no such sensor. -/
def Block.sensorGone (s : Block) (n : Nat) : Bool :=
  !s.domainOn 6 || (if n < 24 then false else if n < 40 then !s.domainOn 30 else if n < 60 then s.dieDown (sensorDie n) else true)

/-- The latest reading of sensor `n`, 0.125 °C; none while it is INVALID. -/
def Block.sensor (s : Block) (n : Nat) : Option Int :=
  if s.sensorGone n then none
  else if n < 24 then
    if s.flag (Reg.THERM_INVALID n) then none else some (signed 16 (s.get (Reg.THERM_READING n)))
  else
    let v := Bank.get (fun _ => ⟨0, true⟩) s.den.sensors n
    if v.outOfRange then none else some v.reading.toInt

/-- SENSOR_INVALID: a sensor of Table 11.2 becomes INVALID. -/
def Block.sensorInvalid (s : Block) (n : Nat) : Block := (s.put Reg.DEN_STATUS_INVALID_SEEN 1).raise 916 n

/-- Sensor `i`, 0–23, has been converted: a reading, or a failure, whose READING is open. -/
def Block.takeTherm (s : Block) (i : Nat) (r : Option (BitVec 16)) : Block :=
  let was := s.flag (Reg.THERM_INVALID i)
  let bad := match r with
    | some v => decide (v.toInt < -512) || decide (1280 < v.toInt)
    | none => true
  let (k, s) := s.draw
  let s := s.put (Reg.THERM_READING i) (match r with
    | some v => v.toNat
    | none => Config.freeNat k)
  let s := s.putB (Reg.THERM_INVALID i) bad
  let s := if bad ∧ !was then s.sensorInvalid i else s
  match r with
  | none => s
  | some v =>
    let hi := signed 12 (s.get (Reg.THERM_HI i))
    let set (s : Block) (b : Bool) : Block := (s.withDen { s.den with therm := Bank.set (fun _ => false) s.den.therm i b })
    if bad then s
    else if v.toInt < hi - 16 then set s true
    else if hi ≤ v.toInt ∧ Bank.get (fun _ => false) s.den.therm i then
      ((set s false).put Reg.DEN_STATUS_TEMP_SEEN 1).raise (880 + i) i
    else s

/-- DEN_TJ: the highest valid reading, kept while every sensor is INVALID. -/
def Block.updateTj (s : Block) : Block :=
  let l := (List.range 24).filterMap s.sensor
  match l with
  | [] =>
    let s := (s.withDen { s.den with tjInvalidSince := some (s.den.tjInvalidSince.getD s.now) })
    s.put Reg.DEN_TJ_INVALID 1
  | a :: t =>
    let s := (s.withDen { s.den with tjInvalidSince := none })
    (s.put Reg.DEN_TJ_DEN_TJ (toBits 16 (t.foldl max a))).put Reg.DEN_TJ_INVALID 0

/-- Something that hardware does every `d` ns is due, when it was last done at `t`. -/
def Block.dueAfter (s : Block) (t : Option Nat) (d : Nat) : Bool :=
  match t with
  | some t => decide (t + d ≤ s.now)
  | none => true

/-- SENSOR_SAMPLE: the conversions of sensors 0–23, in order, every 125 µs. -/
def doSensorSample (l : List (Option (BitVec 16))) (s : Block) : Block :=
  if s.domainOn 6 ∧ !s.busySS 16 ∧ s.dueAfter s.den.sampledAt 125000 then
    ((s.withDen { s.den with sampledAt := some s.now }).each ((l.take 24).zipIdx) (fun s (r, i) => s.takeTherm i r)).updateTj
  else s

/-- SENSOR_SCAN: the readings of sensors 24–59, in order, every 1 ms. -/
def doSensorScan (l : List (BitVec 16)) (s : Block) : Block :=
  if s.domainOn 6 ∧ !s.busySS 16 ∧ s.dueAfter s.den.scannedAt 1000000 then
    (s.withDen { s.den with scannedAt := some s.now }).each ((l.take 36).zipIdx) (fun s (v, i) =>
      let n := 24 + i
      let old := Bank.get (fun _ => ⟨0, true⟩) s.den.sensors n
      let bad := s.sensorGone n || decide (v.toInt < -480) || decide (1280 < v.toInt)
      let s := (s.withDen { s.den with
        sensors := Bank.set (fun _ => ⟨0, true⟩) s.den.sensors n ⟨if s.sensorGone n then old.reading else v, bad⟩ })
      if bad ∧ !old.outOfRange then s.sensorInvalid n else s)
  else s

/-- The word of TEMP.RD: the latest reading in [15:0], INVALID in [31]; for a sensor that does not exist the reading is
open. -/
def Block.tempWord (s : Block) (n : Nat) : Word × Block :=
  let (k, s) := s.draw
  let r : BitVec 16 :=
    if n < 24 then BitVec.ofNat 16 (s.get (Reg.THERM_READING n))
    else if n < 60 then (Bank.get (fun _ => ⟨0, true⟩) s.den.sensors n).reading
    else BitVec.ofNat 16 (Config.freeNat k)
  (BitVec.ofNat 32 (r.toNat + 2 ^ 31 * (s.sensor n).isNone.toNat), s)

/-- TEMP_RD: FX`n` reads sensor `k` into sX. -/
def doTempRd (n x k : Nat) (s : Block) : Block :=
  s.issue n (encR 0x00 x 0 0 (4 + 256 * k)) [x] (fun s =>
    let (w, s) := s.tempWord k
    s.result n x w)

/-! The figure log (R292, R459). -/

/-- Firmware publishes a figure of its own: log, QF record, FW_FIGURE. -/
def Block.publish (s : Block) (r : Rec) : Block :=
  let n := s.get Reg.DEN_FIGLOG_NEXT
  let l := s.den.figures ++ [⟨n, r⟩]
  let l := if 1024 < l.length then l.drop 1 else l
  let s := (s.withDen { s.den with figures := l })
  let s := (s.put Reg.DEN_FIGLOG_NEXT (n + 1)).put Reg.DEN_FIGLOG_HELD l.length
  (s.offerQf r).fwRaise 931 none

/-- Entry `n` of the log; one no longer held is 16 bytes of 0. -/
def Block.figureAt (s : Block) (n : Nat) : Rec :=
  match s.den.figures.find? (fun f => f.number == n % 65536) with
  | some f => f.figure
  | none => 0

/-! Bear restarts (R410, R435, R436, R440). -/

/-- A packet that firmware had taken loses what still works for it: waiting records, restores and commits go on without
it. -/
def TxnOwner.orphan (o : TxnOwner) : TxnOwner :=
  match o with
  | .packet _ _ _ => .none
  | o => o

def Block.orphanPackets (s : Block) : Block :=
  let h := s.hoard
  let s := s.setHoard { h with
    appends := (h.appends.filter (fun r => r.type != 3)).map (fun (r : JReq) => { r with owner := r.owner.orphan })
    commit := h.commit.map (fun (c : Commit) => { c with owner := c.owner.orphan })
    want := h.want.map TxnOwner.orphan }
  let s := (s.withSett { s.sett with restoring := s.sett.restoring.map (fun (r : Restoring) => { r with owner := r.owner.orphan }) })
  s.put Reg.CMD_STATUS_RESTORE_BUSY 0

/-- Every packet that firmware had taken completes with TIMEOUT, but FW_ACTIVATE (R410). -/
def Block.timeoutTaken (s : Block) : Block :=
  (s.each [0, 1] (fun s h => s.each ((s.host h).running.filter (fun p => fwOpcode p.opcode && p.opcode != 0x63)) (fun s p =>
    s.finish h p.tag 0x21 0 false []))).orphanPackets

/-- The Bear core stops: firmware no longer runs, and requester 4 is masked (Table 9.1). -/
def Block.bearStop (s : Block) : Block :=
  let s := ((s.put Reg.BEAR_STATUS_RUNNING 0).put Reg.DEN_STATUS_FW_RUNNING 0).put Reg.CMD_STATUS_FW_READY 0
  (s.timeoutTaken).maskReq 4

/-- A Bear start: the boot programme is to select a slot, and the watchdog takes its period (R437, R441). -/
def Block.bearStart (s : Block) (cause : Nat) : Block :=
  let p := s.get Reg.WDT_CFG_PERIOD
  let s := s.put Reg.BEAR_STATUS_LAST_CAUSE cause
  (s.withDen { s.den with
    bootDue := true, triedAt := none, bearAt := s.now, wdtPeriod := if p < 10 then 10 else if 1000 < p then 1000 else p })

/-- A Bear restart for a cause of Table 17.15; quick restarts are counted (R440). -/
def Block.bearRestart (s : Block) (cause : Nat) : Block :=
  let quick := decide (cause = 2 ∨ cause = 3 ∨ cause = 4) && decide (s.now ≤ s.den.bearAt + 10 ^ 10)
  let s := s.bearStop.bump Reg.BEAR_STATUS_RESTARTS 1
  let s := (s.put Reg.DEN_STATUS_RESTART_SEEN 1).put Reg.BOOT_FAILS (if quick then satAdd 8 (s.get Reg.BOOT_FAILS) 1 else 0)
  s.bearStart cause

/-- The Bear core is powered and not held in reset. -/
def Block.bearOn (s : Block) : Bool := s.domainOn 6 && s.flag Reg.BEAR_STATUS_RUNNING

/-- BEAR_RESTART: 3 a fetch error, 4 an uncorrectable byte of the SRAM, 6 a request by firmware; the other causes act in
the commands that bring them. -/
def doBearRestart (cause : Nat) (s : Block) : Block :=
  if !s.bearOn then s
  else match cause with
    | 3 => (s.raise 919 0).bearRestart 3
    | 4 => (s.raise 920 0).bearRestart 4
    | 6 => s.bearRestart 6
    | _ => s

/-- WDT_KICK: a write of the kick value by the Bear core restarts the count. -/
def doWdtKick (ag : Nat) (v : Word) (s : Block) : Block :=
  if ag = 2 ∧ s.bearOn ∧ v = 0xC35A#32 then (s.withDen { s.den with wdtAt := s.now }) else s

/-- WDT_EXPIRE: the count runs out, no earlier than the fastest oscillator's PERIOD (1 MHz + 3 %). -/
def doWdtExpire (s : Block) : Block :=
  if s.bearOn ∧ 103 * s.den.wdtAt + 10 ^ 8 * s.den.wdtPeriod ≤ 103 * s.now then (s.raise 917 0).bearRestart 2 else s

/-- WDT_CFG.REMAIN: the ms left. -/
def Block.wdtRemain (s : Block) : Nat :=
  let gone := (s.now - s.den.wdtAt) / 10 ^ 6
  if s.bearOn then s.den.wdtPeriod - gone else 0

/-! The event controller's commands. -/

/-- The source may raise now: its domain is powered (R460). -/
def Block.mayRaise (s : Block) (src : Nat) : Bool :=
  if src < 880 then s.coreOn
  else if src < 944 then s.domainOn 6 || (decide (924 ≤ src) && decide (src ≤ 936))
  else if src < 984 then s.coreOn
  else decide (src < 1036)

/-- EVENT_RAISE: source `src` is raised with detail `d` (R449). -/
def doEventRaise (src d : Nat) (s : Block) : Block := if s.mayRaise src then s.raise src d else s

/-- The events that a change from `a` gives rise to are raised. -/
def Block.withFollowUps (s : Block) (a : Block) : Block :=
  let (more, s) := followUps a s
  Block.deliverAll 8 (more.map (fun n => ⟨n, [], false⟩)) s

/-- Sources with a count in a bank, of a class, ascending. -/
def Block.counted (s : Block) (b : Bank Nat) (c : Nat) : List (Nat × Nat) := b.filter (fun p => s.classOf p.1 == c && p.2 != 0)

/-- Step 1 of R452: the counts of TRACE and CAL sources are shed. -/
def Block.shedCounts (s : Block) : Block :=
  let low (p : Nat × Nat) : Bool := decide (2 ≤ s.classOf p.1)
  let sum (b : Bank Nat) : Nat := ((b.filter low).map (·.2)).foldl (· + ·) 0
  let t := sum s.ev.trailCnt
  let p := sum s.ev.plyCnt
  let keep (b : Bank Nat) : Bank Nat := b.filter (fun q => !low q)
  ((s.withEv { s.ev with trailCnt := keep s.ev.trailCnt, plyCnt := keep s.ev.plyCnt }).addLost t).bump Reg.EV_PLY_LOST_COUNT p

/-- Step 2: one SUMMARY record of up to 8 sources, whose time is that of the first cycle. -/
def Block.summary (s : Block) : Block :=
  let l := (s.counted s.ev.trailCnt 0 ++ s.counted s.ev.trailCnt 1).take 8
  match l with
  | [] => s
  | (src, _) :: _ =>
    if 64 ≤ s.ev.staged.length ∨ s.ev.tokens < 100 then s
    else
      let r : TrailRec :=
        { kind := .summary, injected := false, coarse := s.coarse, torn := false
          time := if s.coarse then s.localCount else BitVec.ofNat 64 (10 ^ 7 * s.evInterval)
          source := 0x7FF,
          cls := s.classOf src, ffgen := (s.reg Reg.TRAIL_FFGEN).toNat % 65536, lost := s.reg Reg.TRAIL_LOST,
          data := l.map (fun (n, c) => BitVec.ofNat 32 (n + 2 ^ 12 * s.classOf n + 2 ^ 16 * c)) }
      let cnt := l.foldl (fun b p => Bank.erase b p.1) s.ev.trailCnt
      Block.stage (s.withEv { s.ev with trailCnt := cnt, tokens := s.ev.tokens - 100 }) r

/-- Step 3: EVT records of KIND 1, up to 32, while the queue has space. -/
def Block.plySummaries (s : Block) : Block :=
  s.each ((s.counted s.ev.plyCnt 0 ++ s.counted s.ev.plyCnt 1).take 32) (fun s (n, c) =>
    if 256 ≤ s.ply.evtQ.length then s
    else
      let s := (s.withEv { s.ev with plyCnt := Bank.erase s.ev.plyCnt n })
      s.offerEvt (evtRec s.localCount c 1 (s.classOf n) n))

/-- INTERVAL_END: the first EVENT cycle of an interval (R451, R452, R454). -/
def doIntervalEnd (s : Block) : Block :=
  if s.evInterval ≤ s.ev.interval then s
  else
    let tokens := min 80000000 (s.ev.tokens + 135 * (s.evInterval - s.ev.interval))
    let a := s
    let s := (s.withEv { s.ev with singles := [], singlesIn := s.evInterval, interval := s.evInterval, tokens := tokens })
    (((s.shedCounts).summary).plySummaries.showTrail).withFollowUps a

/-- EV_PEND_CLEAR: a write of EV_PEND of path `h` by agent `ag`; one from the other port is ignored (R450). -/
def doEvPendClear (ag h i : Nat) (v : Word) (s : Block) : Block :=
  let a := (if h = 0 then Reg.EV_PEND_A 0 else Reg.EV_PEND_B 0) + 4 * i
  if (ag = 2 ∨ ag = h) ∧ h < 2 ∧ i < 33 then s.writeFields a (s.clearable h i v) else s

/-- A write of EV_BUDGET: ignored unless TRACE ≤ CAL ≤ FAULT ≤ ALARM (R451). -/
def Block.writeEvBudget (s : Block) (p : Nat) (v : Word) : Block :=
  if bitsOf v 7 0 ≤ bitsOf v 15 8 ∧ bitsOf v 15 8 ≤ bitsOf v 23 16 ∧ bitsOf v 23 16 ≤ bitsOf v 31 24 then
    s.setReg (Reg.EV_BUDGET p) v
  else s.put Reg.EV_STATUS_CFG_IGNORED 1

/-- EV_BUDGET_WRITE. -/
def doEvBudgetWrite (p : Nat) (v : Word) (s : Block) : Block := if p < 4 then s.writeEvBudget p v else s

/-- A write of EV_FWRAISE (R461). -/
def Block.writeFwraise (s : Block) (ag : Nat) (v : Word) : Block :=
  let n := bitsOf v 10 0
  if ag = 2 ∧ 880 ≤ n ∧ n ≤ 943 then s.raiseWith n ((List.range 8).map (fun k => s.reg (Reg.EV_FWDATA k))) false
  else s.put Reg.EV_STATUS_FWRAISE_IGNORED 1

/-- EV_FWRAISE. -/
def doEvFwraise (ag : Nat) (v : Word) (s : Block) : Block := s.writeFwraise ag v

/-- A read of EV_CNT_DATA by agent `ag`: the counters of the source its index names; the index advances. -/
def Block.readEvCnt (s : Block) (ag : Nat) : Word × Block :=
  let f : Fld := ⟨ownCopy ag Reg.EV_CNT_IDX, 10, 0⟩
  let n := s.get f
  let c (b : Bank Nat) : Nat := Bank.get (fun _ => 0) b n
  (BitVec.ofNat 32 (c s.ev.trailCnt + 65536 * c s.ev.plyCnt), s.put f (if n = 1035 then 0 else n + 1))

/-- EV_CNT_READ. -/
def doEvCntRead (ag : Nat) (s : Block) : Block := (s.readEvCnt ag).2

/-! The Trail (R455–R458). -/

/-- The bytes of a record; `ff` marks a first-fault copy. -/
def trailBytes (r : TrailRec) (rseq : Nat) (ff : Bool) : List Byte :=
  let kind := match r.kind with
    | .single => 0
    | .summary => 1
    | .start => 2
  let b := leBytes 2 0x5254 ++ leBytes 1 kind ++
    leBytes 1 (r.injected.toNat + 2 * ff.toNat + 4 * r.coarse.toNat + 8 * r.torn.toNat) ++ leBytes 8 rseq ++
    leBytes 8 r.time.toNat ++ leBytes 2 (r.source + 2 ^ 12 * r.cls) ++ leBytes 2 r.ffgen ++ leBytes 4 r.lost.toNat ++
    padBytes 32 (r.data.flatMap wordBytes)
  b ++ leBytes 4 (crc32 b).toNat

/-- The Hoard offset of slot `i` of the Trail; the ring slot of a record. -/
def trailAt (i : Nat) : Nat := 32 * mib + 64 * i
def ringSlot (rseq : Nat) : Nat := 1024 + rseq % 130048

/-- The next record goes to the ring: RSEQ rises, and TRAIL_WP shows the next slot. -/
def Block.writeTrail (s : Block) (r : TrailRec) : Block :=
  let q := s.ev.rseq.toNat + 1
  let s := s.hWrite (trailAt (ringSlot q)) (trailBytes r q false)
  let s := (s.withEv { s.ev with rseq := BitVec.ofNat 64 q })
  (s.setReg Reg.TRAIL_WP (BitVec.ofNat 32 (ringSlot (q + 1)))).life 12 1

/-- A record that the first-fault region takes (R457). -/
def ffTakes (r : TrailRec) : Bool :=
  match r.kind with
  | .summary => true
  | .single => decide (r.cls ≤ 1)
  | .start => false

/-- FF_FILL becomes `n`. -/
def Block.setFill (s : Block) (n : Nat) : Block := (s.put Reg.TRAIL_STATE_FF_FILL n).putB Reg.EV_STATUS_FF_FULL (decide (1024 ≤ n))

/-- The first-fault copy of a record with number `q`. -/
def Block.writeFf (s : Block) (r : TrailRec) (q : Nat) : Block :=
  let n := s.get Reg.TRAIL_STATE_FF_FILL
  if !ffTakes r ∨ 1024 ≤ n then s
  else
    let s := (s.hWrite (trailAt n) (trailBytes r q true)).setFill (n + 1)
    if n + 1 = 1024 then s.raise 936 0 else s

/-- The oldest staged record is freed. -/
def Block.unstage (s : Block) : Block := Block.showTrail (s.withEv { s.ev with staged := s.ev.staged.drop 1 })

/-- TRAIL_WRITE: firmware writes the oldest staged record. A read-only ring takes none; the first-fault region still does
(R347, R456). -/
def doTrailWrite (s : Block) : Block :=
  match s.ev.staged with
  | [] => s
  | r :: _ =>
    if !s.fwHoard ∨ s.deferring ∨ s.den.scanDue.isSome then s
    else if s.hoard.readOnly.elem 6 then
      if ffTakes r ∧ s.get Reg.TRAIL_STATE_FF_FILL < 1024 then (s.unstage).writeFf r (s.ev.rseq.toNat + 1) else s
    else
      let s := (s.unstage).writeTrail r
      s.writeFf r s.ev.rseq.toNat

/-- The record of a slot is valid: MAGIC, CRC, no UE word. -/
def Block.trailValid (s : Block) (i : Nat) : Bool :=
  let o := trailAt i
  s.hNat o 2 == 0x5254 && !s.hBad o 64 && s.hNat (o + 60) 4 == (crc32 (s.hBytes o 60)).toNat

/-- The highest RSEQ of the ring's valid records. -/
def Block.lastRseq (s : Block) : Nat :=
  (List.range 130048).foldl (fun a i =>
    if s.trailValid (1024 + i) then max a (s.hNat (trailAt (1024 + i) + 4) 8) else a) 0

/-- Consecutive first-fault slots from slot 0 that are valid with generation `g`. -/
def Block.ffCount (s : Block) (g : Nat) : Nat :=
  ((List.range 1024).takeWhile (fun i => s.trailValid i && s.hNat (trailAt i + 22) 2 == g)).length

/-- TRAIL_SCAN: firmware finds the last record and FF_FILL, and writes the START record (R458). The SOURCE of a START
record is open. -/
def doTrailScan (s : Block) : Block :=
  match s.den.scanDue with
  | none => s
  | some cause =>
    if !s.fwHoard ∨ s.deferring then s
    else
      let q := s.lastRseq
      let after := ringSlot (q + 1)
      let torn := !s.trailValid after && (s.hBad (trailAt after) 64 || s.hBytes (trailAt after) 64 != List.replicate 64 0#8)
      let g := (s.reg Reg.TRAIL_FFGEN).toNat % 65536
      let s := ((s.withEv { s.ev with rseq := BitVec.ofNat 64 q }).withDen { s.den with scanDue := none })
      let s := s.setFill (s.ffCount g)
      let (k, s) := s.draw
      let cold := Bank.get (fun _ => 0) s.hoard.wear.life 1
      if s.hoard.readOnly.elem 6 then s
      else s.writeTrail
        { kind := .start, injected := false, coarse := s.coarse, torn := torn, time := s.localCount,
          source := Config.freeNat k % 2048, cls := Config.freeNat k / 2048 % 4, ffgen := g, lost := s.reg Reg.TRAIL_LOST,
          data := [BitVec.ofNat 32 (min 1 cause), 0] ++ pairWords (BitVec.ofNat 64 cold) }

/-! The commands of this file, with the operands that the command table's rows take here. -/

def execTempRd (n x : Fin 16) (k : Fin 64) (s : State) : Out := .next (s.withBlock (doTempRd n x k s.toBlock))
def execBearRestart (cause : Fin 16) (s : State) : Out := .next (s.withBlock (doBearRestart cause s.toBlock))
def execWdtKick (ag : Fin 3) (v : Word) (s : State) : Out := .next (s.withBlock (doWdtKick ag v s.toBlock))
def execWdtExpire (s : State) : Out := .next (s.withBlock (doWdtExpire s.toBlock))
def execSensorSample (l : List (Option (BitVec 16))) (s : State) : Out := .next (s.withBlock (doSensorSample l s.toBlock))
def execSensorScan (l : List (BitVec 16)) (s : State) : Out := .next (s.withBlock (doSensorScan l s.toBlock))
def execEventRaise (src : Fin 1036) (d : Nat) (s : State) : Out := .next (s.withBlock (doEventRaise src d s.toBlock))
def execIntervalEnd (s : State) : Out := .next (s.withBlock (doIntervalEnd s.toBlock))
def execEvPendClear (ag : Fin 3) (h : Fin 2) (i : Fin 33) (v : Word) (s : State) : Out := .next (s.withBlock (doEvPendClear ag h i v s.toBlock))
def execEvBudgetWrite (p : Fin 4) (v : Word) (s : State) : Out := .next (s.withBlock (doEvBudgetWrite p v s.toBlock))
def execEvFwraise (ag : Fin 3) (v : Word) (s : State) : Out := .next (s.withBlock (doEvFwraise ag v s.toBlock))
def execEvCntRead (ag : Fin 3) (s : State) : Out := .next (s.withBlock (doEvCntRead ag s.toBlock))
def execTrailWrite (s : State) : Out := .next (s.withBlock (doTrailWrite s.toBlock))
def execTrailScan (s : State) : Out := .next (s.withBlock (doTrailScan s.toBlock))

end Sys2Proof.Machine
end

