-- ==== Sys2Proof/Machine/FoxNodes.lean ====
section
/-! DEFINITION. Node, step, wait, system and figure instructions of a Fox engine (R246, R251, R254–R263, Tables
10.7–10.11). -/

namespace Sys2Proof.Machine

/-! Node instructions, OP 0x38. -/

/-- A node instruction that queues `k` transactions holds while the node queue has no room for them (R246). -/
def Block.nodeRoom (s : Block) (n k : Nat) : Bool := decide (s.queued (5 + n) + k ≤ 1024)

/-- FX`n` queues a transaction to the node at address `a`. -/
def Block.fxSubmit (s : Block) (n op a v : Nat) (reg : Option Nat) : Block :=
  s.submit (Txn.to (5 + n) op (a % 2 ^ 24) (v % 4096) (.fox n reg))

/-- NODE.WR and NODE.INC: one write to the node that sX names. -/
def Block.nodeWrite (s : Block) (fn op n x y : Nat) : Block :=
  s.issue n (encR 0x38 x y 0 fn) [x, y] (fun s =>
    if s.nodeRoom n 1 then (s.fxSubmit n op (s.sx n x).toNat (s.sx n y).toNat none).nextFx n else s.holdFx n)

def doNodeWr (n x y : Nat) (s : Block) : Block := s.nodeWrite 0 1 n x y
def doNodeInc (n x y : Nat) (s : Block) : Block := s.nodeWrite 1 2 n x y

/-- NODE.WRV and NODE.INCV: `lanes` + 1 writes from address sX at stride sZ. -/
def Block.nodeWriteV (s : Block) (fn op n x y z lanes : Nat) : Block :=
  s.issue n (encR 0x38 x y z (fn + 16 * lanes)) [x, z] (fun s =>
    if s.nodeRoom n (lanes + 1) then
      let a := (s.sx n x).toNat
      let d := (s.sx n z).toNat
      let v := s.vx n y
      (s.each (List.range (lanes + 1)) (fun s l =>
        s.fxSubmit n op (a + l * d) (v.extractLsb' (16 * l) 12).toNat none)).nextFx n
    else s.holdFx n)

def doNodeWrv (n x y z lanes : Nat) (s : Block) : Block := s.nodeWriteV 2 1 n x y z lanes
def doNodeIncv (n x y z lanes : Nat) (s : Block) : Block := s.nodeWriteV 3 2 n x y z lanes

/-- sX becomes pending and the transaction is queued; s0 takes no value. -/
def Block.nodePend (s : Block) (n x op a : Nat) : Block :=
  let g := s.engine n
  let s := if x = 0 then s else s.setEngine n { g with pend := g.pend ++ [x] }
  (s.fxSubmit n op a 0 (if x = 0 then none else some x)).nextFx n

/-- NODE.RD: a read of the active trim, or of the shadow trim, of node sY into sX. -/
def doNodeRd (n x y : Nat) (shadow : Bool) (s : Block) : Block :=
  s.issue n (encR 0x38 x y 0 (4 + 8 * shadow.toNat)) [x, y] (fun s =>
    if s.nodeRoom n 1 ∧ (s.engine n).pend.length < 15 then s.nodePend n x (if shadow then 3 else 4) (s.sx n y).toNat
    else s.holdFx n)

/-- NODE.SENSE: a SENSE_SELECT of node sY, or a SENSE_RELEASE on its trunk. -/
def doNodeSense (n x y : Nat) (release : Bool) (s : Block) : Block :=
  s.issue n (encR 0x38 x y 0 (5 + 8 * release.toNat)) [x, y] (fun s =>
    let a := (s.sx n y).toNat
    if s.nodeRoom n 1 ∧ (s.engine n).pend.length < 15 then
      s.nodePend n x (if release then 9 else 8) (if release then a / 2 ^ 20 * 2 ^ 20 else a)
    else s.holdFx n)

/-- Requester `r` has a transaction that was granted and awaits its reply. -/
def Block.hasBusy (s : Block) (r : Nat) : Bool :=
  s.sett.tags.any (fun p => match p.2.busy with
    | some x => x.req == r
    | none => false)

/-- NODE.FENCE: once every earlier transaction is complete, sX ← the counts since the last fence or the start. -/
def doNodeFence (n x : Nat) (s : Block) : Block :=
  s.issue n (encR 0x38 x 0 0 6) [x] (fun s =>
    let g := s.engine n
    if s.queueEmpty n ∧ !s.hasBusy (5 + n) ∧ g.done = [] then
      let (c, ns, f) := g.fence
      (s.setEngine n { g with fence := (0, 0, 0) }).result n x
        (BitVec.ofNat 32 (sat8 c + 256 * sat8 ns + 65536 * sat8 f))
    else s.holdFx n)

/-! STEP.ARM, OP 0x39 (Table 10.8). sY[4:0] names the step. -/

/-- The step that sY names. -/
def Block.stepArg (s : Block) (n y : Nat) : Nat := bitsOf (s.sx n y) 4 0

/-- OPEN on timebase `tb`. The open holds while disarms of the step are to be sent; STEP_OPEN_COMPLETE then opens it. -/
def doStepArmOpen (n x y z tb : Nat) (s : Block) : Block :=
  s.issue n (encR 0x39 x y z (8 * tb)) (if z = 0 then [x, y] else [x, y, z, z + 1]) (fun s =>
    let i := s.stepArg n y
    let mine : Bool := match (s.step' i).waiting with
      | some w => w.owner == .fox n none
      | none => false
    if mine then s.holdFx n
    else if (s.engine n).holdAt.isSome then s.result n x 0
    else
      let at' : Option Count := if tb = 0 then some (if z = 0 then 0 else s.sPair n z) else none
      match s.openStep i (5 + n) tb 0 at' (.fox n none) with
      | (.code c, s) => s.result n x (BitVec.ofNat 32 c)
      | (.waits, s) => s.holdFx n)

/-- ARM: a STEP_ARM to the hub that sZ names. -/
def doStepArmArm (n x y z : Nat) (s : Block) : Block :=
  s.issue n (encR 0x39 x y z 1) [x, y, z] (fun s =>
    let i := s.stepArg n y
    if !s.stepMine i (5 + n) then s.result n x 3
    else if s.nodeRoom n 1 then
      let a := (s.sx n z).toNat
      (s.submit { Txn.to (5 + n) 6 (a % 2 ^ 24) 0 (.fox n none) with leaf := 512 * i }).result n x 0
    else s.holdFx n)

/-- SEAL: once every STEP_ARM that the engine queued for the step is granted or completed, the step is sealed. -/
def doStepArmSeal (n x y : Nat) (s : Block) : Block :=
  s.issue n (encR 0x39 x y 0 2) [x, y] (fun s =>
    let i := s.stepArg n y
    if !s.stepMine i (5 + n) then s.result n x 3
    else if s.armsQueued (5 + n) i then s.holdFx n
    else
      let (c, s) := s.sealNow i
      s.result n x (BitVec.ofNat 32 c))

/-- CANCEL. -/
def doStepArmCancel (n x y : Nat) (s : Block) : Block :=
  s.issue n (encR 0x39 x y 0 3) [x, y] (fun s =>
    let i := s.stepArg n y
    if (s.stepState i = STEP_OPENED ∨ s.stepState i = STEP_SEALED) ∧ s.get (Reg.STEP_CTL_OWNER i) = 5 + n then
      (s.cancelStep i CAUSE_REQUEST).result n x 0
    else s.result n x 3)

/-- STATUS: sX ← STEP_STAT. -/
def doStepArmStatus (n x y : Nat) (s : Block) : Block :=
  s.issue n (encR 0x39 x y 0 4) [x, y] (fun s => s.result n x (s.reg (Reg.STEP_STAT (s.stepArg n y))))

/-! WAIT, OP 0x3A (Table 10.9). -/

/-- A forerunner load of FX`n` is complete: the first WAIT that holds hands over (R270). -/
def Block.handoverDue (s : Block) (n : Nat) : Bool := s.frm n && (s.engine n).frmLoaded && !s.frmNodesRunning 1 n

/-- The handover to the new half, in place of a WAIT (R270). -/
def Block.handover (s : Block) (n : Nat) : Block :=
  let half := 1 - s.actHalf n
  let s := ((s.unhold n).put (Reg.FX_CTL_ACT_HALF n) half).setPc n ((s.engine n).entry + 32768 * half)
  (s.put (Reg.FX_CTL_EPOCH n) (s.get (Reg.FX_CTL_EPOCH n) + 1)).setEngine n { s.engine n with frmLoaded := false }

/-- A WAIT holds; but with a forerunner load complete the engine hands over to the new half in its place (R270). -/
def Block.holdWait (s : Block) (n : Nat) : Block := if s.handoverDue n then s.handover n else s.holdFx n

/-- FX`n` issues a WAIT. One that held already when a load had completed is not performed, whatever its condition (R270). -/
def Block.waitFx (s : Block) (n : Nat) (w : Word) (regs : List Nat) (f : Block → Block) : Block :=
  s.issue n w regs (fun s => if (s.engine n).holdAt.isSome && s.handoverDue n then s.handover n else f s)

/-- WAIT for an instant of a timebase; LATE when it had been reached at issue. -/
def Block.waitInstant (s : Block) (kind n x y z : Nat) (value : Block → Count) : Block :=
  s.waitFx n (encR 0x3A x y z kind) [x, y, y + 1, z] (fun s =>
    if s.sPair n y ≤ value s then
      s.result n x (if (s.engine n).holdAt.isNone then 0x40000000#32 else 0)
    else s.holdWait n)

def doWaitLocal (n x y z : Nat) (s : Block) : Block := s.waitInstant 0 n x y z (fun s => s.localCount)
def doWaitMains (n x y z : Nat) (s : Block) : Block := s.waitInstant 1 n x y z (fun s => s.mainsNow)

/-- WAIT for the start of the first quiet window of LINE`w` that qualifies with the issue as posting instant, among those of
earlier tables and of the tables in force. LATE when it started before the engine left HELD (R274). -/
def doWaitLine (n x z w : Nat) (s : Block) : Block :=
  s.waitFx n (encR 0x3A x 0 z (2 + 8 * w)) [x, z] (fun s =>
    let g := s.engine n
    let issued := g.holdAt.getD s.now
    let past := (s.lineTb w).qwPast.find? (fun v => v.leads issued)
    let here := (s.windows w).find? (fun v => s.longEnough w v.len && s.windowOk w v issued && decide (v.st ≤ 6 * s.now))
    match past <|> here with
    | some v => s.result n x (BitVec.ofNat 32 (v.off + (if v.st < 6 * g.heldEnd then 2 ^ 30 else 0)))
    | none => s.holdWait n)

/-- WAIT for any event latch of a mask; the latches set are given and cleared. -/
def doWaitEvent (n x z : Nat) (mask : BitVec 8) (s : Block) : Block :=
  s.waitFx n (encR 0x3A x 0 z (3 + 32 * mask.toNat)) [x, z] (fun s =>
    let g := s.engine n
    let hit := g.latches &&& mask
    if hit = 0 then s.holdWait n
    else (s.setEngine n { g with latches := g.latches &&& ~~~hit }).result n x (hit.setWidth 32))

/-- WAIT for the signal latch, which it clears. -/
def doWaitSignal (n x z : Nat) (s : Block) : Block :=
  s.waitFx n (encR 0x3A x 0 z 4) [x, z] (fun s =>
    if s.flag (Reg.FX_STATUS_SIGNAL n) then (s.put (Reg.FX_STATUS_SIGNAL n) 0).result n x 0 else s.holdWait n)

/-- WAIT_TIMEOUT: the timeout of the WAIT that holds runs out, sZ ns of local time from its issue; Z = 0 is none. -/
def doWaitTimeout (n : Nat) (s : Block) : Block :=
  let w := s.pmWord n (s.get (Reg.FX_PC_PC n))
  let z := bitsOf w 17 14
  match (s.engine n).holdAt with
  | some t0 =>
    if bitsOf w 31 26 = 0x3A ∧ foxLegal w ∧ z ≠ 0 ∧ t0 + (s.sx n z).toNat ≤ s.now then
      s.waitFx n w [] (fun s => s.result n (bitsOf w 25 22) 0x80000000#32)
    else s
  | none => s

/-! QF.PUT, OP 0x3C (R262, R273). -/

/-- The record of a figure (Table 10.10). -/
def figureRec (value unit flags domain engine epoch : Nat) (time : Count) : Rec :=
  time ++ BitVec.ofNat 8 epoch ++ BitVec.ofNat 8 engine ++ BitVec.ofNat 16 domain ++ BitVec.ofNat 8 flags ++
    BitVec.ofNat 8 unit ++ BitVec.ofNat 16 value

/-- QF.PUT: the record goes to the ring, and with PLY = 1 to the Ply link; FX_QF is raised in every case. -/
def doQfPut (n x y flags : Nat) (s : Block) : Block :=
  s.issue n (encR 0x3C x y 0 flags) [x, y] (fun s =>
    let v := s.sx n x
    if bitsOf v 31 24 ≠ 0 then s.faultFx n ILLEGAL
    else
      let r := figureRec (bitsOf v 15 0) (bitsOf v 23 16) flags (bitsOf (s.sx n y) 15 0) n (s.get (Reg.FX_CTL_EPOCH n)) s.localCount
      let d := bitsOf (s.sx n y) 9 0
      let s := (s.pushRing n r).setDom d { s.domain d with figure := r }
      let s := if s.flag (Reg.FX_QFRING_PLY n) then s.offerQf r else s
      (s.raise (594 + 4 * n) (s.fxDetail n)).nextFx n)

/-! SYS, OP 0x00 (Table 10.11). -/

/-- HALT: once nothing is queued, pending or buffered, the engine enters HALTED, its
program counter past the HALT, in forerunner mode in the active half (R269). -/
def doHalt (n : Nat) (s : Block) : Block :=
  s.issue n (encR 0x00 0 0 0 0) [] (fun s =>
    let g := s.engine n
    if s.queueEmpty n ∧ g.pend = [] ∧ g.wbuf = [] then
      let s := (s.setPc n ((s.pc n + 4) % (if s.frm n then 32768 else 65536) + (if s.frm n then 32768 * s.actHalf n else 0))).offFx n
        FX_HALTED
      ((s.setEngine n { s.engine n with byHalt := true }).put (Reg.FX_STATUS_HALT_SEEN n) 1).raise (592 + 4 * n) (s.fxDetail n)
    else s.holdFx n)

/-- NOP. -/
def doNop (n : Nat) (s : Block) : Block := s.issue n (encR 0x00 0 0 0 1) [] (fun s => s.nextFx n)

/-- SYNC holds until the write buffer is empty (R251). -/
def doSync (n : Nat) (s : Block) : Block :=
  s.issue n (encR 0x00 0 0 0 2) [] (fun s => if (s.engine n).wbuf = [] then s.nextFx n else s.holdFx n)

/-- FX_NQ as it reads now. -/
def Block.fxNq (s : Block) (n : Nat) : Word := BitVec.ofNat 32 (s.queued (5 + n) % 2048 + 65536 * (s.engine n).pend.length)

/-- The special registers of GETS. -/
def Block.special (s : Block) (n k : Nat) : Word :=
  match k with
  | 0 => BitVec.ofNat 32 n
  | 1 => BitVec.ofNat 32 (s.get (Reg.FX_CTL_EPOCH n))
  | 2 => s.localCount.extractLsb' 0 32
  | 3 => (s.engine n).capHi
  | 4 => s.fxCycles n
  | 5 => s.fxNq n
  | k => s.reg (Reg.FX_ARG n (k - 8))

/-- GETS: sX ← special register `k`; a read of the low local count captures the high half. -/
def doGets (n x k : Nat) (s : Block) : Block :=
  s.issue n (encR 0x00 x 0 0 (3 + 256 * k)) [x] (fun s =>
    let v := s.special n k
    let s := if k = 2 then s.setEngine n { s.engine n with capHi := s.localCount.extractLsb' 32 32 } else s
    s.result n x v)

/-! The commands of this file, with the operands that the command table's rows take here. -/

def execHalt (n : Fin 16) (s : State) : Out := .next (s.withBlock (doHalt n s.toBlock))
def execNop (n : Fin 16) (s : State) : Out := .next (s.withBlock (doNop n s.toBlock))
def execSync (n : Fin 16) (s : State) : Out := .next (s.withBlock (doSync n s.toBlock))
def execGets (n x : Fin 16) (k : Fin 64) (s : State) : Out := .next (s.withBlock (doGets n x k s.toBlock))
def execNodeWr (n x y : Fin 16) (s : State) : Out := .next (s.withBlock (doNodeWr n x y s.toBlock))
def execNodeInc (n x y : Fin 16) (s : State) : Out := .next (s.withBlock (doNodeInc n x y s.toBlock))
def execNodeWrv (n x y z lanes : Fin 16) (s : State) : Out := .next (s.withBlock (doNodeWrv n x y z lanes s.toBlock))
def execNodeIncv (n x y z lanes : Fin 16) (s : State) : Out := .next (s.withBlock (doNodeIncv n x y z lanes s.toBlock))
def execNodeRd (n x y : Fin 16) (shadow : Bool) (s : State) : Out := .next (s.withBlock (doNodeRd n x y shadow s.toBlock))
def execNodeSense (n x y : Fin 16) (release : Bool) (s : State) : Out := .next (s.withBlock (doNodeSense n x y release s.toBlock))
def execNodeFence (n x : Fin 16) (s : State) : Out := .next (s.withBlock (doNodeFence n x s.toBlock))
def execStepArmOpen (n x y z : Fin 16) (tb : Fin 8) (s : State) : Out := .next (s.withBlock (doStepArmOpen n x y z tb s.toBlock))
def execStepArmArm (n x y z : Fin 16) (s : State) : Out := .next (s.withBlock (doStepArmArm n x y z s.toBlock))
def execStepArmSeal (n x y : Fin 16) (s : State) : Out := .next (s.withBlock (doStepArmSeal n x y s.toBlock))
def execStepArmCancel (n x y : Fin 16) (s : State) : Out := .next (s.withBlock (doStepArmCancel n x y s.toBlock))
def execStepArmStatus (n x y : Fin 16) (s : State) : Out := .next (s.withBlock (doStepArmStatus n x y s.toBlock))
def execWaitLocal (n x y z : Fin 16) (s : State) : Out := .next (s.withBlock (doWaitLocal n x y z s.toBlock))
def execWaitMains (n x y z : Fin 16) (s : State) : Out := .next (s.withBlock (doWaitMains n x y z s.toBlock))
def execWaitLine (n x z : Fin 16) (w : Fin 4) (s : State) : Out := .next (s.withBlock (doWaitLine n x z w s.toBlock))
def execWaitEvent (n x z : Fin 16) (mask : BitVec 8) (s : State) : Out := .next (s.withBlock (doWaitEvent n x z mask s.toBlock))
def execWaitSignal (n x z : Fin 16) (s : State) : Out := .next (s.withBlock (doWaitSignal n x z s.toBlock))
def execWaitTimeout (n : Fin 16) (s : State) : Out := .next (s.withBlock (doWaitTimeout n s.toBlock))
def execQfPut (n x y : Fin 16) (flags : Fin 256) (s : State) : Out := .next (s.withBlock (doQfPut n x y flags s.toBlock))

end Sys2Proof.Machine
end

