-- ==== Sys2Proof/Machine/Stock.lean ====
section
/-! DEFINITION. Chapter 11: requests, starts and ends of calibration runs, and the figures of SC10 and SC11 (R281–R298); the
stock library and parameter sets (R326–R328). -/

namespace Sys2Proof.Machine

abbrev D_IDLE : Nat := 0
abbrev D_PENDING : Nat := 1
abbrev D_WAITING : Nat := 2
abbrev D_RUNNING : Nat := 3
abbrev D_HELD : Nat := 4
abbrev D_CONTINUOUS : Nat := 5

/-! The library (R326–R328, Tables 13.5, 13.6). -/

/-- An object of the library: its offset, and its header's fields. -/
structure LibObj where
  at' : Nat
  calId : Nat
  version : Nat
  len : Nat
  entry : Nat
  nparam : Nat
  deriving DecidableEq, Repr

/-- The objects of the library, which follow one another from 42 MiB, each on a word (the model's placement), and the offset
after the last. -/
def Block.libraryFrom (s : Block) : Nat → Nat → List LibObj → List LibObj × Nat
  | 0, o, acc => (acc, o)
  | fuel + 1, o, acc =>
    if s.hNat o 2 = 0x4C53 ∧ 2 * o < 87 * mib then
      let len := s.hNat (o + 8) 4
      s.libraryFrom fuel (roundUp 32 (o + 288 + len))
        (acc ++ [⟨o, s.hNat (o + 3) 1, s.hNat (o + 4) 4, len, s.hNat (o + 12) 4, s.hNat (o + 16) 2⟩])
    else (acc, o)

def Block.library (s : Block) : List LibObj × Nat := s.libraryFrom 5461 (42 * mib) []

/-- The signed object at Hoard offset `o`, of TYPE `type`, verifies by R326. -/
def Block.objectGood (s : Block) (o type : Nat) : Bool :=
  let len := s.hNat (o + 8) 4
  s.hNat o 2 == 0x4C53 && s.hNat (o + 2) 1 == type && len % 4 == 0 && decide (len ≤ 2 * mib) && !s.hBad o (288 + len) &&
    objectOk (s.hBytes o (64 + len)) (s.hBytes (o + 64 + len) 224)

/-- The object of a calibration: of those that verify, the one of highest VERSION (R327). -/
def Block.stockObject (s : Block) (cal : Nat) : Option LibObj :=
  (s.library.1.filter (fun b => b.calId == cal && s.objectGood b.at' 1)).foldl (fun a b =>
    match a with
    | some c => if c.version < b.version then some b else a
    | none => some b) none

/-- A parameter set at Hoard offset `o` is good for calibration `cal` (R328). -/
def Block.setGood (s : Block) (o cal : Nat) : Bool :=
  !s.hBad o 32 && s.hNat o 1 == cal && s.hNat (o + 28) 4 == (crc32 (s.hBytes o 28)).toNat

/-- The offset of the first factory set of an object. -/
def LibObj.factorySet (b : LibObj) : Nat := b.at' + 64 + b.len - 32 * b.nparam

/-- The set that a run of domain `d` uses, and whether the recorded one failed its check. -/
def Block.paramSet (s : Block) (d : Nat) (b : LibObj) : Nat × Bool :=
  let p := (s.domRec d).param
  if p = 0 then (b.factorySet, false)
  else if s.setGood (42 * mib + p) (domainCal d) then (42 * mib + p, false)
  else (b.factorySet, true)

/-! Requests (R281–R283, R295, R298). -/

/-- A request that begins in this evaluation has its place in the order of R284. -/
def Block.nextOrder (s : Block) : Block := (s.withStock { s.stock with order := s.stock.order + 1 })

/-- A request to a domain whose source is enabled (R283): it makes an IDLE domain PENDING, merges with one that is already
wanted, and waits in a RUNNING one. -/
def Block.takeRequest (s : Block) (d : Nat) (waive : Bool) : Block :=
  let v := s.domain d
  if v.state = D_IDLE then s.setDom d { v with state := D_PENDING, order := s.stock.order, waived := waive }
  else s.setDom d { v with
    merges := satAdd 16 v.merges 1
    merged := v.merged || decide (v.state = D_RUNNING ∨ v.state = D_CONTINUOUS)
    waived := v.waived || (waive && decide (v.state = D_PENDING)) }

/-- A request that finds its source disabled (R281). -/
def Block.discardRequest (s : Block) (d : Nat) : Block :=
  (s.setDom d { s.domain d with discards := satAdd 16 (s.domain d).discards 1 }).fwRaise 933 none

/-- A request of a source that `enabled` names in the record; HOLD disables every source. -/
def Block.request (s : Block) (d : Nat) (enabled : DomRec → Bool) (waive : Bool) : Block :=
  let r := s.domRec d
  if domainCal d = 0 then s
  else if r.hold ∨ !enabled r then s.discardRequest d
  else s.takeRequest d waive

/-- The partner dies of a domain's nodes. -/
def domainDies (d : Nat) : List Nat := ((domainNodes d).map (fun a => dieOf (nodeTrunk a))).eraseDups

/-- AT_RETURN requests of the dies whose restore steps have fired, and the SC07 jobs of the photonic die (R298). -/
def Block.requestReturns (s : Block) : Block :=
  let dies := s.stock.returned
  let s := (s.withStock { s.stock with returned := [] })
  s.each ((List.range 144).filter (fun d => (domainDies d).any (fun e => dies.elem e))) (fun s d =>
    let r := s.domRec d
    if r.atReturn then s.request d DomRec.atReturn false
    else if r.continuous ∧ (s.domain d).state = D_IDLE then s.request d DomRec.continuous true
    else s)

/-- The restore of the start-up is complete: no hub is in training or still to be rewritten, and no restore step waits. -/
def Block.restored (s : Block) : Bool :=
  !s.flag Reg.HD_STATUS_RESTORING && s.sett.restoring == [] &&
    !s.sett.recs.any (fun p => p.2.state == HUB_TRAINING || (p.2.state == HUB_ACTIVE && p.2.restore))

/-- The requests of the start-up: CONTINUOUS domains, then AT_START domains, which follow them in the order of R284, MIN_GAP
waived (R295). -/
def Block.requestStarts (s : Block) : Block :=
  if s.stock.starting ∧ s.restored then
    let s := (s.withStock { s.stock with starting := false })
    let s := s.each domainList (fun s d => if (s.domRec d).continuous then s.request d DomRec.continuous true else s)
    s.nextOrder.each domainList (fun s d =>
      if (s.domRec d).atStart ∧ !(s.domRec d).continuous then s.request d DomRec.atStart true else s)
  else s

/-- The temperature source of domain `d` (R282). A domain whose TEMP_EN is 0 makes no request. -/
def Block.evaluate (s : Block) (d : Nat) : Block :=
  let r := s.domRec d
  let v := s.domain d
  match s.sensor r.sensor with
  | none => if v.invalid then s else s.setDom d { v with invalid := true }
  | some t =>
    match v.tref with
    | none => s.setDom d { v with invalid := false, tref := some t }
    | some ref =>
      let s := if v.invalid then s.setDom d { v with invalid := false } else s
      if r.tempEn ∧ (r.delta : Int) < (if ref < t then t - ref else ref - t) then s.request d DomRec.tempEn false else s

/-- TEMP_EVALUATE: firmware's evaluation of every 10 ms. -/
def doTempEvaluate (s : Block) : Block :=
  if !s.fwUp then s
  else ((s.nextOrder.requestReturns).requestStarts).each domainList Block.evaluate

/-- DEN_REQ_TAKE: firmware takes and clears the request set (R434). -/
def doDenReqTake (s : Block) : Block :=
  if !s.fwUp then s
  else
    let l := (List.range 1024).filter (fun d => s.bit (Reg.DEN_REQ (d / 32)) (d % 32))
    let s := (s.each (List.range 32) (fun s i => s.setReg (Reg.DEN_REQ i) 0)).put Reg.DEN_STATUS_REQ_PENDING 0
    s.nextOrder.each l (fun s d => s.request d DomRec.schedEn false)

/-- DOMAIN_MIN_GAP: MIN_GAP has passed since the start of the domain's last run, or is waived. -/
def doDomainMinGap (d : Nat) (s : Block) : Block :=
  let v := s.domain d
  let isOver := v.waived || (match v.started with
    | some t => decide (t + 10 ^ 7 * (s.domRec d).minGap ≤ s.now)
    | none => true)
  if s.fwUp ∧ v.state = D_PENDING ∧ isOver then s.setDom d { v with state := D_WAITING, waived := false } else s

/-! Starting a run (R284, R285). -/

/-- The SC07 job of wavelength `w` runs. -/
def Block.sc07Runs (s : Block) (w : Nat) : Bool := (List.range 4).any (fun b => (s.domain (96 + 4 * w + b)).state == D_CONTINUOUS)

/-- The engine of the SC07 job of wavelength `w`. -/
def Block.sc07Engine (s : Block) (w : Nat) : Option Nat :=
  (List.range 4).findSome? (fun b =>
    let v := s.domain (96 + 4 * w + b)
    if v.state = D_CONTINUOUS then v.engine else none)

/-- The domain is served without an engine of its own: by firmware, or by the SC07 job of its wavelength. -/
def Block.served (s : Block) (d : Nat) : Bool :=
  domainCal d == 10 || domainCal d == 11 || (domainCal d == 8 && s.sc07Runs (domainUnit d / 4))

/-- Domains whose runs are in progress. -/
def Block.runningDomains (s : Block) : List Nat :=
  (s.stock.doms.filter (fun p => p.2.state == D_RUNNING || p.2.state == D_CONTINUOUS)).map (·.1)

/-- The engine of a domain's run is free. -/
def Block.engineFree (s : Block) (n : Nat) : Bool :=
  decide (n < 16) && s.fxUp n && (s.fxState n == FX_IDLE || s.fxState n == FX_HALTED || s.fxState n == FX_FAULTED) &&
    !s.runningDomains.any (fun d => (s.domain d).engine == some n)

/-- A running domain writes a hub that domain `d` writes. SC07 and SC08 of one wavelength are not serialised; two SC08 runs
of one wavelength are. -/
def Block.hubsMeet (s : Block) (d : Nat) : Bool :=
  let hubs := nodeHubs (domainNodes d)
  s.runningDomains.any (fun e => !((domainCal e == 7 && domainCal d == 8) || (domainCal e == 8 && domainCal d == 7)) &&
    (nodeHubs (domainNodes e)).any (fun k => hubs.elem k))

/-- An image restore packet runs (R426). -/
def Block.imageRestoring (s : Block) : Bool := [0, 1].any (fun h => (s.host h).running.any (fun p => p.opcode == 0x40))

/-- The steps that a run of domain `d` takes from the pool. -/
def stepsWanted (d : Nat) : Nat := if domainCal d = 7 then 2 else if domainCal d = 12 then 0 else 1

/-- A WAITING domain's run can start (R284). -/
def Block.startable (s : Block) (d : Nat) : Bool :=
  (s.domain d).state == D_WAITING && s.fwHoard && decide (signed 16 (s.get Reg.DEN_TJ_DEN_TJ) < 1000) && !s.imageRestoring &&
    !s.hubsMeet d && (s.served d || (s.engineFree (s.domRec d).engine && decide (stepsWanted d ≤ s.freeSteps.length)))

/-- The statistics stream of a domain (Table 11.8). -/
def domainStream (d : Nat) : Nat :=
  let u := domainUnit d
  match domainCal d with
  | 3 => 16 + u
  | 4 => 16 + u
  | 5 => 32 + u
  | 6 => 48 + u
  | 8 => 52 + u / 4
  | 7 => 0
  | _ => u

/-- The header of a job block (Table 11.5). -/
def Block.jobHeader (s : Block) (d p : Nat) (steps : List Nat) : List Byte :=
  let f (i n : Nat) : Nat := s.hNat (p + i) n
  padBytes 64 (leBytes 2 d ++ leBytes 2 (ncode d) ++ leBytes 1 (domainStream d) ++
    leBytes 2 (steps.getD 0 0 + 256 * steps.getD 1 0) ++ leBytes 1 (s.tableReadback d).toNat ++ leBytes 4 (f 4 4) ++
    leBytes 2 (f 8 2) ++ leBytes 2 (f 10 2 % 4096) ++ leBytes 2 (f 12 2 % 4096) ++ leBytes 2 (s.domRec d).maxIter ++
    leBytes 4 (f 16 4))

/-- The domains that one job serves: an SC07 job the four bias points of its wavelength. -/
def jobDomains (d : Nat) : List Nat := if domainCal d = 7 then (List.range 4).map (fun b => d - domainUnit d % 4 + b) else [d]

/-- The macro address of a Hoard offset (R318). -/
def macroAddress (o : Nat) : Nat := o / 32768 * 4096 + o % 4096

/-- A run of `d` is recorded as started: the sensor's reading is its new reference (R282, R285). -/
def Block.noteStart (s : Block) (d st : Nat) (e : Option Nat) (steps : List Nat) : Block :=
  let v := s.domain d
  let t := s.sensor (s.domRec d).sensor
  s.setDom d { v with
    state := st, started := some s.now, runs := satAdd 16 v.runs 1, engine := e, steps := steps
    tref := if t.isSome then t else v.tref
    sensor := (s.domRec d).sensor }

/-- The programme's words are loaded and the engine is started (R266, R285). A host domain's programme is the one the host
has loaded: firmware writes ARG0 and starts it where FX_START points (the model's choice). -/
def Block.startEngine (s : Block) (d : Nat) (b : Option LibObj) (p : Nat) (steps : List Nat) : Block :=
  let n := (s.domRec d).engine
  let arg (s : Block) (i v : Nat) : Block := s.setReg (Reg.FX_ARG n i) (BitVec.ofNat 32 v)
  let s := match b with
    | some b =>
      let s := s.each (List.range ((b.len - 32 * b.nparam) / 4)) (fun s i =>
        s.setPm n i (BitVec.ofNat 32 (s.hNat (b.at' + 64 + 4 * i) 4)))
      let s := s.each (jobDomains d) (fun s e => s.memPut (s.jobAt e) (s.jobHeader e p steps))
      let s := s.setReg (Reg.FX_START n) (BitVec.ofNat 32 b.entry &&& 0xFFFC#32)
      arg (arg (arg s 1 (s.jobAt d)) 2 (domainStream d)) 3 (steps.getD 0 0 + 256 * steps.getD 1 0)
    | none => s
  (arg s 0 d).fxStart n

/-- The lock-in entry of bias point `b` of wavelength `w` (R293). DESIGN CHOICE: gain code 0, to the FIFO, profile SWP15, a
settle of 20 cycles, 4 results of 640 µs, which make one dwell. -/
def biasEntry (w b : Nat) : BitVec 128 :=
  BitVec.ofNat 128 (1024 + 64 + 8 * w + b + 2 ^ 20 * 15 + 2 ^ 32 * 20 + 2 ^ 64 * 4)

/-- An SC07 job's NCO, at 78.125 kHz, loaded, and the spindle of its lock-in, with an entry for each bias point and a profile
of about 1 kHz noise bandwidth (R293). DESIGN CHOICE: the profile is I alone, CIC 50, no FIR, averaged over 256, and a spindle
that is STOPPED is started. -/
def Block.loadBias (s : Block) (w : Nat) : Block :=
  let n := 40 + w
  let s := (((s.setReg (Reg.SWIFT_NCO_FREQ (8 + w)) 0x01000000#32).retuneNco (8 + w))).loadNco (8 + w)
  let s := (((s.setReg (Reg.SWP 15) 0).put (Reg.SWP_CIC 15) 49).put (Reg.SWP_AVG 15) 8).put (Reg.SWP_LOCKIN 15) 2
  let s := s.each [0, 1, 2, 3] (fun s b => s.commitEntry n b (biasEntry w b))
  if s.spState n = STOPPED then (s.put (Reg.SP_CFG_NENT n) 3).spStart n else s

/-- The job block of an SC07 domain tells the job SWIFT_NCO_T0 (R293). DESIGN CHOICE: in bytes 72–79, after the code table. -/
def Block.putBiasT0 (s : Block) (d : Nat) : Block :=
  s.memPut (s.jobAt d + 72) (leBytes 8 (s.pair (Reg.SWIFT_NCO_T0_LO (8 + domainUnit d / 4)) (Reg.SWIFT_NCO_T0_HI (8 + domainUnit d / 4))).toNat)

/-- A run on an engine: signature, programme, job block, steps, START. -/
def Block.startRunOn (s : Block) (d : Nat) : Block :=
  let n := (s.domRec d).engine
  if domainCal d = 12 then (s.startEngine d none 0 []).noteStart d D_RUNNING (some n) []
  else
    match s.stockObject (domainCal d) with
    | none =>
      (((s.setDom d { s.domain d with state := D_IDLE }).put Reg.HD_STATUS_SIG_FAIL_SEEN 1).raise 876 (macroAddress (42 * mib)))
    | some b =>
      let (p, bad) := s.paramSet d b
      let s := if bad then s.checkFail (macroAddress (42 * mib + (s.domRec d).param)) else s
      let plan := s.ownPlan
      let s := s.each ((jobDomains d).filter (fun e => !s.tableBuilt e)) (fun s e => s.buildTable plan s.hoard.dirty e)
      let steps := s.freeSteps.take (stepsWanted d)
      let s := (s.withStock { s.stock with fired := s.stock.fired.filter (fun f => !steps.elem f.1) })
      let s := if domainCal d = 7 then (s.loadBias (domainUnit d / 4)).each (jobDomains d) Block.putBiasT0 else s
      let s := s.startEngine d (some b) p steps
      let st := if domainCal d = 7 then D_CONTINUOUS else D_RUNNING
      s.each (jobDomains d) (fun s e => s.noteStart e st (some n) (if e = d then steps else []))

/-- DOMAIN_RUN_START: firmware starts the domain's run, when no domain that became PENDING before it can start. -/
def doDomainRunStart (d : Nat) (s : Block) : Block :=
  let before (e : Nat) : Bool :=
    decide ((s.domain e).order < (s.domain d).order) || ((s.domain e).order == (s.domain d).order && decide (e < d))
  if !s.startable d ∨ (domainList.filter (fun e => (s.domain e).state == D_WAITING && before e)).any (fun e => s.startable e) then s
  else if domainCal d = 8 ∧ s.served d then
    (match s.sc07Engine (domainUnit d / 4) with
      | some n => s.put (Reg.FX_STATUS_SIGNAL n) 1
      | none => s).noteStart d D_RUNNING none []
  else if domainCal d = 10 then s.noteStart d D_RUNNING none []
  else if domainCal d = 11 then
    let s := (s.withStock { s.stock with ref7 := some (s.stock.ref7.getD (s.get (Reg.REF_SEL_SRC 7))) })
    (if s.get (Reg.REF_SEL_SRC 7) = 0 then s else s.switchRef 7 0).noteStart d D_RUNNING none []
  else s.startRunOn d

/-! Figures of SC10 and SC11 (R290–R292). -/

/-- A value fits 16 bits signed; one that does not has no stated coefficient. -/
def coefField (x : Int) (k : Nat) : Nat := if -32768 ≤ x ∧ x ≤ 32767 then toBits 16 x else Config.freeNat k % 65536

/-- A figure that firmware publishes for domain `d`, its value limited to the unit's range with SAT (R290). -/
def Block.figure (s : Block) (d unit : Nat) (lo hi v : Int) : Block :=
  let c := clampInt lo hi v
  let r := figureRec (toBits 16 c) unit (if c = v then 0 else 128) d 0xF0 0 s.localCount
  (s.setDom d { s.domain d with figure := r }).publish r

/-- The coefficients that SC10 derives (chapter 11): `m` holds for each gain code the two normal and the two XSWAP codes of
IC3, then the code of the reference channel, then for each higher gain code the mean corrected codes c0 and cg. -/
def sc10Offset (scale : Int) (m : List Int) (g k : Nat) : Int :=
  roundNear (scale * ((List.range 4).foldl (fun a i => a + m.getD (4 * g + i) 0) 0)) 4 k

/-- The ratio × 2^32 of a reference channel that SC10 expects: the stored one, and for IC10 that of Table 3.10 (R112). -/
def refRatio (ref : Nat) (t : Int) : Nat := if ref = 3 then 2 ^ 31 else Config.storedRatio ref t

/-- DEV of code 0 from the reference channel, of code `g` from its pair. The ratio is at `t`; 0 divisors leave the
coefficient open. -/
def sc10Dev (fine : Bool) (gains ref : Nat) (t : Int) (scale ofs0 : Int) (m : List Int) (g k : Nat) : Int :=
  if g = 0 then
    let e : Int := refRatio ref t * (if fine then 2 ^ 23 else 2 ^ 24 : Nat)
    let c := scale * m.getD (4 * gains) 0 - ofs0
    if c = 0 then Config.freeNat k else roundNear (2 ^ 24 * (e * scale - c * 2 ^ 32) * (if c < 0 then -1 else 1))
      (c.natAbs * 2 ^ 32) k
  else
    let c0 := m.getD (4 * gains + 1 + 2 * (g - 1)) 0
    let cg := m.getD (4 * gains + 2 + 2 * (g - 1)) 0
    if cg = 0 then Config.freeNat k
    else roundNear (2 ^ 24 * ((2 ^ g : Nat) * c0 - cg) * (if cg < 0 then -1 else 1)) cg.natAbs k

/-- Numbers of codes that a run of SC10 or SC11 brings. -/
def measCount (d : Nat) : Nat :=
  if domainCal d = 10 then (if domainUnit d < 32 then 47 else 23) else 4

/-- SC10 ends: the coefficient registers of every gain code are written, and the figure is the rms change of DEV. -/
def Block.endSc10 (s : Block) (d : Nat) (m : List Int) : Block :=
  let u := domainUnit d
  let fine := decide (u < 32)
  let gains := if fine then 8 else 4
  let scale : Int := if fine then 8 else 1
  let (k, s) := s.drawN (4 * gains + 2)
  let unit := if fine then u / 4 else 8 + (u - 32) / 4
  let ref := s.get (Reg.REF_SEL_SRC unit)
  let t := (s.sensor (s.domain d).sensor).getD (Config.freeNat (k + 4 * gains))
  let addr (g : Nat) : Nat := if fine then Reg.FINE_COEF u g else Reg.SWIFT_COEF (u - 32) g
  let dev (g : Nat) : Int := sc10Dev fine gains ref t scale (sc10Offset scale m 0 k) m g (k + gains + g)
  let old := (List.range gains).map (fun g => coefDev (s.reg (addr g)))
  let s := s.each (List.range gains) (fun s g =>
    s.writeLogged (addr g) (BitVec.ofNat 32 (coefField (sc10Offset scale m g (k + g)) (k + 2 * gains + g) +
      65536 * coefField (dev g) (k + 3 * gains + g))))
  let sum := ((List.range gains).map (fun g => (coefDev (s.reg (addr g)) - old.getD g 0) ^ 2)).foldl (· + ·) 0
  let ppm := iroot 2 (10 ^ 16 * sum.toNat / (2 ^ 48 * gains)) 40 + Config.freeNat (k + 4 * gains + 1) % 2
  s.figure d 0x02 0 65535 ppm

/-- The reference of quad 7 that SC11 changed returns to its choice, once no run of SC11 other than domain `d`'s goes on. -/
def Block.returnRef7 (s : Block) (d : Nat) : Block :=
  if [192, 193, 194].any (fun e => decide (e ≠ d) && (s.domain e).state == D_RUNNING) then s
  else
    let s := match s.stock.ref7 with
      | some r => if r = s.get (Reg.REF_SEL_SRC 7) then s else s.switchRef 7 r
      | none => s
    s.withStock { s.stock with ref7 := none }

/-- SC11 ends: the deviation of the measured from the stored ratio, in ppm, and REF_SEL7.SRC as before; for IC10 the ratio is
that of Table 3.10, no other being stored (R112). Domain 0 uses the IC28 result and both stored ratios in a way the spec does
not give: its value is open. -/
def Block.endSc11 (s : Block) (d : Nat) (m : List Int) : Block :=
  let (k, s) := s.drawN 2
  let t := (s.sensor 36).getD (Config.freeNat k)
  let stored : Int := refRatio (domainUnit d + 1) t
  let sum := (m.take 4).foldl (· + ·) 0
  let v := if domainUnit d ≠ 0 ∧ stored ≠ 0 then roundNear (10 ^ 6 * (sum * 2 ^ 7 - stored)) stored (k + 1)
    else signed 16 (Config.freeNat (k + 1))
  (s.figure d 0x08 (-32768) 32767 v).returnRef7 d

/-! The end of a run (R286, R287, R333). -/

/-- A run's engine has stopped: by HALT (true) or otherwise; none while it goes on. -/
def Block.runEnded (s : Block) (d : Nat) : Option Bool :=
  match (s.domain d).engine with
  | none => none
  | some n =>
    if !s.fxUp n then some false
    else if s.fxState n = FX_HALTED ∧ (s.engine n).byHalt then some true
    else if s.fxState n = FX_HALTED ∨ s.fxState n = FX_FAULTED ∨ s.fxState n = FX_IDLE then some false
    else none

/-- The DELTA of a run: the table's codes for the nodes of the hubs on which its steps fired. -/
def Block.queueDelta (s : Block) (d : Nat) (steps : List Nat) : Block :=
  let hubs := (s.stock.fired.filter (fun f => steps.elem f.1)).map (·.2)
  let fired (a : Nat) : Bool := hubs.elem (64 * nodeTrunk a + nodeHub a)
  if !(domainNodes d).any fired then s
  else match s.readTable d with
    | (some codes, s) => s.queueRecord
        { type := 1, flags := 2 * (s.tableReadback d).toNat, domain := d, owner := .none
          runs := domainRuns d (((domainNodes d).zip codes).filter (fun x => fired x.1)) }
    | (none, s) => s

/-- A domain's run is over: it is IDLE, or PENDING when it holds a merged request. -/
def Block.noteEnd (s : Block) (d : Nat) : Block :=
  let v := s.domain d
  s.setDom d { v with
    state := if v.merged then D_PENDING else D_IDLE, order := if v.merged then s.stock.order else v.order
    merged := false, engine := none, steps := [] }

/-- DOMAIN_RUN_END: `m` holds what a run of SC10 or SC11 has measured. A run of SC08 that an SC07 job serves ends when the
job's iteration has. -/
def doDomainRunEnd (d : Nat) (m : List Int) (s : Block) : Block :=
  let v := s.domain d
  if !s.fwUp ∨ (v.state ≠ D_RUNNING ∧ v.state ≠ D_CONTINUOUS) then s
  else if domainCal d = 10 ∨ domainCal d = 11 then
    if m.length < measCount d then s
    else (if domainCal d = 10 then s.endSc10 d m else s.endSc11 d m).nextOrder.noteEnd d
  else match v.engine with
    | none => s.nextOrder.noteEnd d
    | some _ =>
      match s.runEnded d with
      | none => s
      | some halted =>
        let steps := (jobDomains d).flatMap (fun e => (s.domain e).steps)
        let l := (jobDomains d).filter (fun e => (s.domain e).engine == v.engine)
        let s := if domainCal d = 12 then s else s.each l (fun s e => s.queueDelta e steps)
        let s := (s.withStock { s.stock with fired := s.stock.fired.filter (fun f => !steps.elem f.1) })
        let s := s.nextOrder.each l Block.noteEnd
        if halted then s else s.fwRaise 932 none

/-- The state of a domain as its status shows it: HELD while its engine is (Table 11.4). -/
def Block.domainState (s : Block) (d : Nat) : Nat :=
  let v := s.domain d
  match v.engine with
  | some n => if (v.state = D_RUNNING ∨ v.state = D_CONTINUOUS) ∧ s.fxState n = FX_HELD then D_HELD else v.state
  | none => v.state

/-! The commands of this file, with the operands that the command table's rows take here. -/

def execTempEvaluate (s : State) : Out := .next (s.withBlock (doTempEvaluate s.toBlock))
def execDenReqTake (s : State) : Out := .next (s.withBlock (doDenReqTake s.toBlock))
def execDomainMinGap (d : Fin 1024) (s : State) : Out := .next (s.withBlock (doDomainMinGap d s.toBlock))
def execDomainRunStart (d : Fin 1024) (s : State) : Out := .next (s.withBlock (doDomainRunStart d s.toBlock))
def execDomainRunEnd (d : Fin 1024) (m : List Int) (s : State) : Out := .next (s.withBlock (doDomainRunEnd d m s.toBlock))

end Sys2Proof.Machine
end

