-- ==== Sys2Proof/Machine/Power.lean ====
section
/-! DEFINITION. Power domains, supplies, clocks, the governor, RST# and the resets of single subsystems
(R463–R484, R514, and the reset rule of each chapter that Table 18.6 names). -/

namespace Sys2Proof.Machine

/-! What a unit loses and regains (R69, R97, R126). -/

/-- The four converters of quad or group `u`. -/
def unitConverters (u : Nat) : List Nat := (List.range 4).map (fun i => 4 * u + i)

/-- Quad or group `u` is down: each entry in progress is aborted and held at its start; a group's accumulators stop. -/
def Block.unitDown (s : Block) (u : Nat) : Block :=
  let s := s.each (unitConverters u) (fun s n => s.abortAct n true)
  let s := if u < 8 then s else s.each (unitConverters u) (fun s n => s.setNco (n - 32) [])
  s.updateRef u

/-- Quad or group `u` is up again. -/
def Block.unitReturn (s : Block) (u : Nat) : Block :=
  let s := if u < 8 then s else s.each (unitConverters u) (fun s n => s.restartNco (n - 32))
  s.unitWait u

/-- Every quad and group whose power or clock has changed since state `a` follows. -/
def Block.followUnits (s : Block) (a : Block) : Block :=
  s.each (List.range 12) (fun s u =>
    if a.unitUp u ∧ !s.unitUp u then s.unitDown u
    else if !a.unitUp u ∧ s.unitUp u then s.unitReturn u
    else s)

/-- Activities whose source has become unavailable deliver OVERRANGE (R69); windows follow (R305). DESIGN CHOICE: so do
those whose line has lost its domain, which keep the line (R69 tells only of sources and of entries that find no line). -/
def Block.followSources (s : Block) : Block :=
  let s := s.each spindleList (fun s n =>
    match (s.sp n).act with
    | some r =>
      let lost := !s.sourceUp (dInput r.dfn) || (match r.line with
        | some l => !s.lineUp l
        | none => false)
      if lost ∧ !r.allOver then s.setAct n (some { r with allOver := true }) else s
    | none => s)
  s.owlRefresh

/-! Engines (R244, R275). -/

/-- Registers of engine `n`. -/
def foxReg (n a : Nat) : Bool :=
  (decide (Reg.FX_CTL n ≤ a) && decide (a < Reg.FX_CTL n + 0x40)) ||
    (decide (Reg.FX_EVSEL n 0 ≤ a) && decide (a < Reg.FX_EVSEL n 0 + 0x20)) ||
    (decide (Reg.FX_PROG n 0 ≤ a) && decide (a < Reg.FX_PROG n 0 + 0x40))

/-- A pending Fox migration of engine `n` is cancelled. -/
def Block.dropFoxMig (s : Block) (n : Nat) : Block :=
  match s.fox.mig with
  | some m =>
    if m.src = n ∨ m.dst = n then
      let s := (s.withFox { s.fox with mig := none })
      ((s.put Reg.FX_MIG_PENDING 0).put Reg.FX_MIG_COPYING 0).finishPacket m.host m.tag 0x22 []
    else s
  | none => s

/-- Engine `n` is IDLE, its registers, latches, counters and ring at their reset values; `warm` keeps EPOCH, FRM and
ACT_HALF and the memories, which a power-down clears. In forerunner mode the program counter is then the first word of the
active half (R269). -/
def Block.foxReset (s : Block) (n : Nat) (warm : Bool) : Block :=
  let s := ((s.dropFoxMig n).maskReq (5 + n)).aheadDone n
  let ctl := s.reg (Reg.FX_CTL n) &&& 0x3F0#32
  let s := (s.withRegs (s.regs.filter (fun p => !foxReg n p.1)))
  let s := s.setEngine n Engine.reset
  if warm then
    let s := s.setReg (Reg.FX_CTL n) ctl
    if s.frm n then s.setPc n (32768 * s.actHalf n) else s
  else (s.withFox { s.fox with
    pm := s.fox.pm.filter (fun p => p.1 / 16384 != n)
    scratch := s.fox.scratch.filter (fun p => p.1 / 32768 != n)
    pmErr := s.fox.pmErr.filter (fun p => p.1 / 16384 != n)
    scrErr := s.fox.scrErr.filter (fun p => p.1 / 32768 != n) })

/-- Each HELD engine returns to RUNNING (R274). -/
def Block.releaseHeld (s : Block) : Block :=
  s.each (List.range 16) (fun s n =>
    if s.fxState n = FX_HELD then
      let s := (s.setFx n FX_RUNNING).put (Reg.FX_STATUS_HOLD_SEEN n) 1
      s.setEngine n { s.engine n with heldEnd := s.now }
    else s)

/-! Stored registers of the Whorl (Table 13.10): item 0x0100 + n holds subsystem n's registers as (key, value) pairs of
words. A key below 0x10000 is a register's address; the other keys name what index registers reach. -/

/-- The pairs of subsystem `n`'s stored registers. -/
def Block.snapshot (s : Block) (n : Nat) : List (Nat × Word) :=
  match s.item (0x0100 + n) with
  | some (_, v) => (List.range (v.length / 8)).map (fun i =>
      (leNat ((v.drop (8 * i)).take 4), BitVec.ofNat 32 (leNat ((v.drop (8 * i + 4)).take 4))))
  | none => []

/-- Keys of the Whorl banks: slot `i` of bank `b` of trunk `t` at 0x30000 + 64 (2 t + b) + i, ranking entries at 0x31000
+ 32 (2 t + b) + r. -/
def Block.loadBank (s : Block) (k : Nat) (v : Word) : Block :=
  if 0x30000 ≤ k ∧ k < 0x30600 then
    (s.withWhorl { s.whorl with slots := Bank.set (fun _ => 0x20#32) s.whorl.slots (k - 0x30000) v })
  else if 0x31000 ≤ k ∧ k < 0x31300 then
    (s.withWhorl { s.whorl with
      ranks := Bank.set (fun j => BitVec.ofNat 32 (j % 32)) s.whorl.ranks (k - 0x31000) v })
  else s

/-- Trunk `t` has lost its power: its clock stops, its banks are lost and its TRK_EN is 0 (R219, R238). -/
def Block.trunkDown (s : Block) (t : Nat) : Block :=
  let s := (s.stopTrunk t).setBit Reg.SETT_CTL t false
  let s := s.withPower { s.power with trunksDue := s.power.trunksDue.filter (· != t) }
  (s.withWhorl { s.whorl with
    slots := s.whorl.slots.filter (fun p => p.1 / 128 != t), ranks := s.whorl.ranks.filter (fun p => p.1 / 64 != t) })

/-- Trunk `t` is powered again: firmware reloads its banks and sets TRK_EN as stored (R238), once it runs. -/
def Block.trunkReturn (s : Block) (t : Nat) : Block :=
  if !s.fwHoard then s.withPower { s.power with trunksDue := s.power.trunksDue.filter (· != t) ++ [t] }
  else
    let s := s.withPower { s.power with trunksDue := s.power.trunksDue.filter (· != t) }
    let s := s.each ((s.snapshot 11).filter (fun p => (decide (p.1 < 0x31000) && p.1 % 0x10000 / 128 == t) ||
      (decide (0x31000 ≤ p.1) && (p.1 - 0x31000) / 64 == t))) (fun s (k, v) => s.loadBank k v)
    if (s.snapshot 10).any (fun p => p.1 == Reg.SETT_CTL && p.2.getLsbD t) then
      (s.setBit Reg.SETT_CTL t true).startTrunk t
    else s

/-! Domains (R464, R483). -/

/-- What follows in the units when gateable domain `d` has been powered or has lost its power. -/
def Block.domainFollows (s : Block) (d : Nat) (up : Bool) (a : Block) : Block :=
  if d = 8 then s.plyPower 1 up
  else if d = 9 then s.plyPower 0 up
  else if d = 10 ∨ d = 11 then (if up then s.refBegins (d - 10) else s.refFall (d - 10) false)
  else if d < 20 then s.followUnits a
  else if d < 24 then (s.followUnits a).followSources
  else if d < 32 then (if d = 31 then (if up then s.refBegins 2 else s.refFall 2 false) else s).followSources
  else if d < 36 then (if up then s.owlUp (d - 32) else s.owlDown (d - 32))
  else if d < 48 then (if up then s.trunkReturn (d - 36) else s.trunkDown (d - 36))
  else if up then s
  else s.each ((List.range 4).map (fun i => 4 * (d - 48) + i)) (fun s n => s.foxReset n false)

/-- Domain `d` changes state, with the cause of R483. -/
def Block.switchDomain (s : Block) (d : Nat) (up : Bool) (cause : Nat) : Block :=
  if s.domainOn d = up then s
  else
    let a := s
    let s := (s.setDomain d up).when (cause != 0) (·.put Reg.PWR_STATUS_DOMAIN_SEEN 1)
    let s := if 8 ≤ d then s.domainFollows d up a else s
    s.raise (984 + d) (up.toNat + 2 * cause)

/-- Domain `d` begins or ceases to be treated as powered down (R466, R468). -/
def Block.treated (s : Block) (d : Nat) (up : Bool) : Block :=
  if s.domainOn d then (s.put Reg.PWR_STATUS_DOMAIN_SEEN 1).raise (984 + d) (up.toNat + 12) else s

/-- PWR_OFF asks that domain `d` be down. -/
def Block.pwrOff (s : Block) (d : Nat) : Bool := if d < 32 then s.bit Reg.PWR_OFF_LO d else s.bit Reg.PWR_OFF_HI (d - 32)

/-- A write of PWR_OFF_LO, or PWR_OFF_HI: each domain whose bit changes follows, in ascending order. While CORE is down
the request waits for its return. -/
def Block.writePwrOff (s : Block) (hi : Bool) (v : Word) : Block :=
  let a := if hi then Reg.PWR_OFF_HI else Reg.PWR_OFF_LO
  let old := s.reg a
  let s := s.writeFields a v
  let new := s.reg a
  if !s.coreOn then s
  else s.each ((List.range 32).filter (fun b => old.getLsbD b != new.getLsbD b)) (fun s b =>
    s.switchDomain (if hi then 32 + b else b) (!new.getLsbD b) 0)

/-- PWR_OFF_WRITE. -/
def doPwrOffWrite (hi : Bool) (v : Word) (s : Block) : Block := if s.writable Reg.PWR_OFF_LO then s.writePwrOff hi v else s

/-! RST#: what it holds in reset (R23, R400, R432, R460). -/

/-- Both ports take their reset values (R400). -/
def Block.portsReset (s : Block) : Block :=
  Block.warmReset ((s.withPorts []).withEv { s.ev with pulse := [] }) 0x1000 0x1400 (fun _ => false)

/-- The command interpreter loses its packets, replies and tags, and the node transactions that the arbiters have not
granted; its registers take their reset values (R432, R433). -/
def Block.interpReset (s : Block) : Block :=
  let s := ((((s.withCmd CmdSt.reset).withUpdate none)).orphanPackets.maskReq 2).maskReq 3
  (s.warmReset 0x1400 0x2000 (fun _ => false)).putB Reg.CMD_STATUS_FW_READY s.fwUp

/-- RST# has ended (`kind` 2), or has been judged failed (3): the Bear core starts with cause 8, and firmware is to start up,
in full where no start-up has run since power-good (R470, R473, R475). -/
def Block.bearRelease (s : Block) (kind : Nat) : Block :=
  let s := s.bearStart 8
  let due := match s.den.startup with
    | some k => if k = 2 then kind else k
    | none => kind
  (s.withDen { s.den with startup := some due })

/-! CORE loss and return (R467, R469, R470). -/

/-- What firmware keeps of the Hoard in Bear SRAM is lost; the Hoard's contents stay. -/
def HoardSt.lost (h : HoardSt) : HoardSt :=
  { h with macros := [], next := 0, firstAt := none, dirty := [], deferred := [], appends := [], commit := none,
           begunAt := none, want := none, wantSrc := none, items := [], warned := false, daysLow := false, days := (65535, 65535),
           deferOn := false }

/-- The registers that keep their values while CORE is down: those of AON, and the last period of each timebase (R35, R51). -/
def keptReg (a : Nat) : Bool :=
  regDomain a == 0 || [0, 1, 2, 3].any (fun w => a == Reg.LINE_TICK w)

/-- What remains when domains 1–51 lose their contents: AON, the hubs, and the Hoard's contents. The count of each timebase
goes on at its last period (R35, R51). -/
def Block.coreLost (s : Block) : Block :=
  { Block.reset with
    regs := s.regs.filter (fun p => keptReg p.1)
    hiCap := s.hiCap.filter (fun p => regDomain p.1 == 0)
    localCount := s.localCount, free := s.free, ev := s.ev
    den := { DenSt.reset with rstLows := s.den.rstLows, judged := s.den.judged, therms := s.den.therms }
    power := { s.power with buckets := [], ssDone := [], trunksDue := [] }
    tap := s.tap
    time := {
      line := Bank.mapVals (fun _ => LineTb.reset) s.time.line (fun l =>
        { LineTb.reset with cnt := l.cnt, anchor := l.anchor, everLocked := l.everLocked })
      mains := { MainsTb.reset with seg := s.time.mains.seg, past := s.time.mains.past, shifts := s.time.mains.shifts, held := s.time.mains.held }
      schLate := [] }
    sett := s.hubsAlone (fun u => { u with fires := u.fires.filter (fun f => decide (f.2 ≤ 96 * s.now)) })
    ports := s.ports, hoard := s.hoard.lost }

/-- CORE is lost: the mains count goes on at the frequency held, the Hoard's operation in progress is cut off, and
MAINS_STATUS keeps its state (R51). -/
def Block.loseCore (s : Block) : Block :=
  let s := (s.slewFrom s.mainsFreq (if s.mainsState = 0 then s.time.mains.seg.aim else s.time.mains.held)).cutHoard
  s.coreLost.put Reg.MAINS_STATUS_STATE s.mainsState

/-- CORE_LOSS: the loss whose cause has arisen happens (R469), 10 µs after the onset where the cause is a supply (Table 18.3). -/
def doCoreLoss (s : Block) : Block :=
  match s.power.lossDue with
  | none => s
  | some (cause, num) =>
    if !s.coreOn ∨ (cause = 2 ∧ s.now < s.power.lossAt + 10000) then s
    else
      let s := (s.withPower { s.power with lossDue := none })
      let on := (List.range 52).filter (fun d => decide (1 ≤ d) && s.domainOn d)
      let s := (s.loseCore).each on (fun s d => s.setDomain d false)
      let s := (s.put Reg.PWR_LOSS_CAUSE cause).put Reg.PWR_LOSS_RAIL num
      let s := (s.bump Reg.PWR_LOSS_CORE 1).setPair Reg.PWR_LOSS_T_LO Reg.PWR_LOSS_T_HI s.localCount
      let seen := if cause = 1 then Reg.PWR_STATUS_THERM_SEEN else if cause = 2 then Reg.PWR_STATUS_SUPPLY_SEEN
        else Reg.PWR_STATUS_CLOCK_SEEN
      let s := ((s.put seen 1).put Reg.PWR_STATUS_CORE_ON 0).put Reg.PWR_STATUS_POWER_GOOD 0
      let s := s.put Reg.PWR_STATUS_DOMAIN_SEEN 1
      s.each on (fun s d => s.raise (984 + d) (2 * cause))

/-- Power-good: domains 1–51 are powered, but for those that PWR_OFF names (R467); unless RST# is honoured low the Bear
core starts (R437, R470), with cause 8 where a judgement fell during the loss (R477). `cause` is 4 at a cold start and 5 at a return. -/
def Block.powerUp (s : Block) (cause : Nat) : Block :=
  let s := ((s.put Reg.PWR_STATUS_POWER_GOOD 1).put Reg.PWR_STATUS_CORE_ON 1).put Reg.PWR_STATUS_DOMAIN_SEEN 1
  let s := (s.each ((List.range 52).filter (fun d => decide (1 ≤ d) && !(decide (8 ≤ d) && s.pwrOff d)))
    (fun s d => s.switchDomain d true cause)).refBegins 3
  let kind := if cause = 4 then 0 else 1
  let s := (s.withDen { s.den with startup := some kind, scanDue := some kind })
  if s.rstHeld then s else s.bearStart (if s.power.judgedInLoss then 8 else 1)

/-! The governor (R479–R481, R514, Table 18.7). Temperatures are in 0.125 °C. -/

/-- The governor enters a mode. -/
def Block.enterMode (s : Block) (m : Nat) : Block :=
  let was := s.get Reg.GOV_STATUS_MODE
  if was = m then s
  else
    let s := (s.put Reg.GOV_STATUS_MODE m).when (!s.busySS 11) (·.put Reg.WH_GSTATUS_MODE m)
    let s := match m with
      | 0 => s.raise 929 0
      | 1 => ((s.bump Reg.GOV_CNT_CAP 1).put Reg.GOV_STATUS_CAP_SEEN 1).raise 927 0
      | _ => ((s.bump Reg.GOV_CNT_HOLD 1).put Reg.GOV_STATUS_HOLD_SEEN 1).raise 928 0
    if was = 2 then s.releaseHeld else s

/-- Within 120 s of the last return from a thermal power-off. -/
def Block.thermReturn (s : Block) : Bool :=
  match s.power.thermReturnAt with
  | some t => decide (s.now < t + 120 * 10 ^ 9)
  | none => false

/-- The temperature that the governor takes for HOLD: DEN_TJ, else AON_TEMP + 3.000 °C (R514). -/
def Block.holdTemp (s : Block) : Option Int :=
  if !s.flag Reg.DEN_TJ_INVALID then some (signed 16 (s.get Reg.DEN_TJ_DEN_TJ))
  else if !s.flag Reg.AON_TEMP_INVALID then some (signed 16 (s.get Reg.AON_TEMP_AON) + 24)
  else none

/-- Peak milliseconds of the current bucket and the 119 before it. -/
def Block.govPeak (s : Block) : Nat := s.power.buckets.foldl (· + ·) 0

/-- The buckets as they stand in bucket `no`, when they stood in bucket `was`. -/
def bucketsAt (l : List Nat) (was no : Nat) : List Nat :=
  (if l = [] then [0] else List.replicate (min 120 (no - was)) 0 ++ l).take 120

/-- The millisecond that has ended counts in its bucket. -/
def Block.countPeak (s : Block) (peak : Bool) : Block :=
  let no := s.now / 10 ^ 9
  let last := (s.now - 10 ^ 6) / 10 ^ 9
  let l := (bucketsAt s.power.buckets s.power.bucketNo last).modifyHead (· + peak.toNat)
  let s := (s.withPower { s.power with buckets := bucketsAt l (max last s.power.bucketNo) no, bucketNo := no })
  (s.put Reg.GOV_PEAK_MS s.govPeak).putB Reg.GOV_STATUS_PEAK_NOW peak

/-- The mode that follows from the conditions as they stand. -/
def Block.nextMode (s : Block) : Nat :=
  let mode := s.get Reg.GOV_STATUS_MODE
  let tj : Option Int := if s.flag Reg.DEN_TJ_INVALID then none else some (signed 16 (s.get Reg.DEN_TJ_DEN_TJ))
  let force := s.flag Reg.GOV_CFG_FORCE_CAP || s.thermReturn
  let invalid : Bool := match s.den.tjInvalidSince with
    | some t => decide (t + 10 ^ 9 ≤ s.now)
    | none => false
  let hot (l : Int) (t : Option Int) : Bool := match t with
    | some v => decide (l ≤ v)
    | none => false
  let cool (l : Int) (t : Option Int) : Bool := match t with
    | some v => decide (v < l)
    | none => false
  if hot 1000 s.holdTemp then 2
  else match mode with
    | 2 => if cool 976 s.holdTemp then 1 else 2
    | 1 => if s.govPeak ≤ 10000 ∧ cool 920 tj ∧ !force then 0 else 1
    | _ => if 20000 ≤ s.govPeak ∨ hot 944 tj ∨ invalid ∨ force then 1 else 0

/-- The cause fields of GOV_STATUS: what holds CAP or HOLD (Table 18.14). -/
def Block.showCauses (s : Block) : Block :=
  let limited := s.get Reg.GOV_STATUS_MODE != 0
  let inv := s.flag Reg.DEN_TJ_INVALID
  let s := s.putB Reg.GOV_STATUS_PEAK_CAUSE (limited && decide (10000 < s.govPeak))
  let s := s.putB Reg.GOV_STATUS_TJ_CAUSE (limited && !inv && decide (944 ≤ signed 16 (s.get Reg.DEN_TJ_DEN_TJ)))
  let s := s.putB Reg.GOV_STATUS_INVALID_CAUSE (limited && inv)
  s.putB Reg.GOV_STATUS_FORCE_CAUSE (limited && (s.flag Reg.GOV_CFG_FORCE_CAP || s.thermReturn))

/-- GOVERNOR_EVALUATE, once in every 1 ms of local time: in the last 1 ms the engines issued in `fox` of their 16 × 3,000,000 core cycles together, and the
trunks carried a transaction in `pos` of their positions, 123,046.875 a trunk (R224, R479). The rounding of GOV_PEST is
open. -/
def doGovernorEvaluate (fox pos : Nat) (s : Block) : Block :=
  if !s.domainOn 6 ∨ s.busySS 16 ∨ s.now / 10 ^ 6 ≤ s.power.govMs then s
  else
    let s := s.withPower { s.power with govMs := s.now / 10 ^ 6 }
    let num := 1200 * 105000000 + 10500 * fox + 128000 * pos
    let (k, s) := s.draw
    let s := s.put Reg.GOV_PEST_MW (roundOpen num 105000000 k).toNat
    let s := s.countPeak (decide (4500 * 105000000 < num))
    (s.enterMode s.nextMode).showCauses

/-- AON_SENSOR_SAMPLE: the AON sensor is read, and the thermal power-off is judged (R481): every 32 µs, which the AON
oscillator counts within 2 %. -/
def doAonSensorSample (v : BitVec 16) (invalid : Bool) (s : Block) : Block :=
  if !s.dueAfter s.power.aonAt 31360 then s else
  let s := s.withPower { s.power with aonAt := some s.now }
  let s := (s.put Reg.AON_TEMP_AON v.toNat).putB Reg.AON_TEMP_INVALID invalid
  let cool := !invalid && decide (v.toInt ≤ 840)
  let s := (s.withPower { s.power with coolAt := if cool then some (s.power.coolAt.getD s.now) else none })
  let tj := !s.flag Reg.DEN_TJ_INVALID && decide (1080 ≤ signed 16 (s.get Reg.DEN_TJ_DEN_TJ))
  if s.coreOn ∧ (tj ∨ (!invalid ∧ 1104 ≤ v.toInt)) ∧ s.power.lossDue.isNone then
    Block.raise ((s.withPower { s.power with lossDue := some (1, 0), lossAt := s.now }).withDen { s.den with therms := s.den.therms + 1 }) 930 0
  else s

/-- CORE_RETURN: a new power-good after a CORE loss; after a thermal one the AON sensor must have stayed cool for 1 s. The
mains timebase enters HOLDOVER (R51), and after THERM the governor starts in CAP. DESIGN CHOICE: a mains timebase that was
FREE stays FREE, with no MAINS_LOST, where R51 says HOLDOVER and R48 leaves FREE only with a source selected. -/
def doCoreReturn (s : Block) : Block :=
  let cause := s.get Reg.PWR_LOSS_CAUSE
  let cooled := match s.power.coolAt with
    | some t => decide (t + 10 ^ 9 ≤ s.now)
    | none => false
  if s.coreOn ∨ cause = 0 ∨ (cause = 1 ∧ !cooled) ∨ s.clockBad 1 then s
  else
    let s := (s.withPower { s.power with
      railEffect := Bank.set (fun _ => false) s.power.railEffect 0 false
      thermReturnAt := if cause = 1 then some s.now else s.power.thermReturnAt })
    let s := (s.powerUp 5).put Reg.TB_STATUS_COARSE_SEEN 1
    let s := if s.mainsState = 0 then s else ((s.enterMains 3).put Reg.MAINS_STATUS_LOST_SEEN 1).raise 828 3
    let s := if cause = 1 then s.enterMode 1 else s
    let s := (s.withPower { s.power with judgedInLoss := false })
    s

/-! Supplies (R444, R468). -/

/-- SUPPLY_EXCURSION: rail `i` has been outside its limit for 1 µs, at `mv` mV. -/
def doSupplyExcursion (i : Nat) (isOver : Bool) (mv : BitVec 12) (s : Block) : Block :=
  if !s.domainOn 6 ∨ 7 < i then s
  else
    let s := ((s.put (Reg.SUPPLY_READING i) mv.toNat).put (if isOver then Reg.SUPPLY_OVER i else Reg.SUPPLY_UNDER i) 1)
    let s := (s.put Reg.DEN_STATUS_SUPPLY_SEEN 1).raise (904 + i) i
    if i = 1 ∨ i = 3 ∨ i = 7 ∨ (i = 2 ∧ isOver) then s
    else
      let was := s.railDown i
      let s := (s.withPower { s.power with
        railEffect := Bank.set (fun _ => false) s.power.railEffect i true
        lossAt := if i = 0 ∧ s.power.lossDue = none then s.now else s.power.lossAt
        lossDue := if i = 0 then some (s.power.lossDue.getD (2, 0)) else s.power.lossDue })
      if was then s
      else if i = 2 then (((s.plyPower 1 false).treated 8 false).plyPower 0 false).treated 9 false
      else if i = 4 then s.followSources
      else if i = 6 then (s.refFall 3 false).followSources
      else s

/-- SUPPLY_RECOVERED: the consequence of the excursion of rail `i` ends: 1 ms after the rail is back in range, or 100 µs for
VDD_A and VDD_AH (Table 18.3). The OK of VDD_AH counts from its return to range. -/
def doSupplyRecovered (i : Nat) (mv : BitVec 12) (s : Block) : Block :=
  let s := if s.domainOn 6 ∧ i < 8 then
      ((s.put (Reg.SUPPLY_READING i) mv.toNat).put (Reg.SUPPLY_OVER i) 0).put (Reg.SUPPLY_UNDER i) 0
    else s
  let was := s.railDown i
  let s := (s.withPower { s.power with
    railEffect := Bank.set (fun _ => false) s.power.railEffect i false
    lossDue := if i = 0 ∧ s.power.lossDue = some (2, 0) then none else s.power.lossDue })
  if !was ∨ !s.coreOn then s
  else if i = 2 then
    let s := (if s.domainOn 8 then s.plyPower 1 true else s).treated 8 true
    (if s.domainOn 9 then s.plyPower 0 true else s).treated 9 true
  else if i = 4 then s.followSources
  else if i = 6 then
    Block.followSources (s.withAcq { s.acq with refAt := Bank.set (fun _ => 0) s.acq.refAt 3 (s.now - 100000) })
  else s

/-! Clock monitors (R445, R466). -/

/-- The domains of quads and groups that a clock fault treats as powered down, or no longer does, since state `a`. -/
def Block.followClock (s : Block) (a : Block) : Block :=
  let l := (List.range 12).filter (fun u => a.unitUp u != s.unitUp u)
  (s.followUnits a).each l (fun s u => s.treated (12 + u) (s.unitUp u))

/-- CLOCK_FAULT: monitor `i` reports a fault; CLOCK`i` is raised at its onset. -/
def doClockFault (i : Nat) (s : Block) : Block :=
  if !s.domainOn 6 ∨ 3 < i then s
  else
    let onset := !s.flag (Reg.CLKMON_FAULT i)
    let s := s.withPower { s.power with clkAt := Bank.set (fun _ => 0) s.power.clkAt i s.now }
    let s := s.when onset (fun s => ((s.put (Reg.CLKMON_FAULT i) 1).put Reg.DEN_STATUS_CLOCK_SEEN 1).raise (912 + i) i)
    let s := s.when (decide (i = 2) && s.coreOn && !s.clockBad 2) (·.put Reg.FINE_STATUS_UNLOCK_SEEN 1)
    let a := s
    let s := (s.withPower { s.power with
      clkEffect := Bank.set (fun _ => false) s.power.clkEffect i true
      lossAt := if i = 1 ∧ s.power.lossDue = none then s.now else s.power.lossAt
      lossDue := if i = 1 then some (s.power.lossDue.getD (3, 1)) else s.power.lossDue })
    s.followClock a

/-- CLOCK_FAULT_END: 1 ms after monitor `i` last reported its fault. -/
def doClockFaultEnd (i : Nat) (s : Block) : Block :=
  if s.now < Bank.get (fun _ => 0) s.power.clkAt i + 10 ^ 6 then s else
  let s := if s.domainOn 6 ∧ i < 4 then s.put (Reg.CLKMON_FAULT i) 0 else s
  let a := s
  let s := (s.withPower { s.power with clkEffect := Bank.set (fun _ => false) s.power.clkEffect i false })
  if s.coreOn then s.followClock a else s

/-! RST# (R472–R477). -/

/-- An honoured low begins. -/
def Block.honour (s : Block) : Block :=
  let n := s.get Reg.RST_CFG_STUCK_S
  let s := (s.withPower { s.power with stuckS := if n = 0 then 1 else min 60 n, stuckNever := s.flag Reg.RST_CFG_NEVER }).withDen
    { s.den with rstLows := s.den.rstLows + 1 }
  let s := ((s.put Reg.RST_STATUS_PIN 0).put Reg.RST_STATUS_LOW 1).put Reg.RST_STATUS_ASSERT_SEEN 1
  let s := (s.bump Reg.RST_CNT_LOWS 1).setPair Reg.RST_T_LO Reg.RST_T_HI s.localCount
  let s := (s.raise 924 0).portsReset
  if s.coreOn then
    let s := s.interpReset.bearStop
    (s.withDen { s.den with bootDue := false })
  else s

/-- RST_HONOURED_LOW: the filter accepts a low. One that holds at the first power-good is honoured low from then (R472).
After a judgement it is honoured only once HIGH_10MS is set (R476). -/
def doRstHonouredLow (s : Block) : Block :=
  let s := s.withPower { s.power with highAt := none }
  if s.flag Reg.RST_STATUS_LOW then s
  else if !s.coreOn ∧ s.get Reg.PWR_LOSS_CAUSE = 0 then s.withPower { s.power with lowAtStart := true }
  else if s.flag Reg.RST_STATUS_AUTO then
    if s.flag Reg.RST_STATUS_HIGH_10MS then
      let s := ((s.put Reg.RST_STATUS_AUTO 0).put Reg.RST_STATUS_HIGH_10MS 0).put Reg.RST_STATUS_ARMED 1
      (s.raise 926 0).honour
    else s.put Reg.RST_STATUS_PIN 0
  else s.honour

/-- POWER_GOOD: the power-good of a cold start. -/
def doPowerGood (s : Block) : Block :=
  if s.coreOn ∨ s.get Reg.PWR_LOSS_CAUSE ≠ 0 then s
  else
    let s := s.raise 984 9
    let s := if s.power.lowAtStart then Block.honour (s.withPower { s.power with lowAtStart := false }) else s
    s.powerUp 4

/-- An honoured low ends: its length is recorded, and sealed steps are credited with it (R210, R473). -/
def Block.endLow (s : Block) : Block :=
  let d := s.now - (s.pair Reg.RST_T_LO Reg.RST_T_HI).toNat
  let s := (s.put Reg.RST_STATUS_LOW 0).put Reg.RST_LEN_MS (min (2 ^ 24 - 1) (d / 10 ^ 6))
  s.creditSteps d

/-- RST_RELEASE: the pin has been seen high for 1 µs. -/
def doRstRelease (s : Block) : Block :=
  let s := s.withPower { s.power with lowAtStart := false }
  if s.get Reg.RST_CNT_LOWS = 0 then s
  else
    let s := s.put Reg.RST_STATUS_PIN 1
    let s := s.withPower { s.power with highAt := some (s.power.highAt.getD (s.now - 1000)) }
    if !s.flag Reg.RST_STATUS_LOW then s
    else
      let s := s.endLow
      if s.coreOn then s.bearRelease 2 else s

/-- STUCK_RESET: RST# has been honoured low for the stuck-reset time, which the AON clock counts within 2 % (R474, R475).
When CORE is down the Bear core starts at the return (R477). -/
def doStuckReset (s : Block) : Block :=
  let d := s.now - (s.pair Reg.RST_T_LO Reg.RST_T_HI).toNat
  if !s.flag Reg.RST_STATUS_LOW ∨ s.power.stuckNever ∨ 100 * d < 98 * 10 ^ 9 * s.power.stuckS then s
  else
    let s := s.endLow
    let s := ((s.put Reg.RST_STATUS_ARMED 0).put Reg.RST_STATUS_AUTO 1).put Reg.RST_STATUS_STUCK_SEEN 1
    let s := (s.bump Reg.RST_CNT_JUDGED 1).raise 925 0
    let s := (s.withDen { s.den with judged := s.den.judged + 1 })
    if s.coreOn then s.bearRelease 3
    else (s.withPower { s.power with judgedInLoss := true })

/-- RST_HIGH_10MS: after a judgement the pin has stayed high for 10 ms; it is armed again. -/
def doRstHigh10ms (s : Block) : Block :=
  if s.flag Reg.RST_STATUS_AUTO ∧ s.flag Reg.RST_STATUS_PIN ∧ s.power.highAt.isSome ∧ s.dueAfter s.power.highAt (10 ^ 7) then
    (s.put Reg.RST_STATUS_HIGH_10MS 1).put Reg.RST_STATUS_ARMED 1
  else s

/-! Resets of single subsystems (R478, Table 18.6). -/

/-- Entries in progress on the converters `l` are aborted and restarted; calibration conversions are discarded when
`drop` says so, without abort or event. -/
def Block.restartEntries (s : Block) (l : List Nat) (drop : Bool) : Block :=
  s.each l (fun s n =>
    let cal : Bool := match (s.sp n).act with
      | some r => r.kind == .cal
      | none => false
    let s := if cal && drop then s.endAct n else s.abortAct n true
    if drop then
      let p := s.sp n
      s.setSp n { p with cal := none, calGap := false, resume := p.resume.filter (fun r => r.kind != .cal) }
    else s)

/-- Subsystem 3 (R90). -/
def Block.resetFront (s : Block) : Block :=
  let s := s.each spindleList (fun s n =>
    match (s.sp n).act with
    | some r =>
      match r.stage with
      | .sampling => s.setAct n (some { r with allOver := true, line := none })
      | st =>
        let s := if st = .checking then s.endCheck (codeBalls (dInput r.dfn)) else s
        s.setAct n (some { r with stage := .line, line := none, waited := false, freed := r.freed || st == .refWait })
    | none => s)
  (s.logReg Reg.TDAC).warmReset 0x2000 0x2400 (fun _ => false)

/-- Subsystem 6 (R90): the internal references restart, and every quad and group selects its reset source. -/
def Block.resetRefs (s : Block) : Block :=
  let old := (List.range 12).map (fun u => s.get (Reg.REF_SEL_SRC u))
  let ah := s.refSourceOk 3
  let was := (List.range 12).map (fun u => (s.flag (Reg.REF_SEL_SWITCHING u), s.flag (Reg.REF_SEL_OK u)))
  let s := (s.warmReset 0x2400 0x2500 (fun _ => false)).setBit Reg.REF_STATUS 3 ah
  let s := (((s.refBegins 0).refBegins 1).refBegins 2).owlNoRef
  s.each ((List.range 12).zip (old.zip was)) (fun s (u, r, sw, ok) =>
    let s := (s.putB (Reg.REF_SEL_OK u) ok).putB (Reg.REF_SEL_SWITCHING u) sw
    (if s.get (Reg.REF_SEL_SRC u) = r then s else s.markSwitch u).updateRef u)

/-- Subsystem 8 (R187): runs are aborted and restarted, urgent entries and migrations are dropped, drains end. -/
def Block.resetSpindles (s : Block) : Block :=
  let s := s.each spindleList (fun s n =>
    let urgent : Bool := match (s.sp n).act with
      | some r => r.kind == .urgent
      | none => false
    let cal : Bool := match (s.sp n).act with
      | some r => r.kind == .cal
      | none => false
    let s := if cal then s else s.abortAct n (!urgent)
    let p := s.sp n
    let s := ((s.unstall n).setSp n
      { p with urgHeld := false, urgAt := none, resume := p.resume.filter (fun r => r.kind != .urgent) }).cancelMig n
    let s := if s.spState n = DRAINING then
        (s.setSp n { s.sp n with resume := (s.sp n).resume.filter (fun r => r.kind == .cal) }).enterStopped n else s
    let st := s.spState n
    (((s.setReg (Reg.SP_STAT n) 0).put (Reg.SP_STAT_STATE n) st).setReg (Reg.SP_CNT n) 0))
  let s := s.warmReset Reg.SEQ_IDX (Reg.SEQ_IDX + 4) (fun _ => false)
  Block.maskReq (s.withAcq { s.acq with staging := [] }) 21

/-- Subsystem 10 (R219, R223): what the Sett keeps of its hubs goes with its registers. -/
def Block.resetSett (s : Block) : Block :=
  let s := s.each trunkList Block.stopTrunk
  let s := s.each stepList (fun s i => s.cancelStep i CAUSE_CLOCK)
  let s := s.withSett { s.sett with recs := [] }
  s.warmReset 0x8000 0x9000 (fun a =>
    let b := a % 0x10000
    b == Reg.SETT_CTL || b == Reg.SETT_QCFG || b == Reg.SETT_STEPCFG ||
      trunkList.any (fun t => b == Reg.TRK_TSSEL t || b == Reg.TRK_RESTORE t) ||
      stepList.any (fun i => b == Reg.STEP_CTL i || b == Reg.STEP_AT_LO i || b == Reg.STEP_AT_HI i || b == Reg.STEP_STAT i ||
        b == Reg.STEP_T_LO i || b == Reg.STEP_T_HI i))

/-- Subsystem 11 (R238, R240): the banks and the progress counts stay. -/
def Block.resetWhorl (s : Block) : Block :=
  Block.warmReset (s.withWhorl { s.whorl with waits := [], again := [] }) 0x9000 0xA000 (fun _ => false)

/-- The reset of subsystem 11 completes: the governor's mode is set again, and each trunk's positions carry IDLE until its next
frame starts (R237, R238). -/
def Block.whorlBack (s : Block) : Block :=
  let s := s.put Reg.WH_GSTATUS_MODE (s.get Reg.GOV_STATUS_MODE)
  s.withWhorl { s.whorl with idle := (trunkList.filter s.clockRuns).map (fun t => (t, some s.now)) }

/-- Subsystem 13 (R315). -/
def Block.resetOwl (s : Block) : Block :=
  let s := s.maskReq 0
  let wins := s.owl.wins.map (fun (w, o) => (w, { OwlWin.reset with until' := o.until', gnode := o.gnode, gcode := o.gcode }))
  let s := (s.withOwl { OwlSt.reset with wins := wins.filter (fun p => p.2 != OwlWin.reset) })
  (s.warmReset 0xB000 0xC000 (fun _ => false)).owlRefresh

/-- Subsystem 15 (R354): frames end; firmware sets the registers again and goes on as after a Bear restart. -/
def Block.resetHoard (s : Block) : Block := s.cutHoard.warmReset 0xD000 0xE000 (fun _ => false)

/-- Subsystem 16 (R436, R460, R484): the DEN-domain registers take their reset values and the Bear core restarts with
cause 7. SS_BUSY, the count of restarts since cold reset and the figure log in Bear SRAM stay. -/
def Block.resetDen (s : Block) : Block :=
  let n := s.get Reg.BEAR_STATUS_RESTARTS
  let held := decide (s.get Reg.GOV_STATUS_MODE = 2)
  let s := s.bearStop
  let s := (s.warmReset 0xE000 0xE200 (fun a => a == Reg.DEN_FIGLOG)).put Reg.BEAR_STATUS_RESTARTS n
  let s := (s.warmReset 0xF100 0xF200 (fun a => a == Reg.SS_BUSY)).put Reg.WH_GSTATUS_MODE 0
  let s := (s.withDen { s.den with therm := [], sensors := [], tjInvalidSince := none }).withPower
    { s.power with buckets := [] }
  let s := (s.when held Block.releaseHeld).bearRestart 7
  if s.rstHeld then (s.withDen { s.den with bootDue := false }) else s

/-- What the reset of subsystem `n` does as it begins. -/
def Block.resetSubsystem (s : Block) (n : Nat) : Block :=
  match n with
  | 1 => s.portsReset
  | 2 => s.interpReset
  | 3 => s.resetFront
  | 4 => ((s.restartEntries (List.range 32) true).warmReset 0x3000 0x4000 (fun _ => false)).followClock s
  | 5 => ((s.restartEntries ((List.range 16).map (32 + ·)) true).warmReset 0x4000 0x5000 (fun _ => false)).each (List.range 16)
      (fun s j => if s.unitUp (8 + j / 4) then s.restartNco j else s)
  | 6 => s.resetRefs
  | 7 =>
    let s := s.restartEntries spindleList false
    Block.warmReset (s.withAcq { s.acq with dc := [], dcNew := [] }) 0x5000 0x6000 (fun _ => false)
  | 8 => s.resetSpindles
  | 10 => s.resetSett
  | 11 => s.resetWhorl
  | 12 => (s.each (List.range 16) (fun s n => s.foxReset n true)).warmReset 0xA000 0xA100 (fun _ => false)
  | 13 => s.resetOwl
  | 14 => s.plyReset
  | 15 => s.resetHoard
  | 16 => s.resetDen
  | _ => s

/-- How long the reset of subsystem `n` takes at most, ns (Table 18.6). -/
def resetTime (n : Nat) : Nat :=
  match n with
  | 10 => 1500000
  | 14 => 20000
  | 16 => 3000000
  | _ => 1000

/-- A write of SS_RESET (R478): every subsystem named that is not in reset enters it in the same core cycle. -/
def Block.writeSsReset (s : Block) (v : Word) : Block :=
  if !s.coreOn then s
  else
    let l := (List.range 17).filter (fun n => decide (1 ≤ n) && n != 9 && v.getLsbD n && !s.busySS n)
    let s := s.each l (fun s n => s.setBit Reg.SS_BUSY n true)
    s.each l (fun s n =>
      let s := s.resetSubsystem n
      (s.withPower { s.power with ssDone := Bank.set (fun _ => 0) s.power.ssDone n (s.now + resetTime n) }))

/-- SS_RESET. -/
def doSsReset (v : Word) (s : Block) : Block := if s.writable Reg.SS_RESET then s.writeSsReset v else s

/-- SUBSYSTEM_RESET_COMPLETE: a reset of 1 µs shows in SS_BUSY until that time has passed (Table 18.6, R484). The trunks of subsystem 10 start again; firmware sets the registers of subsystem 15 again. After
a reset of subsystem 16 the Bear core starts again, and its firmware reloads THERM HI and PERIOD (R459). -/
def doSubsystemResetComplete (n : Nat) (s : Block) : Block :=
  if !s.coreOn ∨ !s.busySS n ∨ 16 < n ∨ (resetTime n = 1000 ∧ s.now < Bank.get (fun _ => 0) s.power.ssDone n) then s
  else
    let s := s.setBit Reg.SS_BUSY n false
    let s := (s.withPower { s.power with ssDone := Bank.erase s.power.ssDone n })
    match n with
    | 10 => s.each trunkList Block.startTrunk
    | 11 => s.whorlBack
    | 15 => if s.fwUp then s.readHoard.restartCommit else s
    | _ => s

/-- COLD_RESET: every field takes its reset value (R11). The hubs, which the partner dies power, and the Hoard's contents
stay, their instants counted from 0 as the local count is; the model's own number of open values goes on. -/
def doColdReset (s : Block) : Block :=
  let s := s.cutHoard
  { Block.reset with
    free := s.free
    sett := s.hubsAlone (fun u => { u with
      fires := [], markerAt := 0, replies := u.replies.map (fun r => { r with took := 0 }) })
    hoard := { s.hoard.lost with flushAt := 0, ageAt := 0, history := [] } }

/-! The commands of this file, with the operands that the command table's rows take here. -/

def execColdReset (s : State) : Out := .next (s.withBlock (doColdReset s.toBlock))
def execPowerGood (s : State) : Out := .next (s.withBlock (doPowerGood s.toBlock))
def execCoreLoss (s : State) : Out := .next (s.withBlock (doCoreLoss s.toBlock))
def execCoreReturn (s : State) : Out := .next (s.withBlock (doCoreReturn s.toBlock))
def execPwrOffWrite (hi : Bool) (v : Word) (s : State) : Out := .next (s.withBlock (doPwrOffWrite hi v s.toBlock))
def execSupplyExcursion (i : Fin 8) (isOver : Bool) (mv : BitVec 12) (s : State) : Out := .next (s.withBlock (doSupplyExcursion i isOver mv s.toBlock))
def execSupplyRecovered (i : Fin 8) (mv : BitVec 12) (s : State) : Out := .next (s.withBlock (doSupplyRecovered i mv s.toBlock))
def execClockFault (i : Fin 4) (s : State) : Out := .next (s.withBlock (doClockFault i s.toBlock))
def execClockFaultEnd (i : Fin 4) (s : State) : Out := .next (s.withBlock (doClockFaultEnd i s.toBlock))
def execGovernorEvaluate (fox pos : Nat) (s : State) : Out := .next (s.withBlock (doGovernorEvaluate fox pos s.toBlock))
def execAonSensorSample (v : BitVec 16) (invalid : Bool) (s : State) : Out := .next (s.withBlock (doAonSensorSample v invalid s.toBlock))
def execSsReset (v : Word) (s : State) : Out := .next (s.withBlock (doSsReset v s.toBlock))
def execSubsystemResetComplete (n : Fin 17) (s : State) : Out := .next (s.withBlock (doSubsystemResetComplete n s.toBlock))
def execRstHonouredLow (s : State) : Out := .next (s.withBlock (doRstHonouredLow s.toBlock))
def execRstRelease (s : State) : Out := .next (s.withBlock (doRstRelease s.toBlock))
def execStuckReset (s : State) : Out := .next (s.withBlock (doStuckReset s.toBlock))
def execRstHigh10ms (s : State) : Out := .next (s.withBlock (doRstHigh10ms s.toBlock))

end Sys2Proof.Machine
end

