-- ==== Sys2Proof/Machine/RegBus.lean ====
section
/-! DEFINITION. Reads and writes of registers by address: the two Skein ports (agents 0 and 1) and the Bear core (agent 2)
reach every register through these (R384, R505–R509). -/

namespace Sys2Proof.Machine

/-- The index of the register at `a` in an array of `k` registers from `base`, `stride` apart. -/
def arrAt (base stride k a : Nat) : Option Nat :=
  if base ≤ a ∧ a < base + stride * k ∧ (a - base) % stride = 0 then some ((a - base) / stride) else none

/-- The index of a register of an array whose address is `f n`, `k` of them. -/
def idxOf (f : Nat → Nat) (k a : Nat) : Option Nat := (List.range k).find? (fun n => f n == a)

/-- The index registers of which each agent has a copy (Table 20.3). -/
def indexRegs : List Nat :=
  [Reg.SEQ_IDX, Reg.FILT_COEF_IDX, Reg.FILT_DC_IDX, Reg.KIND_IDX, Reg.KMAP_IDX, Reg.HUB_IDX, Reg.WH_TIDX, Reg.WH_RIDX,
    Reg.FX_DBG_IDX, Reg.OWL_WIDX, Reg.OWL_GIDX, Reg.EV_CNT_IDX]

/-- The data ports of R384. -/
def dataPorts : List Nat :=
  [Reg.SEQ_DATA, Reg.FILT_COEF_DATA, Reg.KMAP_DATA, Reg.WH_TDATA, Reg.WH_RDATA, Reg.FX_DBG_DATA]

/-- The _LO registers of the RO pairs whose read captures the _HI half (R509); the _HI register follows each. -/
def roPairs : List Nat :=
  [Reg.TOP_UID_LO, Reg.OW_NOW_LO, Reg.SP_RUN_LO, Reg.SP_SUMMARY_LO, Reg.LOCAL_NOW_LO, Reg.SNAP_LOCAL_LO,
    Reg.SNAP_MAINS_LO, Reg.MAINS_NOW_LO, Reg.OWL_WT_LO, Reg.HD_JSEQ_LO, Reg.PWR_ON_LO, Reg.PWR_LOSS_T_LO, Reg.RST_T_LO] ++
  (List.range 4).map Reg.SNAP_LINE_LO ++ (List.range 4).map Reg.LINE_NOW_LO ++ (List.range 16).map Reg.SWIFT_NCO_T0_LO ++
  (List.range 48).map Reg.FIFO_WMT_LO ++ (List.range 48).map Reg.FIFO_OVFT_LO ++ (List.range 12).map Reg.TRK_LOST_LO ++
  (List.range 12).map Reg.TRK_QUAR_LO ++ (List.range 32).map Reg.STEP_T_LO

/-! Values that a read computes. -/

/-- A word whose bit `i` is `f i`, for `i` below `n`. -/
def bitsWord (n : Nat) (f : Nat → Bool) : Word :=
  BitVec.ofNat 32 ((List.range n).foldl (fun a i => if f i then a + 2 ^ i else a) 0)

/-- TOP_PLANES (Table 20.7). -/
def Block.planes (s : Block) : Word :=
  bitsWord 7 (fun i => match i with
    | 0 => s.interpUp
    | 1 => s.fwUp
    | 2 => s.flag Reg.RST_STATUS_AUTO
    | 3 => s.get Reg.GOV_STATUS_MODE == 1
    | 4 => s.get Reg.GOV_STATUS_MODE == 2
    | 5 => s.flag Reg.HD_STATUS_DEFERRING
    | _ => s.get Reg.SETT_STATUS_DIE_DOWN != 0)

/-- The subsystem of an event source (Table 20.8). -/
def sourceSubsystem (n : Nat) : Nat :=
  let g := n / 16
  if g ≤ 15 then 13 else if g ≤ 23 then 4 else if g ≤ 27 then 5 else if g ≤ 36 then 8 else if g ≤ 40 then 12
  else if g ≤ 46 then 10 else if g ≤ 50 then 14 else if g = 51 then 9 else if g = 52 then 14 else if g ≤ 54 then 15
  else if g ≤ 58 then 16 else if g = 59 then 1 else if n ≤ 983 then 11 else 16

/-- TOP_PEND: the subsystems with a source pending on the reader's attention path, the Bear core's being both. -/
def Block.topPend (s : Block) (ag : Nat) : Word :=
  let on (n : Nat) : Bool :=
    (ag != 1 && s.bit (Reg.EV_PEND_A (n / 32)) (n % 32)) || (ag != 0 && s.bit (Reg.EV_PEND_B (n / 32)) (n % 32))
  let subs := ((List.range 1036).filter on).map sourceSubsystem
  bitsWord 17 (fun i => subs.elem i)

/-- Port `p` (R386–R392). -/
def Block.port (s : Block) (p : Nat) : PortSt := Bank.get (fun _ => PortSt.reset) s.ports p

def Block.setPort (s : Block) (p : Nat) (v : PortSt) : Block :=
  (s.withPorts (Bank.set (fun _ => PortSt.reset) s.ports p v))

/-- SK_PSTAT of port `p` (Table 15.11). -/
def Block.pstat (s : Block) (p : Nat) : Word :=
  let v := s.host p
  let held := match (s.port p).held with
    | none => 0
    | some h => if h.delivered then 3 else if h.ready then 2 else 1
  let next := match v.ready with
    | r :: _ => r.words.length
    | [] => 0
  BitVec.ofNat 32 (v.outstanding % 64 + 2 ^ 8 * (v.ready.length % 64) + 2 ^ 16 * (next % 256) + 2 ^ 24 * held +
    2 ^ 26 * (s.flag Reg.RST_STATUS_AUTO).toNat)

/-- ATTN of port `h` is driven low (R398), or follows its boundary cells during EXTEST, CLAMP and HIGHZ (R504). -/
def Block.attnLow (s : Block) (h : Nat) : Bool :=
  match s.tap.inst with
  | .extest | .clamp =>
    if h = 0 then s.tap.cells.getLsbD 7 && !s.tap.cells.getLsbD 6 else s.tap.cells.getLsbD 14 && !s.tap.cells.getLsbD 13
  | .highz => false
  | _ => !s.rstHeld && s.attention h && (Bank.get (fun _ => none) s.ev.pulse h).isNone

/-- A register of port `p`: `i` counts FMT, PSTAT, ABORT, ATTN_CFG, TMO, CNT (Table 15.9). -/
def Block.portReg (s : Block) (p i : Nat) : Word :=
  match i with
  | 1 => s.pstat p
  | 3 => withBits (s.reg (Reg.SKP_ATTN_CFG p)) 3 3 (s.attnLow p).toNat
  | _ => s.reg (Reg.SKP_FMT p + 4 * i)

/-- A node-class packet of Table 16.8. -/
def nodeOpcode (op : Nat) : Bool := decide (0x20 ≤ op) && decide (op ≤ 0x25)

/-- CMD_PROG: the progress count of the host's oldest running node packet (R419). -/
def Block.cmdProg (s : Block) (h : Nat) : Word :=
  match (s.host h).running.filter (fun p => nodeOpcode p.opcode) with
  | p :: rest =>
    let p := rest.foldl (fun a q => if q.order < a.order then q else a) p
    BitVec.ofNat 32 (p.granted % 2 ^ 20 + 2 ^ 31)
  | [] => 0

/-- CMD_Q (Table 16.20). -/
def Block.cmdQ (s : Block) (h : Nat) : Word :=
  let v := s.host h
  BitVec.ofNat 32 (v.outstanding % 64 + 2 ^ 8 * (v.ready.length % 64) + 2 ^ 16 * (v.running.length % 64) +
    2 ^ 24 * (v.fw.length % 64))

/-- The settled run in progress waits for its trigger (Table 7.17). -/
def Block.waitsTrig (s : Block) (n : Nat) : Bool :=
  match (s.sp n).act with
  | some r => dTrig r.dfn && !r.freed && (r.stage == .ready || r.stage == .refWait)
  | none => false

/-- A spindle's bit of SP_SUMMARY: a W1C bit of its SP_STAT is set. -/
def Block.spSummary (s : Block) (n : Nat) : Bool := s.reg (Reg.SP_STAT n) &&& 0x700800#32 != 0#32

/-- FREE_LOCK: the converter PLL is locked (Table 4.10). -/
def Block.freeLock (s : Block) : Bool := s.coreOn && !s.clockBad 2

/-- HD_COMMIT.SINCE: minutes since the last commit began. -/
def Block.commitSince (s : Block) : Nat :=
  match s.hoard.begunAt with
  | some t => min 65535 ((s.now - t) / (60 * 10 ^ 9))
  | none => 0

/-- The low or high half of a count. -/
def half (hi : Bool) (v : Count) : Word := if hi then v.extractLsb' 32 32 else v.extractLsb' 0 32

/-- What a read of the registers of blocks 0–2 computes. -/
def Block.readLow (s : Block) (ag a : Nat) : Option Word :=
  if a = Reg.TOP_PLANES then some s.planes
  else if a = Reg.TOP_PEND then some (s.topPend ag)
  else if Reg.SK_FMT ≤ a ∧ a ≤ Reg.SK_CNT then
    some (if ag < 2 then s.portReg ag ((a - Reg.SK_FMT) / 4) else 0)
  else if Reg.SKP_FMT 0 ≤ a ∧ a ≤ Reg.SKP_CNT 0 then some (s.portReg 0 ((a - Reg.SKP_FMT 0) / 4))
  else if Reg.SKP_FMT 1 ≤ a ∧ a ≤ Reg.SKP_CNT 1 then some (s.portReg 1 ((a - Reg.SKP_FMT 1) / 4))
  else match idxOf Reg.CMD_Q 2 a, idxOf Reg.CMD_PROG 2 a, arrAt (Reg.CMD_TAGS 0 0) 4 16 a, idxOf Reg.XB_LINE 16 a with
  | some h, _, _, _ => some (s.cmdQ h)
  | _, some h, _, _ => some (s.cmdProg h)
  | _, _, some i, _ => some (bitsWord 32 (fun b => (s.host (i / 8)).tagBusy (32 * (i % 8) + b)))
  | _, _, _, some l =>
    let w := withBits (s.reg a) 20 20 (!s.lineUp l).toNat
    some (withBits w 12 12 (s.get (Reg.XB_LINE_USERS l) != 0 || s.flag (Reg.XB_LINE_PINNED l)).toNat)
  | _, _, _, _ =>
    if a = Reg.AFE_STATUS then
      some ((s.reg a &&& 0xFFFF0000#32) ||| bitsWord 16 (fun l => s.get (Reg.XB_LINE_USERS l) != 0 || s.flag (Reg.XB_LINE_PINNED l)))
    else none

/-- What a read of the registers of blocks 3–7 computes. -/
def Block.readMid (s : Block) (_ag a : Nat) : Option Word :=
  let sampling (n : Nat) : Bool := match (s.sp n).act with
    | some r => r.stage == .sampling
    | none => false
  if a = Reg.FINE_STATUS then
    let aligned := s.mainsState == LOCKED || s.mainsState == HOLDOVER
    some (withBits (withBits (s.reg a) 0 0 s.freeLock.toNat) 1 1 aligned.toNat)
  else if a = Reg.FINE_SAMPLING then some (bitsWord 32 sampling)
  else if a = Reg.FINE_CALBUSY then some (bitsWord 32 (fun k => s.flag (Reg.FINE_CALSTAT_BUSY k)))
  else if a = Reg.SWIFT_SAMPLING then some (bitsWord 16 (fun j => sampling (32 + j)))
  else if a = Reg.SWIFT_CALBUSY then some (bitsWord 16 (fun j => s.flag (Reg.SWIFT_CALSTAT_BUSY j)))
  else if a = Reg.SP_RUN_LO then some (bitsWord 32 (fun n => s.spState n != STOPPED))
  else if a = Reg.SP_RUN_HI then some (bitsWord 16 (fun n => s.spState (32 + n) != STOPPED))
  else if a = Reg.SP_SUMMARY_LO then some (bitsWord 32 s.spSummary)
  else if a = Reg.SP_SUMMARY_HI then some (bitsWord 16 (fun n => s.spSummary (32 + n)))
  else if a = Reg.TB_STATUS then
    some (BitVec.ofNat 32 (s.tbStates + 2 ^ 15 * s.get Reg.MAINS_STATUS_HALF_AMBIG + 2 ^ 16 * s.coarse.toNat +
      2 ^ 17 * s.get Reg.TB_STATUS_COARSE_SEEN))
  else if a = Reg.LOCAL_NOW_LO then some (half false s.localCount)
  else if a = Reg.LOCAL_NOW_HI then some (half true s.localCount)
  else if a = Reg.MAINS_STATUS then some s.mainsStatus
  else if a = Reg.MAINS_FREQ then some (BitVec.ofNat 32 s.mainsFreq)
  else if a = Reg.MAINS_NOW_LO then some (half false s.mainsNow)
  else if a = Reg.MAINS_NOW_HI then some (half true s.mainsNow)
  else match idxOf Reg.SP_STAT 48 a, idxOf Reg.LINE_NOW_LO 4 a, idxOf Reg.LINE_NOW_HI 4 a, idxOf Reg.SCH_STAT 64 a with
  | some n, _, _, _ => some (withBits (s.reg a) 6 6 (s.waitsTrig n).toNat)
  | _, some w, _, _ => some (half false (s.lineNow w))
  | _, _, some w, _ => some (half true (s.lineNow w))
  | _, _, _, some n => some (s.schStat n)
  | _, _, _, _ => none

/-- What a read of the registers of blocks 8–11 computes. -/
def Block.readHigh (s : Block) (ag a : Nat) : Option Word :=
  let k := s.reg (ownCopy ag Reg.KIND_IDX)
  let o := s.owlWin (s.widx ag)
  let g := s.owlWin (s.gidx ag)
  let running (n : Nat) : Bool := [FX_RUNNING, FX_DRAINING, FX_HELD].elem (s.fxState n)
  if a = Reg.KIND_DEF then some (s.kindDef (bitsOf k 3 0) (bitsOf k 9 4))
  else if a = Reg.KIND_LIM then some (s.kindLim (bitsOf k 3 0) (bitsOf k 9 4))
  else if a = Reg.HUB_STATE then
    some (match s.idxHub ag with
      | some h => s.hubStateWord h
      | none => 0)
  else if a = Reg.HUB_ARMED then
    some (match s.idxHub ag with
      | some h => (s.hubRec h).armed
      | none => 0)
  else if a = Reg.FX_GSTATUS then some (bitsWord 32 (fun i => if i < 16 then running i else s.fxState (i - 16) == FX_FAULTED))
  else if a = Reg.OWL_STATUS then
    some (withBits (s.reg a) 4 4 (s.coreOn && !s.refSourceOk 0 && s.refSourceOk 1).toNat)
  else if a = Reg.OWL_WCNT then some o.wcnt
  else if a = Reg.OWL_WT_LO then some (half false o.wt)
  else if a = Reg.OWL_WT_HI then some (half true o.wt)
  else if a = Reg.OWL_WSTAT then some o.wstat
  else if a = Reg.OWL_GNODE then some (g.gnode.setWidth 32)
  else if a = Reg.OWL_GCODE then some (g.gcode.setWidth 32)
  else match idxOf Reg.WH_REQ 12 a, idxOf Reg.WH_MASK 12 a, idxOf Reg.FX_CTL 16 a, idxOf Reg.FX_CYCLES 16 a,
    idxOf Reg.FX_NQ 16 a, idxOf Reg.OWL_SUSP 8 a with
  | some t, _, _, _, _, _ => some (s.whReq t)
  | _, some _, _, _, _, _ => some s.whMask
  | _, _, some n, _, _, _ =>
    some (withBits (s.reg a) 10 10 ((s.engine n).frmLoaded && !s.frmNodesRunning 1 n).toNat)
  | _, _, _, some n, _, _ => some (s.fxCycles n)
  | _, _, _, _, some n, _ => some (s.fxNq n)
  | _, _, _, _, _, some i => some (bitsWord 32 (fun b => s.suspended (32 * i + b)))
  | _, _, _, _, _, _ => none

/-- What a read of the registers of blocks 12–15 computes. -/
def Block.readTop (s : Block) (_ag a : Nat) : Option Word :=
  if a = Reg.HD_COMMIT then some (withBits (s.reg a) 26 11 s.commitSince)
  else if a = Reg.WDT_CFG then some (withBits (s.reg a) 25 16 (min 1023 s.wdtRemain))
  else if a = Reg.PWR_STATUS then some (withBits (s.reg a) 6 6 s.thermReturn.toNat)
  else none

/-- What a read computes; nothing where the register's word is stored. -/
def Block.computed (s : Block) (ag a : Nat) : Option Word :=
  match a / 0x1000 with
  | 0 | 1 | 2 => s.readLow ag a
  | 3 | 4 | 5 | 6 | 7 => s.readMid ag a
  | 8 | 9 | 10 | 11 => s.readHigh ag a
  | _ => s.readTop ag a

/-- The word that agent `ag` reads at `a`, but for data ports and captures. An address at which no register stands reads
0 (R384). -/
def Block.readWord (s : Block) (ag a : Nat) : Word :=
  match regRow a with
  | none => 0
  | some _ => if indexRegs.elem a then s.reg (ownCopy ag a) else (s.computed ag a).getD (s.reg a)

/-- The half that reader `ag` captured at its last read of the _LO register at `a` (R52). -/
def Block.captured (s : Block) (ag a : Nat) : Option Word := Bank.get (fun _ => none) s.hiCap (0x10000 * ag + a)

/-- A read of the register at `a` by agent `ag`: the word and the state after it (R52, R384, R508, R509). -/
def Block.readReg (s : Block) (ag a : Nat) : Word × Block :=
  if a = Reg.SEQ_DATA then s.readSeqData ag
  else if a = Reg.FILT_COEF_DATA then s.readCoefData ag
  else if a = Reg.FILT_DC_VAL then s.readDcVal ag
  else if a = Reg.KMAP_DATA then s.readKmap ag
  else if a = Reg.WH_TDATA then s.readTdata ag
  else if a = Reg.WH_RDATA then s.readRdata ag
  else if a = Reg.FX_DBG_DATA then s.readDbg ag
  else if a = Reg.EV_CNT_DATA then s.readEvCnt ag
  else if roPairs.elem a then
    (s.readWord ag a, (s.withHiCap (Bank.set (fun _ => none) s.hiCap (0x10000 * ag + a) (some (s.readWord ag (a + 4))))))
  else if 4 ≤ a ∧ roPairs.elem (a - 4) then ((s.captured ag (a - 4)).getD (s.readWord ag a), s)
  else (s.readWord ag a, s)

/-! Writes. -/

/-- A write to a port's register: `i` counts FMT, PSTAT, ABORT, ATTN_CFG, TMO, CNT. A port reaches its own register at
0x000–0x014; the Bear core writes the RW fields of a port through its copy (R402). -/
def Block.writePort (s : Block) (p i : Nat) (own : Bool) (v : Word) : Block :=
  match i with
  | 2 => if own then s.setReg (Reg.SKP_ABORT p) (s.reg (Reg.SKP_ABORT p) &&& ~~~(v &&& 0xF0000#32)) else s
  | 3 => s.setReg (Reg.SKP_ATTN_CFG p) (v &&& 7#32)
  | 4 => s.setReg (Reg.SKP_TMO p) (v &&& 0xFFFF#32)
  | 5 => s.setReg (Reg.SKP_CNT p) v
  | _ => s

/-- Writes to block 1. -/
def Block.writeSkein (s : Block) (ag a : Nat) (v : Word) : Block :=
  if Reg.SK_FMT ≤ a ∧ a ≤ Reg.SK_CNT then (if ag < 2 then s.writePort ag ((a - Reg.SK_FMT) / 4) true v else s)
  else if Reg.SKP_FMT 0 ≤ a ∧ a ≤ Reg.SKP_CNT 0 then
    (if ag = 2 then s.writePort 0 ((a - Reg.SKP_FMT 0) / 4) false v else s)
  else if Reg.SKP_FMT 1 ≤ a ∧ a ≤ Reg.SKP_CNT 1 then
    (if ag = 2 then s.writePort 1 ((a - Reg.SKP_FMT 1) / 4) false v else s)
  else s.writeFields a v

/-- Writes to blocks 2–5. -/
def Block.writeFront (s : Block) (ag a : Nat) (v : Word) : Block :=
  if a = Reg.REF_CTL then s.writeRefCtl v
  else if a = Reg.SWIFT_NCO_LOAD then s.writeNcoLoad v
  else if a = Reg.FILT_COEF_DATA then s.writeCoefData ag v
  else if a = Reg.FILT_DC_VAL then s.writeDcVal ag v
  else match idxOf Reg.XB_PIN 16 a, idxOf Reg.REF_SEL 12 a, idxOf Reg.FINE_QCLK 8 a, idxOf Reg.FINE_CALREQ 32 a,
    idxOf Reg.SWIFT_CALREQ 16 a, idxOf Reg.SWIFT_NCO_FREQ 16 a, idxOf Reg.SWIFT_NCO_PHASE 16 a with
  | some l, _, _, _, _, _, _ => s.writeXbPin l v
  | _, some u, _, _, _, _, _ => s.writeRefSel u v
  | _, _, some q, _, _, _, _ => s.writeFineQclk q v
  | _, _, _, some k, _, _, _ => s.writeFineCalreq k v
  | _, _, _, _, some j, _, _ => s.writeSwiftCalreq j v
  | _, _, _, _, _, some j, _ => s.writeNcoFreq j v
  | _, _, _, _, _, _, some j => s.writeNcoPhase j v
  | _, _, _, _, _, _, _ =>
    if (Reg.FINE_CFG 0 ≤ a ∧ a ≤ Reg.FINE_CFG 31) ∨ (Reg.FINE_COEF 0 0 ≤ a ∧ a ≤ Reg.FINE_COEF 31 7) ∨
        (Reg.SWIFT_CFG 0 ≤ a ∧ a ≤ Reg.SWIFT_CFG 15) ∨ (Reg.SWIFT_COEF 0 0 ≤ a ∧ a ≤ Reg.SWIFT_COEF 15 3) ∨
        (Reg.FDCFRZ 0 ≤ a ∧ a ≤ Reg.FDCFRZ 31) ∨ a = Reg.TDAC then
      s.writeLogged a v
    else s.writeFields a v

/-- Writes to blocks 6 and 7. -/
def Block.writeFlow (s : Block) (ag a : Nat) (v : Word) : Block :=
  if a = Reg.SEQ_IDX then s.writeSeqIdx ag v
  else if a = Reg.SEQ_DATA then s.writeSeqData ag v
  else if a = Reg.SP_URGENT then s.writeSpUrgent v
  else if a = Reg.TG_FIRE then s.writeTgFire v
  else if a = Reg.TB_CTL then s.writeTbCtl v
  else if a = Reg.MAINS_CTL then s.writeMainsCtl v
  else if a = Reg.MAINS_PHASE_OFS then s.writePhaseOfs v
  else match idxOf Reg.SP_CTL 48 a, idxOf Reg.SP_CFG 48 a, idxOf Reg.LINE_CTL 4 a, idxOf Reg.SCH_CTL 64 a with
  | some n, _, _, _ => s.spCommand n (bitsOf v 2 0)
  | _, some n, _, _ => s.writeSpCfg n v
  | _, _, some w, _ => s.writeLineCtl w v
  | _, _, _, some n => s.writeSchCtl n v
  | _, _, _, _ =>
    match idxOf Reg.FIFO_BASE 48 a, idxOf Reg.FIFO_CFG 48 a, idxOf Reg.FIFO_RP 48 a, idxOf Reg.FIFO_WM 48 a,
      idxOf Reg.FIFO_STAT 48 a with
    | some f, _, _, _, _ => s.writeFifoBase f v
    | _, some f, _, _, _ => s.writeFifoCfg f v
    | _, _, some f, _, _ => s.writeFifoRp f v
    | _, _, _, some f, _ => s.writeFifoWm f v
    | _, _, _, _, some f => s.writeFifoStat f v
    | _, _, _, _, _ =>
      match idxOf Reg.SCH_AT_LO 64 a, idxOf Reg.SCH_AT_HI 64 a, idxOf Reg.SCH_PERIOD 64 a with
      | some n, _, _ => s.writeSchTime n a v
      | _, some n, _ => s.writeSchTime n a v
      | _, _, some n => s.writeSchTime n a v
      | _, _, _ => s.writeFields a v

/-- Writes to blocks 8 and 9. -/
def Block.writeNet (s : Block) (ag a : Nat) (v : Word) : Block :=
  if a = Reg.SETT_CTL then s.writeSettCtl v
  else if a = Reg.KIND_DEF then s.writeKind ag false v
  else if a = Reg.KIND_LIM then s.writeKind ag true v
  else if a = Reg.KMAP_DATA then s.writeKmap ag v
  else if a = Reg.HUB_CMD then s.writeHubCmd ag (bitsOf v 1 0)
  else if a = Reg.WH_TDATA then s.writeTdata ag v
  else if a = Reg.WH_RDATA then s.writeRdata ag v
  else match idxOf Reg.STEP_CTL 32 a, idxOf Reg.WH_CTL 12 a with
  | some i, _ => s.writeStepCtl ag i v
  | _, some t => s.writeWhCtl t v
  | _, _ =>
    match (List.range 48).find? (fun i => Reg.WH_WSTAT (i / 4) (i % 4) == a),
      (List.range 48).find? (fun i => Reg.WH_WATCH (i / 4) (i % 4) == a) with
    | some i, _ => s.writeWstat (i / 4) (i % 4) v
    | _, some i => s.writeWatch (i / 4) (i % 4) v
    | _, _ => s.writeFields a v

/-- A write of FX_EVSEL: it clears the latch of its number (R260). -/
def Block.writeEvsel (s : Block) (n e : Nat) (v : Word) : Block :=
  let g := s.engine n
  (s.writeFields (Reg.FX_EVSEL n e) v).setEngine n { g with latches := withBits g.latches e e 0 }

/-- Writes to blocks 10 and 11. -/
def Block.writeFoxOwl (s : Block) (ag a : Nat) (v : Word) : Block :=
  if a = Reg.FX_GCMD then s.each (maskEngines (v.setWidth 16)) (Block.fxCommand · (bitsOf v 18 16))
  else if a = Reg.FX_DBG_DATA then s.writeDbg ag v
  else if a = Reg.OWL_SCREQ then s.writeScreq v
  else if a = Reg.OWL_SCAUTO then s.writeScauto v
  else if a = Reg.OWL_WCNT then s.writeWcnt (s.widx ag) v
  else if a = Reg.OWL_GNODE then s.setOwlWin (s.gidx ag) { s.owlWin (s.gidx ag) with gnode := v.setWidth 24 }
  else if a = Reg.OWL_GCODE then s.setOwlWin (s.gidx ag) { s.owlWin (s.gidx ag) with gcode := v.setWidth 12 }
  else if a = Reg.OWL_GCMD then s.writeGcmd v
  else match idxOf Reg.FX_CTL 16 a, idxOf Reg.FX_QFRING 16 a, idxOf Reg.FX_QFRP 16 a, idxOf Reg.OWL_LATCH 8 a,
    idxOf Reg.W_CFG 256 a, idxOf Reg.W_THR 256 a with
  | some n, _, _, _, _, _ => s.fxCommand (bitsOf v 2 0) n
  | _, some n, _, _, _, _ => s.writeQfring n v
  | _, _, some n, _, _, _ => s.writeQfrp n v
  | _, _, _, some i, _, _ => s.writeLatch i v
  | _, _, _, _, some w, _ => s.writeWcfg w v
  | _, _, _, _, _, some w => s.writeWthr w v
  | _, _, _, _, _, _ =>
    match (List.range 128).find? (fun i => Reg.FX_EVSEL (i / 8) (i % 8) == a) with
    | some i => s.writeEvsel (i / 8) (i % 8) v
    | none => s.writeFields a v

/-- Writes to blocks 12–15. Those of a Skein host to the watchdog, the Trail's pointers, EV_FWRAISE, EV_FWDATA and RST_CFG
are ignored (R462, R474). -/
def Block.writeSystem (s : Block) (ag a : Nat) (v : Word) : Block :=
  if ag ≠ 2 ∧ ([Reg.WDT_CFG, Reg.WDT_KICK, Reg.TRAIL_WP, Reg.TRAIL_FFGEN, Reg.RST_CFG].elem a ∨
      (Reg.EV_FWDATA 0 ≤ a ∧ a ≤ Reg.EV_FWDATA 7)) then s
  else if a = Reg.PLY_CTL then s.writePlyCtl v
  else if a = Reg.PLY_STATUS then s.writePlyStatus v
  else if a = Reg.WDT_KICK then doWdtKick ag v s
  else if a = Reg.EV_FWRAISE then s.writeFwraise ag v
  else if a = Reg.PWR_OFF_LO then s.writePwrOff false v
  else if a = Reg.PWR_OFF_HI then s.writePwrOff true v
  else if a = Reg.SS_RESET then s.writeSsReset v
  else match idxOf Reg.PLY_STREAM 64 a, idxOf Reg.EV_BUDGET 4 a, idxOf Reg.EV_PEND_A 33 a, idxOf Reg.EV_PEND_B 33 a,
    idxOf Reg.EV_CLASS 65 a with
  | some k, _, _, _, _ => s.writePlyStream k v
  | _, some p, _, _, _ => s.writeEvBudget p v
  | _, _, some i, _, _ => doEvPendClear ag 0 i v s
  | _, _, _, some i, _ => doEvPendClear ag 1 i v s
  | _, _, _, _, some g => s.writeEvClass g v
  | _, _, _, _, _ => s.writeFields a v

/-- The write of `v` to the register at `a` by agent `ag`, by its chapter's rules and its access codes (R11, R384). A domain
that is down takes none, nor does a block whose subsystem is in reset (R506, R507). -/
def Block.writeReg (s : Block) (ag a : Nat) (v : Word) : Block :=
  if !s.writable a then s
  else if a ≠ Reg.SEQ_IDX ∧ indexRegs.elem a then s.writeFields (ownCopy ag a) v
  else match a / 0x1000 with
  | 0 => s.writeFields a v
  | 1 => s.writeSkein ag a v
  | 2 | 3 | 4 | 5 => s.writeFront ag a v
  | 6 | 7 => s.writeFlow ag a v
  | 8 | 9 => s.writeNet ag a v
  | 10 | 11 => s.writeFoxOwl ag a v
  | _ => s.writeSystem ag a v

/-- REGISTER_WRITE: agent `ag` writes `v` to the register at `a`. -/
def doRegisterWrite (ag a : Nat) (v : Word) (s : Block) : Block := if a % 4 = 0 ∧ a < 0x10000 then s.writeReg ag a v else s

/-- READ_LO_CAPTURE: reader `ag` reads the _LO register of an RO pair at `a`; its _HI half is captured for that reader. -/
def doReadLoCapture (ag a : Nat) (s : Block) : Block :=
  if roPairs.elem a ∧ s.domainOn (regDomain a) then (s.readReg ag a).2 else s

/-! The commands of this file, with the operands that the command table's rows take here. -/

def execRegisterWrite (ag : Fin 3) (a : Fin 65536) (v : Word) (s : State) : Out := .next (s.withBlock (doRegisterWrite ag a v s.toBlock))
def execReadLoCapture (ag : Fin 3) (a : Fin 65536) (s : State) : Out := .next (s.withBlock (doReadLoCapture ag a s.toBlock))

end Sys2Proof.Machine
end

