-- ==== Sys2Proof/Machine/Boot.lean ====
section
/-! DEFINITION. Chapters 17 and 18: the boot programme, firmware's start-up, stored registers, the confirmation of trial
firmware (R437–R440, R470, R473, R475). -/

namespace Sys2Proof.Machine

/-! Stored registers (R414, Table 13.10). The keys are those of `Block.snapshot`; further keys are 0x10000 + 64 n + 4 e + w
for word w of definition e of spindle n, 0x20000 + 32 b + t for coefficient t of Swift bank b, 0x40000 + w and 0x41000 + w
for the guard node and code of window w. -/

/-- Registers whose RW fields are counts, pointers, data ports or commands: they are not stored. FINE_COEF and SWIFT_COEF
are item 0x0720. -/
def volatileRegs : List (Nat × Nat) :=
  [(Reg.XB_WAIT_CNT, 4), (Reg.REF_FAILOVER_CNT, 4), (Reg.FINE_COEF 0 0, 0x400), (Reg.SWIFT_COEF 0 0, 0x100),
    (Reg.FILT_COEF_IDX, 8), (Reg.FILT_DC_IDX, 8), (Reg.SEQ_IDX, 8), (Reg.SCH_CTL 0, 0x400), (Reg.KIND_IDX, 0x30),
    (Reg.STEP_CTL 0, 0x200), (Reg.WH_TIDX, 0x10), (Reg.FX_DBG_IDX, 8), (Reg.OWL_WIDX, 0x30), (Reg.MEM_BANK 0, 0x10),
    (Reg.PLY_CNT0, 8)]

/-- The same, of arrays whose other registers are stored. -/
def volatileReg (a : Nat) : Bool :=
  volatileRegs.any (fun (b, n) => decide (b ≤ a) && decide (a < b + n)) ||
    (idxOf Reg.FINE_CNT 32 a).isSome || (idxOf Reg.SWIFT_CNT 16 a).isSome || (idxOf Reg.SP_CNT 48 a).isSome ||
    (idxOf Reg.FIFO_OVF 48 a).isSome || (idxOf Reg.FIFO_RP 48 a).isSome || (idxOf Reg.LINE_CNT 4 a).isSome ||
    (idxOf Reg.TRK_CNT0 12 a).isSome || (idxOf Reg.TRK_CNT1 12 a).isSome || (idxOf Reg.WH_GCNT 12 a).isSome ||
    (idxOf Reg.WH_CNT 12 a).isSome || (idxOf Reg.WH_PROBECNT 12 a).isSome || (idxOf Reg.FX_NCNT 16 a).isSome ||
    (idxOf Reg.FX_QFLOST 16 a).isSome || (idxOf Reg.FX_QFRP 16 a).isSome || (idxOf Reg.PLY_SSTAT 64 a).isSome

/-- The addresses of a row's registers. -/
def RegRow.addrs (r : RegRow) : List Nat :=
  (List.range r.n1).flatMap (fun i => (List.range r.n2).map (fun j => r.base + r.s1 * i + r.s2 * j))

/-- The registers of subsystem `n` that a CONFIG_SAVE stores. -/
def storedRegs (n : Nat) : List Nat :=
  ((List.range 16).flatMap (fun b => (regRowsOf (0x1000 * b)).flatMap (fun r => if r.rw = 0 then [] else r.addrs))).filter
    (fun a => subsystemOf a == n && !volatileReg a)

/-- What subsystem `n` stores beside registers: definitions and running spindles, coefficients, armed periodic schedule
entries (R59), Whorl banks, guard nodes and codes. -/
def Block.storedMore (s : Block) (n : Nat) : List (Nat × Word) :=
  match n with
  | 7 => (List.range 128).map (fun i => (0x20000 + 128 + i, (Bank.get (fun _ => 0) s.acq.coefs (128 + i)).setWidth 32))
  | 8 => (List.range 768).flatMap (fun e => (List.range 4).map (fun w =>
        (0x10000 + 4 * e + w, defWord (s.entryDef (e / 16) (e % 16)) w))) ++
      ((spindleList.filter (fun k => s.spState k = RUNNING ∨ s.spState k = STOPPING)).map (fun k => (Reg.SP_CTL k, 1#32)))
  | 9 => ((List.range 64).filter (fun k => s.flag (Reg.SCH_CTL_ARM k) && s.reg (Reg.SCH_PERIOD k) != 0#32)).flatMap (fun k =>
        [Reg.SCH_AT_LO k, Reg.SCH_AT_HI k, Reg.SCH_PERIOD k, Reg.SCH_CTL k].map (fun a => (a, s.reg a)))
  | 11 => (List.range 1536).map (fun i => (0x30000 + i, s.slotOf (i / 128) (i / 64 % 2) (i % 64))) ++
      (List.range 768).map (fun i => (0x31000 + i, s.rankOf (i / 64) (i / 32 % 2) (i % 32)))
  | 13 => (List.range 256).flatMap (fun w =>
        [(0x40000 + w, (s.owlWin w).gnode.setWidth 32), (0x41000 + w, (s.owlWin w).gcode.setWidth 32)])
  | _ => []

/-- The value of item 0x0100 + n as CONFIG_SAVE writes it. -/
def Block.snapshotBytes (s : Block) (n : Nat) : List Byte :=
  let pair (k : Nat) (v : Word) : List Byte := leBytes 4 k ++ wordBytes v
  (storedRegs n).flatMap (fun a =>
    match regRow a with
    | some r => pair a (s.reg a &&& BitVec.ofNat 32 r.rw)
    | none => []) ++ (s.storedMore n).flatMap (fun (k, v) => pair k v)

/-- One pair of a stored register set is loaded. -/
def Block.loadKey (s : Block) (k : Nat) (v : Word) : Block :=
  if k < 0x10000 then s.writeReg 2 k v
  else if k < 0x20000 then
    let e := (k - 0x10000) / 4
    let w := k % 4
    s.commitEntry (e / 16) (e % 16) (withBits (s.entryDef (e / 16) (e % 16)) (32 * w + 31) (32 * w) v.toNat)
  else if k < 0x30000 then s.setCoef (k - 0x20000) v
  else if k < 0x40000 then s.loadBank k v
  else if k < 0x41000 then s.setOwlWin (k - 0x40000) { s.owlWin (k - 0x40000) with gnode := v.setWidth 24 }
  else s.setOwlWin (k - 0x41000) { s.owlWin (k - 0x41000) with gcode := v.setWidth 12 }

/-- A periodic schedule entry that the store holds is armed: its instant is the first after the timebase's value that is
congruent with the stored one modulo the period (R59). -/
def Block.armStored (s : Block) (l : List (Nat × Word)) (n : Nat) : Block :=
  let val (a : Nat) : Nat := match l.find? (fun p => p.1 == a) with
    | some p => p.2.toNat
    | none => 0
  let ctl : Nat := val (Reg.SCH_CTL n)
  let period : Nat := val (Reg.SCH_PERIOD n)
  if (period : Nat) == 0 then s
  else
    let at' : Nat := val (Reg.SCH_AT_LO n) + 2 ^ 32 * val (Reg.SCH_AT_HI n)
    let now : Nat := (s.tbNow (bitsOf (BitVec.ofNat 32 ctl) 3 1)).toNat
    let next : Nat := now + 1 + (at' + (period - (now + 1) % period)) % period
    let s := (s.setPair (Reg.SCH_AT_LO n) (Reg.SCH_AT_HI n) (BitVec.ofNat 64 next)).setReg (Reg.SCH_PERIOD n) (BitVec.ofNat 32 period)
    s.writeSchCtl n (BitVec.ofNat 32 ctl)

/-- A later key of subsystem 8 starts a spindle: its FIFOs are enabled by then. -/
def startsSpindle (k : Nat) : Bool := (idxOf Reg.SP_CTL 48 k).isSome

/-- Firmware loads the stored registers of every subsystem: the registers, then the spindles that are stored as
running. -/
def Block.loadRegisters (s : Block) : Block :=
  let all := (List.range 12).map (fun i => (3 + i, s.snapshot (3 + i)))
  let s := s.each all (fun s (n, l) =>
    if n = 9 then s.each (l.filter (fun p => decide (p.1 < Reg.SCH_CTL 0))) (fun s (k, v) => s.loadKey k v)
    else s.each (l.filter (fun p => !startsSpindle p.1)) (fun s (k, v) => s.loadKey k v))
  s.each (all.flatMap (fun p => p.2.filter (fun q => startsSpindle q.1))) (fun s (k, v) => s.loadKey k v)

/-- The coefficients of item 0x0720. -/
def Block.loadCoefs (s : Block) : Block :=
  match s.item 0x720 with
  | none => s
  | some (_, v) =>
    let word (i : Nat) : Word := BitVec.ofNat 32 (leNat ((v.drop (4 * i)).take 4))
    let s := s.each (List.range 256) (fun s i => s.writeLogged (Reg.FINE_COEF (i / 8) (i % 8)) (word i))
    s.each (List.range 64) (fun s i => s.writeLogged (Reg.SWIFT_COEF (i / 4) (i % 4)) (word (256 + i)))

/-- The kinds of the node map that a kind write takes: not ABSENT, and with limits that agree (R193). -/
def mapKinds : List Nat := (List.range 768).filter (fun i => i % 64 != 63 && kindOk (Config.mapDef i) (Config.mapLim i))

/-- The kind tables and maps of the node map in the Hoard, loaded while no trunk is enabled (R193, Table 13.10). -/
def Block.loadKinds (s : Block) : Block :=
  let load := fun (b : Bank Word) (f : Nat → Word) => mapKinds.foldl (fun b i => Bank.set (fun _ => 0) b i (f i)) b
  s.withSett { s.sett with
    kdef := load s.sett.kdef (fun i => Config.mapDef i &&& 0x3FFFF#32)
    klim := load s.sett.klim (fun i => Config.mapLim i &&& 0x0FFF0FFF#32)
    kmap := Bank.putRun (fun _ => 0x3F) s.sett.kmap 0
      ((List.range (12 * 16384)).map (fun i => BitVec.ofNat 6 (mapKindOf (i / 16384) (i % 16384)))) }

/-- The enables of the attention and Ply paths at their factory values, before the items are applied (R448): sources of a
default class up to `c`. -/
def Block.factoryEnables (s : Block) (base c : Nat) : Block :=
  s.each (List.range 33) (fun s i =>
    s.setReg (base + 4 * i) (bitsWord 32 (fun b => decide (32 * i + b < 1036) && decide (defaultClass (32 * i + b) ≤ c))))

/-- The items that firmware applies at a start: commit settings, stuck-reset time, thermal limits, watchdog period, event
classes, enables and budgets. -/
def Block.loadItems (s : Block) : Block :=
  let s := ((s.factoryEnables (Reg.EV_EN_A 0) 1).factoryEnables (Reg.EV_EN_B 0) 1).factoryEnables (Reg.EV_EN_P 0) 2
  let s := s.each [0x600, 0x803, 0x820, 0x821, 0x822, 0x823, 0x824, 0x825] Block.applyItem
  s.put Reg.TRAIL_FFGEN_FFGEN (s.itemNat 0x801 0)

/-- What firmware applies at every Bear start: the stuck-reset time, and PERIOD for the next one (R441, R474). -/
def Block.loadAlways (s : Block) : Block :=
  (s.applyItem 0x602).put Reg.WDT_CFG_PERIOD (s.itemNat 0x802 100)

/-- SK_ATTN_CFG and SK_TMO of both ports, items 0x0810 and 0x0811: two words each (R400; the layout is the model's). -/
def Block.loadPorts (s : Block) : Block :=
  s.each [0, 1] (fun s p =>
    match s.item (0x810 + p) with
    | some (_, v) => (s.writePort p 3 false (BitVec.ofNat 32 (leNat (v.take 4)))).writePort p 4 false
        (BitVec.ofNat 32 (leNat ((v.drop 4).take 4)))
    | none => s)

/-- The guards that item 0x0880 names are armed (R315, R430). -/
def Block.loadGuards (s : Block) : Block :=
  match s.item 0x880 with
  | some (_, v) =>
    let m := leNat v
    s.each ((List.range 256).filter (fun w => bitOf m w)) (fun s w => s.armGuard w true)
  | none => s

/-- At a cold start and at a return of CORE: the wear record (R354), and the calibration area, which is a stored item (R287).
A cold start is counted (R353). -/
def Block.startStore (s : Block) (kind : Nat) : Block :=
  if kind < 2 then
    let s := s.readWear.when (decide (kind = 0)) (·.life 1 1)
    let s := s.setHoard { s.hoard with ageAt := s.now }
    s.withStock { s.stock with area := s.calItem / 2 ^ 32 }
  else s

/-- PWR_OFF as its item stores it, at a cold start. -/
def Block.startPower (s : Block) (kind : Nat) : Block :=
  match s.item 0x830 with
  | some (_, v) =>
    if kind = 0 then (s.writePwrOff false (BitVec.ofNat 32 (leNat (v.take 4)))).writePwrOff true
      (BitVec.ofNat 32 (leNat ((v.drop 4).take 4)))
    else s
  | none => s

/-- What firmware loads beside its own configuration at a cold start, a return of CORE, or in autonomous mode: the kind
tables, the coefficients and the registers of every subsystem, the stored schedule entries and guards, and what it finds in
the Hoard. The domains of R295 are then due. -/
def Block.startFully (s : Block) (kind : Nat) : Block :=
  let s := (s.startStore kind).when (decide (kind < 2)) (·.loadKinds)
  let s := s.loadCoefs.startPower kind
  let l := s.snapshot 9
  let s := (s.loadRegisters.each (List.range 64) (fun s n => s.armStored l n)).loadGuards.readHoard
  (s.withStock { s.stock with starting := true })

/-- Firmware's start-up (Table 18.4, R473, R475): `kind` 0 a cold start, 1 a return of CORE, 2 the end of RST#, 3 a
judgement. At the end of RST# firmware reloads only its own configuration, that of the Den and of the ports: RST# changes
nothing in the other blocks (R5, R23), and stored registers act at a cold start or a return of CORE (Table 13.10). -/
def Block.startUp (s : Block) (kind : Nat) : Block :=
  ((s.loadItems.loadPorts).when (decide (kind ≠ 2)) (fun s => s.startFully kind)).fwRaise 937 none

/-! Boot (R437–R440). -/

/-- The Hoard offset of firmware slot `b`. -/
def slotBase (b : Nat) : Nat := 2 * mib * b

/-- Slot `b` verifies: a TYPE 2 object that R326 accepts. -/
def Block.slotGood (s : Block) (b : Nat) : Bool :=
  s.objectGood (slotBase b) 2 && decide (s.hNat (slotBase b + 8) 4 + 288 ≤ 2 * mib)

/-- The boot record, item 0x0800, with the bits of BOOT (the layout is the model's). -/
structure BootRec where
  primary : Nat
  trial : Bool
  started : Bool
  deriving DecidableEq, Repr

def Block.bootRec (s : Block) : BootRec :=
  let w := s.itemNat 0x800 0
  ⟨w / 2 % 2, bitOf w 2, bitOf w 3⟩

/-- The boot record is written, and BOOT shows it. -/
def Block.writeBoot (s : Block) (r : BootRec) : Block :=
  (s.writeItem 0x800 [BitVec.ofNat 8 (2 * r.primary + 4 * r.trial.toNat + 8 * r.started.toNat)]).2

/-- Step 4 of R438: the other slot becomes PRIMARY. -/
def Block.fallBack (s : Block) (r : BootRec) : Block :=
  let s := s.writeBoot { r with primary := 1 - r.primary, trial := false, started := false }
  (s.put Reg.DEN_STATUS_FALLBACK_SEEN 1).raise 922 0

/-- Steps 3 and 4 of R438, after R440: the slot that is to run. -/
def Block.trySlots (s : Block) : Option Nat × Block :=
  let r := s.bootRec
  let p := r.primary
  let quick := decide (3 ≤ s.get Reg.BOOT_FAILS) && s.get Reg.BOOT_ACTIVE == p
  if quick ∧ s.slotGood (1 - p) then (some (1 - p), s.fallBack r)
  else if s.slotGood p then (some p, s)
  else if s.slotGood (1 - p) then (some (1 - p), s.fallBack r)
  else (none, s)

/-- The stored slots in turn, none of them a trial. -/
def Block.tryStored (s : Block) : Option Nat × Bool × Block :=
  let r := s.trySlots
  (r.1, false, r.2)

/-- A trial slot `b` that verifies runs; otherwise the stored slots are tried. -/
def Block.tryTrial (s : Block) (b : Nat) : Option Nat × Bool × Block :=
  if s.slotGood b then (some b, true, s) else s.tryStored

/-- The selection of R438: the slot that is to run, and whether it is a trial. -/
def Block.selectSlot (s : Block) : Option Nat × Bool × Block :=
  let r := s.bootRec
  if r.trial ∧ !r.started then (s.writeBoot { r with started := true }).tryTrial (1 - r.primary)
  else if r.trial then
    let s := s.writeBoot { r with trial := false, started := false }
    ((s.put Reg.DEN_STATUS_FALLBACK_SEEN 1).raise 922 0).tryStored
  else s.tryStored

/-- BOOT shows the record and the slot in use. -/
def Block.showBoot (s : Block) (active : Nat) (none' : Bool) : Block :=
  let r := s.bootRec
  let s := ((s.put Reg.BOOT_ACTIVE active).put Reg.BOOT_PRIMARY r.primary).putB Reg.BOOT_NONE none'
  (s.putB Reg.BOOT_TRIAL r.trial).putB Reg.BOOT_TRIAL_STARTED r.started

/-- Firmware runs, from slot `b`: what it does at every start. -/
def Block.firmwareRuns (s : Block) (b : Nat) (trial : Bool) : Block :=
  let s := ((s.put Reg.BEAR_STATUS_RUNNING 1).put Reg.DEN_STATUS_FW_RUNNING 1).put Reg.CMD_STATUS_FW_READY 1
  let s := (s.withDen { s.den with
    bootDue := false, bearFwAt := s.now, wdtAt := s.now, fwVersion := s.hNat (slotBase b + 4) 4, waitConfirm := trial,
    startAt := s.now })
  let cause := s.get Reg.BEAR_STATUS_LAST_CAUSE
  let s := if 2 ≤ cause then s.fwRaise 918 (some cause) else s
  let due := s.den.startup
  let s := (s.withDen { s.den with startup := none })
  let s := match due with
    | some k => s.startUp k
    | none => if cause = 7 then (s.applyItem 0x803).loadAlways else s
  let s := s.loadAlways
  let s := s.each s.power.trunksDue Block.trunkReturn
  let s := ((s.life 2 s.den.rstLows).life 3 s.den.judged).life 7 s.den.therms
  let s := (s.withDen { s.den with rstLows := 0, judged := 0, therms := 0 })
  let s := match s.den.activate with
    | some (h, t) =>
      if trial then s
      else (s.withDen { s.den with activate := none }).finishPacket h t 0x31
        [BitVec.ofNat 32 s.den.fwVersion, BitVec.ofNat 32 b]
    | none => s
  s.restartCommit

/-- BOOT_SELECT: the boot programme verifies and selects a slot; when none verifies, it tries again every 1 s. -/
def doBootSelect (s : Block) : Block :=
  if !s.den.bootDue ∨ !s.domainOn 6 ∨ s.rstHeld ∨ !s.hoardUp ∨ s.busySS 16 ∨ !s.dueAfter s.den.triedAt (10 ^ 9) then s
  else
    let (b, trial, s) := s.selectSlot
    match b with
    | none => ((s.withDen { s.den with triedAt := some s.now }).showBoot (s.get Reg.BOOT_ACTIVE) true).raise 923 0
    | some b => (s.showBoot b false).firmwareRuns b trial

/-- An outstanding FW_ACTIVATE is answered: slot `b` runs. -/
def Block.answerActivate (s : Block) (b : Nat) : Block :=
  match s.den.activate with
  | some (h, t) =>
    (s.withDen { s.den with activate := none }).finishPacket h t 0
      [BitVec.ofNat 32 s.den.fwVersion, BitVec.ofNat 32 b]
  | none => s

/-- FW_CONFIRM: trial firmware has run for 10 s since its start-up: its slot becomes PRIMARY, and an outstanding FW_ACTIVATE
is answered (R439). -/
def doFwConfirm (s : Block) : Block :=
  if !s.den.waitConfirm ∨ !s.fwHoard ∨ s.deferring ∨ s.now < s.den.startAt + 10 ^ 10 then s
  else
    let b := s.get Reg.BOOT_ACTIVE
    let s := (s.writeBoot ⟨b, false, false⟩).showBoot b false
    ((s.withDen { s.den with waitConfirm := false }).fwRaise 921 none).answerActivate b

/-! The commands of this file, with the operands that the command table's rows take here. -/

def execBootSelect (s : State) : Out := .next (s.withBlock (doBootSelect s.toBlock))
def execFwConfirm (s : State) : Out := .next (s.withBlock (doFwConfirm s.toBlock))

end Sys2Proof.Machine
end

