-- ==== Sys2Proof/Machine/FoxVector.lean ====
section
/-! DEFINITION. The vector and accumulator instructions of a Fox engine (R253, Tables 10.5 and 10.6). -/

namespace Sys2Proof.Machine

/-! Lanes (R241). -/

/-- Lane `l` of a vector. -/
def lane (v : BitVec 256) (l : Nat) : BitVec 16 := v.extractLsb' (16 * l) 16

/-- The vector whose lane `l` is `f l`. -/
def ofLanes (f : Nat → BitVec 16) : BitVec 256 :=
  BitVec.ofNat 256 ((List.range 16).foldr (fun l a => (f l).toNat * 2 ^ (16 * l) + a) 0)

/-- Lane `l` of an accumulator, as a number. -/
def accLane (a : BitVec 640) (l : Nat) : Int := (a.extractLsb' (40 * l) 40).toInt

/-- The accumulator whose lane `l` is `f l` modulo 2^40. -/
def ofAccLanes (f : Nat → Int) : BitVec 640 :=
  BitVec.ofNat 640 ((List.range 16).foldr (fun l a => toBits 40 (f l) * 2 ^ (40 * l) + a) 0)

/-- Rounding by `k` bits (R253); by 0 there is none. -/
def roundShift (v : Int) (k : Nat) : Int := if k = 0 then v else (v + 2 ^ (k - 1)) / 2 ^ k

/-- A value saturated to 16 bits. -/
def sat16 (v : Int) : BitVec 16 := BitVec.ofInt 16 (saturate 16 v)

/-- A mask lane. -/
def maskLane (b : Bool) : BitVec 16 := if b then 0xFFFF#16 else 0

/-! Vector operations, OP 0x30. -/

/-- Lanes of vX ← `f` of the lanes of vX, vY and vZ. -/
def Block.vectorOp (s : Block) (fn n x y z : Nat) (f : BitVec 16 → BitVec 16 → BitVec 16 → BitVec 16) : Block :=
  s.issue n (encR 0x30 x y z fn) [] (fun s =>
    (s.setVx n x (ofLanes (fun l => f (lane (s.vx n x) l) (lane (s.vx n y) l) (lane (s.vx n z) l)))).nextFx n)

def doVadd (n x y z : Nat) (s : Block) : Block := s.vectorOp 0 n x y z (fun _ a b => a + b)
def doVsub (n x y z : Nat) (s : Block) : Block := s.vectorOp 1 n x y z (fun _ a b => a - b)
def doVadds (n x y z : Nat) (s : Block) : Block := s.vectorOp 2 n x y z (fun _ a b => sat16 (a.toInt + b.toInt))
def doVsubs (n x y z : Nat) (s : Block) : Block := s.vectorOp 3 n x y z (fun _ a b => sat16 (a.toInt - b.toInt))
def doVmul (n x y z : Nat) (s : Block) : Block := s.vectorOp 4 n x y z (fun _ a b => a * b)
def doVmulq (n x y z : Nat) (s : Block) : Block :=
  s.vectorOp 5 n x y z (fun _ a b => sat16 (roundShift (a.toInt * b.toInt) 15))
def doVmin (n x y z : Nat) (s : Block) : Block := s.vectorOp 6 n x y z (fun _ a b => if a.slt b then a else b)
def doVmax (n x y z : Nat) (s : Block) : Block := s.vectorOp 7 n x y z (fun _ a b => if a.slt b then b else a)
def doVand (n x y z : Nat) (s : Block) : Block := s.vectorOp 8 n x y z (fun _ a b => a &&& b)
def doVor (n x y z : Nat) (s : Block) : Block := s.vectorOp 9 n x y z (fun _ a b => a ||| b)
def doVxor (n x y z : Nat) (s : Block) : Block := s.vectorOp 10 n x y z (fun _ a b => a ^^^ b)
def doVclt (n x y z : Nat) (s : Block) : Block := s.vectorOp 11 n x y z (fun _ a b => maskLane (a.slt b))
def doVceq (n x y z : Nat) (s : Block) : Block := s.vectorOp 12 n x y z (fun _ a b => maskLane (a == b))
def doVsel (n x y z : Nat) (s : Block) : Block := s.vectorOp 13 n x y z (fun m a b => (m &&& a) ||| (~~~m &&& b))

/-- VSAR and VSHL: Z names a scalar register, which gives the amount in [3:0]. -/
def Block.vectorShift (s : Block) (fn n x y z : Nat) (f : BitVec 16 → Nat → BitVec 16) : Block :=
  s.issue n (encR 0x30 x y z fn) [z] (fun s =>
    let k := bitsOf (s.sx n z) 3 0
    (s.setVx n x (ofLanes (fun l => f (lane (s.vx n y) l) k))).nextFx n)

def doVsar (n x y z : Nat) (s : Block) : Block := s.vectorShift 14 n x y z (fun a k => a.sshiftRight k)
def doVshl (n x y z : Nat) (s : Block) : Block := s.vectorShift 15 n x y z (fun a k => a <<< k)

/-- VSPLAT: every lane of vX ← sY[15:0]. -/
def doVsplat (n x y : Nat) (s : Block) : Block :=
  s.issue n (encR 0x30 x y 0 16) [y] (fun s =>
    (s.setVx n x (ofLanes (fun _ => (s.sx n y).extractLsb' 0 16))).nextFx n)

/-- VEXT: sX ← lane sZ[3:0] of vY, sign-extended. -/
def doVext (n x y z : Nat) (s : Block) : Block :=
  s.issue n (encR 0x30 x y z 17) [x, z] (fun s =>
    s.result n x ((lane (s.vx n y) (bitsOf (s.sx n z) 3 0)).signExtend 32))

/-- VINS: lane sZ[3:0] of vX ← sY[15:0]; the other lanes are unchanged. -/
def doVins (n x y z : Nat) (s : Block) : Block :=
  s.issue n (encR 0x30 x y z 18) [y, z] (fun s =>
    let k := bitsOf (s.sx n z) 3 0
    (s.setVx n x (ofLanes (fun l => if l = k then (s.sx n y).extractLsb' 0 16 else lane (s.vx n x) l))).nextFx n)

/-- VSUM: sX ← the sum of the lanes of vY, signed. -/
def doVsum (n x y : Nat) (s : Block) : Block :=
  s.issue n (encR 0x30 x y 0 19) [x] (fun s =>
    s.result n x (BitVec.ofInt 32 ((List.range 16).foldl (fun a l => a + (lane (s.vx n y) l).toInt) 0)))

/-- VIDX: lane `l` of vX ← `l`. -/
def doVidx (n x : Nat) (s : Block) : Block :=
  s.issue n (encR 0x30 x 0 0 20) [] (fun s => (s.setVx n x (ofLanes (fun l => BitVec.ofNat 16 l))).nextFx n)

/-- VCLAMP: vX ← min(max(vX, vY), vZ), signed. -/
def doVclamp (n x y z : Nat) (s : Block) : Block :=
  s.vectorOp 21 n x y z (fun a lo hi =>
    let m := if a.slt lo then lo else a
    if hi.slt m then hi else m)

/-! Accumulator operations, OP 0x31. -/

/-- Lanes of aX become `f`, saturated at 40 bits; a saturation sets ACC_SAT_SEEN. -/
def Block.setAcc (s : Block) (n x : Nat) (f : Nat → Int) : Block :=
  let s := if (List.range 16).any (fun l => saturate 40 (f l) ≠ f l) then s.put (Reg.FX_STATUS_ACC_SAT_SEEN n) 1 else s
  (s.setAx n x (ofAccLanes (fun l => saturate 40 (f l)))).nextFx n

/-- aX ← `f` of aX, vY and vZ, lane by lane. -/
def Block.accOp (s : Block) (fn n x y z : Nat) (f : Int → Int → Int → Int) : Block :=
  s.issue n (encR 0x31 x y z fn) [] (fun s =>
    s.setAcc n x (fun l => f (accLane (s.ax n x) l) (lane (s.vx n y) l).toInt (lane (s.vx n z) l).toInt))

def doAmac (n x y z : Nat) (s : Block) : Block := s.accOp 0 n x y z (fun a b c => a + b * c)
def doAmsu (n x y z : Nat) (s : Block) : Block := s.accOp 1 n x y z (fun a b c => a - b * c)
def doAmul (n x y z : Nat) (s : Block) : Block := s.accOp 2 n x y z (fun _ b c => b * c)
def doAclr (n x : Nat) (s : Block) : Block := s.accOp 3 n x 0 0 (fun _ _ _ => 0)
def doAaddv (n x y : Nat) (s : Block) : Block := s.accOp 4 n x y 0 (fun a b _ => a + b)
def doAldv (n x y : Nat) (s : Block) : Block := s.accOp 5 n x y 0 (fun _ b _ => b)

/-- AMACS: aX ← aX + vY × sZ[15:0]. -/
def doAmacs (n x y z : Nat) (s : Block) : Block :=
  s.issue n (encR 0x31 x y z 6) [z] (fun s =>
    let c := ((s.sx n z).extractLsb' 0 16).toInt
    s.setAcc n x (fun l => accLane (s.ax n x) l + (lane (s.vx n y) l).toInt * c))

/-- AOUT: vX ← aY rounded by sZ[5:0], at most 39, saturated to 16 bits. -/
def doAout (n x y z : Nat) (s : Block) : Block :=
  s.issue n (encR 0x31 x y z 7) [z] (fun s =>
    let k := min 39 (bitsOf (s.sx n z) 5 0)
    (s.setVx n x (ofLanes (fun l => sat16 (roundShift (accLane (s.ax n y) l) k)))).nextFx n)

/-- ASUM: sX ← the sum of the lanes of aY, rounded by sZ[5:0] and saturated to 32 bits. -/
def doAsum (n x y z : Nat) (s : Block) : Block :=
  s.issue n (encR 0x31 x y z 8) [x, z] (fun s =>
    let sum := (List.range 16).foldl (fun a l => a + accLane (s.ax n y) l) 0
    s.result n x (BitVec.ofInt 32 (saturate 32 (roundShift sum (bitsOf (s.sx n z) 5 0)))))

/-! The commands of this file, with the operands that the command table's rows take here. -/

def execVadd (n x y z : Fin 16) (s : State) : Out := .next (s.withBlock (doVadd n x y z s.toBlock))
def execVsub (n x y z : Fin 16) (s : State) : Out := .next (s.withBlock (doVsub n x y z s.toBlock))
def execVadds (n x y z : Fin 16) (s : State) : Out := .next (s.withBlock (doVadds n x y z s.toBlock))
def execVsubs (n x y z : Fin 16) (s : State) : Out := .next (s.withBlock (doVsubs n x y z s.toBlock))
def execVmul (n x y z : Fin 16) (s : State) : Out := .next (s.withBlock (doVmul n x y z s.toBlock))
def execVmulq (n x y z : Fin 16) (s : State) : Out := .next (s.withBlock (doVmulq n x y z s.toBlock))
def execVmin (n x y z : Fin 16) (s : State) : Out := .next (s.withBlock (doVmin n x y z s.toBlock))
def execVmax (n x y z : Fin 16) (s : State) : Out := .next (s.withBlock (doVmax n x y z s.toBlock))
def execVand (n x y z : Fin 16) (s : State) : Out := .next (s.withBlock (doVand n x y z s.toBlock))
def execVor (n x y z : Fin 16) (s : State) : Out := .next (s.withBlock (doVor n x y z s.toBlock))
def execVxor (n x y z : Fin 16) (s : State) : Out := .next (s.withBlock (doVxor n x y z s.toBlock))
def execVclt (n x y z : Fin 16) (s : State) : Out := .next (s.withBlock (doVclt n x y z s.toBlock))
def execVceq (n x y z : Fin 16) (s : State) : Out := .next (s.withBlock (doVceq n x y z s.toBlock))
def execVsel (n x y z : Fin 16) (s : State) : Out := .next (s.withBlock (doVsel n x y z s.toBlock))
def execVsar (n x y z : Fin 16) (s : State) : Out := .next (s.withBlock (doVsar n x y z s.toBlock))
def execVshl (n x y z : Fin 16) (s : State) : Out := .next (s.withBlock (doVshl n x y z s.toBlock))
def execVsplat (n x y : Fin 16) (s : State) : Out := .next (s.withBlock (doVsplat n x y s.toBlock))
def execVext (n x y z : Fin 16) (s : State) : Out := .next (s.withBlock (doVext n x y z s.toBlock))
def execVins (n x y z : Fin 16) (s : State) : Out := .next (s.withBlock (doVins n x y z s.toBlock))
def execVsum (n x y : Fin 16) (s : State) : Out := .next (s.withBlock (doVsum n x y s.toBlock))
def execVidx (n x : Fin 16) (s : State) : Out := .next (s.withBlock (doVidx n x s.toBlock))
def execVclamp (n x y z : Fin 16) (s : State) : Out := .next (s.withBlock (doVclamp n x y z s.toBlock))
def execAmac (n x y z : Fin 16) (s : State) : Out := .next (s.withBlock (doAmac n x y z s.toBlock))
def execAmsu (n x y z : Fin 16) (s : State) : Out := .next (s.withBlock (doAmsu n x y z s.toBlock))
def execAmul (n x y z : Fin 16) (s : State) : Out := .next (s.withBlock (doAmul n x y z s.toBlock))
def execAclr (n x : Fin 16) (s : State) : Out := .next (s.withBlock (doAclr n x s.toBlock))
def execAaddv (n x y : Fin 16) (s : State) : Out := .next (s.withBlock (doAaddv n x y s.toBlock))
def execAldv (n x y : Fin 16) (s : State) : Out := .next (s.withBlock (doAldv n x y s.toBlock))
def execAmacs (n x y z : Fin 16) (s : State) : Out := .next (s.withBlock (doAmacs n x y z s.toBlock))
def execAout (n x y z : Fin 16) (s : State) : Out := .next (s.withBlock (doAout n x y z s.toBlock))
def execAsum (n x y z : Fin 16) (s : State) : Out := .next (s.withBlock (doAsum n x y z s.toBlock))

end Sys2Proof.Machine
end

