-- ==== Sys2Proof/Machine/Skein.lean ====
section
/-! DEFINITION. The Skein host ports (R379–R402): frames and what they do at select release, the held reply, aborts, the
status byte. Port 0 is Skein A, of the line-card host; port 1 is Skein B, of the package host. -/

namespace Sys2Proof.Machine

/-- The ports sample frames (R400, R504). -/
def Block.samples (s : Block) : Bool := !s.rstHeld && !s.busySS 1 && !s.tap.inst.drives

/-! What a frame addresses (R382–R385). -/

/-- The address a frame's address phase gives: as many bits as SK_FMT.ADDR_BITS says. -/
def Block.frameAddr (s : Block) (p : Nat) (a : Word) : Nat := a.toNat % 2 ^ s.get (Reg.SKP_FMT_ADDR_BITS p)

/-- The memory that a byte address lies in, and the offset in it. -/
inductive Target where
  | prog (e o : Nat)
  | scratch (e o : Nat)
  | result (o : Nat)
  | none
  deriving DecidableEq, Repr

def targetOf (a : Nat) : Target :=
  if 0x100000 ≤ a ∧ a < 0x200000 then .prog ((a - 0x100000) / 0x10000) (a % 0x10000)
  else if 0x200000 ≤ a ∧ a < 0x280000 then .scratch ((a - 0x200000) / 0x8000) (a % 0x8000)
  else if 0x800000 ≤ a ∧ a < 0x1000000 then .result (a - 0x800000)
  else .none

/-- `k` bytes from `a` lie within one memory, aligned as R385 and R27 ask. -/
def memSpanOk (a k : Nat) : Bool :=
  match targetOf a with
  | .prog _ o => o % 4 == 0 && decide (o + k ≤ 0x10000)
  | .scratch _ o => decide (o + k ≤ 0x8000)
  | .result o => decide (o + k ≤ memSize) && (decide (0x10000 ≤ o) || o % 4 == 0)
  | .none => false

/-- The memory of that span is powered (Table 15.4, code 7). -/
def Block.memPowered (s : Block) (a k : Nat) : Bool :=
  match targetOf a with
  | .prog e _ => s.domainOn (48 + e / 4)
  | .scratch e _ => s.domainOn (48 + e / 4)
  | .result o => s.domainOn (2 + memBank o) && s.domainOn (2 + memBank (o + k - 1))
  | .none => true

/-- The addresses of a REG frame's `n` words, in order (R384). -/
def regAddrs (a n : Nat) : List Nat := (List.range n).map (fun i => if dataPorts.elem a then a else a + 4 * i)

/-- A REG frame's address and span are allowed (R382, R384). -/
def regSpanOk (a n : Nat) : Bool := a % 4 == 0 && decide (a < 0x10000) && (dataPorts.elem a || decide (a + 4 * n ≤ 0x10000))

/-! Claims (R395, R396, R450). -/

/-- The units that host `h` has claimed, as SK_CLAIM shows them. -/
def Block.claims (s : Block) (h : Nat) : Word := s.reg (if h = 0 then Reg.SK_CLAIM_A else Reg.SK_CLAIM_B)

/-- The other host owns unit `u`. -/
def Block.otherOwns (s : Block) (h u : Nat) : Bool := bitOf (s.claims (1 - h)).toNat u

/-- A write of port `p` to the registers at `as` is judged for claims: not where all lie in the port's own EV_PEND. -/
def Block.regClaimed (s : Block) (p : Nat) (as : List Nat) : Bool :=
  let own := if p = 0 then Reg.EV_PEND_A 0 else Reg.EV_PEND_B 0
  !as.all (fun a => decide (own ≤ a) && decide (a < own + 132)) &&
    as.any (fun a => decide (2 ≤ a / 0x1000) && s.otherOwns p (a / 0x1000))

def Block.memClaimed (s : Block) (p a : Nat) : Bool :=
  match targetOf a with
  | .prog e _ => s.otherOwns p (16 + e)
  | .scratch e _ => s.otherOwns p (16 + e)
  | _ => false

/-! Abort reasons (Table 15.4). -/

/-- The first code of a list whose condition holds, or 0: the lowest, when the codes rise. -/
def firstReason (l : List (Nat × Bool)) : Nat :=
  match l.find? (fun c => c.2) with
  | some c => c.1
  | none => 0

/-- Skein A is turned away in autonomous mode (R397). -/
def Block.autoRefused (s : Block) (p : Nat) : Bool := p == 0 && s.flag Reg.RST_STATUS_AUTO

def badCount (n : Nat) : Bool := decide (n = 0) || decide (255 < n)

/-- A frame of port `p` with opcode `op` is aborted (R388, R397). -/
def Block.abortFrame (s : Block) (p op reason : Nat) : Block :=
  let d := reason + 256 * op
  let s := ((s.put (Reg.SKP_ABORT_ABORT_SEEN p) 1).put (Reg.SKP_ABORT_OPCODE p) op).put (Reg.SKP_ABORT_REASON p) reason
  let s := (s.bump (Reg.SKP_CNT_ABORTS p) 1).raise (944 + 8 * p) d
  match reason with
  | 2 => ((s.put (Reg.SKP_ABORT_CRC_SEEN p) 1).bump (Reg.SKP_CNT_CRC_ERRS p) 1).raise (945 + 8 * p) d
  | 5 => s.raise (947 + 8 * p) d
  | 6 => s.raise 950 d
  | 13 => s.raise (949 + 8 * p) d
  | _ => s

/-- A source of port `p` other than an abort is raised; the spec does not say what its REASON and OPCODE hold. -/
def Block.raisePort (s : Block) (src : Nat) : Block :=
  let (k, s) := s.draw
  s.raise src ((Config.freeWord k).toNat % 65536)

/-! The held reply (R390–R392). -/

/-- The reply that a PKT_FETCH selected returns to its host's ready replies, in its former place. -/
def Block.unselect (s : Block) (h : Nat) : Block :=
  let v := s.host h
  match v.sel with
  | some r => s.setHost h { v with
      sel := none
      ready := v.ready.filter (fun q => decide (q.order < r.order)) ++ r :: v.ready.filter (fun q => decide (r.order < q.order)) }
  | none => s

/-- The held reply has been delivered: a packet reply is thereby fetched, which frees its tag (R392, R405). -/
def Block.delivered (s : Block) (p : Nat) : Block :=
  let v := s.port p
  match v.held with
  | none => s
  | some r =>
    let s := s.setPort p { v with held := some { r with delivered := true } }
    if r.pkt ∧ !r.delivered then s.setHost p { s.host p with sel := none } else s

/-- The held reply is released at the select release of a frame; `lost` when it was not ready (R391). -/
def Block.releaseReply (s : Block) (p : Nat) (lost : Bool) : Block :=
  let v := s.port p
  match v.held with
  | none => s
  | some r =>
    let s := s.setPort p { v with held := none }
    let s := if r.pkt ∧ !r.delivered then s.unselect p else s
    if lost then
      ((s.put (Reg.SKP_ABORT_LOST_SEEN p) 1).bump (Reg.SKP_CNT_LOST p) 1).raisePort (946 + 8 * p)
    else s

/-- A reply of a frame's own, its data still to be collected. -/
def ownReply (words : List Word) (ecc pkt : Bool) : Option Held := some ⟨words, false, false, ecc, pkt⟩

/-! Frames. -/

/-- The CRC phase's value: CRC-8 of the bits of a frame's fields, each a value and its width, in the order sent (R394). -/
def frameCrc (fields : List (Nat × Nat)) : Nat := fields.foldl (fun c f => crcOf 8 7 c f.1 (f.2 - 1) 0) 0

/-- The address phase of a frame of port `p`, with the width of SK_FMT.ADDR_BITS (Table 15.2). -/
def Block.addrField (s : Block) (p : Nat) (addr : Word) : Nat × Nat := (s.frameAddr p addr, s.get (Reg.SKP_FMT_ADDR_BITS p))

/-- The host data phase of a frame (Table 15.2). -/
def dataFields (ws : List Word) : List (Nat × Nat) := ws.map (fun v => (v.toNat, 32))

/-- The CRC phase of a frame of port `p` with opcode `op`, count `n` and the address and data `body` matches, or there is
none (R382, R394). -/
def Block.crcOk (s : Block) (p op n : Nat) (body : List (Nat × Nat)) (w : Wire) : Bool :=
  !s.flag (Reg.SKP_FMT_CRC_EN p) || w.crc.toNat == frameCrc ((op, 8) :: (n % 256, 8) :: body)

/-- A frame of port `p` with opcode `op`, count `n` and the address and data `body`, at its select release: `check` gives the lowest code above 2 of Table 15.4 whose condition holds,
`eff` the frame's effect and its own reply (R386–R391). -/
def Block.frame (s : Block) (p op n : Nat) (body : List (Nat × Nat)) (w : Wire) (check : Block → Nat) (eff : Block → Option Held × Block) : Block :=
  if !s.samples then s
  else
    let reason := if !w.complete then 1 else if !s.crcOk p op n body w then 2 else check s
    let v := s.port p
    let again := op == 0
    let carried := match v.held with
      | some r => if reason = 0 ∧ r.ready ∧ (!r.delivered ∨ again) then some r else none
      | none => none
    let lost := reason = 0 ∧ !again ∧ v.held.any (fun r => !r.ready)
    let status : Nat := carried.isSome.toNat * 128 + v.acc.toNat * 64 + v.abt.toNat * 32 + (decide lost).toNat * 16 +
      (decide (32 ≤ (s.host p).outstanding)).toNat * 8 + (s.attention p).toNat * 4 + (carried.any (·.ecc)).toNat * 2 + p
    let s := s.setPort p { v with
      acc := reason == 0, abt := reason != 0, status := if w.complete then BitVec.ofNat 8 status else v.status
      sent := (carried.map (·.words)).getD [] }
    let s := if carried.isSome ∧ w.clocked then s.delivered p else s
    if reason ≠ 0 then s.abortFrame p op reason
    else if again then s
    else
      let (own, s) := eff (s.releaseReply p lost)
      s.setPort p { s.port p with held := own }

/-- REPEAT: carries the held reply again. -/
def doRepeat (p n : Nat) (w : Wire) (s : Block) : Block :=
  s.frame p 0x00 n [] w (fun _ => firstReason [(3, n != 0)]) (fun s => (none, s))

/-- The opcodes of Table 15.3. -/
def frameOpcode (op : Nat) : Bool := [0x00, 0x01, 0x02, 0x10, 0x11, 0x20, 0x21, 0x30, 0x31, 0x3F].elem op

/-- NOP_FRAME: a NOP, or a frame with a reserved opcode, which is aborted. -/
def doNopFrame (p op n : Nat) (w : Wire) (s : Block) : Block :=
  if op ≠ 1 ∧ frameOpcode op then s
  else s.frame p op n [] w (fun _ => firstReason [(3, op != 1 || n != 0)]) (fun s => (none, s))

/-- STATUS: a snapshot of SK_PSTAT. -/
def doStatus (p n : Nat) (w : Wire) (s : Block) : Block :=
  s.frame p 0x02 n [] w (fun s => firstReason [(3, n != 0), (7, !s.coreOn)]) (fun s => (ownReply [s.pstat p] false false, s))

/-- The registers at `as` are read by agent `ag`, in order. -/
def Block.readRegs (s : Block) (ag : Nat) : List Nat → List Word × Block
  | [] => ([], s)
  | a :: t =>
    let (v, s) := s.readReg ag a
    let (vs, s) := s.readRegs ag t
    (v :: vs, s)

/-- REG_RD: `n` registers are read. -/
def doRegRd (p : Nat) (addr : Word) (n : Nat) (w : Wire) (s : Block) : Block :=
  let a := s.frameAddr p addr
  s.frame p 0x10 n [s.addrField p addr] w
    (fun s => firstReason [(3, badCount n), (4, !regSpanOk a n), (7, !(regAddrs a n).all (fun a => s.domainOn (regDomain a)))])
    (fun s =>
      let (vs, s) := s.readRegs p (regAddrs a n)
      (ownReply vs false false, s))

/-- The effect of a write frame of port `p`, `b` saying that it is a MEM_WR of the words at address `a`. Of two writes that are
released in one core cycle Skein A's is performed first (R29): where B's stands before it in the queue, what B wrote stays
the last written. -/
def Block.writeFrame (s : Block) (p : Nat) (b : Bool) (a : Nat) (ws : List Word) (same : Bool)
    (put again : Block → Nat → List Word → Block) : Block :=
  let s := put s a ws
  let s := s.setPort p { s.port p with wrote := some (s.now, b, a, ws) }
  match (s.port 1).wrote with
  | some (t, b', a', ws') => if p = 0 ∧ same ∧ t = s.now ∧ b' = b then again s a' ws' else s
  | none => s

/-- The words are written to the registers at `as` by agent `ag`. -/
def Block.writeRegs (s : Block) (ag : Nat) (l : List (Nat × Word)) : Block := s.each l (fun s (a, v) => s.writeReg ag a v)

/-- REG_WR: the words are written. -/
def doRegWr (p : Nat) (addr : Word) (ws : List Word) (w : Wire) (s : Block) : Block :=
  let a := s.frameAddr p addr
  let as := regAddrs a ws.length
  s.frame p 0x11 ws.length (s.addrField p addr :: dataFields ws) w
    (fun s => firstReason [(3, badCount ws.length), (4, !regSpanOk a ws.length), (5, s.regClaimed p as), (6, s.autoRefused p),
      (7, !as.all (fun a => s.domainOn (regDomain a)))])
    (fun s => (none, s.writeFrame p false a ws w.same (fun s _ ws => s.writeRegs p (as.zip ws))
      (fun s a' ws' => s.writeRegs 1 (((regAddrs a' ws'.length).zip ws').filter (fun x => as.elem x.1 && !dataPorts.elem x.1)))))

/-- `n` words read from address `a` of a memory by port `p`, each the little-endian value of four bytes, and whether one
of the bytes was uncorrectable (R25, R361). -/
def Block.memWords (s : Block) (p a n : Nat) : List Word × Bool × Block :=
  match targetOf a with
  | .prog e o => ((List.range n).map (fun i => s.pmWord e (o / 4 + i)), false, s)
  | .scratch e o => ((List.range n).map (fun i => bytesWord (s.scratchBytes e (o + 4 * i) 4)), false, s)
  | .result o =>
    let (bs, _, ue, s) := s.memRead (.skein p) o (4 * n)
    ((List.range n).map (fun i => bytesWord ((bs.drop (4 * i)).take 4)), ue, s)
  | .none => ([], false, s)

/-- MEM_RD: 4`n` bytes are read. -/
def doMemRd (p : Nat) (addr : Word) (n : Nat) (w : Wire) (s : Block) : Block :=
  let a := s.frameAddr p addr
  s.frame p 0x20 n [s.addrField p addr] w
    (fun s => firstReason [(3, badCount n), (4, !memSpanOk a (4 * n)), (7, !s.memPowered a (4 * n))])
    (fun s =>
      let (vs, ue, s) := s.memWords p a n
      (ownReply vs ue false, s))

/-- The words are written from address `a` up (R25, R267). -/
def Block.memPutWords (s : Block) (a : Nat) (ws : List Word) : Block :=
  match targetOf a with
  | .prog e o => s.each ((List.range ws.length).zip ws) (fun s (i, v) => s.writePm e (o + 4 * i) v)
  | .scratch e o =>
    let bs := ws.flatMap wordBytes
    s.each ((List.range bs.length).zip bs) (fun s (i, b) => s.writeScr e (o + i) b)
  | .result o => s.memWrite o (ws.flatMap wordBytes)
  | .none => s

/-- MEM_WR: the words are written. -/
def doMemWr (p : Nat) (addr : Word) (ws : List Word) (w : Wire) (s : Block) : Block :=
  let a := s.frameAddr p addr
  let k := 4 * ws.length
  s.frame p 0x21 ws.length (s.addrField p addr :: dataFields ws) w
    (fun s => firstReason [(3, badCount ws.length), (4, !memSpanOk a k), (5, s.memClaimed p a), (6, s.autoRefused p),
      (7, !s.memPowered a k)])
    (fun s => (none, s.writeFrame p true a ws w.same Block.memPutWords Block.memPutWords))

/-- A packet joins host `h`'s queue (R403, R405, R406). A DISCARD is never answered TAG_BUSY. -/
def Block.postPacket (s : Block) (h : Nat) (ws : List Word) : Block :=
  let v := s.host h
  let q := Packet.post ws s.cmd.order false
  let q := { q with busy := q.opcode != 2 && v.tagBusy q.tag }
  let s := s.setHost h { v with posted := v.posted ++ [q] }
  Block.bump (s.withCmd { s.cmd with order := s.cmd.order + 1 }) (Reg.CMD_CNT_POSTED h) 1

/-- PKT_POST: a packet is posted. -/
def doPktPost (p : Nat) (ws : List Word) (w : Wire) (s : Block) : Block :=
  s.frame p 0x30 ws.length (dataFields ws) w
    (fun s => firstReason [(3, badCount ws.length), (6, s.autoRefused p), (7, !s.coreOn), (8, decide (32 ≤ (s.host p).outstanding)),
      (11, bitsOf (ws.headD 0) 15 8 != ws.length)])
    (fun s => (none, s.postPacket p ws))

/-- The oldest ready reply of host `h` is selected (R392). -/
def Block.selectReply (s : Block) (h : Nat) : Option Held × Block :=
  let v := s.host h
  match v.ready with
  | r :: rest => (ownReply r.words (bitsOf (r.words.getD 1 0) 29 29 == 1) true, s.setHost h { v with ready := rest, sel := some r })
  | [] => (none, s)

/-- PKT_FETCH: the oldest ready packet reply is selected. -/
def doPktFetch (p n : Nat) (w : Wire) (s : Block) : Block :=
  s.frame p 0x31 n [] w
    (fun s => firstReason [(3, badCount n), (7, !s.coreOn), (9, (s.host p).ready == []),
      (10, decide (n < (((s.host p).ready.headD ⟨0, [], true, false, 0⟩).words.length)))])
    (fun s => s.selectReply p)

/-- A word that FMT_SET may write (R393). -/
def fmtOk (v : Word) : Bool :=
  [16, 24, 32].elem (bitsOf v 13 8) && decide (2 ≤ bitsOf v 21 16) && decide (bitsOf v 21 16 ≤ 32) &&
    (v &&& 0xFEC0C0FF#32) == 0x00000010#32

/-- FMT_SET: SK_FMT changes from the next frame. -/
def doFmtSet (p n : Nat) (v : Word) (w : Wire) (s : Block) : Block :=
  s.frame p 0x3F n (dataFields [v]) w (fun _ => firstReason [(3, n != 1), (12, !fmtOk v)]) (fun s => (none, s.setReg (Reg.SKP_FMT p) v))

/-- FMT_RECOVER: a recovery frame; it counts as neither taken nor aborted, and the held reply stays. -/
def doFmtRecover (p : Nat) (s : Block) : Block :=
  if !s.samples then s
  else
    let v := s.port p
    let s := s.setPort p { v with acc := false, abt := false, sent := [] }
    let s := s.setReg (Reg.SKP_FMT p) (regReset (Reg.SKP_FMT p))
    (s.put (Reg.SKP_ABORT_RECOVER_SEEN p) 1).raisePort (948 + 8 * p)

/-- SEL_TIMEOUT: SEL# of port `p` has stayed low for longer than SK_TMO in a frame with opcode `op`; `clocked` when that
frame passed its checks and its held reply had been clocked out by then. -/
def doSelTimeout (p op : Nat) (clocked : Bool) (s : Block) : Block :=
  if !s.samples ∨ s.get (Reg.SKP_TMO_MS p) = 0 then s
  else
    let v := s.port p
    let s := if clocked ∧ v.held.any (fun r => r.ready && (!r.delivered || op == 0)) then s.delivered p else s
    let s := s.setPort p { s.port p with acc := false, abt := true, sent := [] }
    s.abortFrame p op 13

/-- REPLY_READY: the held reply's data is collected. -/
def doReplyReady (p : Nat) (s : Block) : Block :=
  let v := s.port p
  match v.held with
  | some r => s.setPort p { v with held := some { r with ready := true } }
  | none => s

/-- ATTN_PULSE_END: 200 ns after a PULSE release ATTN is driven low again (R398). -/
def doAttnPulseEnd (p : Nat) (s : Block) : Block :=
  match Bank.get (fun _ => none) s.ev.pulse p with
  | some t => if s.now < t + 200 then s else s.withEv { s.ev with pulse := Bank.set (fun _ => none) s.ev.pulse p none }
  | none => s

/-! The commands of this file, with the operands that the command table's rows take here. -/

def execRepeat (p : Fin 2) (n : Fin 65536) (w : Wire) (s : State) : Out := .next (s.withBlock (doRepeat p n w s.toBlock))
def execNopFrame (p : Fin 2) (op : Fin 256) (n : Fin 65536) (w : Wire) (s : State) : Out := .next (s.withBlock (doNopFrame p op n w s.toBlock))
def execStatus (p : Fin 2) (n : Fin 65536) (w : Wire) (s : State) : Out := .next (s.withBlock (doStatus p n w s.toBlock))
def execRegRd (p : Fin 2) (addr : Word) (n : Fin 65536) (w : Wire) (s : State) : Out := .next (s.withBlock (doRegRd p addr n w s.toBlock))
def execRegWr (p : Fin 2) (addr : Word) (ws : List Word) (w : Wire) (s : State) : Out := .next (s.withBlock (doRegWr p addr ws w s.toBlock))
def execMemRd (p : Fin 2) (addr : Word) (n : Fin 65536) (w : Wire) (s : State) : Out := .next (s.withBlock (doMemRd p addr n w s.toBlock))
def execMemWr (p : Fin 2) (addr : Word) (ws : List Word) (w : Wire) (s : State) : Out := .next (s.withBlock (doMemWr p addr ws w s.toBlock))
def execPktPost (p : Fin 2) (ws : List Word) (w : Wire) (s : State) : Out := .next (s.withBlock (doPktPost p ws w s.toBlock))
def execPktFetch (p : Fin 2) (n : Fin 65536) (w : Wire) (s : State) : Out := .next (s.withBlock (doPktFetch p n w s.toBlock))
def execFmtSet (p : Fin 2) (n : Fin 65536) (v : Word) (w : Wire) (s : State) : Out := .next (s.withBlock (doFmtSet p n v w s.toBlock))
def execFmtRecover (p : Fin 2) (s : State) : Out := .next (s.withBlock (doFmtRecover p s.toBlock))
def execSelTimeout (p : Fin 2) (op : Fin 256) (clocked : Bool) (s : State) : Out := .next (s.withBlock (doSelTimeout p op clocked s.toBlock))
def execReplyReady (p : Fin 2) (s : State) : Out := .next (s.withBlock (doReplyReady p s.toBlock))
def execAttnPulseEnd (p : Fin 2) (s : State) : Out := .next (s.withBlock (doAttnPulseEnd p s.toBlock))

end Sys2Proof.Machine
end

