-- ==== Sys2Proof/Machine/Judge.lean ====
section
/-! DEFINITION. How the interpreter judges a packet (R409–R412): lengths, parameters, claims; acknowledgement and
timeouts. -/

namespace Sys2Proof.Machine

/-- Status codes (Table 16.4). -/
abbrev OK : Nat := 0x00
abbrev BAD_OPCODE : Nat := 0x10
abbrev BAD_LENGTH : Nat := 0x11
abbrev BAD_PARAM : Nat := 0x12
abbrev TAG_BUSY : Nat := 0x13
abbrev NOT_OWNER : Nat := 0x14
abbrev RESOURCE_BUSY : Nat := 0x20
abbrev CANCELLED : Nat := 0x22
abbrev WEAR_LIMIT : Nat := 0x30
abbrev CHECK_FAIL : Nat := 0x31
abbrev NODE_FAIL : Nat := 0x32

/-- Bits `hi` to `lo` of word `i` of a packet. -/
def Packet.f (p : Packet) (i hi lo : Nat) : Nat := bitsOf (p.word i) hi lo

/-- Word `i` holds a bit outside `mask`. -/
def Packet.extra (p : Packet) (i : Nat) (mask : Word) : Bool := p.word i &&& ~~~mask != 0#32

/-- The packet's words from `i` on as bytes (R10). -/
def Packet.bytesFrom (p : Packet) (i : Nat) : List Byte := (p.words.drop i).flatMap wordBytes

/-- The windows, or other units, that a mask of `n` words from word `i` names. -/
def Packet.maskFrom (p : Packet) (i n : Nat) : List Nat :=
  (List.range (32 * n)).filter (fun b => bitOf (p.word (i + b / 32)).toNat (b % 32))

/-! Lengths (Tables 16.5–16.16). -/

/-- The words of a STEP packet before its hubs (Table 16.9). -/
def Packet.stepBase (p : Packet) : Nat := if (p.f 1 10 8 = 0 ∨ p.f 1 10 8 = 5) ∧ p.f 1 13 11 = 0 then 4 else 2

/-- LEN is allowed for the opcode. -/
def Packet.lenOk (p : Packet) : Bool :=
  let n := p.words.length
  match p.opcode with
  | 0x00 | 0x03 | 0x42 | 0x53 | 0x62 | 0x63 => n == 1
  | 0x02 | 0x04 | 0x05 | 0x11 | 0x23 | 0x25 | 0x30 | 0x32 | 0x33 | 0x50 | 0x51 | 0x52 | 0x91 | 0xA0 | 0xF1 => n == 2
  | 0x01 | 0x10 | 0x35 | 0x43 | 0x44 | 0x60 => n == 3
  | 0x22 | 0x80 | 0x90 => n == 4
  | 0x31 => n == 5
  | 0x71 => n == 9
  | 0x34 | 0x70 => n == 10
  | 0x06 | 0x61 | 0xA1 => decide (3 ≤ n)
  | 0x93 => decide (2 ≤ n)
  | 0xF0 => decide (n ≤ 253)
  | 0x20 | 0x21 => decide (3 ≤ n) && n == 3 + (p.f 2 31 16 + 1) / 2
  | 0xA3 => decide (4 ≤ n) && n == 4 + (p.f 3 31 16 + 1) / 2
  | 0x92 => n == 6 + 4 * p.f 1 15 12
  | 0xA2 => n == 6 + 4 * p.f 1 18 16
  | 0x36 => n == 2 + p.f 1 19 19 + 4 * p.f 1 20 20
  | 0x40 => n == (if p.f 1 8 8 = 1 then 4 else 2)
  | 0x41 => n == (if p.f 1 24 24 = 1 then 4 else 2)
  | 0x24 =>
    match p.f 1 10 8 with
    | 1 | 5 => decide (p.stepBase ≤ n)
    | 6 | 7 => decide (2 ≤ n)
    | _ => n == p.stepBase
  | _ => false

/-! Parameters (R411, condition 4). -/

/-- The index of the first word that breaks a rule, from a list in the order of the words. -/
def badWord (l : List (Nat × Bool)) : Option Nat := (l.find? (·.2)).map (·.1)

/-- The codes of NODE_WRITE and NODE_INCR from word `i` on: bits 31:28 and 15:12 are 0, as is an unused half. -/
def Packet.codeWords (p : Packet) (i count : Nat) : List (Nat × Bool) :=
  (List.range ((count + 1) / 2)).map (fun j => (i + j, p.extra (i + j) (if 2 * j + 1 < count then 0x0FFF0FFF#32 else 0xFFF#32)))

/-- Code `j` of the same. -/
def Packet.code (p : Packet) (i j : Nat) : Nat := if j % 2 = 0 then p.f (i + j / 2) 11 0 else p.f (i + j / 2) 27 16

/-- Items and values that ITEM_WRITE takes (R414, R336, R438, R441, R451, R474, Tables 13.10 and 17.7). -/
def itemOk (it : Nat) : Bool := it == 0x600 || it == 0x602 || (decide (0x800 ≤ it) && decide (it ≤ 0xFFF))

def itemValueOk (it : Nat) (v : List Byte) : Bool :=
  let f (i n : Nat) : Nat := leNat ((v.drop i).take n)
  let n := v.length
  match it with
  | 0x600 => n == 6 && decide (2 ≤ f 0 2) && decide (f 0 2 ≤ 1440)
  | 0x602 => n == 1 && (f 0 1 == 128 || (decide (1 ≤ f 0 1) && decide (f 0 1 ≤ 60)))
  | 0x800 | 0x801 => false
  | 0x802 => n == 2 && decide (10 ≤ f 0 2) && decide (f 0 2 ≤ 1000)
  | 0x803 => n == 48
  | 0x820 => n == 260
  | 0x821 | 0x822 | 0x823 | 0x824 => n == 132
  | 0x825 => n == 16 && (List.range 4).all (fun p =>
      decide (f (4 * p) 1 ≤ f (4 * p + 1) 1) && decide (f (4 * p + 1) 1 ≤ f (4 * p + 2) 1) && decide (f (4 * p + 2) 1 ≤ f (4 * p + 3) 1))
  | 0x810 | 0x811 | 0x830 => n == 8
  | 0x880 => n == 32
  | _ => true

/-- The value of an ITEM_WRITE. -/
def Packet.itemValue (p : Packet) : List Byte := (p.bytesFrom 2).take (p.f 1 31 16)

/-- The first word of a DOMAIN_SET whose fields break R280, the words after it taken as valid. -/
def Packet.badRecord (p : Packet) : Option Nat :=
  let d := p.f 1 15 0
  let rest := ({ factoryRecord d with maxIter := 1, sensor := 0 } : DomRec).bytes d
  ((List.range 4).find? (fun i => !recordOk ((p.bytesFrom 1).take (4 * (i + 1)) ++ rest.drop (4 * (i + 1))) d)).map (· + 1)

/-- Parameters and reserved fields of a packet that break its opcode's rules whatever the state. -/
def Packet.paramBad (p : Packet) : Option Nat :=
  let n := p.words.length
  let g (l : List (Nat × Bool)) : Option Nat := badWord ((0, p.extra 0 0xFFFFFF01#32) :: l)
  match p.opcode with
  | 0x01 => g [(1, p.f 1 1 0 != 0), (2, p.f 2 1 0 != 0)]
  | 0x02 => g [(1, p.extra 1 3#32)]
  | 0x04 => g [(1, p.extra 1 0x7FF8#32)]
  | 0x05 => g [(1, p.extra 1 0xFFFF#32)]
  | 0x06 => g [(1, !itemOk (p.f 1 15 0) || decide (4 * (n - 2) < p.f 1 31 16)), (2, !itemValueOk (p.f 1 15 0) p.itemValue)]
  | 0x10 => g [(2, p.extra 2 0x7FFFF#32 || p.f 2 18 16 == 0 || decide (4 < p.f 2 18 16))]
  | 0x11 => g [(1, p.extra 1 0x3F3F#32 || decide (47 < p.f 1 5 0) || p.f 1 13 8 == 0)]
  | 0x90 =>
    let a := p.f 1 13 8
    let b := p.f 1 21 16
    g [(1, p.extra 1 0x073F3F01#32 || decide (5 < p.f 1 26 24) ||
      (if p.f 1 0 0 = 0 then decide (47 < a) || decide (47 < b) || isFine a != isFine b else decide (15 < a) || decide (15 < b) || a == b))]
  | 0x91 => g [(1, p.extra 1 0xFF#32)]
  | 0x92 => g [(1, p.extra 1 0xFF3F#32 || decide (47 < p.f 1 5 0) || decide (15 < p.f 1 11 8 + p.f 1 15 12))]
  | 0x93 => g [(1, p.f 1 15 5 != 0 || p.f 1 31 16 % 4 != 0 ||
      decide ((if p.f 1 4 4 = 1 then 0x8000 else 0x10000) < p.f 1 31 16 + 4 * (n - 2)))]
  | 0x20 | 0x21 =>
    g ([(1, p.f 1 31 24 != 0), (2, p.f 2 15 0 == 0 || p.f 2 31 16 == 0 || decide (504 < p.f 2 31 16))] ++ p.codeWords 3 (p.f 2 31 16))
  | 0x22 => g [(1, p.f 1 31 24 != 0), (2, p.f 2 15 0 == 0 || p.f 2 31 16 == 0 || decide (253 < p.f 2 31 16)), (3, p.extra 3 1#32)]
  | 0x23 => g [(1, p.extra 1 0x1FFFFFF#32)]
  | 0x24 =>
    let fn := p.f 1 10 8
    g ((1, p.extra 1 0x3F1F#32 || decide (5 < fn) || (p.f 1 13 11 != 0 && fn != 0 && fn != 5) || decide (4 < p.f 1 13 11)) ::
      (if fn = 1 ∨ fn = 5 then (List.range (n - p.stepBase)).map (fun i => (p.stepBase + i, p.extra (p.stepBase + i) 0xFFC000#32))
       else []))
  | 0x25 => g [(1, p.extra 1 0xFFC003#32)]
  | 0x30 | 0x32 | 0x33 => g [(1, p.extra 1 0x3FF#32 || domainCal (p.f 1 9 0) == 0)]
  | 0x31 => match p.badRecord with
    | some i => g [(i, true)]
    | none => g []
  | 0x34 => g [(1, p.extra 1 0x3FFF#32), (2, p.f 2 7 0 == 0 || decide (9 < p.f 2 7 0)),
      (9, crc32 ((p.bytesFrom 2).take 28) != p.word 9)]
  | 0x35 => g [(1, p.word 1 == 0#32), (2, p.f 2 31 22 != 0 || p.f 2 21 11 == 0 || decide (p.f 2 10 0 < 16) ||
      decide (memSize < 4096 * (p.f 2 10 0 + p.f 2 21 11)))]
  | 0x36 => g [(1, p.extra 1 0x1FFFFF#32 || decide (3 < p.f 1 18 16))]
  | 0x40 => g [(1, p.extra 1 0x103#32 || p.f 1 1 0 == 3 || (p.f 1 8 8 == 1 && p.f 1 1 0 == 0))]
  | 0x41 => g [(1, p.extra 1 0x010303FF#32 || p.f 1 17 16 == 3 || (p.f 1 24 24 == 1 && p.f 1 17 16 == 0) ||
      ncode (p.f 1 9 0) == 0)]
  | 0x43 => g [(1, p.f 1 31 24 != 0), (2, p.f 2 31 16 == 0)]
  | 0x44 => g [(1, p.f 1 1 0 != 0 || decide (hoardSize ≤ (p.word 1).toNat)), (2, p.extra 2 0xFF#32 || p.f 2 7 0 == 0 ||
      decide (253 < p.f 2 7 0) || decide (hoardSize < (p.word 1).toNat + 4 * p.f 2 7 0))]
  | 0x50 => g [(1, p.extra 1 0xF001FFFF#32 || p.f 1 31 28 == 0)]
  | 0x51 => g [(1, p.extra 1 1#32)]
  | 0x52 => g [(1, p.extra 1 0x3FFFFF#32 || p.f 1 21 16 == 0)]
  | 0x60 => g [(1, p.extra 1 1#32)]
  | 0x61 => g [(1, p.f 1 1 0 != 0)]
  | 0x70 => g [(1, p.word 1 != 1#32 && p.word 1 != 2#32)]
  | 0x80 => g [(1, p.extra 1 0x7FFFFC#32), (2, p.extra 2 0xFFFFFC#32 || p.word 2 == 0#32 ||
      decide (memSize < (p.word 1).toNat + (p.word 2).toNat))]
  | 0xA0 => g [(1, p.extra 1 0x17F#32 || decide ((if p.f 1 0 0 = 0 then 48 else 16) ≤ p.f 1 6 1))]
  | 0xA1 => g [(1, p.extra 1 0xFFFF010F#32 || p.f 1 17 16 != 0 || decide (0x8000 ≤ p.f 1 31 16) ||
      decide (0x8000 < p.f 1 31 16 + 4 * (n - 3))), (2, p.extra 2 0x7FFC#32)]
  | 0xA2 => g [(1, p.extra 1 0x0777713F#32 || decide (47 < p.f 1 5 0) || decide (7 < p.f 1 14 12 + p.f 1 18 16))]
  | 0xA3 => g ([(1, p.extra 1 0x7F#32 || decide ((if p.f 1 0 0 = 0 then 48 else 16) ≤ p.f 1 6 1)), (2, p.f 2 31 24 != 0),
      (3, p.f 3 15 0 == 0 || p.f 3 31 16 == 0 || decide (504 < p.f 3 31 16))] ++ p.codeWords 4 (p.f 3 31 16))
  | 0xF1 => g [(1, decide (1035 < (p.word 1).toNat))]
  | _ => g []

/-! Parameters whose range the state decides. -/

/-- The image that SRC of an IMAGE_RESTORE (0 factory, 1 current, 2 previous) or a DOMAIN_RESTORE (0 factory, 1 A, 2 B)
names, when it is valid (R331, R425). -/
def Block.restoreSource (s : Block) (p : Packet) : Option Nat :=
  let k : Option Nat :=
    if p.opcode = 0x40 then
      match p.f 1 1 0 with
      | 0 => some 0
      | 1 => some s.currentImage
      | _ => s.previousImage
    else some (p.f 1 17 16)
  match k with
  | some k => if s.imageValid k then some k else none
  | none => none

/-- UPTO of a restore packet. -/
def Packet.upto (p : Packet) : Option Nat :=
  if p.words.length = 4 then some ((p.word 2).toNat + 2 ^ 32 * (p.word 3).toNat) else none

/-- The first entry of a migrating spindle's sequence, its urgent entry among them, that `b`'s converter would refuse for
reason 1 of Table 7.3 (R183). -/
def Block.cannotMove (s : Block) (a b : Nat) : Option Nat :=
  (List.range 16).find? (fun e =>
    (decide (e ≤ s.get (Reg.SP_CFG_NENT a)) || e == s.get (Reg.SP_CFG_URG_E a)) && !codeValid b (dInput (s.entryDef a e)))

/-- The packet with tag `t` of host `h` is a MIGRATE that is not finished. -/
def Block.migrateOf (s : Block) (h t : Nat) : Option Packet :=
  ((s.host h).hw ++ (s.host h).running).find? (fun q => q.opcode == 0x90 && q.tag == t)

/-- A range of the result memory that meets an enabled FIFO, ring or stream, or the calibration area (R362). -/
def Block.fillMeets (s : Block) (o n : Nat) : Bool :=
  let r := (o, n)
  s.fifoRegions.any (fun q => overlaps r q.2) || s.ringRegions.any (fun q => overlaps r q.2) ||
    s.streamRegions.any (fun q => overlaps r q.2) ||
    overlaps r (4096 * (s.stock.area % 2 ^ 11), 4096 * (s.stock.area / 2 ^ 11))

/-- The end of the stock library's space, and the offset of its free space (R324). -/
abbrev libraryEnd : Nat := 42 * mib + 3 * mib / 2

/-- An object of `n` bytes fits the target of an update (R428). -/
def Block.updateFits (s : Block) (library : Bool) (n : Nat) : Bool :=
  if library then decide (s.library.2 + n ≤ libraryEnd) else decide (n ≤ 2 * mib)

/-- DETAIL of BAD_PARAM for a condition that the state decides. -/
def Block.stateBad (s : Block) (h : Nat) (p : Packet) : Option Nat :=
  match p.opcode with
  | 0x30 => if (s.domRec (p.f 1 9 0)).hold ∨ (s.domRec (p.f 1 9 0)).hostEn then none else some 1
  | 0x40 | 0x41 =>
    match s.restoreSource p, p.upto with
    | none, _ => some 1
    | some _, none => none
    | some k, some u => if s.imageCovered k ≤ u ∧ u ≤ s.jseq then none else some 2
  | 0x60 => if s.updateFits (p.f 1 0 0 == 1) (p.word 2).toNat then none else some 2
  | 0x80 => if s.fillMeets (p.word 1).toNat (p.word 2).toNat then some 1 else none
  | 0x90 => if p.f 1 0 0 = 0 then s.cannotMove (p.f 1 13 8) (p.f 1 21 16) else none
  | 0x91 => if (s.migrateOf h (p.f 1 7 0)).isSome then none else some 1
  | _ => none

/-! Claims (R411, condition 5; R412). -/

/-- The units that a packet changes (Tables 16.5–16.16); packets that only read change none. -/
def Block.unitsOf (s : Block) (h : Nat) (p : Packet) : List Nat :=
  let migrate (q : Packet) : List Nat := if q.f 1 0 0 = 0 then [6] else [10, 16 + q.f 1 21 16]
  match p.opcode with
  | 0x10 | 0x11 | 0x92 | 0xA2 => [6]
  | 0x90 => migrate p
  | 0x91 => match s.migrateOf h (p.f 1 7 0) with
    | some q => migrate q
    | none => []
  | 0x93 | 0xA1 => [16 + p.f 1 3 0]
  | 0x20 | 0x21 | 0x23 | 0xA3 => [8]
  | 0x24 => if p.f 1 10 8 = 4 then [] else [8]
  | 0x36 => 10 :: (if p.f 1 19 19 = 1 ∨ p.f 1 20 20 = 1 then (maskEngines ((p.word 1).setWidth 16)).map (16 + ·) else [])
  | 0x70 => [11]
  | 0xA0 => if p.f 1 0 0 = 0 then [6] else [16 + p.f 1 6 1]
  | _ => []

/-- The packet changes a unit that the other host owns, or is a CAL_RUN of a held domain. -/
def Block.notOwned (s : Block) (h : Nat) (p : Packet) : Bool :=
  (s.unitsOf h p).any (s.otherOwns h) || (p.opcode == 0x30 && (s.domRec (p.f 1 9 0)).hold)

/-- The status of R411's conditions 2 to 5, with DETAIL; none when the packet passes. -/
def Block.judgement (s : Block) (h : Nat) (p : Packet) : Option (Nat × Nat) :=
  if !hwOpcode p.opcode ∧ !fwOpcode p.opcode then some (BAD_OPCODE, 0)
  else if !p.lenOk then some (BAD_LENGTH, 0)
  else match p.paramBad with
    | some i => some (BAD_PARAM, i)
    | none => match s.stateBad h p with
      | some i => some (BAD_PARAM, i)
      | none => if s.notOwned h p then some (NOT_OWNER, 0) else none

/-! Acknowledgement and timeouts (R409, R410). -/

/-- PACKET_ACK: the interpreter judges host `h`'s oldest posted packet. The request of a CAL_RUN refused for its source is
discarded and counted (R281). -/
def doPacketAck (h : Nat) (s : Block) : Block :=
  let v := s.host h
  match v.posted with
  | [] => s
  | p :: rest =>
    if !s.interpUp then s
    else
      let p := { p with ackAt := s.now }
      let s := s.setHost h { v with posted := rest }
      if p.busy then
        ((s.bump (Reg.CMD_CNT_TAG_BUSY h) 1).put Reg.CMD_STATUS_TAGBUSY_SEEN 1).makeReady h p.tag
          (replyWords p.header TAG_BUSY false true false 0 []) true true
      else match s.judgement h p with
        | some (st, d) =>
          let s := if p.opcode = 0x30 ∧ p.lenOk ∧ p.paramBad = none then s.discardRequest (p.f 1 9 0) else s
          s.finalReply h p st d false []
        | none =>
          let s := if longOpcode p.opcode then
              s.makeReady h p.tag (replyWords p.header 0x01 true false false 0 []) false false
            else s
          let v := s.host h
          if hwOpcode p.opcode then s.setHost h { v with hw := v.hw ++ [p] } else s.setHost h { v with fw := v.fw ++ [p] }

/-- FW_WAIT in ns. -/
def Block.fwWait (s : Block) : Nat := 10 ^ 6 * max 1 (s.get Reg.CMD_CFG_FW_WAIT)

/-- PACKET_TIMEOUT: firmware has not taken host `h`'s oldest packet of its lane within FW_WAIT of its acknowledgement. -/
def doPacketTimeout (h : Nat) (s : Block) : Block :=
  let v := s.host h
  match v.fw with
  | [] => s
  | p :: rest =>
    if p.ackAt + s.fwWait ≤ s.now ∧ s.interpUp then (s.setHost h { v with fw := rest }).finalReply h p 0x21 0 false [] else s

/-! Running a packet (R411, conditions 6 and 7). -/

/-- The running packet `p` of host `h` ends with a status and no data. -/
def Block.refuse (s : Block) (h : Nat) (p : Packet) (status detail : Nat) : Block := s.finish h p.tag status detail false []

/-- The packet is refused where the state now shows a parameter out of range, or `busy` names a unit in the wrong state;
otherwise it is performed. -/
def Block.perform (s : Block) (h : Nat) (p : Packet) (busy : Bool) (f : Block → Block) : Block :=
  match (if p.opcode = 0x91 then none else s.stateBad h p) with
  | some i => s.refuse h p BAD_PARAM i
  | none => if busy then s.refuse h p RESOURCE_BUSY 0 else f s

/-- The packet completes OK with the words `d`. -/
def Block.answer (s : Block) (h : Nat) (p : Packet) (d : List Word) : Block := s.finishPacket h p.tag OK d

/-! The commands of this file, with the operands that the command table's rows take here. -/

def execPacketAck (h : Fin 2) (s : State) : Out := .next (s.withBlock (doPacketAck h s.toBlock))
def execPacketTimeout (h : Fin 2) (s : State) : Out := .next (s.withBlock (doPacketTimeout h s.toBlock))

end Sys2Proof.Machine
end

