-- ==== Sys2Proof/Machine/Packets.lean ====
section
/-! DEFINITION. The command packets of the hardware lane but for those of nodes, steps and forerunner mode (R412–R418, R424,
R430, Tables 16.5–16.7). Each command runs the oldest packet of host `h`'s lane when it is of that opcode. -/

namespace Sys2Proof.Machine

/-! General packets (Table 16.5). -/

/-- PING. -/
def doPing (h : Nat) (s : Block) : Block := s.runHw h 0x00 (fun s p => s.perform h p false (fun s => s.answer h p (pairWords s.localCount)))

/-- Host `h`'s claims become `v`; a change raises CLAIM_CHANGE (R395). -/
def Block.setClaims (s : Block) (h : Nat) (v : Word) : Block :=
  if s.claims h = v then s else (s.setReg (if h = 0 then Reg.SK_CLAIM_A else Reg.SK_CLAIM_B) v).raisePort (951 + 8 * h)

/-- CLAIM: releases, then claims, unless a unit to be claimed is the other host's (R413). -/
def doClaim (h : Nat) (s : Block) : Block :=
  s.runHw h 0x01 (fun s p => s.perform h p false (fun s =>
    if p.word 1 &&& s.claims (1 - h) ≠ 0#32 then s.finishPacket h p.tag NOT_OWNER [s.claims h]
    else
      let s := s.setClaims h ((s.claims h &&& ~~~(p.word 2)) ||| p.word 1)
      s.answer h p [s.claims h]))

/-- The packets and replies that a DISCARD `d` names go: the host's state after it, how many went, and how many packets run
(R413). The earlier user of its own tag goes where it is queued or ready, and its reply is discarded where it runs. -/
def HostSt.discard (v : HostSt) (d : Packet) : HostSt × Nat × Nat :=
  let queued := bitsOf (d.word 1) 0 0 == 1
  let ready := bitsOf (d.word 1) 1 1 == 1
  let goes : Packet → Bool := fun p => queued || (!p.busy && p.tag == d.tag)
  let gone : Reply → Bool := fun r => ready || (r.final && !r.echo && r.tag == d.tag)
  let rest := v.running.filter (fun p => p.order != d.order)
  ({ posted := v.posted.filter (fun p => !goes p), hw := v.hw.filter (fun p => !goes p), fw := v.fw.filter (fun p => !goes p)
     running := rest.map (fun p => { p with drop := p.drop || ready || p.tag == d.tag })
     ready := v.ready.filter (fun r => !gone r)
     sel := v.sel.filter (fun r => !gone r) },
   ((v.posted ++ v.hw ++ v.fw).filter goes).length + (v.held.filter gone).length, rest.length)

/-- DISCARD. -/
def doDiscard (h : Nat) (s : Block) : Block :=
  s.runHw h 0x02 (fun s p => s.perform h p false (fun s =>
    let (v, n, k) := (s.host h).discard p
    (s.setHost h v).finalReply h p OK 0 false [BitVec.ofNat 32 n, BitVec.ofNat 32 k]))

/-- IDENT. -/
def doIdent (h : Nat) (s : Block) : Block :=
  s.runHw h 0x03 (fun s p => s.perform h p false (fun s => s.answer h p
    [s.reg Reg.TOP_ID, s.reg Reg.TOP_REV, BitVec.ofNat 32 s.den.fwVersion, BitVec.ofNat 32 (s.get Reg.BOOT_ACTIVE)]))

/-- LOOPBACK. -/
def doLoopback (h : Nat) (s : Block) : Block := s.runHw h 0xF0 (fun s p => s.perform h p false (fun s => s.answer h p (p.words.drop 1)))

/-- EVENT_INJECT: the source is raised on every path, its records marked as injected (R461). -/
def doEventInject (h : Nat) (s : Block) : Block :=
  s.runHw h 0xF1 (fun s p => s.perform h p false (fun s => (s.raiseWith (p.word 1).toNat [] true).answer h p []))

/-! Acquisition (Table 16.6, R415). -/

/-- STATE of the named spindles from `lo` up to 16 further, 2 bits each; the bits of the others are open. -/
def Block.spWord (s : Block) (names : List Nat) (lo k : Nat) : Word :=
  (List.range 16).foldl (fun w i =>
    if names.elem (lo + i) then withBits w (2 * i + 1) (2 * i) (s.spState (lo + i)) else w) (Config.freeWord k)

/-- SPINDLE_CMD. The states of SP32–SP47 do not fit w2–w3; they follow in w4 (the model's choice). -/
def doSpindleCmd (h : Nat) (s : Block) : Block :=
  s.runHw h 0x10 (fun s p => s.perform h p false (fun s =>
    let names := (p.maskFrom 1 2).filter (· < 48)
    let s := s.each names (fun s n => if s.writable (Reg.SP_CTL n) then s.spCommand n (p.f 2 18 16) else s)
    let (k, s) := s.drawN 3
    s.answer h p [s.spWord names 0 k, s.spWord names 16 (k + 1), s.spWord names 32 (k + 2)]))

/-- The words of bytes, four to a word (R404). -/
def wordsOf (bs : List Byte) (n : Nat) : List Word := (List.range n).map (fun i => bytesWord ((bs.drop (4 * i)).take 4))

/-- `k` records of FIFO `f` from RP on, read by host `h`: their words, and whether one was uncorrectable. -/
def Block.fifoWords (s : Block) (h f : Nat) : Nat → Nat → List Word × Bool × Block
  | 0, _ => ([], false, s)
  | k + 1, i =>
    let rp := s.get (Reg.FIFO_RP_PTR f)
    let (bs, _, ue, s) := s.memRead (.skein h) (s.fifoBase f + 16 * ((rp + i) % s.fifoCap f)) 16
    let (ws, bad, s) := s.fifoWords h f k (i + 1)
    (wordsOf bs 4 ++ ws, ue || bad, s)

/-- FIFO_READ: no record is overwritten while the command reads, so that DETAIL is 0. -/
def doFifoRead (h : Nat) (s : Block) : Block :=
  s.runHw h 0x11 (fun s p =>
    let f := p.f 1 5 0
    s.perform h p (!s.flag (Reg.FIFO_CFG_EN f)) (fun s =>
      let k := min (p.f 1 13 8) (s.fifoLevel f)
      let (ws, ue, s) := s.fifoWords h f k 0
      let s := s.writeFifoRp f (BitVec.ofNat 32 (s.get (Reg.FIFO_RP_PTR f) + k))
      s.finish h p.tag OK 0 ue (BitVec.ofNat 32 (s.get (Reg.FIFO_RP_PTR f) + 65536 * k) :: ws)))

/-! Placement and migration (Table 16.7, R416–R418). -/

/-- Engine `n` is powered and IDLE, HALTED or FAULTED. -/
def Block.fxStill (s : Block) (n : Nat) : Bool :=
  s.fxUp n && (s.fxState n == FX_IDLE || s.fxState n == FX_HALTED || s.fxState n == FX_FAULTED)

/-- The states of two spindles, or their modes, forbid a migration (R183). -/
def Block.spMigBusy (s : Block) (a b : Nat) : Bool :=
  !(s.spState a == RUNNING || s.spState a == STOPPING) || s.spState b != STOPPED || s.flag (Reg.SP_STAT_URG_ACTIVE b) ||
    s.flag (Reg.SP_CFG_FRM a) || s.flag (Reg.SP_CFG_FRM b) ||
    spindleList.any (fun n => match (s.sp n).mig with
      | some m => n == a || n == b || m.dest == a || m.dest == b
      | none => false)

/-- The same for two engines (R271). -/
def Block.fxMigBusy (s : Block) (a b : Nat) : Bool :=
  s.fxState a != FX_RUNNING || !s.fxStill b || s.frm a || s.frm b || s.fox.mig.isSome

/-- MIGRATE: the migration is pending until its switch instant; its final reply comes in the switch cycle. -/
def doMigrate (h : Nat) (s : Block) : Block :=
  s.runHw h 0x90 (fun s p =>
    let a := p.f 1 13 8
    let b := p.f 1 21 16
    let tb := p.f 1 26 24
    let at' : Count := p.word 3 ++ p.word 2
    if p.f 1 0 0 = 0 then
      s.perform h p (s.spMigBusy a b) (fun s => s.setSp a { s.sp a with mig := some ⟨b, tb, at', h, p.tag⟩ })
    else
      s.perform h p (s.fxMigBusy a b) (fun s =>
        let s := (s.withFox { s.fox with mig := some ⟨a, b, tb, at', h, p.tag⟩ })
        ((s.put Reg.FX_MIG_FROM a).put Reg.FX_MIG_TO b).put Reg.FX_MIG_PENDING 1))

/-- The pending migration of host `h`'s MIGRATE with tag `t` is cancelled; none when none is pending. -/
def Block.cancelMigOf (s : Block) (h t : Nat) : Option Block :=
  match spindleList.find? (fun n => match (s.sp n).mig with
      | some m => m.host == h && m.tag == t
      | none => false) with
  | some n => some (s.cancelMig n)
  | none => match s.fox.mig with
    | some m =>
      if m.host = h ∧ m.tag = t ∧ !s.flag Reg.FX_MIG_COPYING then
        some (((s.withFox { s.fox with mig := none }).put Reg.FX_MIG_PENDING 0).finishPacket h t CANCELLED [])
      else none
    | none => none

/-- MIGRATE_CANCEL. -/
def doMigrateCancel (h : Nat) (s : Block) : Block :=
  s.runHw h 0x91 (fun s p => match s.cancelMigOf h (p.f 1 7 0) with
    | some s => s.answer h p []
    | none => s.refuse h p RESOURCE_BUSY 0)

/-- The definition in the four words of a packet from word `i` on (Table 7.2). -/
def Packet.definition (p : Packet) (i : Nat) : BitVec 128 := p.word (i + 3) ++ p.word (i + 2) ++ p.word (i + 1) ++ p.word i

/-- SEQ_LOAD. -/
def doSeqLoad (h : Nat) (s : Block) : Block :=
  s.runHw h 0x92 (fun s p =>
    let n := p.f 1 5 0
    let e := p.f 1 11 8
    let l := List.range (p.f 1 15 12 + 1)
    s.perform h p (l.any (fun i => s.seqIgnored n (e + i))) (fun s =>
      let s := s.each l (fun s i => s.commitEntry n (e + i) (p.definition (2 + 4 * i)))
      s.answer h p []))

/-- FOX_LOAD. -/
def doFoxLoad (h : Nat) (s : Block) : Block :=
  s.runHw h 0x93 (fun s p =>
    let e := p.f 1 3 0
    let o := p.f 1 31 16
    s.perform h p (!s.fxStill e) (fun s =>
      let s := if p.f 1 4 4 = 1 then s.each (p.bytesFrom 2).zipIdx (fun s (b, i) => s.writeScr e (o + i) b)
        else s.each (p.words.drop 2).zipIdx (fun s (w, i) => s.writePm e (o + 4 * i) w)
      s.answer h p []))

/-! FOX_CMD (R424). -/

/-- Command `cmd` of Table 10.15 takes effect in state `st`. -/
def fxTakes (cmd st : Nat) : Bool :=
  match cmd with
  | 1 => st == FX_IDLE || st == FX_HALTED || st == FX_FAULTED
  | 2 => st == FX_RUNNING || st == FX_DRAINING || st == FX_HELD
  | 3 => st == FX_RUNNING || st == FX_HELD
  | _ => true

/-- Engine `n` takes what a FOX_CMD asks of it. -/
def Block.foxTakes (s : Block) (p : Packet) (n : Nat) : Bool :=
  s.fxUp n && fxTakes (p.f 1 18 16) (s.fxState n) && (p.f 1 20 19 == 0 || s.fxStill n)

/-- STATE of `k` engines from `n` on, 3 bits each. -/
def Block.fxStates (s : Block) (n k : Nat) : Word :=
  BitVec.ofNat 32 ((List.range k).foldl (fun a i => a + s.fxState (n + i) * 8 ^ i) 0)

/-- FOX_CMD. -/
def doFoxCmd (h : Nat) (s : Block) : Block :=
  s.runHw h 0x36 (fun s p => s.perform h p false (fun s =>
    let named := (List.range 16).filter (fun n => bitOf (p.word 1).toNat n)
    let takes := named.filter (s.foxTakes p)
    let refused := (named.filter (fun n => !s.foxTakes p n)).foldl (fun a n => a + 2 ^ n) 0
    let i := 2 + p.f 1 19 19
    let s := s.each takes (fun s n =>
      let s := if p.f 1 19 19 = 1 then s.writeFields (Reg.FX_START n) (p.word 2) else s
      if p.f 1 20 20 = 1 then s.each (List.range 4) (fun s j => s.setReg (Reg.FX_ARG n j) (p.word (i + j))) else s)
    let s := s.each takes (Block.fxCommand · (p.f 1 18 16))
    s.finish h p.tag (if refused = 0 then OK else RESOURCE_BUSY) refused false [s.fxStates 0 10, s.fxStates 10 6]))

/-! GUARD_ARM (R430). -/

/-- GUARD_ARM. -/
def doGuardArm (h : Nat) (s : Block) : Block :=
  s.runHw h 0x70 (fun s p => s.perform h p false (fun s =>
    let s := s.each (p.maskFrom 2 8) (fun s w => if s.writable Reg.OWL_GCMD then s.armGuard w (p.f 1 1 0 == 1) else s)
    s.answer h p []))

/-! The commands of this file, with the operands that the command table's rows take here. -/

def execPing (h : Fin 2) (s : State) : Out := .next (s.withBlock (doPing h s.toBlock))
def execClaim (h : Fin 2) (s : State) : Out := .next (s.withBlock (doClaim h s.toBlock))
def execDiscard (h : Fin 2) (s : State) : Out := .next (s.withBlock (doDiscard h s.toBlock))
def execIdent (h : Fin 2) (s : State) : Out := .next (s.withBlock (doIdent h s.toBlock))
def execSpindleCmd (h : Fin 2) (s : State) : Out := .next (s.withBlock (doSpindleCmd h s.toBlock))
def execFifoRead (h : Fin 2) (s : State) : Out := .next (s.withBlock (doFifoRead h s.toBlock))
def execMigrate (h : Fin 2) (s : State) : Out := .next (s.withBlock (doMigrate h s.toBlock))
def execMigrateCancel (h : Fin 2) (s : State) : Out := .next (s.withBlock (doMigrateCancel h s.toBlock))
def execSeqLoad (h : Fin 2) (s : State) : Out := .next (s.withBlock (doSeqLoad h s.toBlock))
def execFoxLoad (h : Fin 2) (s : State) : Out := .next (s.withBlock (doFoxLoad h s.toBlock))
def execFoxCmd (h : Fin 2) (s : State) : Out := .next (s.withBlock (doFoxCmd h s.toBlock))
def execGuardArm (h : Fin 2) (s : State) : Out := .next (s.withBlock (doGuardArm h s.toBlock))
def execLoopback (h : Fin 2) (s : State) : Out := .next (s.withBlock (doLoopback h s.toBlock))
def execEventInject (h : Fin 2) (s : State) : Out := .next (s.withBlock (doEventInject h s.toBlock))

end Sys2Proof.Machine
end

