-- ==== Sys2Proof/Machine/NodePackets.lean ====
section
/-! DEFINITION. The packets of nodes, steps and forerunner mode (R419–R421, R431, Tables 16.8, 16.9 and 16.16). -/

namespace Sys2Proof.Machine

/-! Node packets (R419). -/

/-- The nodes that a packet names: START in word `i`, STRIDE and COUNT in word `i` + 1. -/
def Packet.nodes (p : Packet) (i : Nat) : List Nat :=
  (List.range (p.f (i + 1) 31 16)).map (fun j => (p.f i 23 0 + j * p.f (i + 1) 15 0) % 2 ^ 24)

/-- A packet queues transactions, in order, as their requester's. -/
def Block.queueNodes (s : Block) (h : Nat) (p : Packet) (l : List Txn) : Block :=
  let s := s.setRunning h p.tag { p with total := l.length }
  s.each l.zipIdx (fun s (x, i) => s.submit { x with owner := .packet h p.tag i })

/-- A packet that only queues node transactions as its host's requester. -/
def Block.nodePacket (s : Block) (h op : Nat) (l : Packet → List Txn) : Block :=
  s.runHw h op (fun s p => s.perform h p false (fun s => s.queueNodes h p (l p)))

/-- The writes of a packet whose codes start at word `i` + 2. -/
def Packet.writes (p : Packet) (r op i : Nat) : List Txn :=
  (p.nodes i).zipIdx.map (fun (a, j) => Txn.to r op a (p.code (i + 2) j) .none)

/-- NODE_WRITE. -/
def doNodeWrite (h : Nat) (s : Block) : Block := s.nodePacket h 0x20 (fun p => p.writes (agentReq h) 1 1)

/-- NODE_INCR. -/
def doNodeIncr (h : Nat) (s : Block) : Block := s.nodePacket h 0x21 (fun p => p.writes (agentReq h) 2 1)

/-- NODE_READ. -/
def doNodeRead (h : Nat) (s : Block) : Block :=
  s.nodePacket h 0x22 (fun p => (p.nodes 1).map (fun a => Txn.to (agentReq h) (if p.f 3 0 0 = 1 then 3 else 4) a 0 .none))

/-- SENSE. -/
def doSense (h : Nat) (s : Block) : Block :=
  s.nodePacket h 0x23 (fun p => [Txn.to (agentReq h) (if p.f 1 24 24 = 1 then 9 else 8) (p.f 1 23 0) 0 .none])

/-- The HUB_STATUS packet. -/
def doHubStatusPacket (h : Nat) (s : Block) : Block :=
  s.nodePacket h 0x25 (fun p => [{ Txn.to (agentReq h) 10 (2 ^ 14 * p.f 1 23 14) 0 .none with leaf := p.f 1 1 0 }])

/-! STEP (R421). -/

/-- A STEP packet of function `fn`. -/
def Block.runStep (s : Block) (h fn : Nat) (f : Block → Packet → Block) : Block :=
  match (s.host h).hw with
  | p :: _ => if p.f 1 10 8 = fn then s.runHw h 0x24 (fun s p => s.perform h p false (fun s => f s p)) else s
  | [] => s

/-- A STEP packet answers a status of Table 10.8. -/
def Block.stepAnswer (s : Block) (h : Nat) (p : Packet) (code : Nat) : Block := s.answer h p [BitVec.ofNat 32 code]

/-- A STEP packet opens its step; `then'` follows when it is open. An open that waits for disarms holds the packet. -/
def Block.openByPacket (s : Block) (h : Nat) (p : Packet) (then' : Block → Block) : Block :=
  let tb := p.f 1 13 11
  match s.openStep (p.f 1 4 0) (agentReq h) tb 0 (if tb = 0 then some (p.word 3 ++ p.word 2) else none) (.packet h p.tag 0) with
  | (.code 0, s) => then' s
  | (.code c, s) => s.stepAnswer h p c
  | (.waits, s) => s

/-- The STEP_ARMs of a packet, one for each hub listed. -/
def Packet.arms (p : Packet) (r : Nat) : List Txn :=
  (p.words.drop p.stepBase).map (fun w => { Txn.to r 6 (2 ^ 14 * bitsOf w 23 14) 0 .none with leaf := 512 * p.f 1 4 0 })

/-- A ONESHOT whose step is open arms its hubs and seals. -/
def Block.armAndSeal (s : Block) (h : Nat) (p : Packet) : Block :=
  (s.queueNodes h p (p.arms (agentReq h))).sealStep (p.f 1 4 0) (agentReq h) (.packet h p.tag 0)

/-- The OPEN function. -/
def doStepPktOpen (h : Nat) (s : Block) : Block := s.runStep h 0 (fun s p => s.openByPacket h p (fun s => s.stepAnswer h p 0))

/-- The ARM function: NOT_OWNER queues nothing. -/
def doStepPktArm (h : Nat) (s : Block) : Block :=
  s.runStep h 1 (fun s p =>
    if !s.stepMine (p.f 1 4 0) (agentReq h) then s.stepAnswer h p 3
    else if p.arms (agentReq h) = [] then s.stepAnswer h p 0
    else s.queueNodes h p (p.arms (agentReq h)))

/-- The SEAL function: the packet completes at the seal. A second seal of a step finds the first in the way: NOT_OWNER. -/
def doStepPktSeal (h : Nat) (s : Block) : Block :=
  s.runStep h 2 (fun s p =>
    if (s.step' (p.f 1 4 0)).sealing.isSome then s.stepAnswer h p 3
    else s.sealStep (p.f 1 4 0) (agentReq h) (.packet h p.tag 0))

/-- The CANCEL function. -/
def doStepPktCancel (h : Nat) (s : Block) : Block :=
  s.runStep h 3 (fun s p =>
    let i := p.f 1 4 0
    if (s.stepState i = STEP_OPENED ∨ s.stepState i = STEP_SEALED) ∧ s.get (Reg.STEP_CTL_OWNER i) = agentReq h then
      (s.cancelStep i CAUSE_REQUEST).stepAnswer h p 0
    else s.stepAnswer h p 3)

/-- The STATUS function. -/
def doStepPktStatus (h : Nat) (s : Block) : Block :=
  s.runStep h 4 (fun s p => s.answer h p [s.reg (Reg.STEP_STAT (p.f 1 4 0))])

/-- The ONESHOT function: open, arm, seal. -/
def doOneshot (h : Nat) (s : Block) : Block :=
  s.runStep h 5 (fun s p => s.openByPacket h p (fun s => s.armAndSeal h p))

/-- STEP_OPEN_COMPLETE: the disarms of step `i` are sent, and the open that waits proceeds. -/
def doStepOpenComplete (i : Nat) (s : Block) : Block :=
  match s.completeOpen i with
  | (none, s) => s
  | (some w, s) => match w.owner with
    | .packet h tag _ => match (s.host h).runningTag tag with
      | some p => if p.f 1 10 8 = 5 then s.armAndSeal h p else s.stepAnswer h p 0
      | none => s
    | _ => s

/-! Forerunner mode (R269, R186, R431). -/

/-- The unit of word 1 of FRM_MODE and FRM_NODES is in forerunner mode, and a load of it is complete but for its nodes. -/
def Block.unitFrm (s : Block) (kind u : Nat) : Bool := if kind = 0 then s.flag (Reg.SP_CFG_FRM u) else s.frm u
def Block.unitLoaded (s : Block) (kind u : Nat) : Bool := if kind = 0 then (s.sp u).frmLoaded else (s.engine u).frmLoaded

/-- A spindle enters or leaves forerunner mode; a pending migration of it is cancelled (R183, R186). DESIGN CHOICE: NENT and
URG_E are taken modulo 8 at entry, so that they lie in a bank (R31); a completed load that no bank change has taken stays
complete when the mode is left, and is pending again when it is entered again. -/
def Block.frmSpindle (s : Block) (n : Nat) (on : Bool) : Block :=
  let home := fun (s : Block) => s.setSp n { s.sp n with next := s.spBase n, repsDone := 0 }
  if !on then home (s.put (Reg.SP_CFG_FRM n) 0)
  else if s.flag (Reg.SP_CFG_FRM n) then s
  else
    let s := (((s.put (Reg.SP_CFG_FRM n) 1).put (Reg.SP_CFG_FRM_BANK n) 0).put (Reg.SP_CFG_NENT n) (s.get (Reg.SP_CFG_NENT n) % 8)).put
      (Reg.SP_CFG_URG_E n) (s.get (Reg.SP_CFG_URG_E n) % 8)
    (home s).checkMigs

/-- An engine enters forerunner mode, with the lower half active and bit 15 of its program counter 0 (R269), or leaves it,
with its active half kept. A pending migration into it is cancelled (R271). DESIGN CHOICE: a completed load that no WAIT has
taken stays complete when the mode is left, and is pending again when it is entered again. -/
def Block.frmEngine (s : Block) (n : Nat) (on : Bool) : Block :=
  if !on then s.put (Reg.FX_CTL_FRM n) 0
  else if s.frm n then s
  else (((s.put (Reg.FX_CTL_FRM n) 1).put (Reg.FX_CTL_ACT_HALF n) 0).setPc n (s.pc n % 32768)).checkFoxMig

/-- FRM_MODE. -/
def doFrmMode (h : Nat) (s : Block) : Block :=
  s.runHw h 0xA0 (fun s p =>
    let kind := p.f 1 0 0
    let u := p.f 1 6 1
    let on := p.f 1 8 8 == 1
    let still := if kind = 0 then s.spState u == STOPPED else s.fxStill u
    s.perform h p (!still || (!on && !s.unitFrm kind u)) (fun s =>
      (if kind = 0 then s.frmSpindle u on else s.frmEngine u on).answer h p []))

/-- FRM_LOAD_FOX: words of the inactive half; with LAST the load has its entry. -/
def doFrmLoadFox (h : Nat) (s : Block) : Block :=
  s.runHw h 0xA1 (fun s p =>
    let e := p.f 1 3 0
    s.perform h p (!s.frm e || (s.engine e).frmLoaded) (fun s =>
      let o := 32768 * (1 - s.actHalf e) + p.f 1 31 16
      let s := s.each (p.words.drop 3).zipIdx (fun s (w, i) => s.setPm e (o / 4 + i) w)
      let s := if p.f 1 8 8 = 1 then s.setEngine e { s.engine e with entry := p.f 2 14 0, frmLoaded := true } else s
      s.answer h p []))

/-- FRM_LOAD_SEQ: entries of the inactive bank; with LAST the load has its NENT and URG_E. -/
def doFrmLoadSeq (h : Nat) (s : Block) : Block :=
  s.runHw h 0xA2 (fun s p =>
    let n := p.f 1 5 0
    s.perform h p (!s.flag (Reg.SP_CFG_FRM n) || (s.sp n).frmLoaded) (fun s =>
      let e := 8 * (1 - s.get (Reg.SP_CFG_FRM_BANK n)) + p.f 1 14 12
      let s := s.each (List.range (p.f 1 18 16 + 1)) (fun s i => s.commitEntry n (e + i) (p.definition (2 + 4 * i)))
      let s := if p.f 1 8 8 = 1 then s.setSp n { s.sp n with frmLoaded := true, frmNent := p.f 1 22 20, frmUrg := p.f 1 26 24 } else s
      s.answer h p []))

/-- FRM_NODES: writes of requester 22. -/
def doFrmNodes (h : Nat) (s : Block) : Block :=
  s.runHw h 0xA3 (fun s p =>
    s.perform h p (!s.unitFrm (p.f 1 0 0) (p.f 1 6 1) || s.unitLoaded (p.f 1 0 0) (p.f 1 6 1)) (fun s =>
      s.queueNodes h p (p.writes 22 1 2)))

/-! The commands of this file, with the operands that the command table's rows take here. -/

def execStepOpenComplete (i : Fin 32) (s : State) : Out := .next (s.withBlock (doStepOpenComplete i s.toBlock))
def execNodeWrite (h : Fin 2) (s : State) : Out := .next (s.withBlock (doNodeWrite h s.toBlock))
def execNodeIncr (h : Fin 2) (s : State) : Out := .next (s.withBlock (doNodeIncr h s.toBlock))
def execNodeRead (h : Fin 2) (s : State) : Out := .next (s.withBlock (doNodeRead h s.toBlock))
def execSense (h : Fin 2) (s : State) : Out := .next (s.withBlock (doSense h s.toBlock))
def execStepPktOpen (h : Fin 2) (s : State) : Out := .next (s.withBlock (doStepPktOpen h s.toBlock))
def execStepPktArm (h : Fin 2) (s : State) : Out := .next (s.withBlock (doStepPktArm h s.toBlock))
def execStepPktSeal (h : Fin 2) (s : State) : Out := .next (s.withBlock (doStepPktSeal h s.toBlock))
def execStepPktCancel (h : Fin 2) (s : State) : Out := .next (s.withBlock (doStepPktCancel h s.toBlock))
def execStepPktStatus (h : Fin 2) (s : State) : Out := .next (s.withBlock (doStepPktStatus h s.toBlock))
def execOneshot (h : Fin 2) (s : State) : Out := .next (s.withBlock (doOneshot h s.toBlock))
def execHubStatusPacket (h : Fin 2) (s : State) : Out := .next (s.withBlock (doHubStatusPacket h s.toBlock))
def execFrmMode (h : Fin 2) (s : State) : Out := .next (s.withBlock (doFrmMode h s.toBlock))
def execFrmLoadFox (h : Fin 2) (s : State) : Out := .next (s.withBlock (doFrmLoadFox h s.toBlock))
def execFrmLoadSeq (h : Fin 2) (s : State) : Out := .next (s.withBlock (doFrmLoadSeq h s.toBlock))
def execFrmNodes (h : Fin 2) (s : State) : Out := .next (s.withBlock (doFrmNodes h s.toBlock))

end Sys2Proof.Machine
end

