-- ==== Sys2Proof/Machine/Requests.lean ====
section
/-! DEFINITION. The command packets that firmware runs (R414, R422–R430, Tables 16.5 and 16.10–16.15). Each command has firmware
take the oldest packet of host `h`'s lane when it is of that opcode. -/

namespace Sys2Proof.Machine

/-- Firmware takes a packet that needs the Hoard: not while the Hoard is in reset. -/
def Block.runStore (s : Block) (h op : Nat) (f : Block → Packet → Block) : Block := if s.hoardUp then s.runFw h op f else s

/-- A packet that makes `n` writes to region `g` of the Hoard: refused while writes are deferred, where the region is
read-only, and by R345. -/
def Block.storePacket (s : Block) (h : Nat) (p : Packet) (g n : Nat) (f : Block → Block) : Block :=
  s.perform h p s.deferring (fun s =>
    if s.hoard.readOnly.elem g then s.refuse h p WEAR_LIMIT 0
    else if !s.itemsLeft n then s.configRefused.refuse h p WEAR_LIMIT 0
    else f s)

/-- The region of the configuration store, and that of the parameter sets. -/
abbrev configRegion : Nat := 7
abbrev paramRegion : Nat := 10

/-! Configuration items (R414). -/

/-- CONFIG_SAVE. -/
def doConfigSave (h : Nat) (s : Block) : Block :=
  s.runStore h 0x04 (fun s p =>
    let l := (List.range 15).filter (fun n => decide (3 ≤ n) && bitOf (p.word 1).toNat n)
    s.storePacket h p configRegion l.length (fun s =>
      (s.each l (fun s n => (s.writeItem (0x100 + n) (s.snapshotBytes n)).2)).answer h p [BitVec.ofNat 32 l.length]))

/-- ITEM_READ: an item never written has LEN 0 and GEN 0; a value longer than a reply is cut at its end (the model's choices). -/
def doItemRead (h : Nat) (s : Block) : Block :=
  s.runStore h 0x05 (fun s p => s.perform h p false (fun s =>
    match s.item (p.f 1 15 0) with
    | some (g, v) => s.answer h p (BitVec.ofNat 32 v.length :: BitVec.ofNat 32 g :: wordsOf v (min 251 ((v.length + 3) / 4)))
    | none => s.answer h p [0#32, 0#32]))

/-- ITEM_WRITE. -/
def doItemWrite (h : Nat) (s : Block) : Block :=
  s.runStore h 0x06 (fun s p => s.storePacket h p configRegion 1 (fun s =>
    let (g, s) := s.writeItem (p.f 1 15 0) p.itemValue
    (s.applyItem (p.f 1 15 0)).answer h p [BitVec.ofNat 32 g]))

/-- GUARD_STORE: item 0x0880. -/
def doGuardStore (h : Nat) (s : Block) : Block :=
  s.runStore h 0x71 (fun s p => s.storePacket h p configRegion 1 (fun s => ((s.writeItem 0x880 (p.bytesFrom 1)).2).answer h p []))

/-! Calibration (R280, R292, R422, R423). -/

/-- CAL_RUN: a request that finds its source disabled is discarded (R281). -/
def doCalRun (h : Nat) (s : Block) : Block :=
  s.runStore h 0x30 (fun s p =>
    let d := p.f 1 9 0
    let r := s.domRec d
    if r.hold then (s.discardRequest d).refuse h p NOT_OWNER 0
    else if !r.hostEn then (s.discardRequest d).refuse h p BAD_PARAM 1
    else
      let s := s.nextOrder.request d DomRec.hostEn false
      s.answer h p [BitVec.ofNat 32 (s.domainState d)])

/-- DOMAIN_SET: item 0x0200 + domain. -/
def doDomainSet (h : Nat) (s : Block) : Block :=
  s.runStore h 0x31 (fun s p => s.storePacket h p configRegion 1 (fun s =>
    ((s.writeItem (0x200 + p.f 1 15 0) (p.bytesFrom 1)).2).answer h p []))

/-- DOMAIN_GET. -/
def doDomainGet (h : Nat) (s : Block) : Block :=
  s.runStore h 0x32 (fun s p => s.perform h p false (fun s =>
    s.answer h p (wordsOf ((s.domRec (p.f 1 9 0)).bytes (p.f 1 9 0)) 4)))

/-- The words of Table 16.11; before a domain's first run T_REF, LAST_START and LAST_QF are 0 (the model's choice). -/
def Block.domainWords (s : Block) (d : Nat) : List Word :=
  let v := s.domain d
  [BitVec.ofNat 32 (s.domainState d + 8 * v.invalid.toNat + 65536 * toBits 16 (v.tref.getD 0))] ++
    pairWords (BitVec.ofNat 64 (v.started.getD 0)) ++ (List.range 4).map (fun i => v.figure.extractLsb' (32 * i) 32) ++
    [BitVec.ofNat 32 v.image] ++ pairWords (BitVec.ofNat 64 v.jseq) ++
    [BitVec.ofNat 32 (v.runs + 65536 * v.merges), BitVec.ofNat 32 v.discards]

/-- DOMAIN_STATUS. -/
def doDomainStatus (h : Nat) (s : Block) : Block :=
  s.runFw h 0x33 (fun s p => s.perform h p false (fun s => s.answer h p (s.domainWords (p.f 1 9 0))))

/-- PARAM_SET: the set at an index of the parameter area. -/
def doParamSet (h : Nat) (s : Block) : Block :=
  s.runStore h 0x34 (fun s p => s.storePacket h p paramRegion 1 (fun s =>
    let o := 0x180000 + 32 * p.f 1 13 0
    let s := s.hWrite (42 * mib + o) (p.bytesFrom 2)
    (s.setHoard { s.hoard with items := s.now :: s.hoard.items }).answer h p [BitVec.ofNat 32 o]))

/-- CAL_SETUP: item 0x0601. -/
def doCalSetup (h : Nat) (s : Block) : Block :=
  s.runStore h 0x35 (fun s p => s.storePacket h p configRegion 1 (fun s => ((s.writeItem 0x601 (p.bytesFrom 1)).2).answer h p []))

/-! Restores and commits (R425–R427). -/

/-- A restore, a commit or a restore commit is in progress, or writes are deferred. -/
def Block.restoreBlocked (s : Block) : Bool :=
  s.flag Reg.HD_STATUS_RESTORING || s.flag Reg.CMD_STATUS_RESTORE_BUSY || s.hoard.commit.isSome || s.hoard.want.isSome || s.deferring

/-- The walk that a restore packet makes stops at a record that fails; JOURNAL_TORN is then raised (R340). -/
def Block.packetTorn (s : Block) (k : Nat) (upto : Option Nat) : Bool :=
  match upto with
  | some u => (s.walk k (some u)).2.2
  | none => false

/-- The flags of Table 16.12 are kept until the final reply of packet `p`, which is in progress. -/
def Block.keepFlags (s : Block) (h : Nat) (p : Packet) (flags : Nat) (torn : Bool) : Block :=
  let w := BitVec.ofNat 32 (flags + 4 * torn.toNat)
  (s.setRunning h p.tag { p with results := Bank.set (fun _ => 0) p.results 0 w }).put Reg.CMD_STATUS_RESTORE_BUSY 1

/-- The previous image's header is rewritten with the next SEQ, the last durable JSEQ and the place of the next record: the
image becomes current (R426). -/
def Block.promote (s : Block) (k : Nat) : Block :=
  let o := imageBase k
  let b := s.hBytes o 8 ++ leBytes 4 (s.imageSeq s.currentImage + 1) ++ s.hBytes (o + 12) 4 ++ leBytes 8 s.jseq ++
    leBytes 4 s.hoard.next ++ s.hBytes (o + 28) 224
  let s := s.hWrite o (b ++ leBytes 4 (crc32 b).toNat)
  (s.setHoard { s.hoard with firstAt := if s.hoard.dirty = [] then none else s.hoard.firstAt }).showImages

/-- The restored state is made persistent: from the previous image at once, else by a restore commit. -/
def Block.makePersistent (s : Block) (h : Nat) (p : Packet) (k : Nat) : Block :=
  if p.f 1 1 0 = 2 then
    let bad := s.hoard.readOnly.elem (hoardRegion (imageBase k))
    let s := if bad then s else s.promote k
    s.commitTold (.packet h p.tag 0) (if bad then WEAR_LIMIT else OK) (s.imageSeq s.currentImage)
  else s.setHoard { s.hoard with
    want := some (.packet h p.tag 0)
    wantSrc := some (k, match p.upto with
      | some u => u + 1
      | none => 0) }

/-- IMAGE_RESTORE: every hub is written and stepped. It waits for pool steps that are free. -/
def doImageRestore (h : Nat) (s : Block) : Block :=
  s.runStore h 0x40 (fun r p => r.perform h p r.restoreBlocked (fun r =>
    match r.restoreSource p with
    | none => r
    | some k =>
      if r.freeSteps.length < (r.restoreTbs restoreOrder).length then s
      else
        let plan := r.packetPlan k p.upto
        let torn := r.packetTorn k p.upto
        let r := if torn then r.torn else r
        let (flags, r) := r.restoreHubs plan restoreOrder false .restore
        let r := r.each tableDomains (fun r d => r.buildTable plan [] d)
        (((r.life 9 1).keepFlags h p flags torn).makePersistent h p k)))

/-- The codes of a domain's nodes by a plan, in ascending address. -/
def Block.domainCodes (s : Block) (p : Plan) (d : Nat) : List (Nat × Nat) :=
  let hubs := (nodeHubs (domainNodes d)).map (fun k => (k, (s.planCodes p k).1))
  (domainNodes d).map (fun a => (a,
    match hubs.find? (fun q => q.1 == 64 * nodeTrunk a + nodeHub a) with
    | some q => match q.2.find? (fun lc => lc.1 == nodeLeaf a) with
      | some lc => lc.2
      | none => 0
    | none => 0))

/-- A domain's nodes are written by a plan, its restore step `i` is sealed, its code table is rebuilt and a RESTORE record
waits (R294, R426). The flags of its sources. -/
def Block.restoreDomain (s : Block) (p : Plan) (d i : Nat) (o : TxnOwner) : Nat × Block :=
  let hubs := nodeHubs (domainNodes d)
  let codes := s.domainCodes p d
  let rb := s.planReadback p d
  let (flags, s) := s.reportSources p hubs
  let s := s.each hubs (fun s k => s.restoreWrites k ((codes.filter (fun c => 64 * nodeTrunk c.1 + nodeHub c.1 == k)).map
    (fun c => (nodeLeaf c.1, c.2))))
  let s := s.restoreStep i (domainTb d) hubs o
  let s := s.putTable d (codes.map (·.2)) rb
  (flags, (s.queueRecord { type := 2, flags := 2 * rb.toNat, domain := d, runs := domainRuns d codes, owner := .none }).beginRestoring)

/-- DOMAIN_RESTORE: it waits for a pool step that is free. -/
def doDomainRestore (h : Nat) (s : Block) : Block :=
  s.runStore h 0x41 (fun r p =>
    let d := p.f 1 9 0
    let runs := (r.domain d).state == D_RUNNING || (r.domain d).state == D_CONTINUOUS
    r.perform h p (r.restoreBlocked || runs) (fun r =>
      match r.restoreSource p, r.freeSteps with
      | some k, i :: _ =>
        let plan := r.packetPlan k p.upto
        let torn := r.packetTorn k p.upto
        let r := if torn then r.torn else r
        let (flags, _) := r.reportSources plan (nodeHubs (domainNodes d))
        let r := (r.life 9 1).keepFlags h p flags torn
        (r.restoreDomain plan d i (.packet h p.tag 0)).2
      | some _, [] => s
      | none, _ => r))

/-- COMMIT: with nothing to commit it completes at once. -/
def doCommit (h : Nat) (s : Block) : Block :=
  s.runStore h 0x42 (fun s p => s.perform h p (s.hoard.commit.isSome || s.hoard.want.isSome || s.deferring) (fun s =>
    if !s.commitDue then s.answer h p [0#32]
    else if !s.commitMinOver then s.refuse h p WEAR_LIMIT 0
    else s.setHoard { s.hoard with want := some (.packet h p.tag 0), wantSrc := none }))

/-- KEEP_NODES: firmware reads the nodes as requester 4; the record follows (R333). -/
def doKeepNodes (h : Nat) (s : Block) : Block :=
  s.runStore h 0x43 (fun s p => s.perform h p (s.deferring || s.imageRestoring) (fun s =>
    s.queueNodes h p ((p.nodes 1).map (fun a => Txn.to 4 4 a 0 .none))))

/-- HOARD_READ. -/
def doHoardRead (h : Nat) (s : Block) : Block :=
  s.runStore h 0x44 (fun s p => s.perform h p false (fun s =>
    let o := (p.word 1).toNat
    let n := p.f 2 7 0
    s.finish h p.tag OK 0 (s.hBad o (4 * n)) (wordsOf (s.hBytes o (4 * n)) n)))

/-! Log and events (Table 16.13). -/

/-- TRAIL_READ: slots past the last wrap to slot 0 (the model's choice). -/
def doTrailRead (h : Nat) (s : Block) : Block :=
  s.runStore h 0x50 (fun s p => s.perform h p false (fun s =>
    let l := (List.range (p.f 1 31 28)).map (fun i => trailAt ((p.f 1 16 0 + i) % 131072))
    s.finish h p.tag OK 0 (l.any (fun o => s.hBad o 64)) (l.flatMap (fun o => wordsOf (s.hBytes o 64) 16))))

/-- The previous TRAIL_CLEAR lies within 60 min. -/
def Block.clearedLately (s : Block) : Bool :=
  match s.ev.clearedAt with
  | some t => decide (s.now < t + 3600 * 10 ^ 9)
  | none => false

/-- TRAIL_CLEAR: a new generation of first-fault records (R457). -/
def doTrailClear (h : Nat) (s : Block) : Block :=
  s.runStore h 0x51 (fun s p =>
    if p.f 1 0 0 = 0 then s.answer h p []
    else s.perform h p s.deferring (fun s =>
      if s.clearedLately then s.refuse h p WEAR_LIMIT 0
      else s.storePacket h p configRegion 1 (fun s =>
        let g := (s.get Reg.TRAIL_FFGEN_FFGEN + 1) % 65536
        let s := ((s.put Reg.TRAIL_FFGEN_FFGEN g).writeItem 0x801 (leBytes 2 g)).2
        let s := s.setFill 0
        (s.withEv { s.ev with clearedAt := some s.now }).answer h p [])))

/-- FIGURE_READ. -/
def doFigureRead (h : Nat) (s : Block) : Block :=
  s.runFw h 0x52 (fun s p => s.perform h p false (fun s => s.answer h p
    ((List.range (p.f 1 21 16)).flatMap (fun i => wordsOf (recBytes (s.figureAt (p.f 1 15 0 + i))) 4))))

/-- COUNTERS_READ. -/
def doCountersRead (h : Nat) (s : Block) : Block :=
  s.runFw h 0x53 (fun s p => s.perform h p false (fun s => s.answer h p
    ((List.range 16).flatMap (fun i => pairWords (BitVec.ofNat 64 (Bank.get (fun _ => 0) s.hoard.wear.life i))))))

/-! Firmware updates (R428, R429). -/

/-- The update that is open becomes `u`, as CMD_STATUS shows. -/
def Block.setUpdate (s : Block) (u : Option Update) : Block :=
  let s := (s.withUpdate (u))
  match u with
  | some u => (s.put Reg.CMD_STATUS_UPDATE_OPEN 1).put Reg.CMD_STATUS_UPDATE_HOST u.host
  | none => s.put Reg.CMD_STATUS_UPDATE_OPEN 0

/-- Host `h`'s open update, not yet checked. -/
def Block.ownUpdate (s : Block) (h : Nat) : Option Update := s.update.filter (fun u => u.host == h && !u.checked)

/-- FW_BEGIN. -/
def doFwBegin (h : Nat) (s : Block) : Block :=
  s.runStore h 0x60 (fun s p => s.perform h p (s.update.any (fun u => u.host != h)) (fun s =>
    let lib := p.f 1 0 0 == 1
    let base := if lib then s.library.2 else slotBase (1 - s.get Reg.BOOT_ACTIVE)
    (s.setUpdate (some ⟨h, lib, base, (p.word 2).toNat, false⟩)).answer h p []))

/-- FW_DATA. -/
def doFwData (h : Nat) (s : Block) : Block :=
  s.runStore h 0x61 (fun s p =>
    let o := (p.word 1).toNat
    let fits : Update → Bool := fun u => decide (o + 4 * (p.words.length - 2) ≤ u.len)
    match (s.ownUpdate h).filter fits with
    | none => s.refuse h p RESOURCE_BUSY 0
    | some u => s.perform h p s.deferring (fun s =>
        if s.hoard.readOnly.elem (hoardRegion u.base) then s.refuse h p WEAR_LIMIT 0
        else (s.hWrite (u.base + o) (p.bytesFrom 2)).answer h p []))

/-- The object of an update verifies (R326). -/
def Block.updateGood (s : Block) (u : Update) : Bool :=
  s.objectGood u.base (if u.library then 1 else 2) && decide (288 + s.hNat (u.base + 8) 4 ≤ u.len)

/-- FW_CHECK: a stock object that verifies is in the library; a firmware object makes its slot the checked one. -/
def doFwCheck (h : Nat) (s : Block) : Block :=
  s.runStore h 0x62 (fun s p => match s.ownUpdate h with
    | none => s.refuse h p RESOURCE_BUSY 0
    | some u =>
      if !s.updateGood u then
        let s := if u.library then s else (s.put Reg.HD_STATUS_SIG_FAIL_SEEN 1).raise 876 (macroAddress u.base)
        (s.setUpdate none).refuse h p CHECK_FAIL 0
      else
        let d := [BitVec.ofNat 32 (s.hNat (u.base + 4) 4), BitVec.ofNat 32 (s.hNat (u.base + 2) 2)]
        (s.setUpdate (if u.library then none else some { u with checked := true })).answer h p d)

/-- FW_ACTIVATE: a trial of the checked slot begins with a restart of the Bear core; firmware answers after it (R439). -/
def doFwActivate (h : Nat) (s : Block) : Block :=
  s.runStore h 0x63 (fun s p =>
    if !s.update.any (·.checked) then s.refuse h p RESOURCE_BUSY 0
    else s.storePacket h p configRegion 1 (fun s =>
      let s := (s.setUpdate none).writeBoot { s.bootRec with trial := true, started := false }
      (s.withDen { s.den with activate := some (h, p.tag) }).bearRestart 5))

/-! MEM_FILL (R362, R430). -/

/-- MEM_FILL: the pattern is written to every word of the range. -/
def doMemFill (h : Nat) (s : Block) : Block :=
  s.runFw h 0x80 (fun s p => s.perform h p false (fun s =>
    let o := (p.word 1).toNat
    (s.each (List.range ((p.word 2).toNat / 4)) (fun s i =>
      if s.domainOn (2 + memBank (o + 4 * i)) then s.memWrite (o + 4 * i) (wordBytes (p.word 3)) else s)).answer h p []))

/-! The commands of this file, with the operands that the command table's rows take here. -/

def execConfigSave (h : Fin 2) (s : State) : Out := .next (s.withBlock (doConfigSave h s.toBlock))
def execItemRead (h : Fin 2) (s : State) : Out := .next (s.withBlock (doItemRead h s.toBlock))
def execItemWrite (h : Fin 2) (s : State) : Out := .next (s.withBlock (doItemWrite h s.toBlock))
def execCalRun (h : Fin 2) (s : State) : Out := .next (s.withBlock (doCalRun h s.toBlock))
def execDomainSet (h : Fin 2) (s : State) : Out := .next (s.withBlock (doDomainSet h s.toBlock))
def execDomainGet (h : Fin 2) (s : State) : Out := .next (s.withBlock (doDomainGet h s.toBlock))
def execDomainStatus (h : Fin 2) (s : State) : Out := .next (s.withBlock (doDomainStatus h s.toBlock))
def execParamSet (h : Fin 2) (s : State) : Out := .next (s.withBlock (doParamSet h s.toBlock))
def execCalSetup (h : Fin 2) (s : State) : Out := .next (s.withBlock (doCalSetup h s.toBlock))
def execImageRestore (h : Fin 2) (s : State) : Out := .next (s.withBlock (doImageRestore h s.toBlock))
def execDomainRestore (h : Fin 2) (s : State) : Out := .next (s.withBlock (doDomainRestore h s.toBlock))
def execCommit (h : Fin 2) (s : State) : Out := .next (s.withBlock (doCommit h s.toBlock))
def execKeepNodes (h : Fin 2) (s : State) : Out := .next (s.withBlock (doKeepNodes h s.toBlock))
def execHoardRead (h : Fin 2) (s : State) : Out := .next (s.withBlock (doHoardRead h s.toBlock))
def execTrailRead (h : Fin 2) (s : State) : Out := .next (s.withBlock (doTrailRead h s.toBlock))
def execTrailClear (h : Fin 2) (s : State) : Out := .next (s.withBlock (doTrailClear h s.toBlock))
def execFigureRead (h : Fin 2) (s : State) : Out := .next (s.withBlock (doFigureRead h s.toBlock))
def execCountersRead (h : Fin 2) (s : State) : Out := .next (s.withBlock (doCountersRead h s.toBlock))
def execFwBegin (h : Fin 2) (s : State) : Out := .next (s.withBlock (doFwBegin h s.toBlock))
def execFwData (h : Fin 2) (s : State) : Out := .next (s.withBlock (doFwData h s.toBlock))
def execFwCheck (h : Fin 2) (s : State) : Out := .next (s.withBlock (doFwCheck h s.toBlock))
def execFwActivate (h : Fin 2) (s : State) : Out := .next (s.withBlock (doFwActivate h s.toBlock))
def execGuardStore (h : Fin 2) (s : State) : Out := .next (s.withBlock (doGuardStore h s.toBlock))
def execMemFill (h : Fin 2) (s : State) : Out := .next (s.withBlock (doMemFill h s.toBlock))

end Sys2Proof.Machine
end

