-- ==== Sys2Proof/Machine/Tap.lean ====
section
/-! DEFINITION. The test port (R501–R504): its instructions, the boundary register, and the trunks that stop while an
instruction holds the balls. -/

namespace Sys2Proof.Machine

/-- The identification register (Table 19.10). -/
abbrev tapIdentification : Nat := 0x053004AF

/-- The register between TDI and TDO under the current instruction: its length in bits, and what it captures. -/
def Block.tapSelected (s : Block) : Nat × Nat :=
  match s.tap.inst with
  | .extest | .sample | .preload => (63, s.tap.captured.toNat)
  | .idcode => (32, tapIdentification)
  | .clamp | .highz | .bypass => (1, 0)

/-- The trunk of a boundary cell (Table 19.11). -/
def cellTrunk (i : Nat) : Option Nat := if 15 ≤ i ∧ i < 63 then some ((i - 15) / 4) else none

/-- What cell `i` captures when the balls carry `pins`: the cells of a trunk that is powered down capture 0 (R503), and
those of ATTN the state of their drivers; ATTN_A# is open-drain. -/
def Block.cellValue (s : Block) (pins : BitVec 63) (i : Nat) : Bool :=
  match cellTrunk i with
  | some t => s.domainOn (36 + t) && pins.getLsbD i
  | none =>
    match i with
    | 6 => false
    | 7 => s.attnLow 0
    | 13 => !s.attnLow 1
    | 14 => true
    | _ => pins.getLsbD i

/-- The boundary register captures (R502). -/
def Block.capture (s : Block) (pins : BitVec 63) : Block :=
  (s.withTap { s.tap with
      captured := BitVec.ofNat 63 ((List.range 63).foldl (fun a i => if s.cellValue pins i then a + 2 ^ i else a) 0) })

/-- Guard writes and fires that wait on trunk `t` complete with ABORTED (R504). -/
def Block.abortGuards (s : Block) (t : Nat) : Block :=
  let l := s.queue t 0
  (s.setQueue t 0 []).each l (fun s x => s.complete x 8 0)

/-- The instruction becomes `i`. One that holds the balls stops every trunk with cause CLOCK, and ends the frames in
progress, `frame` telling whether there is one on each port; when such an instruction ends, every trunk starts and
retrains (R219). -/
def Block.tapTo (s : Block) (i : TapInst) : Block :=
  let was := s.tap.inst.drives
  let s := (s.withTap { s.tap with inst := i })
  if i.drives ∧ !was then
    if s.coreOn then (s.each trunkList Block.stopTrunk).each trunkList Block.abortGuards else s
  else if was ∧ !i.drives then s.each trunkList Block.startTrunk
  else s

/-- A frame in progress on port `p` ends as at an abort when an instruction takes the balls. -/
def Block.tapFrames (s : Block) (i : TapInst) (ps : List Nat) : Block :=
  if i.drives ∧ !s.tap.inst.drives then s.each ps (fun s p => s.setPort p { s.port p with acc := false, abt := true, sent := [] })
  else s

/-- EXTEST: the boundary cells drive the balls, from a scan's update if there is one. -/
def doExtest (cells : Option (BitVec 63)) (pins : BitVec 63) (a b : Bool) (s : Block) : Block :=
  let s := ((s.tapFrames .extest ((if a then [0] else []) ++ (if b then [1] else []))).tapTo .extest).capture pins
  match cells with
  | some v => (s.withTap { s.tap with cells := v })
  | none => s

/-- SAMPLE: the boundary register captures what the balls carry. -/
def doSample (pins : BitVec 63) (s : Block) : Block := (s.tapTo .sample).capture pins

/-- PRELOAD: the boundary register is loaded with what its cells will drive. -/
def doPreload (cells : BitVec 63) (s : Block) : Block :=
  let s := s.tapTo .preload
  (s.withTap { s.tap with cells := cells })

/-- IDCODE. -/
def doIdcode (s : Block) : Block := s.tapTo .idcode

/-- CLAMP: the outputs are driven from the boundary register. -/
def doClamp (a b : Bool) (s : Block) : Block :=
  (s.tapFrames .clamp ((if a then [0] else []) ++ (if b then [1] else []))).tapTo .clamp

/-- HIGHZ: every driver is released. -/
def doHighz (a b : Bool) (s : Block) : Block :=
  (s.tapFrames .highz ((if a then [0] else []) ++ (if b then [1] else []))).tapTo .highz

/-- BYPASS, and every private or reserved code. -/
def doBypass (s : Block) : Block := s.tapTo .bypass

/-- TEST_LOGIC_RESET: five TCK edges with TMS high; the instruction is IDCODE. -/
def doTestLogicReset (s : Block) : Block := s.tapTo .idcode

/-! The commands of this file, with the operands that the command table's rows take here. -/

def execExtest (cells : Option (BitVec 63)) (pins : BitVec 63) (a b : Bool) (s : State) : Out := .next (s.withBlock (doExtest cells pins a b s.toBlock))
def execSample (pins : BitVec 63) (s : State) : Out := .next (s.withBlock (doSample pins s.toBlock))
def execPreload (cells : BitVec 63) (s : State) : Out := .next (s.withBlock (doPreload cells s.toBlock))
def execIdcode (s : State) : Out := .next (s.withBlock (doIdcode s.toBlock))
def execClamp (a b : Bool) (s : State) : Out := .next (s.withBlock (doClamp a b s.toBlock))
def execHighz (a b : Bool) (s : State) : Out := .next (s.withBlock (doHighz a b s.toBlock))
def execBypass (s : State) : Out := .next (s.withBlock (doBypass s.toBlock))
def execTestLogicReset (s : State) : Out := .next (s.withBlock (doTestLogicReset s.toBlock))

end Sys2Proof.Machine
end

