-- ==== Sys2Proof/Machine/Dispatch.lean ====
section
/-! DEFINITION. One arm for each command: the call of its meaning. -/

namespace Sys2Proof.Machine

/-- The command's effect on everything but the queue. -/
def exec (i : Instr) (s : State) : Host.Outcome State Fault Refusal :=
  match i with
  | .coldReset => Sys2Proof.Machine.execColdReset s
  | .powerGood => Sys2Proof.Machine.execPowerGood s
  | .coreLoss => Sys2Proof.Machine.execCoreLoss s
  | .coreReturn => Sys2Proof.Machine.execCoreReturn s
  | .pwrOffWrite hi v => Sys2Proof.Machine.execPwrOffWrite hi v s
  | .supplyExcursion j isOver mv => Sys2Proof.Machine.execSupplyExcursion j isOver mv s
  | .supplyRecovered j mv => Sys2Proof.Machine.execSupplyRecovered j mv s
  | .clockFault j => Sys2Proof.Machine.execClockFault j s
  | .clockFaultEnd j => Sys2Proof.Machine.execClockFaultEnd j s
  | .governorEvaluate fox pos => Sys2Proof.Machine.execGovernorEvaluate fox pos s
  | .aonSensorSample v invalid => Sys2Proof.Machine.execAonSensorSample v invalid s
  | .ssReset v => Sys2Proof.Machine.execSsReset v s
  | .subsystemResetComplete n => Sys2Proof.Machine.execSubsystemResetComplete n s
  | .rstHonouredLow => Sys2Proof.Machine.execRstHonouredLow s
  | .rstRelease => Sys2Proof.Machine.execRstRelease s
  | .stuckReset => Sys2Proof.Machine.execStuckReset s
  | .rstHigh10ms => Sys2Proof.Machine.execRstHigh10ms s
  | .extest cells pins a b => Sys2Proof.Machine.execExtest cells pins a b s
  | .sample pins => Sys2Proof.Machine.execSample pins s
  | .preload cells => Sys2Proof.Machine.execPreload cells s
  | .idcode => Sys2Proof.Machine.execIdcode s
  | .clamp a b => Sys2Proof.Machine.execClamp a b s
  | .highz a b => Sys2Proof.Machine.execHighz a b s
  | .bypass => Sys2Proof.Machine.execBypass s
  | .testLogicReset => Sys2Proof.Machine.execTestLogicReset s
  | .registerWrite ag a v => Sys2Proof.Machine.execRegisterWrite ag a v s
  | .readLoCapture ag a => Sys2Proof.Machine.execReadLoCapture ag a s
  | .lineBlock blk => Sys2Proof.Machine.execLineBlock blk s
  | .markerMissing w => Sys2Proof.Machine.execMarkerMissing w s
  | .lineCtlWrite w v => Sys2Proof.Machine.execLineCtlWrite w v s
  | .qwPacket ws valid => Sys2Proof.Machine.execQwPacket ws valid s
  | .tonePacket ws valid => Sys2Proof.Machine.execTonePacket ws valid s
  | .mainsEdge => Sys2Proof.Machine.execMainsEdge s
  | .mainsCycleMissing => Sys2Proof.Machine.execMainsCycleMissing s
  | .mainsCtlWrite v => Sys2Proof.Machine.execMainsCtlWrite v s
  | .mainsPhaseOfsWrite v => Sys2Proof.Machine.execMainsPhaseOfsWrite v s
  | .snap => Sys2Proof.Machine.execSnap s
  | .schCtlWrite n v => Sys2Proof.Machine.execSchCtlWrite n v s
  | .schTimeWrite n j v => Sys2Proof.Machine.execSchTimeWrite n j v s
  | .schedFire n => Sys2Proof.Machine.execSchedFire n s
  | .xbLineRetry => Sys2Proof.Machine.execXbLineRetry s
  | .xbPinWrite l v => Sys2Proof.Machine.execXbPinWrite l v s
  | .xbPinApply l => Sys2Proof.Machine.execXbPinApply l s
  | .owPrecheckStart n => Sys2Proof.Machine.execOwPrecheckStart n s
  | .owPrecheckSample n vSource vSink => Sys2Proof.Machine.execOwPrecheckSample n vSource vSink s
  | .settleEnd n => Sys2Proof.Machine.execSettleEnd n s
  | .inputOverrange n isOver => Sys2Proof.Machine.execInputOverrange n isOver s
  | .clampConduct b => Sys2Proof.Machine.execClampConduct b s
  | .refOkFall r => Sys2Proof.Machine.execRefOkFall r s
  | .refOkRise r => Sys2Proof.Machine.execRefOkRise r s
  | .refSelWrite u v => Sys2Proof.Machine.execRefSelWrite u v s
  | .refSwitchSettled u => Sys2Proof.Machine.execRefSwitchSettled u s
  | .refCtlWrite v => Sys2Proof.Machine.execRefCtlWrite v s
  | .fineQclkWrite q v => Sys2Proof.Machine.execFineQclkWrite q v s
  | .fineClockSwitch q => Sys2Proof.Machine.execFineClockSwitch q s
  | .fineSamplingStart k => Sys2Proof.Machine.execFineSamplingStart k s
  | .swiftSamplingStart j => Sys2Proof.Machine.execSwiftSamplingStart j s
  | .groupEdge g net => Sys2Proof.Machine.execGroupEdge g net s
  | .fineResult q c ms => Sys2Proof.Machine.execFineResult q c ms s
  | .swiftResult q c ms => Sys2Proof.Machine.execSwiftResult q c ms s
  | .fineCalreqGo k v => Sys2Proof.Machine.execFineCalreqGo k v s
  | .fineCalStart k => Sys2Proof.Machine.execFineCalStart k s
  | .fineCalDone k ms => Sys2Proof.Machine.execFineCalDone k ms s
  | .swiftCalreqGo j v => Sys2Proof.Machine.execSwiftCalreqGo j v s
  | .swiftCalStart j => Sys2Proof.Machine.execSwiftCalStart j s
  | .swiftCalDone j ms => Sys2Proof.Machine.execSwiftCalDone j ms s
  | .ncoLoad v => Sys2Proof.Machine.execNcoLoad v s
  | .ncoFreqWrite j v => Sys2Proof.Machine.execNcoFreqWrite j v s
  | .filtCoefDataAccess ag v => Sys2Proof.Machine.execFiltCoefDataAccess ag v s
  | .spStart n => Sys2Proof.Machine.execSpStart n s
  | .spStartOnce n => Sys2Proof.Machine.execSpStartOnce n s
  | .spStopPass n => Sys2Proof.Machine.execSpStopPass n s
  | .spStopNow n => Sys2Proof.Machine.execSpStopNow n s
  | .runStart n => Sys2Proof.Machine.execRunStart n s
  | .seqIdxWrite ag v => Sys2Proof.Machine.execSeqIdxWrite ag v s
  | .seqDataAccess ag v => Sys2Proof.Machine.execSeqDataAccess ag v s
  | .spCfgWrite n v => Sys2Proof.Machine.execSpCfgWrite n v s
  | .tgFire v => Sys2Proof.Machine.execTgFire v s
  | .spUrgent v => Sys2Proof.Machine.execSpUrgent v s
  | .urgentRegister n => Sys2Proof.Machine.execUrgentRegister n s
  | .entryRestart n => Sys2Proof.Machine.execEntryRestart n s
  | .fifoEnable f v => Sys2Proof.Machine.execFifoEnable f v s
  | .fifoRpWrite f v => Sys2Proof.Machine.execFifoRpWrite f v s
  | .fifoNoticeClear f v => Sys2Proof.Machine.execFifoNoticeClear f v s
  | .migrateSwitch a => Sys2Proof.Machine.execMigrateSwitch a s
  | .frmBankChange n => Sys2Proof.Machine.execFrmBankChange n s
  | .idle t h => Sys2Proof.Machine.execIdle t h s
  | .writeShadow t h leaf code => Sys2Proof.Machine.execWriteShadow t h leaf code s
  | .writeShadowIncr t h leaf inc => Sys2Proof.Machine.execWriteShadowIncr t h leaf inc s
  | .readShadow t h leaf tag => Sys2Proof.Machine.execReadShadow t h leaf tag s
  | .readActive t h leaf tag => Sys2Proof.Machine.execReadActive t h leaf tag s
  | .copyActiveToShadow t h leaf all => Sys2Proof.Machine.execCopyActiveToShadow t h leaf all s
  | .stepArm t h step disarm => Sys2Proof.Machine.execStepArm t h step disarm s
  | .stepFire t h leaf => Sys2Proof.Machine.execStepFire t h leaf s
  | .senseSelect t h leaf tag => Sys2Proof.Machine.execSenseSelect t h leaf tag s
  | .senseRelease t => Sys2Proof.Machine.execSenseRelease t s
  | .hubStatus t h word tag => Sys2Proof.Machine.execHubStatus t h word tag s
  | .holdSilent t h => Sys2Proof.Machine.execHoldSilent t h s
  | .releaseSilent t h => Sys2Proof.Machine.execReleaseSilent t h s
  | .trainAlign t h value tag => Sys2Proof.Machine.execTrainAlign t h value tag s
  | .trainFlight t h value => Sys2Proof.Machine.execTrainFlight t h value s
  | .trainLimit t h kind sgn hi value => Sys2Proof.Machine.execTrainLimit t h kind sgn hi value s
  | .fwdCheckFail t h => Sys2Proof.Machine.execFwdCheckFail t h s
  | .hubMarkerReceive t h flips => Sys2Proof.Machine.execHubMarkerReceive t h flips s
  | .hubFire t h => Sys2Proof.Machine.execHubFire t h s
  | .hubMarkerTimeout t h => Sys2Proof.Machine.execHubMarkerTimeout t h s
  | .markerForm sub => Sys2Proof.Machine.execMarkerForm sub s
  | .whorlDecide t p => Sys2Proof.Machine.execWhorlDecide t p s
  | .whorlWithdraw t p => Sys2Proof.Machine.execWhorlWithdraw t p s
  | .maskAssert r => Sys2Proof.Machine.execMaskAssert r s
  | .slotReceive t h off flips due early => Sys2Proof.Machine.execSlotReceive t h off flips due early s
  | .slotMissing t h => Sys2Proof.Machine.execSlotMissing t h s
  | .replyTimeout t h j => Sys2Proof.Machine.execReplyTimeout t h j s
  | .stepReportTimeout j t h => Sys2Proof.Machine.execStepReportTimeout j t h s
  | .stepOpen ag j v => Sys2Proof.Machine.execStepOpen ag j v s
  | .stepOpenComplete j => Sys2Proof.Machine.execStepOpenComplete j s
  | .stepSeal ag j v => Sys2Proof.Machine.execStepSeal ag j v s
  | .stepCancel ag j v => Sys2Proof.Machine.execStepCancel ag j v s
  | .stepExpire j => Sys2Proof.Machine.execStepExpire j s
  | .hubRelease ag => Sys2Proof.Machine.execHubRelease ag s
  | .hubRetrain ag => Sys2Proof.Machine.execHubRetrain ag s
  | .hubQuarantine ag => Sys2Proof.Machine.execHubQuarantine ag s
  | .quarantineAutoRelease t h => Sys2Proof.Machine.execQuarantineAutoRelease t h s
  | .trainingComplete t h flight rlat => Sys2Proof.Machine.execTrainingComplete t h flight rlat s
  | .partnerDiePowerLoss d => Sys2Proof.Machine.execPartnerDiePowerLoss d s
  | .partnerDiePowerUp d => Sys2Proof.Machine.execPartnerDiePowerUp d s
  | .partnerRestore d => Sys2Proof.Machine.execPartnerRestore d s
  | .taintRecovery t h => Sys2Proof.Machine.execTaintRecovery t h s
  | .trkEnWrite v => Sys2Proof.Machine.execTrkEnWrite v s
  | .kindWrite ag lim v => Sys2Proof.Machine.execKindWrite ag lim v s
  | .kmapDataAccess ag v => Sys2Proof.Machine.execKmapDataAccess ag v s
  | .swap t => Sys2Proof.Machine.execSwap t s
  | .tableSwap t => Sys2Proof.Machine.execTableSwap t s
  | .whTdataAccess ag v => Sys2Proof.Machine.execWhTdataAccess ag v s
  | .whRdataAccess ag v => Sys2Proof.Machine.execWhRdataAccess ag v s
  | .watchClear t w => Sys2Proof.Machine.execWatchClear t w s
  | .halt n => Sys2Proof.Machine.execHalt n s
  | .nop n => Sys2Proof.Machine.execNop n s
  | .sync n => Sys2Proof.Machine.execSync n s
  | .gets n x k => Sys2Proof.Machine.execGets n x k s
  | .tempRd n x k => Sys2Proof.Machine.execTempRd n x k s
  | .add n x y z => Sys2Proof.Machine.execAdd n x y z s
  | .sub n x y z => Sys2Proof.Machine.execSub n x y z s
  | .and n x y z => Sys2Proof.Machine.execAnd n x y z s
  | .or n x y z => Sys2Proof.Machine.execOr n x y z s
  | .xor n x y z => Sys2Proof.Machine.execXor n x y z s
  | .shl n x y z => Sys2Proof.Machine.execShl n x y z s
  | .shr n x y z => Sys2Proof.Machine.execShr n x y z s
  | .sar n x y z => Sys2Proof.Machine.execSar n x y z s
  | .lt n x y z => Sys2Proof.Machine.execLt n x y z s
  | .ltu n x y z => Sys2Proof.Machine.execLtu n x y z s
  | .mul n x y z => Sys2Proof.Machine.execMul n x y z s
  | .mulhs n x y z => Sys2Proof.Machine.execMulhs n x y z s
  | .min n x y z => Sys2Proof.Machine.execMin n x y z s
  | .max n x y z => Sys2Proof.Machine.execMax n x y z s
  | .div n x y z => Sys2Proof.Machine.execDiv n x y z s
  | .addk n x y imm => Sys2Proof.Machine.execAddk n x y imm s
  | .andk n x y imm => Sys2Proof.Machine.execAndk n x y imm s
  | .ork n x y imm => Sys2Proof.Machine.execOrk n x y imm s
  | .xork n x y imm => Sys2Proof.Machine.execXork n x y imm s
  | .shiftk n x y imm => Sys2Proof.Machine.execShiftk n x y imm s
  | .ltk n x y imm => Sys2Proof.Machine.execLtk n x y imm s
  | .highk n x imm => Sys2Proof.Machine.execHighk n x imm s
  | .load32 n x y imm => Sys2Proof.Machine.execLoad32 n x y imm s
  | .load16s n x y imm => Sys2Proof.Machine.execLoad16s n x y imm s
  | .load16u n x y imm => Sys2Proof.Machine.execLoad16u n x y imm s
  | .load8s n x y imm => Sys2Proof.Machine.execLoad8s n x y imm s
  | .load8u n x y imm => Sys2Proof.Machine.execLoad8u n x y imm s
  | .store32 n x y imm => Sys2Proof.Machine.execStore32 n x y imm s
  | .store16 n x y imm => Sys2Proof.Machine.execStore16 n x y imm s
  | .store8 n x y imm => Sys2Proof.Machine.execStore8 n x y imm s
  | .vload n x y imm => Sys2Proof.Machine.execVload n x y imm s
  | .vstore n x y imm => Sys2Proof.Machine.execVstore n x y imm s
  | .ifeq n x y off => Sys2Proof.Machine.execIfeq n x y off s
  | .ifne n x y off => Sys2Proof.Machine.execIfne n x y off s
  | .iflt n x y off => Sys2Proof.Machine.execIflt n x y off s
  | .ifge n x y off => Sys2Proof.Machine.execIfge n x y off s
  | .iflo n x y off => Sys2Proof.Machine.execIflo n x y off s
  | .ifhs n x y off => Sys2Proof.Machine.execIfhs n x y off s
  | .call n x off => Sys2Proof.Machine.execCall n x off s
  | .callr n x y imm => Sys2Proof.Machine.execCallr n x y imm s
  | .vadd n x y z => Sys2Proof.Machine.execVadd n x y z s
  | .vsub n x y z => Sys2Proof.Machine.execVsub n x y z s
  | .vadds n x y z => Sys2Proof.Machine.execVadds n x y z s
  | .vsubs n x y z => Sys2Proof.Machine.execVsubs n x y z s
  | .vmul n x y z => Sys2Proof.Machine.execVmul n x y z s
  | .vmulq n x y z => Sys2Proof.Machine.execVmulq n x y z s
  | .vmin n x y z => Sys2Proof.Machine.execVmin n x y z s
  | .vmax n x y z => Sys2Proof.Machine.execVmax n x y z s
  | .vand n x y z => Sys2Proof.Machine.execVand n x y z s
  | .vor n x y z => Sys2Proof.Machine.execVor n x y z s
  | .vxor n x y z => Sys2Proof.Machine.execVxor n x y z s
  | .vclt n x y z => Sys2Proof.Machine.execVclt n x y z s
  | .vceq n x y z => Sys2Proof.Machine.execVceq n x y z s
  | .vsel n x y z => Sys2Proof.Machine.execVsel n x y z s
  | .vsar n x y z => Sys2Proof.Machine.execVsar n x y z s
  | .vshl n x y z => Sys2Proof.Machine.execVshl n x y z s
  | .vsplat n x y => Sys2Proof.Machine.execVsplat n x y s
  | .vext n x y z => Sys2Proof.Machine.execVext n x y z s
  | .vins n x y z => Sys2Proof.Machine.execVins n x y z s
  | .vsum n x y => Sys2Proof.Machine.execVsum n x y s
  | .vidx n x => Sys2Proof.Machine.execVidx n x s
  | .vclamp n x y z => Sys2Proof.Machine.execVclamp n x y z s
  | .amac n x y z => Sys2Proof.Machine.execAmac n x y z s
  | .amsu n x y z => Sys2Proof.Machine.execAmsu n x y z s
  | .amul n x y z => Sys2Proof.Machine.execAmul n x y z s
  | .aclr n x => Sys2Proof.Machine.execAclr n x s
  | .aaddv n x y => Sys2Proof.Machine.execAaddv n x y s
  | .aldv n x y => Sys2Proof.Machine.execAldv n x y s
  | .amacs n x y z => Sys2Proof.Machine.execAmacs n x y z s
  | .aout n x y z => Sys2Proof.Machine.execAout n x y z s
  | .asum n x y z => Sys2Proof.Machine.execAsum n x y z s
  | .nodeWr n x y => Sys2Proof.Machine.execNodeWr n x y s
  | .nodeInc n x y => Sys2Proof.Machine.execNodeInc n x y s
  | .nodeWrv n x y z lanes => Sys2Proof.Machine.execNodeWrv n x y z lanes s
  | .nodeIncv n x y z lanes => Sys2Proof.Machine.execNodeIncv n x y z lanes s
  | .nodeRd n x y shadow => Sys2Proof.Machine.execNodeRd n x y shadow s
  | .nodeSense n x y release => Sys2Proof.Machine.execNodeSense n x y release s
  | .nodeFence n x => Sys2Proof.Machine.execNodeFence n x s
  | .nodeCompletion n => Sys2Proof.Machine.execNodeCompletion n s
  | .stepArmOpen n x y z tb => Sys2Proof.Machine.execStepArmOpen n x y z tb s
  | .stepArmArm n x y z => Sys2Proof.Machine.execStepArmArm n x y z s
  | .stepArmSeal n x y => Sys2Proof.Machine.execStepArmSeal n x y s
  | .stepArmCancel n x y => Sys2Proof.Machine.execStepArmCancel n x y s
  | .stepArmStatus n x y => Sys2Proof.Machine.execStepArmStatus n x y s
  | .waitLocal n x y z => Sys2Proof.Machine.execWaitLocal n x y z s
  | .waitMains n x y z => Sys2Proof.Machine.execWaitMains n x y z s
  | .waitLine n x z w => Sys2Proof.Machine.execWaitLine n x z w s
  | .waitEvent n x z mask => Sys2Proof.Machine.execWaitEvent n x z mask s
  | .waitSignal n x z => Sys2Proof.Machine.execWaitSignal n x z s
  | .waitTimeout n => Sys2Proof.Machine.execWaitTimeout n s
  | .statPull n x y z units wait => Sys2Proof.Machine.execStatPull n x y z units wait s
  | .qfPut n x y flags => Sys2Proof.Machine.execQfPut n x y flags s
  | .writeBufferDrain n j => Sys2Proof.Machine.execWriteBufferDrain n j s
  | .fxStart m => Sys2Proof.Machine.execFxStart m s
  | .fxStop m => Sys2Proof.Machine.execFxStop m s
  | .fxStopDrain m => Sys2Proof.Machine.execFxStopDrain m s
  | .fxDrainComplete n => Sys2Proof.Machine.execFxDrainComplete n s
  | .fxDbgDataAccess ag v => Sys2Proof.Machine.execFxDbgDataAccess ag v s
  | .ringEnable n v => Sys2Proof.Machine.execRingEnable n v s
  | .foxMigrateSwitch => Sys2Proof.Machine.execFoxMigrateSwitch s
  | .foxMigrateCopyDone => Sys2Proof.Machine.execFoxMigrateCopyDone s
  | .tempEvaluate => Sys2Proof.Machine.execTempEvaluate s
  | .denReqTake => Sys2Proof.Machine.execDenReqTake s
  | .domainMinGap d => Sys2Proof.Machine.execDomainMinGap d s
  | .domainRunStart d => Sys2Proof.Machine.execDomainRunStart d s
  | .domainRunEnd d m => Sys2Proof.Machine.execDomainRunEnd d m s
  | .windowDecision w => Sys2Proof.Machine.execWindowDecision w s
  | .wCfgWrite w v => Sys2Proof.Machine.execWCfgWrite w v s
  | .wThrWrite w v => Sys2Proof.Machine.execWThrWrite w v s
  | .latchClear j v => Sys2Proof.Machine.execLatchClear j v s
  | .owlArm w => Sys2Proof.Machine.execOwlArm w s
  | .owlDisarm w => Sys2Proof.Machine.execOwlDisarm w s
  | .suspendEnd w v => Sys2Proof.Machine.execSuspendEnd w v s
  | .selfCheckTie c => Sys2Proof.Machine.execSelfCheckTie c s
  | .selfCheckSwap swapped normal => Sys2Proof.Machine.execSelfCheckSwap swapped normal s
  | .selfCheckEnd => Sys2Proof.Machine.execSelfCheckEnd s
  | .autoVisit => Sys2Proof.Machine.execAutoVisit s
  | .macroRead m a n ce bad => Sys2Proof.Machine.execMacroRead m a n ce bad s
  | .macroWrite m a bs err => Sys2Proof.Machine.execMacroWrite m a bs err s
  | .macroStatus m => Sys2Proof.Machine.execMacroStatus m s
  | .macroReset m => Sys2Proof.Machine.execMacroReset m s
  | .macroIdent m => Sys2Proof.Machine.execMacroIdent m s
  | .journalAppend => Sys2Proof.Machine.execJournalAppend s
  | .commitBegin => Sys2Proof.Machine.execCommitBegin s
  | .commitDone ended => Sys2Proof.Machine.execCommitDone ended s
  | .restore => Sys2Proof.Machine.execRestore s
  | .configItemWrite it v => Sys2Proof.Machine.execConfigItemWrite it v s
  | .wearFlush => Sys2Proof.Machine.execWearFlush s
  | .wearForecast => Sys2Proof.Machine.execWearForecast s
  | .retentionUpdate => Sys2Proof.Machine.execRetentionUpdate s
  | .writeDefer => Sys2Proof.Machine.execWriteDefer s
  | .writeResume => Sys2Proof.Machine.execWriteResume s
  | .laneLock j bad => Sys2Proof.Machine.execLaneLock j bad s
  | .laneDown j bad clock => Sys2Proof.Machine.execLaneDown j bad clock s
  | .linkTrain d trip turn => Sys2Proof.Machine.execLinkTrain d trip turn s
  | .plyRetrain v => Sys2Proof.Machine.execPlyRetrain v s
  | .statPacket ws valid => Sys2Proof.Machine.execStatPacket ws valid s
  | .streamEnable k v => Sys2Proof.Machine.execStreamEnable k v s
  | .outboundSend q => Sys2Proof.Machine.execOutboundSend q s
  | .repeatFrame p n w => Sys2Proof.Machine.execRepeat p n w s
  | .nopFrame p op n w => Sys2Proof.Machine.execNopFrame p op n w s
  | .status p n w => Sys2Proof.Machine.execStatus p n w s
  | .regRd p addr n w => Sys2Proof.Machine.execRegRd p addr n w s
  | .regWr p addr ws w => Sys2Proof.Machine.execRegWr p addr ws w s
  | .memRd p addr n w => Sys2Proof.Machine.execMemRd p addr n w s
  | .memWr p addr ws w => Sys2Proof.Machine.execMemWr p addr ws w s
  | .pktPost p ws w => Sys2Proof.Machine.execPktPost p ws w s
  | .pktFetch p n w => Sys2Proof.Machine.execPktFetch p n w s
  | .fmtSet p n v w => Sys2Proof.Machine.execFmtSet p n v w s
  | .fmtRecover p => Sys2Proof.Machine.execFmtRecover p s
  | .selTimeout p op clocked => Sys2Proof.Machine.execSelTimeout p op clocked s
  | .replyReady p => Sys2Proof.Machine.execReplyReady p s
  | .attnPulseEnd p => Sys2Proof.Machine.execAttnPulseEnd p s
  | .packetAck h => Sys2Proof.Machine.execPacketAck h s
  | .packetTimeout h => Sys2Proof.Machine.execPacketTimeout h s
  | .ping h => Sys2Proof.Machine.execPing h s
  | .claim h => Sys2Proof.Machine.execClaim h s
  | .discard h => Sys2Proof.Machine.execDiscard h s
  | .ident h => Sys2Proof.Machine.execIdent h s
  | .configSave h => Sys2Proof.Machine.execConfigSave h s
  | .itemRead h => Sys2Proof.Machine.execItemRead h s
  | .itemWrite h => Sys2Proof.Machine.execItemWrite h s
  | .spindleCmd h => Sys2Proof.Machine.execSpindleCmd h s
  | .fifoRead h => Sys2Proof.Machine.execFifoRead h s
  | .migrate h => Sys2Proof.Machine.execMigrate h s
  | .migrateCancel h => Sys2Proof.Machine.execMigrateCancel h s
  | .seqLoad h => Sys2Proof.Machine.execSeqLoad h s
  | .foxLoad h => Sys2Proof.Machine.execFoxLoad h s
  | .nodeWrite h => Sys2Proof.Machine.execNodeWrite h s
  | .nodeIncr h => Sys2Proof.Machine.execNodeIncr h s
  | .nodeRead h => Sys2Proof.Machine.execNodeRead h s
  | .sense h => Sys2Proof.Machine.execSense h s
  | .stepPktOpen h => Sys2Proof.Machine.execStepPktOpen h s
  | .stepPktArm h => Sys2Proof.Machine.execStepPktArm h s
  | .stepPktSeal h => Sys2Proof.Machine.execStepPktSeal h s
  | .stepPktCancel h => Sys2Proof.Machine.execStepPktCancel h s
  | .stepPktStatus h => Sys2Proof.Machine.execStepPktStatus h s
  | .oneshot h => Sys2Proof.Machine.execOneshot h s
  | .hubStatusPacket h => Sys2Proof.Machine.execHubStatusPacket h s
  | .calRun h => Sys2Proof.Machine.execCalRun h s
  | .domainSet h => Sys2Proof.Machine.execDomainSet h s
  | .domainGet h => Sys2Proof.Machine.execDomainGet h s
  | .domainStatus h => Sys2Proof.Machine.execDomainStatus h s
  | .paramSet h => Sys2Proof.Machine.execParamSet h s
  | .calSetup h => Sys2Proof.Machine.execCalSetup h s
  | .foxCmd h => Sys2Proof.Machine.execFoxCmd h s
  | .imageRestore h => Sys2Proof.Machine.execImageRestore h s
  | .domainRestore h => Sys2Proof.Machine.execDomainRestore h s
  | .commit h => Sys2Proof.Machine.execCommit h s
  | .keepNodes h => Sys2Proof.Machine.execKeepNodes h s
  | .hoardRead h => Sys2Proof.Machine.execHoardRead h s
  | .trailRead h => Sys2Proof.Machine.execTrailRead h s
  | .trailClear h => Sys2Proof.Machine.execTrailClear h s
  | .figureRead h => Sys2Proof.Machine.execFigureRead h s
  | .countersRead h => Sys2Proof.Machine.execCountersRead h s
  | .fwBegin h => Sys2Proof.Machine.execFwBegin h s
  | .fwData h => Sys2Proof.Machine.execFwData h s
  | .fwCheck h => Sys2Proof.Machine.execFwCheck h s
  | .fwActivate h => Sys2Proof.Machine.execFwActivate h s
  | .guardArm h => Sys2Proof.Machine.execGuardArm h s
  | .guardStore h => Sys2Proof.Machine.execGuardStore h s
  | .memFill h => Sys2Proof.Machine.execMemFill h s
  | .frmMode h => Sys2Proof.Machine.execFrmMode h s
  | .frmLoadFox h => Sys2Proof.Machine.execFrmLoadFox h s
  | .frmLoadSeq h => Sys2Proof.Machine.execFrmLoadSeq h s
  | .frmNodes h => Sys2Proof.Machine.execFrmNodes h s
  | .loopback h => Sys2Proof.Machine.execLoopback h s
  | .eventInject h => Sys2Proof.Machine.execEventInject h s
  | .bearRestart cause => Sys2Proof.Machine.execBearRestart cause s
  | .bootSelect => Sys2Proof.Machine.execBootSelect s
  | .fwConfirm => Sys2Proof.Machine.execFwConfirm s
  | .wdtKick ag v => Sys2Proof.Machine.execWdtKick ag v s
  | .wdtExpire => Sys2Proof.Machine.execWdtExpire s
  | .sensorSample l => Sys2Proof.Machine.execSensorSample l s
  | .sensorScan l => Sys2Proof.Machine.execSensorScan l s
  | .eventRaise src d => Sys2Proof.Machine.execEventRaise src d s
  | .intervalEnd => Sys2Proof.Machine.execIntervalEnd s
  | .evPendClear ag h j v => Sys2Proof.Machine.execEvPendClear ag h j v s
  | .evBudgetWrite p v => Sys2Proof.Machine.execEvBudgetWrite p v s
  | .evFwraise ag v => Sys2Proof.Machine.execEvFwraise ag v s
  | .evCntRead ag => Sys2Proof.Machine.execEvCntRead ag s
  | .trailWrite => Sys2Proof.Machine.execTrailWrite s
  | .trailScan => Sys2Proof.Machine.execTrailScan s
  | .windowClassChange w v => Sys2Proof.Machine.execWindowClassChange w v s

end Sys2Proof.Machine
end

