-- ==== Sys2Proof/Machine/FoxWord.lean ====
section
/-! DEFINITION. The words of the Fox instructions (R247, Tables 10.2–10.9): the word of each command that issues one, and
the command that a word issues. -/

namespace Sys2Proof.Machine

/-- The engine and the word of a command that issues an instruction; none for every other command. -/
def foxWord (i : Instr) : Option (Fin 16 × Word) :=
  match i with
  | .halt n => some (n, encR 0x00 0 0 0 0)
  | .nop n => some (n, encR 0x00 0 0 0 1)
  | .sync n => some (n, encR 0x00 0 0 0 2)
  | .gets n x k => some (n, encR 0x00 x 0 0 (3 + 256 * k))
  | .tempRd n x k => some (n, encR 0x00 x 0 0 (4 + 256 * k))
  | .add n x y z => some (n, encR 0x01 x y z 0)
  | .sub n x y z => some (n, encR 0x01 x y z 1)
  | .and n x y z => some (n, encR 0x01 x y z 2)
  | .or n x y z => some (n, encR 0x01 x y z 3)
  | .xor n x y z => some (n, encR 0x01 x y z 4)
  | .shl n x y z => some (n, encR 0x01 x y z 5)
  | .shr n x y z => some (n, encR 0x01 x y z 6)
  | .sar n x y z => some (n, encR 0x01 x y z 7)
  | .lt n x y z => some (n, encR 0x01 x y z 8)
  | .ltu n x y z => some (n, encR 0x01 x y z 9)
  | .mul n x y z => some (n, encR 0x01 x y z 10)
  | .mulhs n x y z => some (n, encR 0x01 x y z 11)
  | .min n x y z => some (n, encR 0x01 x y z 12)
  | .max n x y z => some (n, encR 0x01 x y z 13)
  | .div n x y z => some (n, encR 0x01 x y z 14)
  | .addk n x y imm => some (n, encI 0x02 x y imm.toNat)
  | .andk n x y imm => some (n, encI 0x03 x y imm.toNat)
  | .ork n x y imm => some (n, encI 0x04 x y imm.toNat)
  | .xork n x y imm => some (n, encI 0x05 x y imm.toNat)
  | .shiftk n x y imm => some (n, encI 0x06 x y imm.toNat)
  | .ltk n x y imm => some (n, encI 0x07 x y imm.toNat)
  | .highk n x imm => some (n, encL 0x08 x imm.toNat)
  | .load32 n x y imm => some (n, encI 0x10 x y imm.toNat)
  | .load16s n x y imm => some (n, encI 0x11 x y imm.toNat)
  | .load16u n x y imm => some (n, encI 0x12 x y imm.toNat)
  | .load8s n x y imm => some (n, encI 0x13 x y imm.toNat)
  | .load8u n x y imm => some (n, encI 0x14 x y imm.toNat)
  | .store32 n x y imm => some (n, encI 0x15 x y imm.toNat)
  | .store16 n x y imm => some (n, encI 0x16 x y imm.toNat)
  | .store8 n x y imm => some (n, encI 0x17 x y imm.toNat)
  | .vload n x y imm => some (n, encI 0x18 x y imm.toNat)
  | .vstore n x y imm => some (n, encI 0x19 x y imm.toNat)
  | .ifeq n x y imm => some (n, encI 0x20 x y imm.toNat)
  | .ifne n x y imm => some (n, encI 0x21 x y imm.toNat)
  | .iflt n x y imm => some (n, encI 0x22 x y imm.toNat)
  | .ifge n x y imm => some (n, encI 0x23 x y imm.toNat)
  | .iflo n x y imm => some (n, encI 0x24 x y imm.toNat)
  | .ifhs n x y imm => some (n, encI 0x25 x y imm.toNat)
  | .call n x imm => some (n, encL 0x26 x imm.toNat)
  | .callr n x y imm => some (n, encI 0x27 x y imm.toNat)
  | .vadd n x y z => some (n, encR 0x30 x y z 0)
  | .vsub n x y z => some (n, encR 0x30 x y z 1)
  | .vadds n x y z => some (n, encR 0x30 x y z 2)
  | .vsubs n x y z => some (n, encR 0x30 x y z 3)
  | .vmul n x y z => some (n, encR 0x30 x y z 4)
  | .vmulq n x y z => some (n, encR 0x30 x y z 5)
  | .vmin n x y z => some (n, encR 0x30 x y z 6)
  | .vmax n x y z => some (n, encR 0x30 x y z 7)
  | .vand n x y z => some (n, encR 0x30 x y z 8)
  | .vor n x y z => some (n, encR 0x30 x y z 9)
  | .vxor n x y z => some (n, encR 0x30 x y z 10)
  | .vclt n x y z => some (n, encR 0x30 x y z 11)
  | .vceq n x y z => some (n, encR 0x30 x y z 12)
  | .vsel n x y z => some (n, encR 0x30 x y z 13)
  | .vsar n x y z => some (n, encR 0x30 x y z 14)
  | .vshl n x y z => some (n, encR 0x30 x y z 15)
  | .vsplat n x y => some (n, encR 0x30 x y 0 16)
  | .vext n x y z => some (n, encR 0x30 x y z 17)
  | .vins n x y z => some (n, encR 0x30 x y z 18)
  | .vsum n x y => some (n, encR 0x30 x y 0 19)
  | .vidx n x => some (n, encR 0x30 x 0 0 20)
  | .vclamp n x y z => some (n, encR 0x30 x y z 21)
  | .amac n x y z => some (n, encR 0x31 x y z 0)
  | .amsu n x y z => some (n, encR 0x31 x y z 1)
  | .amul n x y z => some (n, encR 0x31 x y z 2)
  | .aclr n x => some (n, encR 0x31 x 0 0 3)
  | .aaddv n x y => some (n, encR 0x31 x y 0 4)
  | .aldv n x y => some (n, encR 0x31 x y 0 5)
  | .amacs n x y z => some (n, encR 0x31 x y z 6)
  | .aout n x y z => some (n, encR 0x31 x y z 7)
  | .asum n x y z => some (n, encR 0x31 x y z 8)
  | .nodeWr n x y => some (n, encR 0x38 x y 0 0)
  | .nodeInc n x y => some (n, encR 0x38 x y 0 1)
  | .nodeWrv n x y z lanes => some (n, encR 0x38 x y z (2 + 16 * lanes))
  | .nodeIncv n x y z lanes => some (n, encR 0x38 x y z (3 + 16 * lanes))
  | .nodeRd n x y shadow => some (n, encR 0x38 x y 0 (4 + 8 * shadow.toNat))
  | .nodeSense n x y release => some (n, encR 0x38 x y 0 (5 + 8 * release.toNat))
  | .nodeFence n x => some (n, encR 0x38 x 0 0 6)
  | .stepArmOpen n x y z tb => some (n, encR 0x39 x y z (8 * tb))
  | .stepArmArm n x y z => some (n, encR 0x39 x y z 1)
  | .stepArmSeal n x y => some (n, encR 0x39 x y 0 2)
  | .stepArmCancel n x y => some (n, encR 0x39 x y 0 3)
  | .stepArmStatus n x y => some (n, encR 0x39 x y 0 4)
  | .waitLocal n x y z => some (n, encR 0x3A x y z 0)
  | .waitMains n x y z => some (n, encR 0x3A x y z 1)
  | .waitLine n x z w => some (n, encR 0x3A x 0 z (2 + 8 * w))
  | .waitEvent n x z mask => some (n, encR 0x3A x 0 z (3 + 32 * mask.toNat))
  | .waitSignal n x z => some (n, encR 0x3A x 0 z 4)
  | .statPull n x y z units wait => some (n, encR 0x3B x y z (units + 1024 * wait.toNat))
  | .qfPut n x y flags => some (n, encR 0x3C x y 0 flags)
  | _ => none

/-- SYS, OP 0x00. -/
def sysOf (n x : Fin 16) (fn : Nat) : Option Instr :=
  match fn % 256 with
  | 0 => some (.halt n)
  | 1 => some (.nop n)
  | 2 => some (.sync n)
  | 3 => some (.gets n x (Fin.ofNat 64 (fn / 256)))
  | 4 => some (.tempRd n x (Fin.ofNat 64 (fn / 256)))
  | _ => none

/-- Scalar register operations, OP 0x01. -/
def scalarOf (n x y z : Fin 16) (fn : Nat) : Option Instr :=
  match fn with
  | 0 => some (.add n x y z)
  | 1 => some (.sub n x y z)
  | 2 => some (.and n x y z)
  | 3 => some (.or n x y z)
  | 4 => some (.xor n x y z)
  | 5 => some (.shl n x y z)
  | 6 => some (.shr n x y z)
  | 7 => some (.sar n x y z)
  | 8 => some (.lt n x y z)
  | 9 => some (.ltu n x y z)
  | 10 => some (.mul n x y z)
  | 11 => some (.mulhs n x y z)
  | 12 => some (.min n x y z)
  | 13 => some (.max n x y z)
  | 14 => some (.div n x y z)
  | _ => none

/-- Vector operations, OP 0x30. -/
def vectorOf (n x y z : Fin 16) (fn : Nat) : Option Instr :=
  match fn with
  | 0 => some (.vadd n x y z)
  | 1 => some (.vsub n x y z)
  | 2 => some (.vadds n x y z)
  | 3 => some (.vsubs n x y z)
  | 4 => some (.vmul n x y z)
  | 5 => some (.vmulq n x y z)
  | 6 => some (.vmin n x y z)
  | 7 => some (.vmax n x y z)
  | 8 => some (.vand n x y z)
  | 9 => some (.vor n x y z)
  | 10 => some (.vxor n x y z)
  | 11 => some (.vclt n x y z)
  | 12 => some (.vceq n x y z)
  | 13 => some (.vsel n x y z)
  | 14 => some (.vsar n x y z)
  | 15 => some (.vshl n x y z)
  | 16 => some (.vsplat n x y)
  | 17 => some (.vext n x y z)
  | 18 => some (.vins n x y z)
  | 19 => some (.vsum n x y)
  | 20 => some (.vidx n x)
  | 21 => some (.vclamp n x y z)
  | _ => none

/-- Accumulator operations, OP 0x31. -/
def accOf (n x y z : Fin 16) (fn : Nat) : Option Instr :=
  match fn with
  | 0 => some (.amac n x y z)
  | 1 => some (.amsu n x y z)
  | 2 => some (.amul n x y z)
  | 3 => some (.aclr n x)
  | 4 => some (.aaddv n x y)
  | 5 => some (.aldv n x y)
  | 6 => some (.amacs n x y z)
  | 7 => some (.aout n x y z)
  | 8 => some (.asum n x y z)
  | _ => none

/-- NODE, OP 0x38. -/
def nodeOf (n x y z : Fin 16) (fn : Nat) : Option Instr :=
  match fn % 8 with
  | 0 => some (.nodeWr n x y)
  | 1 => some (.nodeInc n x y)
  | 2 => some (.nodeWrv n x y z (Fin.ofNat 16 (fn / 16)))
  | 3 => some (.nodeIncv n x y z (Fin.ofNat 16 (fn / 16)))
  | 4 => some (.nodeRd n x y (bitOf fn 3))
  | 5 => some (.nodeSense n x y (bitOf fn 3))
  | 6 => some (.nodeFence n x)
  | _ => none

/-- STEP.ARM, OP 0x39. -/
def stepOf (n x y z : Fin 16) (fn : Nat) : Option Instr :=
  match fn % 8 with
  | 0 => some (.stepArmOpen n x y z (Fin.ofNat 8 (fn / 8)))
  | 1 => some (.stepArmArm n x y z)
  | 2 => some (.stepArmSeal n x y)
  | 3 => some (.stepArmCancel n x y)
  | 4 => some (.stepArmStatus n x y)
  | _ => none

/-- WAIT, OP 0x3A. -/
def waitOf (n x y z : Fin 16) (fn : Nat) : Option Instr :=
  match fn % 8 with
  | 0 => some (.waitLocal n x y z)
  | 1 => some (.waitMains n x y z)
  | 2 => some (.waitLine n x z (Fin.ofNat 4 (fn / 8)))
  | 3 => some (.waitEvent n x z (BitVec.ofNat 8 (fn / 32)))
  | 4 => some (.waitSignal n x z)
  | _ => none

/-- The command by which engine `n` issues the word `w`; none for a word that is no instruction. -/
def foxCommand (n : Fin 16) (w : Word) : Option Instr :=
  if !foxLegal w then none
  else
    let x : Fin 16 := Fin.ofNat 16 (bitsOf w 25 22)
    let y : Fin 16 := Fin.ofNat 16 (bitsOf w 21 18)
    let z : Fin 16 := Fin.ofNat 16 (bitsOf w 17 14)
    let fn := bitsOf w 13 0
    match bitsOf w 31 26 with
    | 0x00 => sysOf n x fn
    | 0x01 => scalarOf n x y z fn
    | 0x02 => some (.addk n x y (w.extractLsb' 0 18))
    | 0x03 => some (.andk n x y (w.extractLsb' 0 18))
    | 0x04 => some (.ork n x y (w.extractLsb' 0 18))
    | 0x05 => some (.xork n x y (w.extractLsb' 0 18))
    | 0x06 => some (.shiftk n x y (w.extractLsb' 0 18))
    | 0x07 => some (.ltk n x y (w.extractLsb' 0 18))
    | 0x08 => some (.highk n x (w.extractLsb' 0 22))
    | 0x10 => some (.load32 n x y (w.extractLsb' 0 18))
    | 0x11 => some (.load16s n x y (w.extractLsb' 0 18))
    | 0x12 => some (.load16u n x y (w.extractLsb' 0 18))
    | 0x13 => some (.load8s n x y (w.extractLsb' 0 18))
    | 0x14 => some (.load8u n x y (w.extractLsb' 0 18))
    | 0x15 => some (.store32 n x y (w.extractLsb' 0 18))
    | 0x16 => some (.store16 n x y (w.extractLsb' 0 18))
    | 0x17 => some (.store8 n x y (w.extractLsb' 0 18))
    | 0x18 => some (.vload n x y (w.extractLsb' 0 18))
    | 0x19 => some (.vstore n x y (w.extractLsb' 0 18))
    | 0x20 => some (.ifeq n x y (w.extractLsb' 0 18))
    | 0x21 => some (.ifne n x y (w.extractLsb' 0 18))
    | 0x22 => some (.iflt n x y (w.extractLsb' 0 18))
    | 0x23 => some (.ifge n x y (w.extractLsb' 0 18))
    | 0x24 => some (.iflo n x y (w.extractLsb' 0 18))
    | 0x25 => some (.ifhs n x y (w.extractLsb' 0 18))
    | 0x26 => some (.call n x (w.extractLsb' 0 22))
    | 0x27 => some (.callr n x y (w.extractLsb' 0 18))
    | 0x30 => vectorOf n x y z fn
    | 0x31 => accOf n x y z fn
    | 0x38 => nodeOf n x y z fn
    | 0x39 => stepOf n x y z fn
    | 0x3A => waitOf n x y z fn
    | 0x3B => some (.statPull n x y z (Fin.ofNat 1024 fn) (bitOf fn 10))
    | 0x3C => some (.qfPut n x y (Fin.ofNat 256 fn))
    | _ => none

end Sys2Proof.Machine
end

