-- ==== Sys2Proof/WellFormed.lean ====
section
/-! DEFINITION. Which commands are well formed: those whose operands name something that exists and have the shape that
the command's rule gives it. The meanings hold for every operand; what an ill-formed one does is not the spec's. -/

namespace Sys2Proof

open Machine

/-- Registers that name vectors: an engine has eight (R241). -/
def vecs (l : List (Fin 16)) : Bool := l.all (fun x => decide (x < 8))

/-- Registers that name accumulators: an engine has four (R241). -/
def accs (l : List (Fin 16)) : Bool := l.all (fun x => decide (x < 4))

/-- The command is well formed. -/
def Instr.wf : Instr → Bool
  | .coldReset => true
  | .powerGood => true
  | .coreLoss => true
  | .coreReturn => true
  | .pwrOffWrite _ _ => true
  | .supplyExcursion _ _ _ => true
  | .supplyRecovered _ _ => true
  | .clockFault _ => true
  | .clockFaultEnd _ => true
  | .governorEvaluate fox pos => decide (fox ≤ 48000000) && decide (1000 * pos ≤ 1476562500)
  | .aonSensorSample _ _ => true
  | .ssReset _ => true
  | .subsystemResetComplete _ => true
  | .rstHonouredLow => true
  | .rstRelease => true
  | .stuckReset => true
  | .rstHigh10ms => true
  | .extest _ _ _ _ => true
  | .sample _ => true
  | .preload _ => true
  | .idcode => true
  | .clamp _ _ => true
  | .highz _ _ => true
  | .bypass => true
  | .testLogicReset => true
  | .registerWrite _ a _ => a.val % 4 == 0
  | .readLoCapture _ a => a.val % 4 == 0
  | .lineBlock _ => true
  | .markerMissing _ => true
  | .lineCtlWrite _ _ => true
  | .qwPacket ws _ => ws != []
  | .tonePacket ws _ => ws != []
  | .mainsEdge => true
  | .mainsCycleMissing => true
  | .mainsCtlWrite _ => true
  | .mainsPhaseOfsWrite _ => true
  | .snap => true
  | .schCtlWrite _ _ => true
  | .schTimeWrite _ _ _ => true
  | .schedFire _ => true
  | .xbLineRetry => true
  | .xbPinWrite _ _ => true
  | .xbPinApply _ => true
  | .owPrecheckStart _ => true
  | .owPrecheckSample _ _ _ => true
  | .settleEnd _ => true
  | .inputOverrange _ _ => true
  | .clampConduct _ => true
  | .refOkFall _ => true
  | .refOkRise _ => true
  | .refSelWrite _ _ => true
  | .refSwitchSettled _ => true
  | .refCtlWrite _ => true
  | .fineQclkWrite _ _ => true
  | .fineClockSwitch _ => true
  | .fineSamplingStart _ => true
  | .swiftSamplingStart _ => true
  | .groupEdge _ _ => true
  | .fineResult _ _ ms => ms != []
  | .swiftResult _ _ ms => ms != []
  | .fineCalreqGo _ _ => true
  | .fineCalStart _ => true
  | .fineCalDone _ ms => ms != []
  | .swiftCalreqGo _ _ => true
  | .swiftCalStart _ => true
  | .swiftCalDone _ ms => ms != []
  | .ncoLoad _ => true
  | .ncoFreqWrite _ _ => true
  | .filtCoefDataAccess _ _ => true
  | .spStart _ => true
  | .spStartOnce _ => true
  | .spStopPass _ => true
  | .spStopNow _ => true
  | .runStart _ => true
  | .seqIdxWrite _ _ => true
  | .seqDataAccess _ _ => true
  | .spCfgWrite _ _ => true
  | .tgFire _ => true
  | .spUrgent _ => true
  | .urgentRegister _ => true
  | .entryRestart _ => true
  | .fifoEnable _ _ => true
  | .fifoRpWrite _ _ => true
  | .fifoNoticeClear _ _ => true
  | .migrateSwitch _ => true
  | .frmBankChange _ => true
  | .idle t h => hubExists t h
  | .writeShadow t h _ _ => hubExists t h
  | .writeShadowIncr t h _ _ => hubExists t h
  | .readShadow t h _ _ => hubExists t h
  | .readActive t h _ _ => hubExists t h
  | .copyActiveToShadow t h _ _ => hubExists t h
  | .stepArm t h _ _ => hubExists t h
  | .stepFire t h _ => hubExists t h
  | .senseSelect t h _ _ => hubExists t h
  | .senseRelease _ => true
  | .hubStatus t h _ _ => hubExists t h
  | .holdSilent t h => hubExists t h
  | .releaseSilent t h => hubExists t h
  | .trainAlign t h _ _ => hubExists t h
  | .trainFlight t h _ => hubExists t h
  | .trainLimit t h _ _ _ _ => hubExists t h
  | .fwdCheckFail t (h, _, _) => hubExists t h
  | .hubMarkerReceive t h _ => hubExists t h
  | .hubFire t h => hubExists t h
  | .hubMarkerTimeout t h => hubExists t h
  | .markerForm _ => true
  | .whorlDecide _ _ => true
  | .whorlWithdraw _ _ => true
  | .maskAssert _ => true
  | .slotReceive t h _ _ _ _ => hubExists t h
  | .slotMissing t h => hubExists t h
  | .replyTimeout t h _ => hubExists t h
  | .stepReportTimeout _ t h => hubExists t h
  | .stepOpen _ _ _ => true
  | .stepOpenComplete _ => true
  | .stepSeal _ _ _ => true
  | .stepCancel _ _ _ => true
  | .stepExpire _ => true
  | .hubRelease _ => true
  | .hubRetrain _ => true
  | .hubQuarantine _ => true
  | .quarantineAutoRelease t h => hubExists t h
  | .trainingComplete t h _ _ => hubExists t h
  | .partnerDiePowerLoss _ => true
  | .partnerDiePowerUp _ => true
  | .partnerRestore _ => true
  | .taintRecovery t h => hubExists t h
  | .trkEnWrite _ => true
  | .kindWrite _ _ _ => true
  | .kmapDataAccess _ _ => true
  | .swap _ => true
  | .tableSwap _ => true
  | .whTdataAccess _ _ => true
  | .whRdataAccess _ _ => true
  | .watchClear _ _ => true
  | .halt _ => true
  | .nop _ => true
  | .sync _ => true
  | .gets _ _ k => decide (k ≤ 5) || (decide (8 ≤ k) && decide (k ≤ 11))
  | .tempRd _ _ _ => true
  | .add _ _ _ _ => true
  | .sub _ _ _ _ => true
  | .and _ _ _ _ => true
  | .or _ _ _ _ => true
  | .xor _ _ _ _ => true
  | .shl _ _ _ _ => true
  | .shr _ _ _ _ => true
  | .sar _ _ _ _ => true
  | .lt _ _ _ _ => true
  | .ltu _ _ _ _ => true
  | .mul _ _ _ _ => true
  | .mulhs _ _ _ _ => true
  | .min _ _ _ _ => true
  | .max _ _ _ _ => true
  | .div _ _ _ _ => true
  | .addk _ _ _ _ => true
  | .andk _ _ _ _ => true
  | .ork _ _ _ _ => true
  | .xork _ _ _ _ => true
  | .shiftk _ _ _ imm => bitsOf imm 17 7 == 0 && bitsOf imm 6 5 != 3
  | .ltk _ _ _ _ => true
  | .highk _ _ _ => true
  | .load32 _ _ _ _ => true
  | .load16s _ _ _ _ => true
  | .load16u _ _ _ _ => true
  | .load8s _ _ _ _ => true
  | .load8u _ _ _ _ => true
  | .store32 _ _ _ _ => true
  | .store16 _ _ _ _ => true
  | .store8 _ _ _ _ => true
  | .vload _ x _ _ => vecs [x]
  | .vstore _ x _ _ => vecs [x]
  | .ifeq _ _ _ _ => true
  | .ifne _ _ _ _ => true
  | .iflt _ _ _ _ => true
  | .ifge _ _ _ _ => true
  | .iflo _ _ _ _ => true
  | .ifhs _ _ _ _ => true
  | .call _ _ _ => true
  | .callr _ _ _ _ => true
  | .vadd _ x y z => vecs [x, y, z]
  | .vsub _ x y z => vecs [x, y, z]
  | .vadds _ x y z => vecs [x, y, z]
  | .vsubs _ x y z => vecs [x, y, z]
  | .vmul _ x y z => vecs [x, y, z]
  | .vmulq _ x y z => vecs [x, y, z]
  | .vmin _ x y z => vecs [x, y, z]
  | .vmax _ x y z => vecs [x, y, z]
  | .vand _ x y z => vecs [x, y, z]
  | .vor _ x y z => vecs [x, y, z]
  | .vxor _ x y z => vecs [x, y, z]
  | .vclt _ x y z => vecs [x, y, z]
  | .vceq _ x y z => vecs [x, y, z]
  | .vsel _ x y z => vecs [x, y, z]
  | .vsar _ x y _ => vecs [x, y]
  | .vshl _ x y _ => vecs [x, y]
  | .vsplat _ x _ => vecs [x]
  | .vext _ _ y _ => vecs [y]
  | .vins _ x _ _ => vecs [x]
  | .vsum _ _ y => vecs [y]
  | .vidx _ x => vecs [x]
  | .vclamp _ x y z => vecs [x, y, z]
  | .amac _ x y z => accs [x] && vecs [y, z]
  | .amsu _ x y z => accs [x] && vecs [y, z]
  | .amul _ x y z => accs [x] && vecs [y, z]
  | .aclr _ x => accs [x]
  | .aaddv _ x y => accs [x] && vecs [y]
  | .aldv _ x y => accs [x] && vecs [y]
  | .amacs _ x y _ => accs [x] && vecs [y]
  | .aout _ x y _ => vecs [x] && accs [y]
  | .asum _ _ y _ => accs [y]
  | .nodeWr _ _ _ => true
  | .nodeInc _ _ _ => true
  | .nodeWrv _ _ y _ _ => vecs [y]
  | .nodeIncv _ _ y _ _ => vecs [y]
  | .nodeRd _ _ _ _ => true
  | .nodeSense _ _ _ _ => true
  | .nodeFence _ _ => true
  | .nodeCompletion _ => true
  | .stepArmOpen _ _ _ z tb => if tb = 0 then z.val % 2 == 0 else z == 0
  | .stepArmArm _ _ _ _ => true
  | .stepArmSeal _ _ _ => true
  | .stepArmCancel _ _ _ => true
  | .stepArmStatus _ _ _ => true
  | .waitLocal _ _ y _ => isPair y
  | .waitMains _ _ y _ => isPair y
  | .waitLine _ _ _ _ => true
  | .waitEvent _ _ _ _ => true
  | .waitSignal _ _ _ => true
  | .waitTimeout _ => true
  | .statPull _ _ _ _ _ _ => true
  | .qfPut _ _ _ _ => true
  | .writeBufferDrain _ _ => true
  | .fxStart _ => true
  | .fxStop _ => true
  | .fxStopDrain _ => true
  | .fxDrainComplete _ => true
  | .fxDbgDataAccess _ _ => true
  | .ringEnable _ _ => true
  | .foxMigrateSwitch => true
  | .foxMigrateCopyDone => true
  | .tempEvaluate => true
  | .denReqTake => true
  | .domainMinGap _ => true
  | .domainRunStart _ => true
  | .domainRunEnd _ _ => true
  | .windowDecision _ => true
  | .wCfgWrite _ _ => true
  | .wThrWrite _ _ => true
  | .latchClear _ _ => true
  | .owlArm _ => true
  | .owlDisarm _ => true
  | .suspendEnd _ _ => true
  | .selfCheckTie c => c != 0
  | .selfCheckSwap swapped normal => swapped != 0 && normal != 0
  | .selfCheckEnd => true
  | .autoVisit => true
  | .macroRead _ a n ce bad => spanOk a n && decide (32 * ce ≤ n) && bad.all (fun i => decide (32 * i < n))
  | .macroWrite _ a bs _ => spanOk a bs.length
  | .macroStatus _ => true
  | .macroReset _ => true
  | .macroIdent _ => true
  | .journalAppend => true
  | .commitBegin => true
  | .commitDone .. => true
  | .restore => true
  | .configItemWrite it v => it != 0 && decide (v.length ≤ 65535)
  | .wearFlush => true
  | .wearForecast => true
  | .retentionUpdate => true
  | .writeDefer => true
  | .writeResume => true
  | .laneLock _ _ => true
  | .laneDown _ _ _ => true
  | .linkTrain _ _ _ => true
  | .plyRetrain _ => true
  | .statPacket ws _ => ws != []
  | .streamEnable _ _ => true
  | .outboundSend _ => true
  | .repeatFrame _ _ _ => true
  | .nopFrame _ op _ _ => (op == 1 || !frameOpcode op)
  | .status _ _ _ => true
  | .regRd _ _ _ _ => true
  | .regWr _ _ ws _ => decide (ws.length < 65536)
  | .memRd _ _ _ _ => true
  | .memWr _ _ ws _ => decide (ws.length < 65536)
  | .pktPost _ ws _ => decide (ws.length < 65536)
  | .pktFetch _ _ _ => true
  | .fmtSet _ _ _ _ => true
  | .fmtRecover _ => true
  | .selTimeout _ _ _ => true
  | .replyReady _ => true
  | .attnPulseEnd _ => true
  | .packetAck _ => true
  | .packetTimeout _ => true
  | .ping _ => true
  | .claim _ => true
  | .discard _ => true
  | .ident _ => true
  | .configSave _ => true
  | .itemRead _ => true
  | .itemWrite _ => true
  | .spindleCmd _ => true
  | .fifoRead _ => true
  | .migrate _ => true
  | .migrateCancel _ => true
  | .seqLoad _ => true
  | .foxLoad _ => true
  | .nodeWrite _ => true
  | .nodeIncr _ => true
  | .nodeRead _ => true
  | .sense _ => true
  | .stepPktOpen _ => true
  | .stepPktArm _ => true
  | .stepPktSeal _ => true
  | .stepPktCancel _ => true
  | .stepPktStatus _ => true
  | .oneshot _ => true
  | .hubStatusPacket _ => true
  | .calRun _ => true
  | .domainSet _ => true
  | .domainGet _ => true
  | .domainStatus _ => true
  | .paramSet _ => true
  | .calSetup _ => true
  | .foxCmd _ => true
  | .imageRestore _ => true
  | .domainRestore _ => true
  | .commit _ => true
  | .keepNodes _ => true
  | .hoardRead _ => true
  | .trailRead _ => true
  | .trailClear _ => true
  | .figureRead _ => true
  | .countersRead _ => true
  | .fwBegin _ => true
  | .fwData _ => true
  | .fwCheck _ => true
  | .fwActivate _ => true
  | .guardArm _ => true
  | .guardStore _ => true
  | .memFill _ => true
  | .frmMode _ => true
  | .frmLoadFox _ => true
  | .frmLoadSeq _ => true
  | .frmNodes _ => true
  | .loopback _ => true
  | .eventInject _ => true
  | .bearRestart cause => [3, 4, 6].elem cause.val
  | .bootSelect => true
  | .fwConfirm => true
  | .wdtKick _ _ => true
  | .wdtExpire => true
  | .sensorSample l => l.length == 24
  | .sensorScan l => l.length == 36
  | .eventRaise _ d => decide (d < 2 ^ 32)
  | .intervalEnd => true
  | .evPendClear _ _ _ _ => true
  | .evBudgetWrite _ _ => true
  | .evFwraise _ _ => true
  | .evCntRead _ => true
  | .trailWrite => true
  | .trailScan => true
  | .windowClassChange _ _ => true

end Sys2Proof
end

