-- ==== Sys2Proof/Safety.lean ====
section
/-! DEFINITION. What claims speak of: runs whose steps each answer a next state, the effect of one command, and the parts
of the block that a command may change. -/

namespace Sys2Proof

open Machine

/-- The next step answers a next state. -/
def Safe (s : State) : Prop := ∃ t, step s = .next t

/-- `n` steps from `s` each answer a next state, the last of them `t`. -/
def RunsTo : Nat → State → State → Prop
  | 0, s, t => s = t
  | n + 1, s, t => ∃ u, step s = .next u ∧ RunsTo n u t

/-- `t` is reached from `s` by some steps. -/
def Reaches (s t : State) : Prop := ∃ n, RunsTo n s t

/-- Command `c` takes `s` to the state whose block is `b` and whose queue is that of `s`. -/
def Does (c : Instr) (s : State) (b : Block) : Prop := exec c s = .next (s.withBlock b)

/-- Command `c` takes `s` to a state with the queue of `s` and a block of which `P` holds. -/
def Yields (c : Instr) (s : State) (P : Block → Prop) : Prop := ∃ b, exec c s = .next (s.withBlock b) ∧ P b

/-- FX`n` is up, RUNNING and not held by the governor, no register of it is pending, and the instruction at its program counter,
whose check bits find no error, is the word of the well-formed command `c`: it issues `c`. -/
def Issues (c : Instr) (n : Fin 16) (s : State) : Prop :=
  c.wf = true ∧ foxWord c = some (n, s.pmWord n (s.get (Reg.FX_PC_PC n))) ∧ s.fxUp n = true ∧ s.fxState n = 1 ∧
    s.get Reg.WH_GSTATUS_MODE ≠ 2 ∧ (s.engine n).pend = [] ∧ s.pmCheck n (s.get (Reg.FX_PC_PC n)) = 0

/-- Packet `p`, of opcode `op`, is the oldest of host `h`'s hardware lane and starts, no parameter of it out of range; `b` is the
block with the packet running. -/
def Starts (s : State) (h op : Nat) (p : Packet) (b : Block) : Prop := s.startHw h op = some (p, b) ∧ b.stateBad h p = none

/-- The same of the firmware lane. -/
def Taken (s : State) (h op : Nat) (p : Packet) (b : Block) : Prop := s.startFw h op = some (p, b) ∧ b.stateBad h p = none

/-- The same, while the Hoard runs. -/
def Stored (s : State) (h op : Nat) (p : Packet) (b : Block) : Prop := s.hoardUp = true ∧ Taken s h op p b

/-- The newest reply of host `h` is the final reply of packet `p`, which no longer runs. -/
def Replied (b : Block) (h : Nat) (p : Packet) (status detail : Nat) (ue : Bool) (data : List Word) : Prop :=
  (∃ n, (b.host h).ready.getLast? = some ⟨p.tag, replyWords p.header status false false ue detail data, true, false, n⟩) ∧
    ∀ q, q ∈ (b.host h).running → q.tag ≠ p.tag

/-- The parts of the block. -/
inductive Part where
  | regs | hiCap | localCount | free | ev | den | power | tap | time | acq | sett
  | whorl | fox | owl | cmd | ports | mem | ply | hoard | stock | update
  deriving DecidableEq, Repr

/-- A part is the same in both blocks. -/
def Part.same : Part → Block → Block → Prop
  | .regs, s, t => t.regs = s.regs
  | .hiCap, s, t => t.hiCap = s.hiCap
  | .localCount, s, t => t.localCount = s.localCount
  | .free, s, t => t.free = s.free
  | .ev, s, t => t.ev = s.ev
  | .den, s, t => t.den = s.den
  | .power, s, t => t.power = s.power
  | .tap, s, t => t.tap = s.tap
  | .time, s, t => t.time = s.time
  | .acq, s, t => t.acq = s.acq
  | .sett, s, t => t.sett = s.sett
  | .whorl, s, t => t.whorl = s.whorl
  | .fox, s, t => t.fox = s.fox
  | .owl, s, t => t.owl = s.owl
  | .cmd, s, t => t.cmd = s.cmd
  | .ports, s, t => t.ports = s.ports
  | .mem, s, t => t.mem = s.mem
  | .ply, s, t => t.ply = s.ply
  | .hoard, s, t => t.hoard = s.hoard
  | .stock, s, t => t.stock = s.stock
  | .update, s, t => t.update = s.update

/-- The parts of the block that a command may change; the others it leaves as they are. A command's own effect and the events it
raises, the notices of packets and the marks of steps that follow are all counted. -/
def Instr.changes : Instr → List Part
  | .coldReset | .coreLoss
    => [.regs, .hiCap, .localCount, .free, .ev, .den, .power, .tap, .time, .acq, .sett, .whorl, .fox, .owl, .cmd, .ports, .mem, .ply, .hoard, .stock, .update]
  | .powerGood => [.regs, .ev, .den, .power, .acq, .sett, .whorl, .fox, .owl, .cmd, .ports, .ply, .hoard, .update]
  | .coreReturn => [.regs, .ev, .den, .power, .acq, .sett, .whorl, .fox, .owl, .cmd, .ply, .hoard]
  | .pwrOffWrite .. => [.regs, .ev, .power, .acq, .sett, .whorl, .fox, .owl, .cmd, .ply, .hoard]
  | .supplyExcursion .. | .supplyRecovered .. | .clockFault .. | .clockFaultEnd .. => [.regs, .ev, .power, .acq, .fox, .owl, .ply]
  | .governorEvaluate .. => [.regs, .free, .ev, .power, .fox, .cmd, .ply]
  | .aonSensorSample .. => [.regs, .ev, .den, .power, .fox, .ply]
  | .ssReset .. => [.regs, .free, .ev, .den, .power, .acq, .sett, .whorl, .fox, .owl, .cmd, .ports, .ply, .hoard, .update]
  | .subsystemResetComplete .. => [.regs, .ev, .power, .sett, .whorl, .fox, .ply, .hoard]
  | .rstHonouredLow => [.regs, .ev, .den, .power, .sett, .whorl, .fox, .cmd, .ports, .ply, .hoard, .update]
  | .rstRelease => [.regs, .den, .power, .sett]
  | .stuckReset => [.regs, .ev, .den, .power, .sett, .fox, .ply]
  | .rstHigh10ms | .snap | .schTimeWrite .. | .xbPinWrite .. | .xbPinApply .. | .clampConduct .. | .fineQclkWrite ..
  | .spCfgWrite .. | .fifoEnable .. | .fifoRpWrite .. | .swap .. | .ringEnable .. | .owlArm .. | .owlDisarm ..
  | .evPendClear .. | .evBudgetWrite .. | .evCntRead .. => [.regs]
  | .extest .. | .clamp .. | .highz .. => [.regs, .ev, .tap, .acq, .sett, .whorl, .fox, .owl, .cmd, .ports, .ply, .hoard]
  | .sample .. | .preload .. | .idcode | .bypass | .testLogicReset
    => [.regs, .ev, .tap, .acq, .sett, .whorl, .fox, .owl, .cmd, .ply, .hoard]
  | .registerWrite .. | .regWr ..
    => [.regs, .free, .ev, .den, .power, .time, .acq, .sett, .whorl, .fox, .owl, .cmd, .ports, .ply, .hoard, .update]
  | .readLoCapture .. => [.regs, .hiCap, .free, .acq]
  | .lineBlock .. | .markerMissing .. | .lineCtlWrite .. | .qwPacket .. => [.regs, .ev, .time, .fox, .ply]
  | .tonePacket .. | .mainsEdge | .mainsCycleMissing => [.regs, .free, .ev, .time, .fox, .ply]
  | .mainsCtlWrite .. | .mainsPhaseOfsWrite .. => [.regs, .time]
  | .schCtlWrite .. | .schedFire .. => [.regs, .ev, .time, .acq, .sett, .whorl, .fox, .owl, .cmd, .ply, .hoard]
  | .xbLineRetry | .refOkRise .. | .refSelWrite .. | .refSwitchSettled .. | .fineCalreqGo .. | .fineCalStart ..
  | .swiftCalreqGo .. | .swiftCalStart .. | .ncoLoad .. | .ncoFreqWrite .. | .filtCoefDataAccess .. | .spStopPass ..
  | .seqIdxWrite .. | .seqDataAccess .. | .frmBankChange .. => [.regs, .acq]
  | .owPrecheckStart .. | .settleEnd .. | .tgFire .. => [.acq]
  | .owPrecheckSample .. => [.regs, .free, .ev, .acq, .fox, .owl, .ply]
  | .inputOverrange .. | .fineSamplingStart .. | .swiftSamplingStart .. | .groupEdge .. => [.regs, .ev, .acq, .fox, .ply]
  | .refOkFall .. | .refCtlWrite .. => [.regs, .acq, .owl]
  | .fineClockSwitch .. | .runStart .. | .entryRestart .. => [.regs, .ev, .acq, .sett, .fox, .cmd, .ply]
  | .fineResult .. | .swiftResult .. => [.regs, .free, .ev, .acq, .fox, .cmd, .mem, .ply]
  | .fineCalDone .. | .swiftCalDone .. => [.regs, .free, .ev, .acq, .fox, .ply]
  | .spStart .. | .spStartOnce .. | .seqLoad .. | .frmLoadSeq .. => [.regs, .ev, .acq, .cmd]
  | .spStopNow .. => [.regs, .ev, .acq, .fox, .owl, .cmd, .ply]
  | .spUrgent .. | .urgentRegister .. | .migrateSwitch .. => [.regs, .ev, .acq, .sett, .fox, .owl, .cmd, .ply]
  | .fifoNoticeClear .. | .tableSwap .. | .nodeCompletion .. | .laneLock .. | .laneDown .. | .linkTrain .. | .plyRetrain ..
  | .streamEnable .. | .eventRaise .. | .intervalEnd | .evFwraise .. => [.regs, .ev, .fox, .ply]
  | .idle .. | .writeShadow .. | .writeShadowIncr .. | .readShadow .. | .readActive .. | .copyActiveToShadow .. | .stepArm ..
  | .stepFire .. | .senseSelect .. | .senseRelease .. | .hubStatus .. | .holdSilent .. | .releaseSilent .. | .trainAlign ..
  | .trainFlight .. | .trainLimit .. | .fwdCheckFail .. | .hubMarkerReceive .. | .hubFire .. | .hubMarkerTimeout .. => [.sett]
  | .markerForm .. | .kindWrite .. | .kmapDataAccess .. => [.regs, .sett]
  | .whorlDecide .. | .whorlWithdraw .. | .slotMissing .. | .stepOpenComplete .. | .hubRelease .. | .hubRetrain ..
  | .hubQuarantine .. | .quarantineAutoRelease .. | .trainingComplete .. | .partnerRestore .. | .taintRecovery ..
  | .trkEnWrite .. | .nodeWr .. | .nodeInc .. | .nodeWrv .. | .nodeIncv .. | .nodeRd .. | .nodeSense .. | .stepArmArm ..
  | .windowDecision .. | .latchClear .. | .nodeWrite .. | .nodeIncr .. | .nodeRead .. | .sense .. | .stepPktArm ..
  | .oneshot .. | .hubStatusPacket .. | .keepNodes .. | .frmNodes ..
    => [.regs, .ev, .acq, .sett, .whorl, .fox, .owl, .cmd, .ply, .hoard]
  | .maskAssert .. | .halt .. | .nop .. | .sync .. | .gets .. | .add .. | .sub .. | .and .. | .or .. | .xor .. | .shl ..
  | .shr .. | .sar .. | .lt .. | .ltu .. | .mul .. | .mulhs .. | .min .. | .max .. | .div .. | .addk .. | .andk .. | .ork ..
  | .xork .. | .shiftk .. | .ltk .. | .highk .. | .ifeq .. | .ifne .. | .iflt .. | .ifge .. | .iflo .. | .ifhs .. | .call ..
  | .callr .. | .vadd .. | .vsub .. | .vadds .. | .vsubs .. | .vmul .. | .vmulq .. | .vmin .. | .vmax .. | .vand .. | .vor ..
  | .vxor .. | .vclt .. | .vceq .. | .vsel .. | .vsar .. | .vshl .. | .vsplat .. | .vext .. | .vins .. | .vsum .. | .vidx ..
  | .vclamp .. | .amac .. | .amsu .. | .amul .. | .aclr .. | .aaddv .. | .aldv .. | .amacs .. | .aout .. | .asum ..
  | .nodeFence .. | .stepArmOpen .. | .stepArmSeal .. | .stepArmCancel .. | .stepArmStatus .. | .waitLocal .. | .waitMains ..
  | .waitLine .. | .waitEvent .. | .waitSignal .. | .waitTimeout .. | .fxStart .. | .fxStop .. | .fxStopDrain ..
  | .fxDrainComplete .. | .foxCmd .. => [.regs, .ev, .sett, .whorl, .fox, .cmd, .ply]
  | .slotReceive .. => [.regs, .ev, .acq, .sett, .whorl, .fox, .owl, .cmd, .ply, .hoard, .stock]
  | .replyTimeout .. => [.regs, .ev, .acq, .sett, .fox, .owl, .cmd, .ply, .hoard]
  | .stepReportTimeout .. | .stepOpen .. | .stepSeal .. | .stepCancel .. | .stepExpire .. | .stepPktCancel ..
    => [.regs, .ev, .sett, .fox, .cmd, .ply]
  | .partnerDiePowerLoss .. | .partnerDiePowerUp .. => [.sett, .stock]
  | .whTdataAccess .. | .whRdataAccess .. | .watchClear .. => [.regs, .whorl]
  | .tempRd .. | .load32 .. | .load16s .. | .load16u .. | .load8s .. | .load8u .. | .vload .. | .statPull ..
    => [.regs, .free, .ev, .sett, .whorl, .fox, .cmd, .ply]
  | .store32 .. | .store16 .. | .store8 .. | .vstore .. => [.regs, .ev, .sett, .whorl, .fox, .cmd, .mem, .ply]
  | .qfPut .. => [.regs, .ev, .sett, .whorl, .fox, .cmd, .mem, .ply, .stock]
  | .writeBufferDrain .. => [.fox, .mem]
  | .fxDbgDataAccess .. => [.regs, .fox]
  | .foxMigrateSwitch | .foxLoad .. | .frmLoadFox .. => [.regs, .ev, .fox, .cmd]
  | .foxMigrateCopyDone => [.regs, .ev, .sett, .fox, .cmd, .stock]
  | .tempEvaluate | .denReqTake => [.regs, .free, .ev, .fox, .ply, .stock]
  | .domainMinGap .. => [.stock]
  | .domainRunStart .. => [.regs, .ev, .acq, .fox, .cmd, .mem, .ply, .hoard, .stock]
  | .domainRunEnd .. => [.regs, .free, .ev, .den, .acq, .fox, .mem, .ply, .hoard, .stock]
  | .wCfgWrite .. | .wThrWrite .. | .suspendEnd .. | .selfCheckTie .. | .selfCheckSwap .. | .selfCheckEnd | .autoVisit
  | .windowClassChange .. => [.regs, .owl]
  | .macroRead .. | .macroWrite .. | .configItemWrite .. | .wearFlush | .wearForecast | .writeDefer | .trailWrite
    => [.regs, .ev, .fox, .ply, .hoard]
  | .macroStatus .. => [.hoard]
  | .macroReset .. | .macroIdent .. => [.free, .hoard]
  | .journalAppend => [.regs, .ev, .fox, .cmd, .ply, .hoard, .stock]
  | .commitBegin | .configSave .. | .itemWrite .. | .domainSet .. | .paramSet .. | .calSetup .. | .trailClear .. | .fwData ..
  | .guardStore .. => [.regs, .ev, .fox, .cmd, .ply, .hoard]
  | .commitDone .. => [.regs, .ev, .fox, .cmd, .mem, .ply, .hoard, .stock]
  | .restore | .imageRestore .. | .domainRestore ..
    => [.regs, .ev, .acq, .sett, .whorl, .fox, .owl, .cmd, .mem, .ply, .hoard, .stock]
  | .retentionUpdate => [.regs, .free, .ev, .fox, .ply, .hoard]
  | .writeResume => [.regs, .free, .ev, .fox, .mem, .ply, .hoard, .stock]
  | .statPacket .. => [.regs, .ev, .fox, .mem, .ply]
  | .outboundSend .. => [.ply]
  | .repeatFrame .. | .nopFrame .. | .status .. | .memRd .. | .pktPost .. | .pktFetch .. | .fmtSet ..
    => [.regs, .free, .ev, .fox, .cmd, .ports, .ply]
  | .regRd .. => [.regs, .hiCap, .free, .ev, .acq, .fox, .cmd, .ports, .ply]
  | .memWr .. => [.regs, .free, .ev, .fox, .cmd, .ports, .mem, .ply]
  | .fmtRecover .. => [.regs, .free, .ev, .fox, .ports, .ply]
  | .selTimeout .. => [.regs, .ev, .fox, .cmd, .ports, .ply]
  | .replyReady .. => [.ports]
  | .attnPulseEnd .. => [.ev]
  | .packetAck .. | .calRun .. => [.regs, .free, .ev, .fox, .cmd, .ply, .stock]
  | .packetTimeout .. | .ping .. | .discard .. | .ident .. | .itemRead .. | .stepPktStatus .. | .domainGet ..
  | .domainStatus .. | .hoardRead .. | .trailRead .. | .figureRead .. | .countersRead .. | .guardArm .. | .loopback ..
    => [.regs, .ev, .cmd]
  | .claim .. | .fifoRead .. => [.regs, .free, .ev, .fox, .cmd, .ply]
  | .spindleCmd .. => [.regs, .free, .ev, .acq, .fox, .owl, .cmd, .ply]
  | .migrate .. | .migrateCancel .. | .frmMode .. => [.regs, .ev, .acq, .fox, .cmd]
  | .stepPktOpen .. | .stepPktSeal .. => [.regs, .ev, .sett, .cmd]
  | .commit .. => [.regs, .ev, .cmd, .hoard]
  | .fwBegin .. => [.regs, .ev, .cmd, .update]
  | .fwCheck .. => [.regs, .ev, .fox, .cmd, .ply, .update]
  | .fwActivate .. => [.regs, .ev, .den, .sett, .whorl, .fox, .cmd, .ply, .hoard, .update]
  | .memFill .. => [.regs, .ev, .cmd, .mem]
  | .eventInject .. => [.regs, .ev, .fox, .cmd, .ply]
  | .bearRestart .. | .wdtExpire => [.regs, .ev, .den, .sett, .whorl, .fox, .cmd, .ply, .hoard]
  | .bootSelect
    => [.regs, .free, .ev, .den, .power, .time, .acq, .sett, .whorl, .fox, .owl, .cmd, .ports, .ply, .hoard, .stock, .update]
  | .fwConfirm => [.regs, .free, .ev, .den, .fox, .cmd, .ply, .hoard]
  | .wdtKick .. => [.den]
  | .sensorSample .. => [.regs, .free, .ev, .den, .fox, .ply]
  | .sensorScan .. => [.regs, .ev, .den, .fox, .ply]
  | .trailScan => [.regs, .free, .ev, .den, .fox, .ply, .hoard]

/-- Registers that the delivery of an event may change: the pending bits, the counts and marks of the event controller, and the
counts and marks of the Ply's EVT queue. -/
def deliveryReg (a : Nat) : Prop :=
  a = Reg.PLY_STATUS ∨ a = Reg.PLY_CNT1 ∨ a = Reg.EV_STATUS ∨ a = Reg.TRAIL_STATE ∨ a = Reg.TRAIL_LOST ∨ a = Reg.TRAIL_TOKENS ∨
    a = Reg.EV_PLY_LOST ∨ a = Reg.EV_SHED 0 ∨ a = Reg.EV_SHED 1 ∨ (Reg.EV_PEND_A 0 ≤ a ∧ a ≤ Reg.EV_PEND_A 32) ∨
    (Reg.EV_PEND_B 0 ≤ a ∧ a ≤ Reg.EV_PEND_B 32)

end Sys2Proof
end

