-- ==== Sys2Proof/Certificates/Slice0/Obligations.lean ====
section
/-! DEFINITION. The statements for the provers. `Does c s b` says that command `c` takes state `s` to the block `b`, the queue as
it was; `Yields c s P` says that it takes `s` to a block of which `P` holds. -/

open Sys2Proof Sys2Proof.Machine

/-- A step with a command at the front of the queue is that command on the state with the rest of the queue. Choices of the model
in it: log entries 1. -/
def Obligations.StepRunsFront : Prop :=
  ∀ (s : State) (c : Instr) (rest : List Instr), s.pending = c :: rest → step s = exec c { s with pending := rest }

/-- On an empty queue a step is a tick of the local counter: 1 ns, or 32,000 ns while it counts coarsely. That the empty queue
ticks is the model's choice (log entry 3); the amounts are the spec's (R50, R51). Choices of the model in it: log entries 3.
-/
def Obligations.StepTicksWhenIdle : Prop :=
  ∀ s : State, s.pending = [] →
    ∃ b : Block, step s = .next (s.withBlock b) ∧ b.localCount = s.localCount + (if s.coarse then 32000 else 1) ∧
      (s.coarse = false → b = s.withLocalCount (s.localCount + 1)) ∧ b.mem = s.mem ∧ b.sett = s.sett ∧ b.fox = s.fox ∧
      b.acq = s.acq ∧ b.hoard = s.hoard ∧ b.cmd = s.cmd

/-- Every command answers a next state with the queue as it was, and leaves every part of the block alone that it is not said to
change. Choices of the model in it: log entries 2. -/
def Obligations.CommandsKeepOtherParts : Prop :=
  ∀ (c : Instr) (s : State), ∃ b : Block, exec c s = .next (s.withBlock b) ∧ ∀ p : Part, p ∉ c.changes → p.same s.toBlock b

/-- The registers and the result memory stay in canonical form at every step. -/
def Obligations.FormsKeptByStep : Prop :=
  ∀ s t : State, Memory.wf s.mem = true → Bank.wf regReset s.regs = true → step s = .next t →
    Memory.wf t.mem = true ∧ Bank.wf regReset t.regs = true

/-- The state after reset is in canonical form. -/
def Obligations.FormsHoldAtReset : Prop :=
  Memory.wf State.reset.mem = true ∧ Bank.wf regReset State.reset.regs = true

/-- What cold reset leaves, as the register tables give it, and the states that the chapters give the units (Tables 15.10, 16.18,
18.12, 18.13, 20.5, 20.6, R167, R206, R263). Choices of the model in it: log entries 11. -/
def Obligations.ResetLeaves : Prop :=
  let s := State.reset
  s.pending = [] ∧ s.localCount = 0 ∧ s.mem = [] ∧
  s.reg Reg.TOP_ID = 0x053004AF ∧ s.reg Reg.TOP_REV = 0x10 ∧ (∀ p : Fin 2, s.reg (Reg.SKP_FMT p) = 0x00041810) ∧
  (∀ p : Fin 2, s.reg (Reg.SKP_TMO p) = 10) ∧ s.reg Reg.CMD_CFG = 100 ∧ s.reg Reg.AFE_CTL = 1 ∧ s.reg Reg.PWR_ON_LO = 1 ∧
  s.reg Reg.PWR_ON_HI = 0 ∧ s.reg Reg.RST_CFG = 8 ∧ s.reg Reg.RST_STATUS = 8 ∧ s.reg Reg.TRAIL_TOKENS = 1400 ∧
  s.reg (Reg.EV_EN_T 0) = 0xFFFFFFFF ∧ s.reg (Reg.EV_EN_T 32) = 0xFFF ∧ s.coreOn = false ∧
  (∀ n : Fin 48, s.spState n = 0) ∧ (∀ n : Fin 16, s.fxState n = 0) ∧ (∀ i : Fin 32, s.stepState i = 0) ∧
  (∀ w : Fin 4, s.lineState w = 0) ∧ s.mainsState = 0

/-- Raising an event changes no register but those of its delivery, and beyond the registers only the event controller, the
outbound EVT queue and the engines' event latches (R449–R453, R260). -/
def Obligations.RaiseChangesOnlyDelivery : Prop :=
  ∀ (s : Block) (src d : Nat),
    (∀ a : Nat, ¬ deliveryReg a → (s.raise src d).reg a = s.reg a) ∧
    (∀ p : Part, p ∉ [Part.regs, .ev, .fox, .ply] → p.same s (s.raise src d)) ∧
    (∀ n i : Nat, (s.raise src d).sx n i = s.sx n i ∧ (s.raise src d).pmWord n i = s.pmWord n i ∧
      (s.raise src d).scratch n i = s.scratch n i)

/-- Cold reset, power-good, and the loss and return of CORE (R11, R467, R469, R470, R472, R477). Choices of the model in it: log
entries 9, 18, 21, 23. Commands shown to complete, with what they then leave: coldReset, powerGood, coreLoss, coreReturn. -/
def Obligations.PowerStatesFollow : Prop :=
  (∀ s : State, Does .coldReset s
    { Block.reset with
      free := s.cutHoard.free
      sett := s.cutHoard.hubsAlone (fun u => { u with
        fires := [], markerAt := 0, replies := u.replies.map (fun r => { r with took := 0 }) })
      hoard := { s.cutHoard.hoard.lost with flushAt := 0, ageAt := 0, history := [] } }) ∧
  (∀ s : State, s.coreOn = false → s.get Reg.PWR_LOSS_CAUSE = 0 → s.power.lowAtStart = false →
    Does .powerGood s ((s.raise 984 9).powerUp 4) ∧
      Yields .powerGood s (fun b => b.coreOn = true ∧ b.flag Reg.PWR_STATUS_POWER_GOOD = true ∧ b.den.startup = some 0)) ∧
  (∀ s : State, s.coreOn = false → s.get Reg.PWR_LOSS_CAUSE = 0 → s.power.lowAtStart = true →
    let b := s.raise 984 9
    Does .powerGood s ((b.withPower { b.power with lowAtStart := false }).honour.powerUp 4)) ∧
  (∀ (s : State) (cause num : Nat), s.power.lossDue = some (cause, num) → s.coreOn = true → cause < 4 →
    (cause = 2 → s.power.lossAt + 10000 ≤ s.now) →
    Yields .coreLoss s (fun b =>
      b.mem = [] ∧ b.acq = AcqSt.reset ∧ b.cmd = CmdSt.reset ∧ b.stock = StockSt.reset ∧ b.update = none ∧
        b.power.lossDue = none ∧ b.get Reg.PWR_LOSS_CAUSE = cause ∧ b.coreOn = false ∧ b.flag Reg.PWR_STATUS_CORE_ON = false ∧
        b.flag Reg.PWR_STATUS_POWER_GOOD = false ∧ b.localCount = s.localCount)) ∧
  (∀ s : State, s.coreOn = false → s.get Reg.PWR_LOSS_CAUSE ≠ 0 → s.clockBad 1 = false →
    (s.get Reg.PWR_LOSS_CAUSE = 1 → ∃ c, s.power.coolAt = some c ∧ c + 10 ^ 9 ≤ s.now) →
    Yields .coreReturn s (fun b => b.coreOn = true ∧ b.flag Reg.PWR_STATUS_POWER_GOOD = true ∧ b.power.judgedInLoss = false ∧
      b.power.railEffect = Bank.set (fun _ => false) s.power.railEffect 0 false ∧
      b.power.thermReturnAt = if s.get Reg.PWR_LOSS_CAUSE = 1 then some s.now else s.power.thermReturnAt))

/-- Domains that PWR_OFF names, supplies and clock monitors (R444, R445, R464, R466, R468, Table 18.3). The governor and the AON
sensor (R479–R481, R514). Choices of the model in it: log entries 19, 20, 21, 22, 25. Commands shown to complete, with what
they then leave: pwrOffWrite, supplyExcursion, supplyRecovered, clockFault, clockFaultEnd, governorEvaluate, aonSensorSample.
-/
def Obligations.SuppliesAndGovernorFollow : Prop :=
  (∀ (s : State) (hi : Bool) (v : Word), s.writable Reg.PWR_OFF_LO = true → s.coreOn = false →
    Does (.pwrOffWrite hi v) s (s.writeFields (if hi then Reg.PWR_OFF_HI else Reg.PWR_OFF_LO) v)) ∧
  (∀ (s : State) (hi : Bool) (v : Word), s.writable Reg.PWR_OFF_LO = true → s.coreOn = true →
    let a := if hi then Reg.PWR_OFF_HI else Reg.PWR_OFF_LO
    Does (.pwrOffWrite hi v) s ((s.writeFields a v).each
      ((List.range 32).filter (fun i => (s.reg a).getLsbD i != ((s.writeFields a v).reg a).getLsbD i))
      (fun b i => b.switchDomain (if hi then 32 + i else i) (!((s.writeFields a v).reg a).getLsbD i) 0))) ∧
  (∀ (s : State) (j : Fin 8) (isOver : Bool) (mv : BitVec 12), s.domainOn 6 = true → (j = 1 ∨ j = 3 ∨ j = 7) →
    Does (.supplyExcursion j isOver mv) s
      ((((s.put (Reg.SUPPLY_READING j) mv.toNat).put (if isOver then Reg.SUPPLY_OVER j else Reg.SUPPLY_UNDER j) 1).put
        Reg.DEN_STATUS_SUPPLY_SEEN 1).raise (904 + j) j)) ∧
  (∀ (s : State) (isOver : Bool) (mv : BitVec 12), s.domainOn 6 = true → s.power.lossDue = none →
    Yields (.supplyExcursion 0 isOver mv) s (fun b =>
      b.power.lossDue = some (2, 0) ∧ b.power.lossAt = s.now ∧ b.railDown 0 = true)) ∧
  (∀ (s : State) (j : Fin 8) (mv : BitVec 12), s.domainOn 6 = true → s.railDown j = false → j ≠ 0 →
    Yields (.supplyRecovered j mv) s (fun b => b.get (Reg.SUPPLY_READING j) = mv.toNat ∧
      b.flag (Reg.SUPPLY_OVER j) = false ∧ b.flag (Reg.SUPPLY_UNDER j) = false ∧ b.railDown j = false)) ∧
  (∀ (s : State) (mv : BitVec 12), s.power.lossDue = some (2, 0) →
    Yields (.supplyRecovered 0 mv) s (fun b => b.power.lossDue = none ∧ b.railDown 0 = false)) ∧
  (∀ (s : State) (j : Fin 4), s.domainOn 6 = true →
    Yields (.clockFault j) s (fun b => b.clockBad j = true ∧ Bank.get (fun _ => 0) b.power.clkAt j = s.now)) ∧
  (∀ s : State, s.domainOn 6 = true → s.power.lossDue = none →
    Yields (.clockFault 1) s (fun b => b.power.lossDue = some (3, 1))) ∧
  (∀ (s : State) (j : Fin 4), s.domainOn 6 = true → s.coreOn = false →
    Bank.get (fun _ => 0) s.power.clkAt j + 10 ^ 6 ≤ s.now →
    Does (.clockFaultEnd j) s ((s.put (Reg.CLKMON_FAULT j) 0).withPower
      { s.power with clkEffect := Bank.set (fun _ => false) s.power.clkEffect j false })) ∧
  (∀ (s : State) (j : Fin 4), s.now < Bank.get (fun _ => 0) s.power.clkAt j + 10 ^ 6 → Does (.clockFaultEnd j) s s.toBlock) ∧
  (∀ (s : State) (fox pos : Nat), s.domainOn 6 = true → s.busySS 16 = false → s.power.govMs < s.now / 10 ^ 6 →
    let num := 1200 * 105000000 + 10500 * fox + 128000 * pos
    let b := s.withPower { s.power with govMs := s.now / 10 ^ 6 }
    let b := (b.draw.2.put Reg.GOV_PEST_MW (roundOpen num 105000000 s.free).toNat).countPeak (decide (4500 * 105000000 < num))
    Does (.governorEvaluate fox pos) s (b.enterMode b.nextMode).showCauses) ∧
  (∀ (s : State) (fox pos : Nat), s.now / 10 ^ 6 ≤ s.power.govMs → Does (.governorEvaluate fox pos) s s.toBlock) ∧
  (∀ (s : State) (v : BitVec 16) (invalid : Bool), s.dueAfter s.power.aonAt 31360 = true →
    (s.coreOn = false ∨ s.power.lossDue.isSome = true) →
    Yields (.aonSensorSample v invalid) s (fun b =>
      b.get Reg.AON_TEMP_AON = v.toNat ∧ b.flag Reg.AON_TEMP_INVALID = invalid ∧ b.power.lossDue = s.power.lossDue ∧
        b.power.aonAt = some s.now ∧
        b.power.coolAt = if invalid = false ∧ v.toInt ≤ 840 then some (s.power.coolAt.getD s.now) else none)) ∧
  (∀ (s : State) (v : BitVec 16), s.dueAfter s.power.aonAt 31360 = true → s.coreOn = true → s.power.lossDue = none →
    1104 ≤ v.toInt →
    Yields (.aonSensorSample v false) s (fun b => b.power.lossDue = some (1, 0) ∧ b.den.therms = s.den.therms + 1))

/-- RST#, and the resets of single subsystems (R472–R478, R484). Choices of the model in it: log entries 23, 24. Commands shown to
complete, with what they then leave: ssReset, subsystemResetComplete, rstHonouredLow, rstRelease, stuckReset, rstHigh10ms. -/
def Obligations.ResetsFollow : Prop :=
  (∀ s : State, s.flag Reg.RST_STATUS_LOW = false → s.flag Reg.RST_STATUS_AUTO = false →
    (s.coreOn = true ∨ s.get Reg.PWR_LOSS_CAUSE ≠ 0) →
    Yields .rstHonouredLow s (fun b => b.flag Reg.RST_STATUS_LOW = true ∧ b.flag Reg.RST_STATUS_PIN = false ∧
      b.ports = [] ∧ b.den.rstLows = s.den.rstLows + 1)) ∧
  (∀ s : State, s.flag Reg.RST_STATUS_LOW = false → s.coreOn = false → s.get Reg.PWR_LOSS_CAUSE = 0 →
    Does .rstHonouredLow s (s.withPower { s.power with highAt := none, lowAtStart := true })) ∧
  (∀ s : State, s.flag Reg.RST_STATUS_LOW = false → s.coreOn = true → s.flag Reg.RST_STATUS_AUTO = true →
    s.flag Reg.RST_STATUS_HIGH_10MS = false →
    Does .rstHonouredLow s ((s.withPower { s.power with highAt := none }).put Reg.RST_STATUS_PIN 0)) ∧
  (∀ s : State, s.get Reg.RST_CNT_LOWS ≠ 0 → s.flag Reg.RST_STATUS_LOW = true →
    let b := (s.put Reg.RST_STATUS_PIN 1).withPower
      { s.power with lowAtStart := false, highAt := some (s.power.highAt.getD (s.now - 1000)) }
    (s.coreOn = false → Does .rstRelease s b.endLow) ∧ (s.coreOn = true → Does .rstRelease s (b.endLow.bearRelease 2))) ∧
  (∀ s : State, s.flag Reg.RST_STATUS_LOW = true → s.power.stuckNever = false →
    98 * 10 ^ 9 * s.power.stuckS ≤ 100 * (s.now - (s.pair Reg.RST_T_LO Reg.RST_T_HI).toNat) →
    Yields .stuckReset s (fun b => b.den.judged = s.den.judged + 1 ∧ b.flag Reg.RST_STATUS_AUTO = true ∧
      b.flag Reg.RST_STATUS_ARMED = false ∧ (s.coreOn = false → b.power.judgedInLoss = true) ∧
      (s.coreOn = true → b.den.bootDue = true ∧ b.get Reg.BEAR_STATUS_LAST_CAUSE = 8))) ∧
  (∀ s : State, s.flag Reg.RST_STATUS_AUTO = true → s.flag Reg.RST_STATUS_PIN = true →
    (∃ h, s.power.highAt = some h ∧ h + 10 ^ 7 ≤ s.now) →
    Does .rstHigh10ms s ((s.put Reg.RST_STATUS_HIGH_10MS 1).put Reg.RST_STATUS_ARMED 1)) ∧
  (∀ (s : State) (v : Word), s.writable Reg.SS_RESET = true → s.coreOn = true →
    let l := (List.range 17).filter (fun n => decide (1 ≤ n) && n != 9 && v.getLsbD n && !s.busySS n)
    Does (.ssReset v) s ((s.each l (fun b n => b.setBit Reg.SS_BUSY n true)).each l (fun b n =>
      let b := b.resetSubsystem n
      b.withPower { b.power with ssDone := Bank.set (fun _ => 0) b.power.ssDone n (b.now + resetTime n) }))) ∧
  (∀ (s : State) (n : Fin 17), s.coreOn = true → s.busySS n = true →
    (resetTime n = 1000 → Bank.get (fun _ => 0) s.power.ssDone n ≤ s.now) →
    let b := (s.setBit Reg.SS_BUSY n false).withPower { s.power with ssDone := Bank.erase s.power.ssDone n }
    (n ≠ 10 → n ≠ 11 → n ≠ 15 → Does (.subsystemResetComplete n) s b) ∧
      (n = 10 → Does (.subsystemResetComplete n) s (b.each trunkList Block.startTrunk)) ∧
      (n = 11 → Does (.subsystemResetComplete n) s b.whorlBack) ∧
      (n = 15 → b.fwUp = true → Does (.subsystemResetComplete n) s b.readHoard.restartCommit)) ∧
  (∀ (s : State) (n : Fin 17), resetTime n = 1000 → s.now < Bank.get (fun _ => 0) s.power.ssDone n →
    Does (.subsystemResetComplete n) s s.toBlock)

/-- The test port (R502–R504, Tables 19.9 and 19.10): each instruction becomes the current one. The commands of the port, but for
the ones that drive the balls and their end, change nothing else but the boundary register. Choices of the model in it: log
entries 26. Commands shown to complete, with what they then leave: extest, sample, preload, idcode, clamp, highz, bypass,
testLogicReset. -/
def Obligations.TestPortFollows : Prop :=
  (∀ (s : State) (pins : BitVec 63), s.tap.inst.drives = false →
    Does (.sample pins) s ((s.withTap { s.tap with inst := .sample }).capture pins)) ∧
  (∀ (s : State) (cells : BitVec 63), s.tap.inst.drives = false →
    Does (.preload cells) s (s.withTap { s.tap with inst := .preload, cells := cells })) ∧
  (∀ s : State, s.tap.inst.drives = false →
    Does .idcode s (s.withTap { s.tap with inst := .idcode }) ∧
      Does .testLogicReset s (s.withTap { s.tap with inst := .idcode }) ∧
      Does .bypass s (s.withTap { s.tap with inst := .bypass })) ∧
  (∀ (s : State) (cells pins : BitVec 63) (a b : Bool),
    Yields (.extest (some cells) pins a b) s (fun x => x.tap.inst = .extest ∧ x.tap.cells = cells)) ∧
  (∀ (s : State) (a b : Bool),
    Yields (.clamp a b) s (fun x => x.tap = { s.tap with inst := .clamp }) ∧
      Yields (.highz a b) s (fun x => x.tap = { s.tap with inst := .highz })) ∧
  (∀ (s : State) (pins : BitVec 63) (i : Nat), i < 63 → s.tap.inst.drives = false →
    Yields (.sample pins) s (fun b => b.tap.captured.getLsbD i = s.cellValue pins i))

/-- An inbound packet that passes the checks of R369 is taken: its payload with CH of its header, its sequence number kept, a gap
counted. A packet with an invalid block or a wrong CRC, or with a wrong header, is counted and not taken. Line time: markers,
missing markers, LINE_CTL and the tables of quiet windows (R35–R39, R368). Choices of the model in it: log entries 16, 50, 85.
Commands shown to complete, with what they then leave: lineBlock, markerMissing, lineCtlWrite, qwPacket. -/
def Obligations.LineTimeFollows : Prop :=
  (∀ (s : Block) (kind : Nat) (h t : BitVec 64) (pl : List (BitVec 64)) (ok : Nat → List (BitVec 64) → Bool),
     s.get Reg.PLY_STATUS_IN_STATE = 2 →
     let crcOk := bitsOf t 63 32 = (crc32 ((h :: pl).flatMap beBytes)).toNat
     let headOk := bitsOf h 63 60 = kind ∧ bitsOf h 35 24 = pl.length ∧ pl.length ≠ 0 ∧ pl.length ≤ 258 ∧
       ok (bitsOf h 59 52) pl = true
     (crcOk → headOk → s.takePacket kind (h :: pl ++ [t]) true ok =
       (some (bitsOf h 59 52, pl),
         (s.when (match s.ply.inSeq with
           | some q => decide ((q + 1) % 65536 ≠ bitsOf h 51 36)
           | none => false) (·.bump Reg.PLY_CNT0_IN_GAP 1)).withPly { s.ply with inSeq := some (bitsOf h 51 36) })) ∧
     (crcOk → ¬ headOk → s.takePacket kind (h :: pl ++ [t]) true ok = (none, s.bump Reg.PLY_CNT0_IN_BAD 1)) ∧
     (¬ crcOk → s.takePacket kind (h :: pl ++ [t]) true ok = (none, (s.bump Reg.PLY_CNT0_IN_CRC 1).raise 755 0)) ∧
     s.takePacket kind (h :: pl ++ [t]) false ok = (none, (s.bump Reg.PLY_CNT0_IN_CRC 1).raise 755 0)) ∧
  (∀ (s : State) (blk : BitVec 64), s.get Reg.PLY_STATUS_IN_STATE = 2 → bitsOf blk 63 60 = 4 →
    evenParity (blk &&& 0xFFFFFFFE00000002#64) 63 0 = true → evenParity blk 32 2 = !blk.getLsbD 0 →
    Does (.lineBlock blk) s (s.marker (bitsOf blk 59 58) (BitVec.ofNat 32 (bitsOf blk 57 26)) (bitsOf blk 25 2 + 1))) ∧
  (∀ (s : State) (blk : BitVec 64), s.get Reg.PLY_STATUS_IN_STATE = 2 → bitsOf blk 63 60 = 4 →
    evenParity blk 32 2 = blk.getLsbD 0 →
    Does (.lineBlock blk) s ((s.bump Reg.PLY_CNT0_IN_BAD 1).raise 767 0)) ∧
  (∀ (s : State) (w : Fin 4), s.lineState w = 0 ∨ s.markerDue w = false → Does (.markerMissing w) s s.toBlock) ∧
  (∀ (s : State) (w : Fin 4), s.lineState w ≠ 0 → s.markerDue w = true →
    let l := s.lineTb w
    let limit := max 1 (s.get (Reg.LINE_CTL_HOLD_LIMIT w))
    let b := (s.setLine w { l with missed := l.missed + 1, landed := 0 }).bump (Reg.LINE_CNT_MISSING w) 1
    let next (b : Block) : Block := b.beginSuperframe w (l.lastTick + BitVec.ofNat 32 (l.sfLen * (l.missed + 1))) l.sfLen
    (s.lineState w ≠ 2 → (s.lineState w = 4 ∨ l.missed + 1 < limit) → Does (.markerMissing w) s (next b)) ∧
    (s.lineState w = 2 → l.missed + 1 < limit → Does (.markerMissing w) s (next (b.enterLine w 3))) ∧
    ((s.lineState w = 1 ∨ s.lineState w = 3) → limit ≤ l.missed + 1 →
      Does (.markerMissing w) s (next ((b.bump (Reg.LINE_CNT_LOST w) 1).enterLine w 4)))) ∧
  (∀ (s : State) (w : Fin 4) (v : Word), s.writable (Reg.LINE_CTL w) = true →
    let b := s.writeFields (Reg.LINE_CTL w) v
    (b.flag (Reg.LINE_CTL_EN w) = true ∨ b.lineState w = 0 → Does (.lineCtlWrite w v) s b) ∧
    (b.flag (Reg.LINE_CTL_EN w) = false → b.lineState w ≠ 0 → Does (.lineCtlWrite w v) s ((b.enterLine w 0).setLine w
      { b.lineTb w with cnt := s.lineNow w, anchor := b.now, seen := false, missed := 0, landed := 0 }))) ∧
  (∀ (s : State) (ws : List (BitVec 64)) (w : Nat) (pl : List (BitVec 64)) (b : Block),
    s.takePacket 2 ws true qwLayout = (some (w, pl), b) →
    let sf := BitVec.ofNat 32 (bitsOf (pl.headD 0) 63 32)
    let wins := qwWindows (bitsOf (pl.headD 0) 5 0) (pl.drop 1)
    let l := b.lineTb w
    let good := l.qwSf = some sf ∧ b.flag (Reg.LINE_STATUS_TABLE_VALID w) = true
    (b.sfBegun w sf = false → qwValid (2 ^ 24) 0 wins = true → Does (.qwPacket ws true) s (b.setLine w
      { l with qwNext := l.qwNext.filter (fun q => q.sf != sf) ++ [{ sf := sf, wins := wins, at' := b.now }] })) ∧
    (b.sfBegun w sf = false → qwValid (2 ^ 24) 0 wins = false → (∀ q, q ∈ l.qwNext → q.sf ≠ sf) →
      Does (.qwPacket ws true) s ((b.qwDiscard w).qwFault w sf)) ∧
    (b.sfBegun w sf = true → ¬ good → Does (.qwPacket ws true) s ((b.qwDiscard w).qwFault w sf)) ∧
    (b.sfBegun w sf = true → good → Does (.qwPacket ws true) s (b.qwDiscard w)))

/-- Mains time: edges, tones, missing cycles, and the writes of its two registers (R42–R48, R54). A half-cycle shift moves the
mains count by exactly 32,768 units and raises HALF_SHIFT (R46, R47, R54). Choices of the model in it: log entries 82, 84, 86.
Commands shown to complete, with what they then leave: tonePacket, mainsEdge, mainsCycleMissing, mainsCtlWrite,
mainsPhaseOfsWrite. -/
def Obligations.MainsTimeFollows : Prop :=
  (∀ s : State, s.mainsSrc ≠ 0 → s.time.mains.best = none → s.time.mains.edgeAt = none →
    Does .mainsEdge s (s.setMains { s.time.mains with edgeAt := some s.now })) ∧
  (∀ (s : State) (t : Nat), s.mainsSrc = 1 → s.time.mains.best = none → s.time.mains.edgeAt = some t →
    42 * (s.now - t) ≤ 1000000000 → 1000000000 ≤ 68 * (s.now - t) →
    let b := (s.setMains { s.time.mains with edgeAt := some s.now, pinAt := some s.now }).put Reg.MAINS_STATUS_HALF_AMBIG 0
    Does .mainsEdge s (b.mainsRef (angleErr (b.mainsAngle b.now)) (65536 * 10 ^ 9 / (s.now - t)) s.now 1)) ∧
  (∀ (s : State) (t : Nat), s.mainsSrc = 1 → s.time.mains.best = none → s.time.mains.edgeAt = some t →
    (1000000000 < 42 * (s.now - t) ∨ 68 * (s.now - t) < 1000000000) →
    Does .mainsEdge s (Block.mainsOutOfRange (s.setMains { s.time.mains with edgeAt := some s.now }))) ∧
  (∀ (s : State) (ws : List (BitVec 64)) (w : Nat) (pl : List (BitVec 64)) (b : Block),
    s.takePacket 3 ws true (fun ch pl => decide (ch ≤ 3) && pl.length == 2) = (some (w, pl), b) →
    let h := pl.headD 0
    b.mainsSrc = 2 → b.flag Reg.MAINS_CTL_TONE_ANY = false → w = b.get Reg.MAINS_CTL_TONE_W → b.time.mains.best = none →
    b.get Reg.MAINS_CTL_TONE_MIN ≤ bitsOf h 15 8 → 42 * 65536 ≤ bitsOf h 63 32 → bitsOf h 63 32 ≤ 68 * 65536 →
    b.lineState w = 2 →
    let t := b.lineToLocal w (nearest64 (b.lineNow w) (BitVec.ofNat 32 (bitsOf (pl.getD 1 0) 63 32)))
    let e0 := angleErr (b.mainsAngle t + 65536 - bitsOf h 31 16 / 2)
    let e1 := angleErr (b.mainsAngle t + 65536 - (bitsOf h 31 16 / 2 + 32768))
    Does (.tonePacket ws true) s (Block.trackTone (b.setMains { b.time.mains with toneAt := some b.now })
      { freq := bitsOf h 63 32, phase := bitsOf h 31 16, at' := t, conf := bitsOf h 15 8, came := b.now }) ∧
    ((b.mainsState = 0 ∨ b.mainsState = 3) → Yields (.tonePacket ws true) s (fun x =>
      x.get Reg.MAINS_ERR_ERR = toBits 16 (if e0.natAbs ≤ e1.natAbs then e0 else e1) ∧ x.mainsState = 1 ∧
        x.get Reg.MAINS_STATUS_IN_USE = 2 ∧ x.flag Reg.MAINS_STATUS_HALF_AMBIG = true))) ∧
  (∀ s : State, s.mainsSrc ≠ 0 → s.time.mains.best = none → (s.mainsState = 0 ∨ s.cycleDue = false) →
    Does .mainsCycleMissing s s.toBlock) ∧
  (∀ s : State, s.mainsSrc ≠ 0 → s.time.mains.best = none → s.mainsState ≠ 0 → s.cycleDue = true →
    (s.time.mains.missing < 2 ∨ s.mainsState = 3) →
    Does .mainsCycleMissing s (s.setMains { s.time.mains with
      missing := s.time.mains.missing + 1, good := 0, agree := 0, disagree := 0 })) ∧
  (∀ s : State, s.mainsSrc ≠ 0 → s.time.mains.best = none → s.mainsState = 2 → s.cycleDue = true → s.time.mains.missing = 2 →
    let b := s.setMains { s.time.mains with missing := 3, good := 0, agree := 0, disagree := 0 }
    Does .mainsCycleMissing s (((((b.slewFrom b.mainsFreq s.time.mains.held).enterMains 3).put Reg.MAINS_STATUS_IN_USE 0).put
      Reg.MAINS_STATUS_LOST_SEEN 1).raise 828 3)) ∧
  (∀ (s : State) (v : Word), s.writable Reg.MAINS_CTL = true →
    let v1 := if 3 < bitsOf v 2 0 then withBits v 2 0 (bitsOf (s.reg Reg.MAINS_CTL) 2 0) else v
    let v2 := if bitsOf v1 6 5 = 3 then withBits v1 6 5 (bitsOf (s.reg Reg.MAINS_CTL) 6 5) else v1
    let b := s.writeFields Reg.MAINS_CTL v2
    (b.mainsState ≠ 0 → Does (.mainsCtlWrite v) s b) ∧ (b.mainsState = 0 → Does (.mainsCtlWrite v) s (b.setFreq b.nominal))) ∧
  (∀ (s : State) (v : Word), s.writable Reg.MAINS_PHASE_OFS = true →
    let b := s.writeFields Reg.MAINS_PHASE_OFS v
    Does (.mainsPhaseOfsWrite v) s (b.markLate 5 s.mainsNow b.mainsNow)) ∧
  (∀ s : Block, s.halfShift.mainsNow = s.mainsNow + 32768 ∧ s.halfShift.flag Reg.MAINS_STATUS_HALF_AMBIG = false ∧
     s.halfShift.flag Reg.MAINS_STATUS_HALF_SHIFT_SEEN = true ∧ s.halfShift.now = s.now)

/-- A snapshot latches the local count, the mains count, the four line counts and the five states of one instant, and changes
nothing else but the snapshot registers (R53). Choices of the model in it: log entries 15. Commands shown to complete, with
what they then leave: snap. -/
def Obligations.SnapshotLatches : Prop :=
  ∀ s : State, s.writable Reg.TB_CTL = true →
    Yields .snap s (fun b =>
      b.pair Reg.SNAP_LOCAL_LO Reg.SNAP_LOCAL_HI = s.localCount ∧
      b.pair Reg.SNAP_MAINS_LO Reg.SNAP_MAINS_HI = s.mainsNow ∧
      (∀ w : Fin 4, b.pair (Reg.SNAP_LINE_LO w) (Reg.SNAP_LINE_HI w) = s.lineNow w) ∧
      (∀ w : Fin 4, bitsOf (b.reg Reg.SNAP_STATE) (3 * w + 2) (3 * w) = s.lineState w) ∧
      bitsOf (b.reg Reg.SNAP_STATE) 14 12 = s.mainsState ∧
      (∀ a : Nat, a ≠ Reg.SNAP_LOCAL_LO → a ≠ Reg.SNAP_LOCAL_HI → a ≠ Reg.SNAP_MAINS_LO → a ≠ Reg.SNAP_MAINS_HI →
        a ≠ Reg.SNAP_STATE → (∀ w : Fin 4, a ≠ Reg.SNAP_LINE_LO w ∧ a ≠ Reg.SNAP_LINE_HI w) → b.reg a = s.reg a) ∧
      b.withRegs s.regs = s.toBlock)

/-- Schedule entries: arming, writes while armed, firing in time, firing late and waiting (R54–R58). Choices of the model in it:
log entries 87. Commands shown to complete, with what they then leave: schCtlWrite, schTimeWrite, schedFire. -/
def Obligations.ScheduleFollows : Prop :=
  (∀ (s : State) (n : Fin 64) (v : Word), s.writable (Reg.SCH_CTL n) = true →
    let b := (s.fireEntry n).writeFields (Reg.SCH_CTL n) v
    (b.flag (Reg.SCH_CTL_ARM n) = false → Does (.schCtlWrite n v) s b) ∧
    (b.flag (Reg.SCH_CTL_ARM n) = true → b.armOk n = false →
      Does (.schCtlWrite n v) s ((b.put (Reg.SCH_CTL_ARM n) 0).put (Reg.SCH_STAT_BAD n) 1)) ∧
    (b.flag (Reg.SCH_CTL_ARM n) = true → b.armOk n = true →
      let c := ((b.put (Reg.SCH_STAT_BAD n) 0).put (Reg.SCH_STAT_FIRES n) 0).put (Reg.SCH_STAT_SKIPS n) 0
      Does (.schCtlWrite n v) s (c.setLate n (decide (c.schAt n < c.tbNow (c.schTb n)))))) ∧
  (∀ (s : State) (n : Fin 64) (i : Fin 3) (v : Word), s.writable (Reg.SCH_CTL n) = true →
    (s.flag (Reg.SCH_CTL_ARM n) = true → Does (.schTimeWrite n i v) s (s.put (Reg.SCH_STAT_WR_IGNORED n) 1)) ∧
    (s.flag (Reg.SCH_CTL_ARM n) = false → Does (.schTimeWrite n i v) s (s.setReg (schTimeReg n i) v))) ∧
  (∀ (s : State) (n : Fin 64), (∀ m, m < n.val → s.schDue m = false) →
    let late := Bank.get (fun _ => false) s.time.schLate n
    let after (b : Block) : Block := (((((b.schAdvance n 1).bump (Reg.SCH_STAT_SKIPS n) 0).setLate n false).put
      (Reg.SCH_STAT_LATE n) 1)).raise 831 0
    (s.schWaits n = true → s.schAt n ≤ s.tbNow (s.schTb n) → Does (.schedFire n) s (s.setLate n true)) ∧
    (s.schDue n = true → late = false → Does (.schedFire n) s ((s.schFire n).schAdvance n 1)) ∧
    (s.schDue n = true → late = true → (s.reg (Reg.SCH_PERIOD n)).toNat = 0 →
      Does (.schedFire n) s (if s.flag (Reg.SCH_CTL_LATE_POL n) = true then after s.toBlock else after (s.schFire n))))

/-- While an entry is armed, writes of its SCH_AT_LO, SCH_AT_HI and SCH_PERIOD are ignored and set SCH_STAT.WR_IGNORED (R58).
Commands shown to complete, with what they then leave: registerWrite, schTimeWrite. -/
def Obligations.ArmedScheduleTimesKept : Prop :=
  ∀ (s : State) (n : Fin 64) (i : Fin 3) (v : Word), s.writable (Reg.SCH_CTL n) = true → s.writable (schTimeReg n i) = true →
    s.flag (Reg.SCH_CTL_ARM n) = true →
    let b := s.put (Reg.SCH_STAT_WR_IGNORED n) 1
    Does (.schTimeWrite n i v) s b ∧
    (∀ (ag : Fin 3) (a : Fin 65536), a.val = schTimeReg n i → Does (.registerWrite ag a v) s b) ∧
    b.flag (Reg.SCH_STAT_WR_IGNORED n) = true ∧ b.reg (Reg.SCH_AT_LO n) = s.reg (Reg.SCH_AT_LO n) ∧
    b.reg (Reg.SCH_AT_HI n) = s.reg (Reg.SCH_AT_HI n) ∧ b.reg (Reg.SCH_PERIOD n) = s.reg (Reg.SCH_PERIOD n)

/-- Crosspoint lines, pins, pre-checks and settles (R65–R68, R77–R80). Choices of the model in it: log entries 4, 78, 93, 94.
Commands shown to complete, with what they then leave: xbLineRetry, xbPinWrite, xbPinApply, owPrecheckStart, owPrecheckSample,
settleEnd, inputOverrange, clampConduct. -/
def Obligations.InputPathsFollow : Prop :=
  (∀ (s : State) (n : Fin 48) (r : Run) (l : Nat), (s.sp n).act = some r → r.stage = .line → onLine (dInput r.dfn) = true →
    s.findLine (dInput r.dfn) = some l →
    s.busySS 3 = false → (∀ (m : Fin 48) (q : Run), m ≠ n → (s.sp m).act = some q → q.stage ≠ .line) →
    Does .xbLineRetry s ((s.joinLine l (dInput r.dfn)).setAct n (some { r with
      allOver := r.allOver || !s.sourceUp (dInput r.dfn), since := s.now, line := some l, stage := s.afterPath r
      waited := false }))) ∧
  (∀ (s : State) (l : Fin 16) (v : Word), s.writable (Reg.XB_PIN l) = true →
    (bitsOf v 12 12 = 1 → lineCodeValid (bitsOf v 11 0) = true →
      let b := s.put (Reg.XB_PIN_CODE l) (bitsOf v 11 0)
      let c := b.put (Reg.XB_PIN_EN l) 1
      ((b.flag (Reg.XB_LINE_PINNED l) = false ∨ b.get (Reg.XB_LINE_CODE l) ≠ bitsOf v 11 0) →
        Does (.xbPinWrite l v) s ((c.put (Reg.XB_LINE_PINNED l) 0).applyPin l)) ∧
      (b.flag (Reg.XB_LINE_PINNED l) = true → b.get (Reg.XB_LINE_CODE l) = bitsOf v 11 0 →
        Does (.xbPinWrite l v) s (c.applyPin l))) ∧
    (bitsOf v 12 12 = 0 ∨ lineCodeValid (bitsOf v 11 0) = false →
      Does (.xbPinWrite l v) s (((s.put (Reg.XB_PIN_CODE l) (bitsOf v 11 0)).put (Reg.XB_PIN_EN l) 0).put
        (Reg.XB_LINE_PINNED l) 0))) ∧
  (∀ (s : State) (l : Fin 16), s.flag (Reg.XB_PIN_EN l) = true → s.get (Reg.XB_LINE_USERS l) = 0 →
    Does (.xbPinApply l) s ((s.put (Reg.XB_LINE_CODE l) (s.get (Reg.XB_PIN_CODE l))).put (Reg.XB_LINE_PINNED l) 1)) ∧
  (∀ (s : State) (n : Fin 48) (r : Run), (s.sp n).act = some r → r.stage = .check →
    s.ballsBusy n (codeBalls (dInput r.dfn)) = false → s.ballsWanted n r = false →
    Does (.owPrecheckStart n) s (s.setAct n (some { r with stage := .checking, since := s.now }))) ∧
  (∀ (s : State) (n : Fin 48) (r : Run) (vSource vSink : Nat) (isOpen : Bool), (s.sp n).act = some r → r.stage = .checking →
    r.since + cyclesNs 3072 ≤ s.now →
    (if codeSource (dInput r.dfn) = 1259 then isOpen = true
      else if codeSource (dInput r.dfn) = 1231 then isOpen = false
      else if 2930 < vSource ∨ (codeDiff (dInput r.dfn) = true ∧ vSink < 370) then isOpen = true
      else vSource < 2870 ∧ (codeDiff (dInput r.dfn) = false ∨ 430 < vSink) ∧ isOpen = false) →
    let balls := codeBalls (dInput r.dfn)
    let b := ((s.draw.2.each balls (fun b i => b.reportBall n isOpen i)).endCheck balls).setAct n
      (some { r with stage := .settle, since := s.now + cyclesNs 1 })
    let c := b.put Reg.AFE_STATUS_OW_SEEN 1
    (isOpen = false → Does (.owPrecheckSample n vSource vSink) s b) ∧
    (isOpen = true → balls.any (s.lastOpen n) = false →
      Does (.owPrecheckSample n vSource vSink) s (c.raise (convSource n + 1) (convDetail n r))) ∧
    (isOpen = true → balls.any (s.lastOpen n) = true → Does (.owPrecheckSample n vSource vSink) s c)) ∧
  (∀ (s : State) (n : Fin 48) (r : Run), (s.sp n).act = some r → r.stage = .settle →
    s.ballsChecking n (codeBalls (dInput r.dfn)) = false →
    (r.since + cyclesNs (dSettle r.dfn) ≤ s.now →
      Does (.settleEnd n) s (s.setAct n (some { r with stage := .ready, waited := false }))) ∧
    (s.now < r.since + cyclesNs (dSettle r.dfn) → Does (.settleEnd n) s s.toBlock)) ∧
  (∀ (s : State) (n : Fin 48) (isOver : Bool), (s.sp n).act = none →
    let b := s.withAcq { s.acq with inputOver := Bank.set (fun _ => false) s.acq.inputOver n isOver }
    Does (.inputOverrange n isOver) s
      (if isOver = true ∧ s.inputOver n = false ∧ s.chainOver n = false then b.raise (convSource n) n else b)) ∧
  (∀ (s : State) (n : Fin 48) (isOver : Bool), Yields (.inputOverrange n isOver) s (fun b => b.inputOver n = isOver)) ∧
  (∀ (s : State) (i : Fin 64), Does (.clampConduct i) s
    ((s.setBit (ballBit Reg.CLAMP_LATCH_LO i).1 (ballBit Reg.CLAMP_LATCH_LO i).2 true).put Reg.AFE_STATUS_CLAMP_SEEN 1))

/-- References (R85–R88): the fall and rise of a source, and the writes of REF_SEL and REF_CTL. A quad or group whose source REF_A
or REF_B faults, with FAILOVER set and the other source good, is switched to the other source and marked (R88). Choices of the
model in it: log entries 94. Commands shown to complete, with what they then leave: refOkFall, refOkRise, refSelWrite,
refSwitchSettled, refCtlWrite. -/
def Obligations.ReferencesFollow : Prop :=
  (∀ (s : State) (r : Fin 4), s.refSourceOk r = true → (∀ u : Fin 12, s.get (Reg.REF_SEL_SRC u) ≠ r) →
    Does (.refOkFall r) s ((((s.setBit Reg.REF_STATUS r false).refBegins r).owlNoRef).setBit Reg.REF_STATUS (4 + r) true)) ∧
  (∀ (s : State) (r : Fin 4), s.refEnabled r = true →
    (Bank.get (fun _ => 0) s.acq.refAt r + refTime r ≤ s.now →
      Does (.refOkRise r) s (s.setBit Reg.REF_STATUS r true).updateRefs) ∧
    (s.now < Bank.get (fun _ => 0) s.acq.refAt r + refTime r → Does (.refOkRise r) s s.toBlock)) ∧
  (∀ (s : State) (u : Fin 12) (v : Word), s.writable (Reg.REF_SEL u) = true →
    let b := s.writeFields (Reg.REF_SEL u) v
    let src := Reg.REF_SEL_SRC u
    (b.get src = s.get src → Does (.refSelWrite u v) s b) ∧
    (b.get src ≠ s.get src → Does (.refSelWrite u v) s ((b.put (Reg.REF_SEL_FAILED_OVER u) 0).switchRef u (b.get src)))) ∧
  (∀ (s : State) (u : Fin 12), Bank.get (fun _ => 0) s.acq.upAt u + 200000 ≤ s.now →
    let up (b : Block) : Block :=
      Block.updateRef (b.withAcq { s.acq with upWait := Bank.set (fun _ => false) s.acq.upWait u false }) u
    (Bank.get (fun _ => 0) s.acq.switchAt u + 200000 ≤ s.now →
      Does (.refSwitchSettled u) s (up (s.put (Reg.REF_SEL_SWITCHING u) 0))) ∧
    (s.now < Bank.get (fun _ => 0) s.acq.switchAt u + 200000 → Does (.refSwitchSettled u) s (up s.toBlock))) ∧
  (∀ (s : State) (v : Word), s.writable Reg.REF_CTL = true →
    Does (.refCtlWrite v) s ((s.writeFields Reg.REF_CTL v).each [0, 1, 2]
      (fun b r => if !b.refEnabled r then b.refFall r false else if s.refEnabled r then b else b.refBegins r))) ∧
  (∀ (s : State) (r : Fin 2) (u : Fin 12), s.refSourceOk r = true → s.refSourceOk (1 - r) = true →
     s.get (Reg.REF_SEL_SRC u) = r → s.flag (Reg.REF_SEL_FAILOVER u) = true →
     Yields (.refOkFall (r.castLE (by decide))) s (fun b =>
       b.refSourceOk r = false ∧ b.get (Reg.REF_SEL_SRC u) = 1 - r ∧ b.flag (Reg.REF_SEL_FAILED_OVER u) = true ∧
         b.flag (Reg.REF_SEL_SWITCHING u) = true ∧ b.flag (Reg.REF_SEL_OK u) = false ∧
         b.flag Reg.REF_STATUS_FAILOVER_SEEN = true))

/-- Sampling starts, group edges and clock switches (R87, R96, R99, R102, R123, R124). Calibration conversions (R109–R111, R129).
Choices of the model in it: log entries 4, 78, 94. Commands shown to complete, with what they then leave: fineQclkWrite,
fineClockSwitch, fineSamplingStart, swiftSamplingStart, groupEdge, fineCalreqGo, fineCalStart, fineCalDone, swiftCalreqGo,
swiftCalStart, swiftCalDone. -/
def Obligations.SamplingAndCalFollow : Prop :=
  (∀ (s : State) (q : Fin 8) (v : Word), s.writable (Reg.FINE_QCLK q) = true →
    let b := s.put (Reg.FINE_QCLK_MODE q) (bitsOf v 0 0)
    Does (.fineQclkWrite q v) s (b.putB (Reg.FINE_QCLK_PENDING q) (b.get (Reg.FINE_QCLK_MODE q) != b.get (Reg.FINE_QCLK_ACTIVE q)))) ∧
  (∀ (s : State) (q : Fin 8), s.flag (Reg.FINE_QCLK_PENDING q) = true → (∀ i : Fin 4, (s.sp (4 * q + i)).act = none) →
    let b := (s.put (Reg.FINE_QCLK_ACTIVE q) (s.get (Reg.FINE_QCLK_MODE q))).put (Reg.FINE_QCLK_PENDING q) 0
    Does (.fineClockSwitch q) s
      ((if s.unitUp q = false ∧ b.unitUp q = true then b.unitWait q else b.updateRef q).beginAll
        [4 * q, 4 * q + 1, 4 * q + 2, 4 * q + 3])) ∧
  (∀ (s : State) (n : Fin 48) (r : Run) (c : Instr) (ph : Fin 15625), (s.sp n).act = some r → r.stage = .ready →
    (dTrig r.dfn = false ∨ r.freed = true) → s.unitUp (refUnit n) = true →
    ((∃ k : Fin 32, k.val = n.val ∧ c = .fineSamplingStart (k, ph)) ∨
      (∃ j : Fin 16, 32 + j.val = n.val ∧ ph = 0 ∧ c = .swiftSamplingStart j)) →
    let u := refUnit n
    let e := s.edgeFrom n (192 * max r.settled (if s.refOk u then Bank.get (fun _ => 0) s.acq.okAt u else 0) + 8000) ph
    let wait (b : Block) : Block := b.setAct n (some { r with stage := .ready, waited := true, took := none })
    let b := if r.waited then s.toBlock else s.raise (convSource n + 2) (convDetail n r)
    (192 * s.now < e → Does c s s.toBlock) ∧
    (e ≤ 192 * s.now →
      (s.refOk u = true → Does c s (s.beginSampling n r e)) ∧
      (s.refOk u = false → b.flag (Reg.REF_SEL_FORCE u) = false → Does c s (wait b)) ∧
      (s.refOk u = false → b.flag (Reg.REF_SEL_FORCE u) = true → Does c s (b.beginSampling n r e)))) ∧
  (∀ (s : State) (g : Fin 32) (net : Fin 3) (ph : Fin 15625) (n : Fin 48) (r : Run) (t : Nat), (s.sp n).act = some r →
    r.took = some t → dGroup r.dfn = g → s.networkOf n = net → r.stage = .ready → s.refOk (refUnit n) = true →
    (∀ (m : Fin 48) (q : Run), m ≠ n → (s.sp m).act = some q → q.took = none) →
    let e := s.edgeFrom n (192 * t + 8000) ph
    (e ≤ 192 * s.now → Does (.groupEdge g (net, ph)) s
      (s.beginSampling n { r with settling := decide (e < 192 * r.settled), waited := false } e)) ∧
    (192 * s.now < e → Does (.groupEdge g (net, ph)) s s.toBlock)) ∧
  (∀ (s : State) (k : Fin 32) (v : Word), s.writable (Reg.FINE_CALREQ k) = true → bitsOf v 31 31 = 1 →
    (s.flag (Reg.FINE_CALSTAT_BUSY k) = true → Does (.fineCalreqGo k v) s (s.put (Reg.FINE_CALSTAT_REJECTED k) 1)) ∧
    (s.flag (Reg.FINE_CALSTAT_BUSY k) = false → lineCodeValid (bitsOf v 11 0) = false →
      Does (.fineCalreqGo k v) s ((s.writeFields (Reg.FINE_CALREQ k) v).put (Reg.FINE_CALSTAT_BAD k) 1)) ∧
    (s.flag (Reg.FINE_CALSTAT_BUSY k) = false → lineCodeValid (bitsOf v 11 0) = true →
      Does (.fineCalreqGo k v) s (((((s.writeFields (Reg.FINE_CALREQ k) v).put (Reg.FINE_CALSTAT_BUSY k) 1).put
        (Reg.FINE_CALSTAT_DONE k) 0).put (Reg.FINE_CALSTAT_BAD k) 0).put (Reg.FINE_CALSTAT_RESTARTED k) 0 |>.setSp k
          { s.sp k with cal := some v, calGap := false }))) ∧
  (∀ (s : State) (j : Fin 16) (v : Word), s.writable (Reg.SWIFT_CALREQ j) = true → bitsOf v 31 31 = 1 →
    (s.flag (Reg.SWIFT_CALSTAT_BUSY j) = true → Does (.swiftCalreqGo j v) s (s.put (Reg.SWIFT_CALSTAT_REJECTED j) 1)) ∧
    (s.flag (Reg.SWIFT_CALSTAT_BUSY j) = false → (lineCodeValid (bitsOf v 11 0) = false ∨ 4 ≤ bitsOf v 14 12) →
      Does (.swiftCalreqGo j v) s ((s.writeFields (Reg.SWIFT_CALREQ j) v).put (Reg.SWIFT_CALSTAT_BAD j) 1)) ∧
    (s.flag (Reg.SWIFT_CALSTAT_BUSY j) = false → lineCodeValid (bitsOf v 11 0) = true → bitsOf v 14 12 < 4 →
      Does (.swiftCalreqGo j v) s (((((s.writeFields (Reg.SWIFT_CALREQ j) v).put (Reg.SWIFT_CALSTAT_BUSY j) 1).put
        (Reg.SWIFT_CALSTAT_DONE j) 0).put (Reg.SWIFT_CALSTAT_BAD j) 0).put (Reg.SWIFT_CALSTAT_RESTARTED j) 0 |>.setSp (32 + j)
          { s.sp (32 + j) with cal := some v, calGap := false }))) ∧
  (∀ (s : State) (n : Fin 48) (w : Word) (c : Instr), (s.sp n).cal = some w → s.mayBegin n = true →
    ((∃ k : Fin 32, k.val = n.val ∧ c = .fineCalStart k) ∨ (∃ j : Fin 16, 32 + j.val = n.val ∧ c = .swiftCalStart j)) →
    let r : Run := { s.newRun n 0 .cal with
      dfn := calDef w, profile := 0, pd := 0, freed := true, xswap := bitsOf w 15 15 == 1, samples := calLength n w }
    let start (b : Block) : Block := (b.setSp n { b.sp n with cal := none, calGap := false }).takePath n r
    ((s.sp n).act = none → (s.sp n).resume = [] → (s.sp n).urgHeld = false → s.flag (Reg.SP_STAT_URG_QUEUED n) = false →
      Does c s (start s.toBlock)) ∧
    (∀ a, (s.sp n).act = some a → a.kind ≠ .cal → dLength a.dfn = 0 → (s.sp n).calGap = true →
      Does c s (start (s.stopForCal n a)))) ∧
  (∀ (s : State) (k : Fin 32) (ms : List Int) (r : Run), (s.sp k).act = some r → r.kind = .cal → r.stage = .sampling →
    ms.length = 5 * r.samples → s.periodAt k r (5 * r.samples) ≤ 192 * s.now →
    let raw := sincOf 5 r.samples ((s.draw.2.inputCodes k r 0 ms).drop 4) s.free
    let b := ((s.draw.2.noteChain k (exceeds24 raw)).noteRef (refUnit k) (s.draw.2.spanBadRef k r 4 (5 * r.samples - 1))).put
      (Reg.FINE_CALRES_CODE k) (toBits 24 (saturate 24 raw))
    let b := (b.putB (Reg.FINE_CALSTAT_OVERRANGE k) (exceeds24 raw || s.draw.2.spanOver k r 4 (5 * r.samples - 1))).putB
      (Reg.FINE_CALSTAT_REF_UNSETTLED k) (s.draw.2.spanBadRef k r 4 (5 * r.samples - 1))
    let b := (b.putB (Reg.FINE_CALSTAT_OPEN_WIRE k) (b.openWire (dInput r.dfn))).bump (Reg.FINE_CNT_CALS k) 1
    Does (.fineCalDone k ms) s (((b.put (Reg.FINE_CALSTAT_DONE k) 1).put (Reg.FINE_CALSTAT_BUSY k) 0).endAct k)) ∧
  (∀ (s : State) (j : Fin 16) (ms : List Int) (r : Run), (s.sp (32 + j)).act = some r → r.kind = .cal →
    r.stage = .sampling → ms.length = r.samples → s.inputAt (32 + j) r (r.samples - 1) ≤ 192 * s.now →
    let codes := s.draw.2.swiftCodes (32 + j) r 0 ms
    let bad := s.draw.2.spanBadRef (32 + j) r 0 (r.samples - 1)
    let b := ((s.draw.2.noteChain (32 + j) (codes.any swiftExtreme)).noteRef (refUnit (32 + j)) bad).put
      (Reg.SWIFT_CALRES_CODE j) (toBits 24 (roundNear (64 * sumInt codes) r.samples s.free))
    let b := (b.putB (Reg.SWIFT_CALSTAT_OVERRANGE j) (codes.any swiftExtreme ||
      s.draw.2.spanOver (32 + j) r 0 (r.samples - 1))).putB (Reg.SWIFT_CALSTAT_REF_UNSETTLED j) bad
    let b := (b.putB (Reg.SWIFT_CALSTAT_OPEN_WIRE j) (b.openWire (dInput r.dfn))).bump (Reg.SWIFT_CNT_CALS j) 1
    Does (.swiftCalDone j ms) s (((b.put (Reg.SWIFT_CALSTAT_DONE j) 1).put (Reg.SWIFT_CALSTAT_BUSY j) 0).endAct (32 + j)))

/-- Oscillators (R130, R131): a load sets the accumulators that its mask names, and a frequency outside its range is refused.
Results (R74, R145–R160, R175–R177): a Fine result of the sinc alone, and a Swift result of one sample, corrections off, are
the codes themselves, with the flags of what they met and the centre of their span. Coefficients go in and out of a bank
through the window of an agent (R157). Choices of the model in it: log entries 5, 14, 94. Commands shown to complete, with
what they then leave: fineResult, swiftResult, ncoLoad, ncoFreqWrite, filtCoefDataAccess. -/
def Obligations.OscillatorsAndResultsFollow : Prop :=
  (∀ (s : State) (v : Word), s.writable Reg.SWIFT_NCO_LOAD = true →
    Does (.ncoLoad v) s (s.each ((List.range 16).filter (fun j => v.getLsbD j && s.unitUp (8 + j / 4))) Block.loadNco)) ∧
  (∀ (s : State) (j : Fin 16) (v : Word), s.writable Reg.SWIFT_NCO_LOAD = true → v.getLsbD j = true →
    s.unitUp (8 + j / 4) = true → Yields (.ncoLoad v) s (fun b =>
      b.pair (Reg.SWIFT_NCO_T0_LO j) (Reg.SWIFT_NCO_T0_HI j) = BitVec.ofNat 64 ((s.now / 50 + 1) * 50) ∧
        b.flag (Reg.SWIFT_NCO_STAT_FREQ_SINCE_LOAD j) = false)) ∧
  (∀ (s : State) (j : Fin 16) (v : Word), s.writable (Reg.SWIFT_NCO_FREQ j) = true →
    (v.toNat < 214748 ∨ 1073741824 < v.toNat → Does (.ncoFreqWrite j v) s (s.put (Reg.SWIFT_NCO_STAT_BAD j) 1)) ∧
    (214748 ≤ v.toNat → v.toNat ≤ 1073741824 → Does (.ncoFreqWrite j v) s
      (((s.putB (Reg.SWIFT_NCO_STAT_FREQ_SINCE_LOAD j) (s.flag (Reg.SWIFT_NCO_STAT_FREQ_SINCE_LOAD j) ||
        s.reg (Reg.SWIFT_NCO_FREQ j) != v)).setReg (Reg.SWIFT_NCO_FREQ j) v).retuneNco j))) ∧
  (∀ (s : State) (q : Fin 8) (i : Fin 4) (ms : List Int) (r : Run),
    let n := 4 * q.val + i.val
    (s.sp n).act = some r → r.kind ≠ .cal → r.stage = .sampling →
    pIntN r.profile = 0 → pFir r.profile = 0 → pDcK r.profile = 0 → r.pd = 0 →
    let order := sincOrder r
    let osr := pOsr r.profile
    let total := (order + r.outs) * osr
    r.got + ms.length = total → s.periodAt n r total ≤ 192 * s.now →
    bitsOf (s.regAt (Reg.FINE_CFG n) (s.periodAt n r total / 192)) 0 0 = 0 →
    let b := (s.drawN 5).2
    let kept := r.kept ++ b.inputCodes n r r.got ms
    let first := r.outs * osr + order - 1
    let x := sincOf order osr ((kept.drop (first - (total - kept.length))).take (order * (osr - 1) + 1)) s.free
    let isOver := exceeds24 x || b.spanOver n r first (total - 1)
    let refBad := b.spanBadRef n r first (total - 1)
    let c := (b.each ([x].drop (sincsTold r - r.outs)) (fun b y => b.noteChain n (exceeds24 y))).noteChain n (exceeds24 x)
    let r' := { r with hist := (⟨saturate 24 x, isOver, refBad, c.periodAt n r (total - 1)⟩ :: r.hist).take 132
                       outs := r.outs + 1, got := total
                       kept := kept.drop ((r.outs + 1) * osr + order - 1 - (total - kept.length)) }
    let lag := 256 * (order * (osr - 1))
    let centre := roundNear ((512 * c.periodAt n r (total - 1) : Nat) * ((c.modPeriod n).2 : Int) - 192 * lag * (c.modPeriod n).1)
      (192 * 512 * (c.modPeriod n).2) (s.free + 4)
    Does (.fineResult q i ms) s
      (((c.setAct n (some r')).putResult n r' (saturate 24 x) isOver refBad false centre.toNat).afterResult n)) ∧
  (∀ (s : State) (q : Fin 4) (i : Fin 4) (ms : List Int) (r : Run),
    let j := 4 * q.val + i.val
    (s.sp (32 + j)).act = some r → r.kind ≠ .cal → r.stage = .sampling → pAvg r.profile = 0 → pBank r.profile = 0 → pCic r.profile = 1 → pLockin r.profile = 0 →
    let total := r.outs * pDec r.profile + 1
    ms ≠ [] → r.got + ms.length = total → s.inputAt (32 + j) r (total - 1) ≤ 192 * s.now →
    bitsOf (s.regAt (Reg.SWIFT_CFG j) (s.inputAt (32 + j) r (total - 1) / 192 + 40)) 0 0 = 0 →
    let b := (s.drawN 9).2
    let fresh := b.swiftCodes (32 + j) r r.got ms
    let kept := r.kept ++ fresh
    let c := fresh.getLastD 0
    let isOver := swiftExtreme c || b.spanOver (32 + j) r (total - 1) (total - 1)
    let refBad := b.spanBadRef (32 + j) r (total - 1) (total - 1)
    let r' := { r with
      outs := r.outs + 1, got := total, kept := kept.drop ((r.outs + 1) * pDec r.profile + 1 - 1 - (total - kept.length)) }
    let d := (b.each fresh (fun b y => b.noteChain (32 + j) (swiftExtreme y))).noteChain (32 + j) (swiftExtreme c)
    Does (.swiftResult q i ms) s (((d.setAct (32 + j) (some r')).putResult (32 + j) r' (64 * c) isOver refBad false
      (s.inputAt (32 + j) r (total - 1) / 192)).afterResult (32 + j))) ∧
  (∀ (s : State) (ag : Fin 3) (v : Word), s.writable Reg.FILT_COEF_DATA = true →
    let bank := s.get (coefFld ag 10 8)
    let tap := s.get (coefFld ag 4 0)
    let next := fun (b : Block) => b.put (coefFld ag 4 0) (tap + 1)
    Does (.filtCoefDataAccess ag none) s (next s.toBlock) ∧
    (4 ≤ bank → s.bankInUse bank = false → Does (.filtCoefDataAccess ag (some v)) s
      (next (s.withAcq { s.acq with coefs := Bank.set (fun _ => 0) s.acq.coefs (32 * bank + tap) (v.setWidth 20) }))) ∧
    (bank < 4 ∨ s.bankInUse bank = true →
      Does (.filtCoefDataAccess ag (some v)) s (next (s.put Reg.FILT_STATUS_COEF_IGNORED_SEEN 1))))

/-- Commands to a spindle, in the states in which each acts (Table 7.1, R172). The next run of a spindle: refused, held under
STALL, or started (R166, R170, Table 7.8). Commands shown to complete, with what they then leave: spStart, spStartOnce,
spStopPass, spStopNow, runStart, spCfgWrite. -/
def Obligations.SpindleCommandsFollow : Prop :=
  (∀ (s : State) (n : Fin 48), s.writable (Reg.SP_CTL n) = true →
    (s.spState n = 0 → Does (.spStart n) s ((((s.put (Reg.SP_CTL_EPOCH n) (s.get (Reg.SP_CTL_EPOCH n) + 1)).setSp n
      { s.sp n with next := s.spBase n, repsDone := 0, ranAny := false, tsw := none }).put (Reg.SP_STAT_STATE n) 1).checkMigs)) ∧
    (s.spState n = 2 → Does (.spStart n) s (s.put (Reg.SP_STAT_STATE n) 1)) ∧
    (s.spState n = 0 → Does (.spStartOnce n) s ((s.spStart n).put (Reg.SP_STAT_STATE n) 2)) ∧
    (s.spState n = 1 → Does (.spStartOnce n) s (s.put (Reg.SP_STAT_STATE n) 2)) ∧
    (s.spState n = 1 → Does (.spStopPass n) s ((s.setSp n { s.sp n with frmLoaded := false }).put (Reg.SP_STAT_STATE n) 2)) ∧
    (s.spState n ≠ 1 → Does (.spStopPass n) s (s.setSp n { s.sp n with frmLoaded := false })) ∧
    (s.spState n = 0 → Does (.spStopNow n) s (s.setSp n { s.sp n with frmLoaded := false })) ∧
    (s.spState n ≠ 0 → (s.sp n).act = none →
      let b := s.setSp n { s.sp n with frmLoaded := false }
      let b := (b.put (Reg.SP_STAT_URG_ACTIVE n) 0).put (Reg.SP_STAT_URG_QUEUED n) 0
      Does (.spStopNow n) s (Block.enterStopped (b.setSp n { b.sp n with
        urgHeld := false, resume := (b.sp n).resume.filter (fun r => r.kind == .cal) }) n)) ∧
    (s.spState n ≠ 0 → ∀ r, (s.sp n).act = some r → r.kind ≠ .cal → Yields (.spStopNow n) s (fun b =>
      b.spState n = 0 ∧ (b.sp n).act = none ∧ b.flag (Reg.SP_STAT_URG_ACTIVE n) = false ∧
        b.flag (Reg.SP_STAT_URG_QUEUED n) = false))) ∧
  (∀ (s : State) (n : Fin 48) (v : Word), s.writable (Reg.SP_CFG n) = true →
    (s.spState n ≠ 0 → Does (.spCfgWrite n v) s (s.put (Reg.SP_STAT_CFG_IGNORED n) 1)) ∧
    (s.spState n = 0 → (s.writeFields (Reg.SP_CFG n) v).flag (Reg.SP_CFG_FRM n) = false →
      Does (.spCfgWrite n v) s (s.writeFields (Reg.SP_CFG n) v))) ∧
  (∀ (s : State) (n : Fin 48), (s.spState n = 1 ∨ s.spState n = 2) → (s.sp n).act = none → (s.sp n).resume = [] →
     (s.sp n).cal = none → (s.sp n).urgHeld = false → s.flag (Reg.SP_STAT_URG_QUEUED n) = false → s.mayBegin n = true →
     (s.sp n).frmLoaded = false →
     let e := (s.sp n).next
     let d := s.entryDef n e
     (s.refuseReason n d ≠ 0 →
       Does (.runStart n) s (((s.unstall n).recordRefusal n e (s.refuseReason n d) d).endSeqRun n e d)) ∧
     (s.refuseReason n d = 0 → s.stalls n d = true →
       Does (.runStart n) s ((s.put (Reg.SP_STAT_STALLED n) 1).put (Reg.FIFO_STAT_STALLING (s.get (Reg.SP_CFG_FIFO n))) 1)) ∧
     (s.refuseReason n d = 0 → s.stalls n d = false →
       Does (.runStart n) s ((s.setSp n { s.sp n with ranAny := true }).startRun n (s.newRun n e .seq))))

/-- Writes of SP_CFG are performed only while the spindle is STOPPED; at any other time they are ignored and set
SP_STAT.CFG_IGNORED (R172). Commands shown to complete, with what they then leave: registerWrite, spCfgWrite. -/
def Obligations.SpindleConfigOnlyWhileStopped : Prop :=
  ∀ (s : State) (n : Fin 48) (v : Word), s.writable (Reg.SP_CFG n) = true →
    let w := s.writeFields (Reg.SP_CFG n) v
    let written := if w.flag (Reg.SP_CFG_FRM n) then
        (w.put (Reg.SP_CFG_NENT n) (w.get (Reg.SP_CFG_NENT n) % 8)).put (Reg.SP_CFG_URG_E n) (w.get (Reg.SP_CFG_URG_E n) % 8)
      else w
    let ignored := s.put (Reg.SP_STAT_CFG_IGNORED n) 1
    (s.spState n = 0 → Does (.spCfgWrite n v) s written ∧
      (∀ (ag : Fin 3) (a : Fin 65536), a.val = Reg.SP_CFG n → Does (.registerWrite ag a v) s written)) ∧
    (s.spState n ≠ 0 → Does (.spCfgWrite n v) s ignored ∧
      (∀ (ag : Fin 3) (a : Fin 65536), a.val = Reg.SP_CFG n → Does (.registerWrite ag a v) s ignored) ∧
      ignored.flag (Reg.SP_STAT_CFG_IGNORED n) = true ∧ ignored.reg (Reg.SP_CFG n) = s.reg (Reg.SP_CFG n))

/-- Triggers, urgent requests and restarts (R105, R173–R175). Choices of the model in it: log entries 78, 95. Commands shown to
complete, with what they then leave: tgFire, spUrgent, urgentRegister, entryRestart. -/
def Obligations.TriggersAndUrgentsFollow : Prop :=
  (∀ (s : State) (v : Word), s.writable Reg.TG_FIRE = true →
    Does (.tgFire v) s (s.each ((List.range 32).filter (fun g => v.getLsbD g)) Block.trigger)) ∧
  (∀ (s : State) (v : Word) (g : Fin 32) (n : Fin 48) (r : Run), s.writable Reg.TG_FIRE = true → v.getLsbD g = true →
    (s.sp n).act = some r → armedIn r g = true → r.took = none →
    Yields (.tgFire v) s (fun b => (b.sp n).act = some { r with took := some s.now })) ∧
  (∀ (s : State) (n : Fin 48), s.coreOn = true → s.busySS 8 = false → (s.sp n).urgAt.isSome = true →
    let b := s.setSp n { s.sp n with urgAt := none }
    let e := b.urgentEntry n
    let d := b.entryDef n e
    let queued := b.flag (Reg.SP_STAT_URG_QUEUED n)
    let active := b.flag (Reg.SP_STAT_URG_ACTIVE n)
    (b.refuseReason n d ≠ 0 → Does (.urgentRegister n) s (b.recordRefusal n e (b.refuseReason n d) d)) ∧
    (b.refuseReason n d = 0 → queued = true → Does (.urgentRegister n) s (b.bump (Reg.SP_CNT_URG_MERGED n) 1)) ∧
    (b.refuseReason n d = 0 → queued = false → active = true →
      Does (.urgentRegister n) s (b.put (Reg.SP_STAT_URG_QUEUED n) 1)) ∧
    (b.refuseReason n d = 0 → queued = false → active = false →
      Does (.urgentRegister n) s ((b.abortForUrgent n).startUrgent n).checkMigs)) ∧
  (∀ (s : State) (n : Fin 48), (s.sp n).urgAt = none → Does (.urgentRegister n) s s.toBlock) ∧
  (∀ (s : State) (v : Word), s.writable Reg.SP_URGENT = true →
    let k := bitsOf v 5 0
    (48 ≤ k → Does (.spUrgent v) s s.toBlock) ∧
    (k < 48 → (s.sp k).urgAt = none → Does (.spUrgent v) s (s.setSp k { s.sp k with urgAt := some s.now })) ∧
    (∀ t, k < 48 → (s.sp k).urgAt = some t → s.now ≤ t + 10 → Does (.spUrgent v) s s.toBlock) ∧
    (∀ t, k < 48 → (s.sp k).urgAt = some t → t + 10 < s.now →
      let b := s.takeUrgent k
      Does (.spUrgent v) s (if (b.sp k).urgAt.isSome then b else b.setSp k { b.sp k with urgAt := some b.now }))) ∧
  (∀ (s : State) (n : Fin 48), (s.sp n).act = none → s.mayBegin n = true →
    let queued := s.flag (Reg.SP_STAT_URG_QUEUED n)
    ((s.sp n).urgHeld = true → Does (.entryRestart n) s (s.startUrgent n)) ∧
    ((s.sp n).urgHeld = false → queued = true → s.urgentFirst n = false →
      Does (.entryRestart n) s ((s.put (Reg.SP_STAT_URG_QUEUED n) 0).startUrgent n)) ∧
    (∀ r rest, (s.sp n).urgHeld = false → (queued = false ∨ r.kind = .urgent) → (s.sp n).resume = r :: rest →
      Does (.entryRestart n) s (s.restart n r)))

/-- Definitions through the window of an agent (R171): an index that changes loads the staging buffer, three words wait in it and
the fourth commits the entry. Migration and bank changes (R184, R186). Choices of the model in it: log entries 78. Commands
shown to complete, with what they then leave: seqIdxWrite, seqDataAccess, migrateSwitch, frmBankChange. -/
def Obligations.DefinitionsAndMigrationFollow : Prop :=
  (∀ (s : State) (ag : Fin 3) (v : Word), s.writable Reg.SEQ_IDX = true →
    let b := s.put (seqFld ag 11 0) (bitsOf v 11 0)
    (s.get (seqFld ag 11 2) = bitsOf v 11 2 → Does (.seqIdxWrite ag v) s b) ∧
    (s.get (seqFld ag 11 2) ≠ bitsOf v 11 2 → Does (.seqIdxWrite ag v) s (b.loadStaging ag))) ∧
  (∀ (s : State) (ag : Fin 3), s.coreOn = true → Does (.seqDataAccess ag none) s (s.advanceSeq ag)) ∧
  (∀ (s : State) (ag : Fin 3) (v : Word), s.writable Reg.SEQ_DATA = true →
    let n := s.get (seqFld ag 11 6)
    let e := s.get (seqFld ag 5 2)
    let w := s.get (seqFld ag 1 0)
    let b := (s.put (seqFld ag 31 31) 0).setStaged ag w v
    (s.seqIgnored n e = true → Does (.seqDataAccess ag (some v)) s ((s.put (seqFld ag 31 31) 1).advanceSeq ag)) ∧
    (s.seqIgnored n e = false → w ≠ 3 → Does (.seqDataAccess ag (some v)) s (b.advanceSeq ag)) ∧
    (s.seqIgnored n e = false → w = 3 → Does (.seqDataAccess ag (some v)) s
      ((b.commitEntry n e (v ++ s.staged ag 2 ++ s.staged ag 1 ++ s.staged ag 0)).advanceSeq ag))) ∧
  (∀ (s : State) (a : Fin 48) (m : SpMigration) (r : Run), (s.sp a).mig = some m → m.instant ≤ s.tbNow m.tb → m.dest < 48 →
    m.dest ≠ a → (s.sp a).act = some r → r.kind ≠ .cal → s.flag (Reg.SP_STAT_URG_QUEUED a) = false →
    Yields (.migrateSwitch a) s (fun b =>
      (∀ e : Fin 16, b.entryDef m.dest e = s.entryDef a e) ∧ b.spState m.dest = s.spState a ∧ b.spState a = 3 ∧
        b.get (Reg.SP_CFG_NENT m.dest) = s.get (Reg.SP_CFG_NENT a) ∧
        b.get (Reg.SP_CFG_FIFO m.dest) = s.get (Reg.SP_CFG_FIFO a) ∧ b.get (Reg.SP_CFG_FIFO a) = s.get (Reg.SP_CFG_FIFO m.dest) ∧
        b.get (Reg.SP_CTL_EPOCH m.dest) = (s.get (Reg.SP_CTL_EPOCH a) + 1) % 16 ∧
        (b.sp a).tsw = some s.now ∧ (b.sp a).drainFifo = s.get (Reg.SP_CFG_FIFO a) ∧ (b.sp a).mig = none)) ∧
  (∀ (s : State) (n : Fin 48), (s.sp n).frmLoaded = true → s.frmNodesRunning 0 n = false → (s.sp n).act = none →
    (s.sp n).resume = [] → (s.sp n).next = s.spBase n → (s.sp n).repsDone = 0 → s.flag (Reg.SP_CFG_FRM n) = true →
    let b := s.put (Reg.SP_CFG_FRM_BANK n) (1 - s.get (Reg.SP_CFG_FRM_BANK n))
    let b := b.put (Reg.SP_CTL_EPOCH n) (b.get (Reg.SP_CTL_EPOCH n) + 1)
    let b := (b.put (Reg.SP_CFG_NENT n) (s.sp n).frmNent).put (Reg.SP_CFG_URG_E n) (s.sp n).frmUrg
    Does (.frmBankChange n) s (b.setSp n { s.sp n with frmLoaded := false, next := b.spBase n }))

/-- The writes of a FIFO's registers (R178, R180, R181). A record delivered to a FIFO with room is in memory at BASE + 16 × (WP
mod capacity), least significant byte first, and no other byte of memory changes; WP then stands one further (R176, R180).
Choices of the model in it: log entries 51. Commands shown to complete, with what they then leave: fifoEnable, fifoRpWrite,
fifoNoticeClear. -/
def Obligations.FifosFollow : Prop :=
  (∀ (s : State) (f : Fin 48) (v : Word), s.writable (Reg.FIFO_CFG f) = true →
    let b := s.put (Reg.FIFO_CFG_POLICY f) (bitsOf v 4 3)
    let z := b.put (Reg.FIFO_CFG_SIZE f) (bitsOf v 2 0)
    (s.flag (Reg.FIFO_CFG_EN f) = true → bitsOf v 5 5 = 1 → Does (.fifoEnable f v) s b) ∧
    (s.flag (Reg.FIFO_CFG_EN f) = true → bitsOf v 5 5 = 0 → Does (.fifoEnable f v) s (b.put (Reg.FIFO_CFG_EN f) 0)) ∧
    (s.flag (Reg.FIFO_CFG_EN f) = false → bitsOf v 5 5 = 1 → z.fifoRegionOk f = false →
      Does (.fifoEnable f v) s (z.put (Reg.FIFO_STAT_CFG_BAD f) 1)) ∧
    (s.flag (Reg.FIFO_CFG_EN f) = false → bitsOf v 5 5 = 1 → z.fifoRegionOk f = true →
      Does (.fifoEnable f v) s ((((((z.put (Reg.FIFO_CFG_EN f) 1).setReg (Reg.FIFO_STAT f) 0).put (Reg.FIFO_OVF_COUNT f) 0).put
        (Reg.FIFO_WP_PTR f) 0).put (Reg.FIFO_RP_PTR f) 0).put (Reg.FIFO_LEVEL_COUNT f) 0))) ∧
  (∀ (s : State) (f : Fin 48) (v : Word), s.writable (Reg.FIFO_RP f) = true →
    let ahead := (v.toNat % 65536 + 65536 - s.get (Reg.FIFO_RP_PTR f)) % 65536
    (ahead ≤ s.fifoLevel f → Does (.fifoRpWrite f v) s ((s.put (Reg.FIFO_RP_PTR f) v.toNat).showLevel f)) ∧
    (s.fifoLevel f < ahead → Does (.fifoRpWrite f v) s (s.put (Reg.FIFO_STAT_RP_BAD f) 1))) ∧
  (∀ (s : State) (f : Fin 48) (v : Word), s.writable (Reg.FIFO_STAT f) = true →
    let b := s.writeFields (Reg.FIFO_STAT f) v
    (bitsOf v 16 16 = 0 → Does (.fifoNoticeClear f v) s b) ∧
    (bitsOf v 16 16 = 1 → Does (.fifoNoticeClear f v) s ((b.put (Reg.FIFO_STAT_PEAK f) (b.fifoLevel f)).checkWm f))) ∧
  (∀ (s : Block) (f : Fin 48) (r : Rec), s.flag (Reg.FIFO_CFG_EN f) = true → s.fifoLevel f < s.fifoCap f →
     s.fifoBase f + s.fifoBytes f ≤ memSize →
     let a := s.fifoBase f + 16 * (s.get (Reg.FIFO_WP_PTR f) % s.fifoCap f)
     let t := s.pushFifo f r
     (∀ i : Fin 16, t.byteAt (a + i) = some (r.extractLsb' (8 * i) 8)) ∧
       (∀ x : Nat, x < a ∨ a + 16 ≤ x → t.byteAt x = s.byteAt x) ∧
       t.get (Reg.FIFO_WP_PTR f) = (s.get (Reg.FIFO_WP_PTR f) + 1) % 65536 ∧
       t.get (Reg.FIFO_RP_PTR f) = s.get (Reg.FIFO_RP_PTR f))

/-- Node commands that have arrived at a powered hub on the wire (R194, R198, R199, Tables 8.6 and 8.8). A leaf that the hub's own
map marks ABSENT is rejected, and so is SENSE_SELECT of a leaf with no tap. Choices of the model in it: log entries 13, 96.
Commands shown to complete, with what they then leave: writeShadow, writeShadowIncr, readShadow, readActive,
copyActiveToShadow, stepFire, senseSelect. -/
def Obligations.NodeCommandsFollow : Prop :=
  ∀ (s : State) (t : Fin 12) (h : Fin 64) (leaf : Fin 16384),
    let k := 64 * t.val + h.val
    let u := s.hub k
    s.hubUp k = true →
    let takes := fun (c : Instr) (word : BitVec 48) (goes : OnWire → Nat → Block → Block) => ∀ x, s.arrived t word = some x →
      Does c s (goes x (s.takesAt k x) (s.setTrunk t { s.trunk t with wire := (s.trunk t).wire.erase x }))
    let node := fun (op tag : Nat) (goes : Nat → Block → Block) (_ : OnWire) (took : Nat) (b : Block) =>
      if ownKind t leaf = 63 then b.setHub k (u.reject tag op leaf took) else goes took b
    (∀ code : Fin 4096, takes (.writeShadow t h leaf code) (commandWord 1 h leaf postedTag code) (node 1 postedTag (fun took b =>
      if withinLimits t u (ownKind t leaf) code then b.setShadow (hubLeaf k leaf) (BitVec.ofNat 12 code)
      else b.setHub k (u.reject postedTag 1 leaf took)))) ∧
    (∀ inc : Fin 4096,
      let lo := hubLimit t u (ownKind t leaf) false
      let hi := hubLimit t u (ownKind t leaf) true
      takes (.writeShadowIncr t h leaf inc) (commandWord 2 h leaf postedTag inc) (node 2 postedTag (fun _ b =>
        b.setShadow (hubLeaf k leaf) (BitVec.ofInt 12 (clampInt (limitVal lo) (limitVal hi)
          (codeVal (bitOf lo 12) (s.shadowOf (hubLeaf k leaf)).toNat + signed 12 inc)))))) ∧
    (∀ tag : Fin 64, takes (.readShadow t h leaf tag) (commandWord 3 h leaf tag 0) (node 3 tag (fun took b => b.setHub k
      (u.reply tag 1 (ownKind t leaf * 4096 + (s.shadowOf (hubLeaf k leaf)).toNat) took)))) ∧
    (∀ tag : Fin 64, takes (.readActive t h leaf tag) (commandWord 4 h leaf tag 0) (node 4 tag (fun took b => b.setHub k
      (u.reply tag 1 (ownKind t leaf * 4096 + (s.activeOf (hubLeaf k leaf)).toNat) took)))) ∧
    takes (.copyActiveToShadow t h leaf false) (commandWord 5 h leaf postedTag 0) (node 5 postedTag (fun _ b =>
      b.setShadow (hubLeaf k leaf) (s.activeOf (hubLeaf k leaf)))) ∧
    takes (.copyActiveToShadow t h leaf true) (commandWord 5 h leaf postedTag 1) (fun _ _ b =>
      (b.copyAll k).setHub k { u with taint := false }) ∧
    takes (.stepFire t h leaf) (commandWord 7 h leaf postedTag 0) (node 7 postedTag (fun _ b =>
      b.setActive (hubLeaf k leaf) (s.shadowOf (hubLeaf k leaf)))) ∧
    (∀ tag : Fin 64, takes (.senseSelect t h leaf tag) (commandWord 8 h leaf tag 0) (fun x took b =>
      let b := b.openTaps t x.bad
      if x.bad.elem k then b
      else if ownKind t leaf = 63 ∨ hasTap t leaf = false then b.setHub k ((b.hub k).reject tag 8 leaf took)
      else b.setHub k ({ b.hub k with tap := some leaf.val }.reply tag 2 leaf took)))

/-- Commands to a powered hub as a whole that have arrived on the wire, the training functions among them (R198, R199, R213,
Tables 8.6, 8.8 and 8.9): a reserved opcode is an IDLE, a TRAIN of function 3 is rejected, and a command whose CHECK fails
taints. Hubs under the agents' and firmware's hands (R199, R215, R217), and the end of a hub's training (R215, R218, R515).
Choices of the model in it: log entries 31, 34, 96. Commands shown to complete, with what they then leave: idle, stepArm,
senseRelease, hubStatus, holdSilent, releaseSilent, trainAlign, trainFlight, trainLimit, fwdCheckFail, hubMarkerTimeout,
hubRelease, hubRetrain, hubQuarantine, quarantineAutoRelease, trainingComplete, taintRecovery. -/
def Obligations.HubCommandsFollow : Prop :=
  (∀ (s : State) (t : Fin 12) (x : OnWire), (s.trunk t).wire.find? (fun x => wordOp x.word == 8 || wordOp x.word == 9) = some x →
    wordOp x.word = 9 → s.arrived t x.word = some x → Does (.senseRelease t) s
      ((s.setTrunk t { s.trunk t with wire := (s.trunk t).wire.erase x }).each (trunkHubs t) (fun b j =>
        if x.bad.elem j ∨ (b.hub j).tap = none then b else b.setHub j { b.hub j with tap := none }))) ∧
  (∀ (s : State) (t : Fin 12) (h : Fin 64),
    let k := 64 * t.val + h.val
    let u := s.hub k
    let wire := (s.trunk t).wire
    s.hubUp k = true →
    let takes := fun (c : Instr) (word : BitVec 48) (goes : Nat → Block → Block) => ∀ x, s.arrived t word = some x →
      Does c s (goes (s.takesAt k x) (s.setTrunk t { s.trunk t with wire := wire.erase x }))
    let hub := fun (f : Nat → Hub) (took : Nat) (b : Block) => b.setHub k (f took)
    (wire.find? (fun x => wordHub x.word == h.val && wordOp x.word != 9) = none → Does (.idle t h) s s.toBlock) ∧
    (∀ x, wire.find? (fun x => wordHub x.word == h.val && wordOp x.word != 9) = some x →
      (wordOp x.word = 14 ∨ wordOp x.word = 15 → takes (.idle t h) x.word (fun _ b => b)) ∧
      (wordOp x.word = 13 → wordLeaf x.word / 4096 = 3 → takes (.idle t h) x.word (hub (fun took =>
        u.reject (wordTag x.word) 13 (wordLeaf x.word) took)))) ∧
    (∀ (i : Fin 32) (off : Bool), takes (.stepArm t h i off) (commandWord 6 h (512 * i + 256 * off.toNat) postedTag 0)
      (hub (fun _ => { u with armed := withBits u.armed i i (!off).toNat }))) ∧
    (∀ (w : Fin 4) (tag : Fin 64), takes (.hubStatus t h w tag) (commandWord 10 h w tag 0) (hub (u.reply tag 3 (u.statusWord t w)))) ∧
    takes (.holdSilent t h) (commandWord 11 h 0 postedTag 0) (hub (fun _ => { u with silent := true, replies := [] })) ∧
    takes (.releaseSilent t h) (commandWord 12 h 0 postedTag 0) (hub (fun _ => { u with silent := false })) ∧
    (∀ (v : Fin 4096) (tag : Fin 64), takes (.trainAlign t h v tag) (commandWord 13 h 0 tag v)
      (hub (fun took => { u with align := u.align + signed 12 v }.reply tag 4 0 took))) ∧
    (∀ v : Fin 4096, takes (.trainFlight t h v) (commandWord 13 h 0x1000 postedTag v) (hub (fun _ => { u with flight := v.val }))) ∧
    (∀ (d : Fin 64) (sg hi : Bool) (v : Fin 4096), takes (.trainLimit t h d sg hi v)
      (commandWord 13 h (0x2000 + 64 * d + 2 * sg.toNat + hi.toNat) postedTag v)
      (hub (fun _ => u.setLimit d hi (v + 4096 * sg.toNat)))) ∧
    (∀ (n : Nat) (flips : BitVec 48),
      let x : OnWire := wire.getD n { word := commandWord 0 0 0 0 0, due := 0, bad := [] }
      let got := x.word ^^^ flips
      s.clockRuns t = true → k ∉ x.bad → s.reached (s.takesAt k x) = true → crc6 got.toNat ≠ bitsOf got 5 0 →
      Does (.fwdCheckFail t (h, n, flips)) s ((s.setTrunk t { s.trunk t with
        wire := if wordHub x.word = h.val ∧ wordOp x.word ≠ 8 ∧ wordOp x.word ≠ 9 then wire.eraseIdx n
          else wire.set n { x with bad := k :: x.bad } }).setHub k
        { u with taint := true, fwdErr := u.fwdErr + 1, news := u.news || !u.taint })) ∧
    (3 * u.markerAt + 4096 ≤ 3 * s.now → Does (.hubMarkerTimeout t h) s (s.setHub k { u with armed := 0, fires := [] }))) ∧
  (∀ (s : State) (ag : Fin 3) (k : Nat), s.writable Reg.HUB_CMD = true → s.idxHub ag = some k → s.clockRuns (k / 64) = true →
    ((s.hubRec k).state = 4 → Does (.hubRelease ag) s (((s.setHubRec k { s.hubRec k with coll := 0 }).setOwn (k / 64) (k % 64)
      (.release (k % 64) :: trainCmds (k % 64))).enterHub k 1)) ∧
    ((s.hubRec k).state ≠ 4 →
      Does (.hubRetrain ag) s ((s.setOwn (k / 64) (k % 64) (trainCmds (k % 64))).enterHub k 1) ∧
        Does (.hubQuarantine ag) s (s.quarantine k))) ∧
  (∀ (s : State) (t : Fin 12) (h : Fin 64), hubExists t h = true → s.fwUp = true →
    let k := 64 * t.val + h.val
    let ms := s.get Reg.SETT_QCFG_AUTO_REL
    ((s.hubRec k).state = 4 → s.clockRuns t = true → ms ≠ 0 → (s.hubRec k).quarAt + 1000000 * ms ≤ s.now →
      Does (.quarantineAutoRelease t h) s (((s.setHubRec k { s.hubRec k with coll := 0 }).setOwn (k / 64) (k % 64)
        (.release (k % 64) :: trainCmds (k % 64))).enterHub k 1)) ∧
    ((s.hubRec k).taint = true → s.coreOn = true → Does (.taintRecovery t h) s (s.submit
      { req := 4, op := 5, trunk := t.val, hub := h.val, leaf := 0, val := 1, owner := .none, issues := 0 }))) ∧
  (∀ (s : State) (t : Fin 12) (h : Fin 64) (flight rlat : Nat),
    let k := 64 * t.val + h.val
    let r := s.hubRec k
    let u := s.hub k
    let all := s.flag Reg.SETT_CTL_RESTORE_ALL
    hubExists t h = true → r.state = 1 → s.clockRuns t = true → u.powered = true → u.silent = false → s.trainsOn t h = false →
    r.offset.natAbs ≤ 8 →
    let b := s.setHubRec k { r with
      flight := flight, taint := false, marker := false, armed := 0, coll := 0, discard := false, fresh := u.fresh, tgl := u.tgl }
    let b := b.put (Reg.TRK_FLAT_LAT t) (b.measureFlat t)
    let b := if h.val = 0 then b.put (Reg.TRK_RLAT_LAT t) rlat else b
    let b := b.setHub k (b.trainLimits t { u with taint := false, markerErr := false, armed := 0 })
    let b := b.each (trunkHubs t) (fun b j =>
      if (b.hubRec j).flight ≠ 0 ∧ (b.hub j).powered then
        b.setHub j { b.hub j with flight := 16 * b.flat t - (b.hubRec j).flight }
      else b)
    (kindSignature (b.kindAt t) 16384 = kindSignature (ownKind t) 16384 →
      let b := (b.setHubRec k { b.hubRec k with away := false, stopped := false, restore := u.fresh || (r.stopped && all) }).enterHub k 2
      let b := if r.stopped = true ∧ u.fresh = false ∧ all = false then b.submit
          { req := 1, op := 5, trunk := t.val, hub := h.val, leaf := 0, val := 1, owner := .restore, issues := 0 } else b
      Does (.trainingComplete t h flight rlat) s (if r.away then b.raise (657 + 8 * t) (hubLeaf k 0) else b)) ∧
    (kindSignature (b.kindAt t) 16384 ≠ kindSignature (ownKind t) 16384 →
      Does (.trainingComplete t h flight rlat) s
        (((b.enterHub k 5).put (Reg.TRK_STATUS_MISMATCH_SEEN t) 1).raise (661 + 8 * t) (hubLeaf k 0))))

/-- Markers at a powered hub, each heard once and after the commands before it, and the fires they carry (R197, R199, R208, R209,
R210): an armed hub brings its shadow trims into force at the fire's instant, a tainted one, or one that the Sett counts as
refusing, keeps its trims, and one that is not armed ignores the fire. The trims that an armed hub which does not refuse
brings into force at a fire are its shadow trims, at every node; the trims of every other hub, and all shadow trims, stay
(R199, R208). The collections of trims are in their canonical form. Markers of the trunks as they form (R197, R207, R209):
nothing to carry, a disarm, and a fire due in the frame. Choices of the model in it: log entries 28, 33, 92, 96. Commands
shown to complete, with what they then leave: hubMarkerReceive, hubFire, markerForm. -/
def Obligations.HubFiresFollow : Prop :=
  (∀ (s : State) (t : Fin 12) (h : Fin 64),
     let k := 64 * t.val + h.val
     let u := s.hub k
     let p := s.trunk t
     let came := 16 * p.frame + (s.hubRec k).flight
     s.hubUp k = true →
     (∀ flips : Word, s.clockRuns t = true → k ∉ p.heard → s.reached (came + 512) = true → s.commandBefore k (came + 512) = false →
       let m := p.marker ^^^ flips
       let b := s.setTrunk t { p with heard := k :: p.heard }
       let v := { u with markerAt := s.now }
       (crc3 m.toNat ≠ bitsOf m 2 0 → Does (.hubMarkerReceive t h flips) s (b.setHub k { u with markerErr := true, news := true })) ∧
       (crc3 m.toNat = bitsOf m 2 0 → bitsOf m 31 24 = 0xB8 →
         (bitsOf m 20 20 = 0 → Does (.hubMarkerReceive t h flips) s (b.setHub k v)) ∧
         (bitsOf m 20 20 = 1 → 64 ≤ bitsOf m 14 3 → bitsOf m 14 3 ≤ 2111 → Does (.hubMarkerReceive t h flips) s
           (b.setHub k { v with fires := u.fires ++ [(bitsOf m 19 15, came + 16 * bitsOf m 14 3 + u.flight)] })) ∧
         (bitsOf m 20 20 = 1 → bitsOf m 14 3 < 64 → Does (.hubMarkerReceive t h flips) s
           (b.setHub k { v with armed := withBits u.armed (bitsOf m 19 15) (bitsOf m 19 15) 0 })))) ∧
     (∀ (i e : Nat) (rest : List (Nat × Nat)), u.fires = (i, e) :: rest → s.reached e = true → s.commandBefore k e = false →
       let refuses := u.taint = true ∨ k ∈ (s.step' i).refusers
       (u.armed.getLsbD i = false → Does (.hubFire t h) s (s.setHub k { u with fires := rest })) ∧
       (u.armed.getLsbD i = true → refuses → Does (.hubFire t h) s
         (s.setHub k { u with fires := rest, armed := withBits u.armed i i 0, news := true })) ∧
       (u.armed.getLsbD i = true → ¬ refuses → Does (.hubFire t h) s ((s.withSett { s.sett with
         active := Bank.copyRange s.sett.active s.sett.shadow (hubLeaf k 0) (hubLeaf k 0 + 16384) }).setHub k
           { u with fires := rest, armed := withBits u.armed i i 0, news := true, lastFired := i, tgl := !u.tgl, fresh := false })))) ∧
  (∀ (s : State) (t : Fin 12) (h : Fin 64) (i e : Nat) (rest : List (Nat × Nat)),
     let k := 64 * t.val + h.val
     s.hubUp k = true → (s.hub k).fires = (i, e) :: rest → s.reached e = true → s.commandBefore k e = false →
     (s.hub k).armed.getLsbD i = true → (s.hub k).taint = false → k ∉ (s.step' i).refusers →
     Bank.wf nodeInit s.sett.active = true → Bank.wf nodeInit s.sett.shadow = true →
     Yields (.hubFire t h) s (fun b =>
       (∀ l : Fin 16384, b.activeOf (hubLeaf k l) = s.shadowOf (hubLeaf k l)) ∧
       (∀ a : Nat, (∀ l : Fin 16384, a ≠ hubLeaf k l) → b.activeOf a = s.activeOf a) ∧
       (∀ a : Nat, b.shadowOf a = s.shadowOf a))) ∧
  (∀ (s : State) (sub : Fin 3) (t : Fin 12), s.clockRuns t = true →
     let p := s.trunk t
     let m6 := 6 * (s.now + 8) + 2 * sub.val
     ((∀ i : Fin 32, s.stepState i = 0 ∧ (s.step' i).disarm = []) →
       Yields (.markerForm sub) s (fun b => b.trunk t = { p with marker := markerWord p.fseq false 0 0, frame := m6, heard := [], fseq := p.fseq + 1 })) ∧
     (∀ i : Fin 32, (∀ j : Fin 32, s.stepState j ≠ 2 ∧ s.stepState j ≠ 5) → (s.step' i).disarm = [t.val] →
       (∀ j : Fin 32, j ≠ i → (s.step' j).disarm = []) →
       Yields (.markerForm sub) s (fun b =>
         b.trunk t = { p with marker := markerWord p.fseq true i 0, frame := m6, heard := [], fseq := p.fseq + 1 } ∧ (b.step' i).disarm = [])) ∧
     (∀ (i : Fin 32) (f : Nat), s.stepState i = 2 → (s.step' i).carried = [] → (s.step' i).trunks = [t.val] →
       (∀ j : Fin 32, j ≠ i → s.stepState j = 0 ∧ (s.step' j).disarm = []) → (s.step' i).disarm = [] →
       s.fireInstant i m6 = (some f, none) → m6 + 64 + s.flat t ≤ f → f < m6 + 64 + s.flat t + 2048 →
       Yields (.markerForm sub) s (fun b =>
         b.trunk t = { p with marker := markerWord p.fseq true i (f - m6 - s.flat t), frame := m6, heard := [], fseq := p.fseq + 1 } ∧
           b.step' i = { s.step' i with fire := some f, carried := [t.val] })))

/-- Return slots (R200–R204, R215–R217): a slot in its place with a good CHECK is taken, one with a bad CHECK is counted and its
transaction issued again, one that starts late by more than 80 sixteenths of a bit time collides, and missing slots lose the
hub at the eighth. An answer is sent no sooner than 64 bit times after its command took effect. A reply that has not come in
32 slots counts as failed. Choices of the model in it: log entries 30. Commands shown to complete, with what they then leave:
slotReceive, slotMissing, replyTimeout. -/
def Obligations.SlotsFollow : Prop :=
  ∀ (s : State) (t : Fin 12) (h : Fin 64),
    let k := 64 * t.val + h.val
    let u := s.hub k
    let r := s.hubRec k
    hubExists t h = true → s.clockRuns t = true →
    (∀ (off : Int) (flips : BitVec 64) (due early : Bool), u.powered = true → u.silent = false →
      let sent := sendSlot h u (due && (u.replies.head?).all (fun a => s.reached (a.took + 1024)))
      let got := Nat.xor sent.1 flips.toNat
      let b := (s.setHub k sent.2).countSlot k
      let c := b.setHubRec k { b.hubRec k with offset := off, discard := false }
      let d := c.setHubRec k { c.hubRec k with coll := 0, missing := 0 }
      let slot := Instr.slotReceive t h off flips due early
      (got / 2 ^ 58 % 64 ≠ 0b110010 → Does slot s (b.noSlot k)) ∧
      (got / 2 ^ 58 % 64 = 0b110010 → -48 ≤ off → off ≤ 48 → early = false → r.discard = false →
        (crc8 got = got / 2 ^ 10 % 256 → got / 2 ^ 42 % 16 < 6 → Does slot s
          ((if r.state = 0 ∨ r.state = 3 then d.trainHub k else d).takeSlot k
            (got / 2 ^ 46 % 64) (got / 2 ^ 42 % 16) (got / 2 ^ 18 % 2 ^ 24))) ∧
        (crc8 got ≠ got / 2 ^ 10 % 256 → Does slot s ((d.bump (Reg.TRK_CNT0_SLOT_CHECK t) 1).retryTag k (sent.1 / 2 ^ 46 % 64) 0))) ∧
      (got / 2 ^ 58 % 64 = 0b110010 → -48 ≤ off → off ≤ 48 → early = true ∨ r.discard = true → Does slot s
        (d.retryTag k (sent.1 / 2 ^ 46 % 64) 64)) ∧
      (got / 2 ^ 58 % 64 = 0b110010 → 80 < off → off ≤ 128 → Does slot s ((c.retryTag k (sent.1 / 2 ^ 46 % 64) 64).collide k off))) ∧
    (r.state = 1 ∨ r.state = 2 ∨ r.state = 5 →
      let b := s.countSlot k
      let c := b.setHubRec k { b.hubRec k with discard := false, coll := 0 }
      (r.missing < 7 → Does (.slotMissing t h) s (c.setHubRec k { c.hubRec k with missing := r.missing + 1 })) ∧
      (7 ≤ r.missing → Does (.slotMissing t h) s (c.loseHub k))) ∧
    (∀ (i : Fin 15) (x : Txn), (s.tagSt k i).busy = some x → 32 ≤ (s.tagSt k i).slots →
      Does (.replyTimeout t h i) s ((s.endTag k i 64).retry x))

/-- Partner dies, trunks and kinds (R190, R193, R196, R218, R219). Choices of the model in it: log entries 10, 32. Commands shown
to complete, with what they then leave: partnerDiePowerLoss, partnerDiePowerUp, trkEnWrite, kindWrite, kmapDataAccess. -/
def Obligations.TrunksAndKindsFollow : Prop :=
  (∀ (s : State) (d : Fin 5),
    let b := (s.dropTrims d).each (dieTrunks d) (fun b t =>
      b.each (trunkHubs t) (fun b k => b.setHub k { Hub.reset with powered := false }))
    Does (.partnerDiePowerLoss d) s (b.withStock { b.stock with returning := Bank.erase b.stock.returning d })) ∧
  (∀ (s : State) (d : Fin 5),
    let up := fun (b : Block) => b.each (dieTrunks d) (fun b t =>
      b.each (trunkHubs t) (fun b k => if (b.hub k).powered then b else b.setHub k { Hub.reset with markerAt := b.now }))
    ((∃ k ∈ dieHubs d, (s.hub k).powered = false) → Does (.partnerDiePowerUp d) s
      (up (s.withStock { s.stock with returning := Bank.insert s.stock.returning d [] }))) ∧
    ((∀ k ∈ dieHubs d, (s.hub k).powered = true) → Does (.partnerDiePowerUp d) s (up s.toBlock))) ∧
  (∀ (s : State) (v : Word), s.writable Reg.SETT_CTL = true →
    Does (.trkEnWrite v) s ((s.writeFields Reg.SETT_CTL v).each trunkList
      (fun b t => if b.bit Reg.SETT_CTL t then b.startTrunk t else b.stopTrunk t))) ∧
  (∀ (s : State) (ag : Fin 3) (v : Word), s.writable Reg.KIND_DEF = true →
    let w := s.reg (ownCopy ag Reg.KIND_IDX)
    let t := bitsOf w 3 0
    let d := bitsOf w 9 4
    ((s.kindsOpen t = false ∨ d = 63) → ∀ lim, Does (.kindWrite ag lim v) s (s.put Reg.SETT_STATUS_KIND_IGNORED 1)) ∧
    (s.kindsOpen t = true → d ≠ 63 → kindOk (v &&& 0x3FFFF#32) (s.kindLim t d) = true →
      Does (.kindWrite ag false v) s (s.withSett { s.sett with
        kdef := Bank.set (fun _ => 0) s.sett.kdef (64 * t + d) (v &&& 0x3FFFF#32)
        klim := Bank.set (fun _ => 0) s.sett.klim (64 * t + d) (s.kindLim t d) })) ∧
    (s.kindsOpen t = true → d ≠ 63 → kindOk (s.kindDef t d) (v &&& 0x0FFF0FFF#32) = true →
      Does (.kindWrite ag true v) s (s.withSett { s.sett with
        kdef := Bank.set (fun _ => 0) s.sett.kdef (64 * t + d) (s.kindDef t d)
        klim := Bank.set (fun _ => 0) s.sett.klim (64 * t + d) (v &&& 0x0FFF0FFF#32) }))) ∧
  (∀ (s : State) (ag : Fin 3) (v : Word), s.writable Reg.KMAP_DATA = true → s.coreOn = true →
    let w := s.reg (ownCopy ag Reg.KMAP_IDX)
    let t := bitsOf w 3 0
    let leaf : Fld := ⟨ownCopy ag Reg.KMAP_IDX, 17, 4⟩
    let next := fun (b : Block) => b.put leaf (b.get leaf + 1)
    Does (.kmapDataAccess ag none) s (next s.toBlock) ∧
    (s.kindsOpen t = false → Does (.kmapDataAccess ag (some v)) s (next (s.put Reg.SETT_STATUS_KIND_IGNORED 1))) ∧
    (s.kindsOpen t = true → Does (.kmapDataAccess ag (some v)) s (next (s.withSett { s.sett with
      kmap := Bank.set (fun _ => 63#6) s.sett.kmap (16384 * t + bitsOf w 17 4) (v.extractLsb' 0 6) }))))

/-- The step registers and what ends a step (R206, R210, R211). A step that is OPEN or SEALED and whose fire no marker carries is
CANCELLED with its cause, and its disarm is due on every running trunk where it armed hubs (R210). Choices of the model in it:
log entries 27, 30. Commands shown to complete, with what they then leave: stepReportTimeout, stepOpen, stepSeal, stepCancel,
stepExpire. -/
def Obligations.StepRegistersFollow : Prop :=
  (∀ (s : State) (ag : Fin 3) (i : Fin 32) (v : Word), s.writable (Reg.STEP_CTL i) = true →
    let w := v ||| 1#32
    bitsOf w 1 1 = 0 → bitsOf w 2 2 = 0 →
    (bitsOf w 5 3 ≤ 4 → s.stepState i ≠ 1 → s.stepState i ≠ 2 → (s.step' i).waiting = none → (s.step' i).disarm = [] →
      Does (.stepOpen ag i v) s (((s.put (Reg.STEP_CTL_TB i) (bitsOf w 5 3)).put (Reg.STEP_CTL_MAXWAIT i) (bitsOf w 26 11)).openNow
        i (agentReq ag) (bitsOf w 5 3))) ∧
    (bitsOf w 5 3 ≤ 4 → s.stepState i ≠ 1 → s.stepState i ≠ 2 → (s.step' i).waiting = none → (s.step' i).disarm ≠ [] →
      Does (.stepOpen ag i v) s ((((s.put (Reg.STEP_CTL_TB i) (bitsOf w 5 3)).put (Reg.STEP_CTL_MAXWAIT i) (bitsOf w 26 11)).setStep
        i { s.step' i with waiting := some ⟨agentReq ag, bitsOf w 5 3, .none⟩ }).put (Reg.STEP_CTL_OPEN i) 1)) ∧
    (4 < bitsOf w 5 3 ∨ s.stepState i = 1 ∨ s.stepState i = 2 ∨ (s.step' i).waiting ≠ none → Does (.stepOpen ag i v) s s.toBlock)) ∧
  (∀ (s : State) (ag : Fin 3) (i : Fin 32) (v : Word), s.writable (Reg.STEP_CTL i) = true →
    let w := v ||| 2#32
    bitsOf w 0 0 = 0 → bitsOf w 2 2 = 0 → s.stepMine i (agentReq ag) = true →
    Does (.stepSeal ag i v) s (((s.put (Reg.STEP_CTL_MAXWAIT i) (bitsOf w 26 11)).put (Reg.STEP_CTL_TB i) (bitsOf w 5 3)).sealStep
      i (agentReq ag) .none)) ∧
  (∀ (s : State) (ag : Fin 3) (i : Fin 32) (v : Word), s.writable (Reg.STEP_CTL i) = true →
    let w := v ||| 4#32
    bitsOf w 0 0 = 0 → bitsOf w 1 1 = 0 →
    Does (.stepCancel ag i v) s (((s.put (Reg.STEP_CTL_MAXWAIT i) (bitsOf w 26 11)).put (Reg.STEP_CTL_TB i)
      (bitsOf w 5 3)).cancelStep i 5)) ∧
  (∀ (s : State) (i : Fin 32), s.stepState i = 2 → s.rstHeld = false →
    (s.step' i).sealedAt + (s.step' i).heldFor + s.maxWait i ≤ s.now → Does (.stepExpire i) s (s.cancelStep i 3)) ∧
  (∀ (s : State) (i : Fin 32) (t : Fin 12) (h : Fin 64) (f : Nat), (s.step' i).fire = some f → f + 16 * slotBits t ≤ 6 * s.now →
    Does (.stepReportTimeout i t h) s (s.refuseFire i (64 * t + h))) ∧
  (∀ (s : Block) (i : Fin 32) (cause : Fin 9), (s.stepState i = 1 ∨ s.stepState i = 2) → (s.step' i).carried = [] →
     let b := s.cancelStep i cause
     b.stepState i = 4 ∧ b.get (Reg.STEP_STAT_CAUSE i) = cause ∧
       (∀ t ∈ (s.step' i).trunks, s.clockRuns t = true → t ∈ (b.step' i).disarm))

/-- The order of Table 9.2 (R228): requester 0 first, then the owner of the position's slot, and nobody who does not compete.
Positions of the arbiters (R224–R232, R238, R513): heads that have completed unsent leave first and a pending swap is done;
then a position carries the Sett's own command, a granted head or an IDLE. A privileged head may be lowered before the grant,
or withdrawn after it. And masks. A WRITE_SHADOW that is granted goes on its trunk's wire in its position, with the posted tag
and its code brought within the limits of its kind; a code that had to be brought there counts as clamped (R194, R202, R198,
Tables 8.3 and 8.5). Choices of the model in it: log entries 96. Commands shown to complete, with what they then leave:
whorlDecide, whorlWithdraw, maskAssert. -/
def Obligations.ArbitrationFollows : Prop :=
  (∀ (s : Block) (t p : Nat) (out : Nat → Bool),
     let slot := s.slotOf t (s.bankOf t) (s.get (Reg.WH_STATUS_PTR t))
     let owner := bitsOf slot 4 0
     let rank := fun (i : Nat) => bitsOf (s.rankOf t (s.bankOf t) i) 4 0
     (s.competes t p out 0 = true → s.winner t p out = some 0) ∧
     (∀ r : Nat, s.winner t p out = some r → s.competes t p out r = true) ∧
     (s.competes t p out 0 = false → bitsOf slot 5 5 = 0 → s.competes t p out owner = true → s.winner t p out = some owner) ∧
     (∀ i : Fin 32, rank i < 23 → s.competes t p out (rank i) = true → s.competes t p out 0 = false →
       (bitsOf slot 5 5 = 1 ∨ s.competes t p out owner = false) →
       (∀ j : Fin 32, j < i → s.competes t p out (rank j) = false ∨ 23 ≤ rank j) → s.winner t p out = some (rank i))) ∧
  (∀ (s : State) (t : Fin 12) (p : Fin 42) (low : BitVec 5),
    let a := s.settleTrunk t
    let b := (a.clearIdle t).tableSwap t
    let away := fun r => low.getLsbD r
    let pres := (List.range 23).filter (fun r => b.presents t r && !away r)
    let ends := fun (x : Block) (got : Option Nat) (own : Bool) =>
      (x.each [0, 1, 2, 3] (Block.watch · t p pres got)).endPosition t got own
    a.clockRuns t = true →
    (a.whIdle t = true → Does (.whorlDecide t (p, low)) s (a.send t p (commandWord 0 0 0 0 0))) ∧
    (a.whIdle t = false → b.ownNext t = none ∨ b.competes t p away 0 = true →
      (b.winner t p away = none → Does (.whorlDecide t (p, low)) s (ends (b.send t p (commandWord 0 0 0 0 0)) none false)) ∧
      (∀ r, b.winner t p away = some r → Does (.whorlDecide t (p, low)) s (ends (b.grant t p r) (some r) false))) ∧
    (∀ x rest, a.whIdle t = false → b.ownNext t = some (x, rest) → b.competes t p away 0 = false →
      Does (.whorlDecide t (p, low)) s (ends (b.sendOwn t p x rest) none true)) ∧
    (∀ r, a.whIdle t = false → b.winner t p (fun _ => false) = some r → r ≤ 4 → b.ownNext t = none ∨ r = 0 →
      Does (.whorlWithdraw t p) s (((a.clearIdle t).bump (Reg.WH_CNT_WITHDRAWALS t) 1).position t p (· == r) (fun _ => false)))) ∧
  (∀ (s : State) (r : Fin 23), s.masked r = true →
    Does (.maskAssert r) s (((s.dropQueues r).forgetBusy r).ownerGone r).settleSeals) ∧
  (∀ (s : Block) (p : Nat) (x : Txn), x.op = 1 → x.owner = .none →
     let t := x.trunk
     let d := s.kindAt t x.leaf
     let l := s.kindLim t d
     let val := codeVal (s.kindSigned t d)
     let code := toBits 12 (clampInt (val (bitsOf l 11 0)) (val (bitsOf l 27 16)) (val x.val))
     let w := commandWord 1 x.hub x.leaf postedTag code
     let u := s.trunk t
     let b := s.setTrunk t { u with sent := w, wire := u.wire ++ [{ word := w, due := u.frame + 84 + 48 * p, bad := [] }] }
     (code = x.val % 4096 → s.issuePosted p x = b.settleSeals) ∧
     (code ≠ x.val % 4096 → s.issuePosted p x =
       ((b.bump (Reg.TRK_CNT1_CLAMPS t) 1).raise (663 + 8 * t) (nodeAddr t x.hub x.leaf)).settleSeals))

/-- Time tables, rankings and watches (R232, R233, R236). Choices of the model in it: log entries 97. Commands shown to complete,
with what they then leave: swap, tableSwap, whTdataAccess, whRdataAccess, watchClear. -/
def Obligations.WhorlTablesFollow : Prop :=
  (∀ (s : State) (t : Fin 12), s.writable (Reg.WH_CTL t) = true → Does (.swap t) s (s.put (Reg.WH_CTL_SWAP_PENDING t) 1)) ∧
  (∀ (s : State) (t : Fin 12), s.clockRuns t = true → s.busySS 11 = false → s.flag (Reg.WH_CTL_SWAP_PENDING t) = true →
    s.get (Reg.WH_STATUS_PTR t) = 0 →
    Does (.tableSwap t) s (((s.put (Reg.WH_CTL_ACTIVE t) (1 - s.bankOf t)).put (Reg.WH_CTL_SWAP_PENDING t) 0).raise (961 + 2 * t)
      (1 - s.bankOf t))) ∧
  (∀ (s : State) (ag : Fin 3) (v : Word), s.writable Reg.WH_TDATA = true → s.coreOn = true →
    let w := s.reg (ownCopy ag Reg.WH_TIDX)
    let t := bitsOf w 3 0
    let b := bitsOf w 4 4
    let i := bitsOf w 10 5
    let next := fun (x : Block) => x.put ⟨ownCopy ag Reg.WH_TIDX, 10, 5⟩ (i + 1)
    Does (.whTdataAccess ag none) s (next s.toBlock) ∧
    (t < 12 → s.domainOn (36 + t) = false → Does (.whTdataAccess ag (some v)) s (next s.toBlock)) ∧
    (t < 12 → s.domainOn (36 + t) = true → (b = s.bankOf t ∨ (bitsOf v 5 5 = 0 ∧ 23 ≤ bitsOf v 4 0)) →
      Does (.whTdataAccess ag (some v)) s (next (s.put (Reg.WH_STATUS_CFG_IGNORED t) 1))) ∧
    (t < 12 → s.domainOn (36 + t) = true → b ≠ s.bankOf t → (bitsOf v 5 5 = 1 ∨ bitsOf v 4 0 < 23) →
      Does (.whTdataAccess ag (some v)) s (next (s.withWhorl { s.whorl with
        slots := Bank.set (fun _ => 0x20#32) s.whorl.slots (64 * (2 * t + b) + i) (v &&& 0x3F#32) })))) ∧
  (∀ (s : State) (ag : Fin 3) (v : Word), s.writable Reg.WH_RDATA = true → s.coreOn = true →
    let w := s.reg (ownCopy ag Reg.WH_RIDX)
    let t := bitsOf w 3 0
    let b := bitsOf w 4 4
    let i := bitsOf w 9 5
    let next := fun (x : Block) => x.put ⟨ownCopy ag Reg.WH_RIDX, 9, 5⟩ (i + 1)
    Does (.whRdataAccess ag none) s (next s.toBlock) ∧
    (t < 12 → s.domainOn (36 + t) = false → Does (.whRdataAccess ag (some v)) s (next s.toBlock)) ∧
    (t < 12 → s.domainOn (36 + t) = true → b = s.bankOf t → Does (.whRdataAccess ag (some v)) s (next (s.put (Reg.WH_STATUS_CFG_IGNORED t) 1))) ∧
    (t < 12 → s.domainOn (36 + t) = true → b ≠ s.bankOf t → Does (.whRdataAccess ag (some v)) s (next (s.withWhorl { s.whorl with
      ranks := Bank.set (fun j => BitVec.ofNat 32 (j % 32)) s.whorl.ranks (32 * (2 * t + b) + i) (v &&& 0x1F#32) })))) ∧
  (∀ (s : State) (t : Fin 12) (w : Fin 4), s.writable (Reg.WH_WSTAT t w) = true →
    let starving := s.flag (Reg.WH_WSTAT_STARVED t w) = true ∧ max 1 (s.get (Reg.WH_WATCH_LIMIT t w)) ≤ s.waitOf t w
    let b := if starving then s.setAgain t w true else s.toBlock
    Does (.watchClear t w) s ((b.put (Reg.WH_WSTAT_STARVED t w) 0).put (Reg.WH_WSTAT_PEAK t w) (s.waitOf t w)))

/-- Owl windows as their inputs move (R302–R306). The configuration of Owl windows, and their self-checks (R299, R300, R308,
R311–R313). Choices of the model in it: log entries 42, 102. Commands shown to complete, with what they then leave:
windowDecision, wCfgWrite, wThrWrite, latchClear, owlArm, owlDisarm, suspendEnd, selfCheckTie, selfCheckSwap, selfCheckEnd,
autoVisit, windowClassChange. -/
def Obligations.WindowsFollow : Prop :=
  (∀ (s : State) (w : Fin 256) (v : Int), s.coreOn = true → s.busySS 13 = false → s.owlMode w ≠ 0 → s.suspended w = false →
    Does (.windowClassChange w v) s
      (s.setClass w (nextClass (s.owlLo w) (s.owlHi w) (s.owlHyst w) (spanLevel v) (s.owlClass w)))) ∧
  (∀ (s : State) (w : Fin 256) (v : Int), s.coreOn = true → s.busySS 13 = false → s.owlMust w = false → s.owlChecked w = false →
    let b := s.setBit (Reg.OWL_SUSP (w / 32)) (w % 32) false
    (s.owlMode w = 0 → Does (.suspendEnd w v) s b) ∧
    (s.owlMode w ≠ 0 → Does (.suspendEnd w v) s (b.setClass w (plainClass (s.owlLo w) (s.owlHi w) (spanLevel v))))) ∧
  (∀ (s : State) (w : Fin 256) (t : Nat), s.coreOn = true → s.busySS 13 = false → s.suspended w = false →
    s.trips w (s.owlClass w) = true → s.bit (Reg.OWL_LATCH (w / 32)) (w % 32) = false → (s.owlWin w).since = some t →
    t + 2 * s.get (Reg.W_CFG_QUAL w) ≤ s.now →
    s.flag (Reg.W_ACT_EV_EN w) = true → s.flag (Reg.W_ACT_TRIG_EN w) = false → s.flag (Reg.W_ACT_URG_EN w) = false →
    s.bit (Reg.OWL_GARM (w / 32)) (w % 32) = false → s.decideBefore w = [] →
    let o := s.owlWin w
    let o' : OwlWin := { o with
      wcnt := withBits o.wcnt 15 0 (satAdd 16 (bitsOf o.wcnt 15 0) 1)
      wt := s.localCount
      wstat := withBits o.wstat 1 0 (s.owlClass w) }
    Does (.windowDecision w) s (((s.setOwlWin w o').setBit (Reg.OWL_LATCH (w / 32)) (w % 32) true).raise w (bitsOf o'.wstat 6 0))) ∧
  (∀ (s : State) (i : Fin 8) (v : Word), s.writable (Reg.OWL_LATCH i) = true →
    Does (.latchClear i v) s (s.each ((List.range 32).filter (fun b => v.getLsbD b && s.bit (Reg.OWL_LATCH i) b))
      (fun x b => x.clearLatch (32 * i + b) x.now))) ∧
  (∀ (s : Block) (w c : Nat),
    let b := s.setBit (Reg.OWL_LATCH (w / 32)) (w % 32) false
    ((s.owlWin w).wt.toNat / 2 = c / 2 → s.clearLatch w c = s) ∧
    ((s.owlWin w).wt.toNat / 2 ≠ c / 2 → b.decisionAt w = none → s.clearLatch w c = b) ∧
    (∀ d, (s.owlWin w).wt.toNat / 2 ≠ c / 2 → b.decisionAt w = some d →
      (d / 2 ≠ c / 2 → s.clearLatch w c = b.setOwlWin w { s.owlWin w with since := some (c + 2) }) ∧
      (d / 2 = c / 2 → s.clearLatch w c = if b.decides w then b.trip w else b))) ∧
  (∀ (s : State) (w : Fin 256), s.writable Reg.OWL_GCMD = true →
    Does (.owlArm w) s (s.setBit (Reg.OWL_GARM (w / 32)) (w % 32) true) ∧
      Does (.owlDisarm w) s (s.setBit (Reg.OWL_GARM (w / 32)) (w % 32) false)) ∧
  (∀ (s : State) (w : Fin 256) (v : Word), s.writable (Reg.W_CFG w) = true →
    let b := s.writeFields (Reg.W_CFG w) v
    let ignored := bitsOf v 17 16 = 3 ∨ owlInputOk (bitsOf v 11 0) = false
    (ignored → Does (.wCfgWrite w v) s (s.put Reg.OWL_STATUS_CFG_IGNORED_SEEN 1)) ∧
    (¬ ignored → bitsOf (s.reg (Reg.W_CFG w)) 15 0 ≠ bitsOf v 15 0 →
      Does (.wCfgWrite w v) s (((b.suspend w (b.now + 40)).setBit (Reg.OWL_ABOVE (w / 32)) (w % 32) false).setBit
        (Reg.OWL_BELOW (w / 32)) (w % 32) false)) ∧
    (¬ ignored → bitsOf (s.reg (Reg.W_CFG w)) 15 0 = bitsOf v 15 0 → bitsOf (s.reg (Reg.W_CFG w)) 17 16 = bitsOf v 17 16 →
      Does (.wCfgWrite w v) s b) ∧
    (¬ ignored → bitsOf (s.reg (Reg.W_CFG w)) 15 0 = bitsOf v 15 0 → bitsOf (s.reg (Reg.W_CFG w)) 17 16 ≠ bitsOf v 17 16 →
      (bitsOf v 17 16 = 0 ∨ bitsOf (s.reg (Reg.W_CFG w)) 17 16 = 0 → Does (.wCfgWrite w v) s
        (((b.setOwlWin w { b.owlWin w with known := false, since := none }).setBit (Reg.OWL_ABOVE (w / 32)) (w % 32) false).setBit
          (Reg.OWL_BELOW (w / 32)) (w % 32) false)) ∧
      (bitsOf v 17 16 ≠ 0 → bitsOf (s.reg (Reg.W_CFG w)) 17 16 ≠ 0 → Does (.wCfgWrite w v) s
        (b.setOwlWin w { b.owlWin w with since := if b.trips w (s.owlClass w) then some s.now else none })))) ∧
  (∀ (s : State) (w : Fin 256) (v : Word), s.writable (Reg.W_THR w) = true →
    let b := s.writeFields (Reg.W_THR w) v
    (signed 10 (bitsOf v 25 16) < signed 10 (bitsOf v 9 0) →
      Does (.wThrWrite w v) s (s.put Reg.OWL_STATUS_CFG_IGNORED_SEEN 1)) ∧
    (signed 10 (bitsOf v 9 0) ≤ signed 10 (bitsOf v 25 16) → b.reg (Reg.W_THR w) = s.reg (Reg.W_THR w) →
      Does (.wThrWrite w v) s b) ∧
    (signed 10 (bitsOf v 9 0) ≤ signed 10 (bitsOf v 25 16) → b.reg (Reg.W_THR w) ≠ s.reg (Reg.W_THR w) →
      Does (.wThrWrite w v) s (((b.suspend w (b.now + 40)).setBit (Reg.OWL_ABOVE (w / 32)) (w % 32) false).setBit
        (Reg.OWL_BELOW (w / 32)) (w % 32) false))) ∧
  (∀ (s : State) (k : OwlCheck), s.owl.check = some k → s.coreOn = true →
    let sampled := fun (b : Block) => b.withOwl { b.owl with check := some { k with sampled := true } }
    (k.kind = 1 → k.start + 50 ≤ s.now → ∀ c : Fin 4, c ≠ 0 → Does (.selfCheckTie c) s (sampled (s.put Reg.OWL_SCSTAT_CLASS c))) ∧
    (k.kind = 2 → k.start + 100 ≤ s.now → ∀ c n : Fin 4, c ≠ 0 → n ≠ 0 →
      Does (.selfCheckSwap c n) s (sampled ((s.put Reg.OWL_SCSTAT_CLASS c).put Reg.OWL_SCSTAT_CLASS_N n)))) ∧
  (∀ (s : State) (k : OwlCheck), s.owl.check = some k → k.sampled = true →
    let b := ((s.withOwl { s.owl with check := none }).put Reg.OWL_SCSTAT_DONE 1).put Reg.OWL_SCSTAT_BUSY 0
    let ends := fun (b : Block) => ((if b.trips k.window (b.owlClass k.window) then
      b.setOwlWin k.window { b.owlWin k.window with since := some s.now } else b).afterCheck k)
    (k.kind = 1 → k.start + 72 ≤ s.now → Does .selfCheckEnd s (ends (b.judgeTie k))) ∧
    (k.kind = 2 → k.start + 102 ≤ s.now → Does .selfCheckEnd s (ends b))) ∧
  (∀ s : State, s.flag Reg.OWL_SCAUTO_EN = true → s.coreOn = true → s.busySS 13 = false →
    let at' := s.owl.visitAt + 1000 * max 1 (s.get Reg.OWL_SCAUTO_PERIOD)
    at' ≤ s.now →
    (s.owl.check.isSome = true → Does .autoVisit s (s.withOwl { s.owl with due := true, visitAt := at' })) ∧
    (s.owl.check = none → s.nextVisit (s.get Reg.OWL_SCAUTO_NEXT) = none →
      Does .autoVisit s (s.withOwl { s.owl with due := false, visitAt := at' })) ∧
    (∀ w, s.owl.check = none → s.nextVisit (s.get Reg.OWL_SCAUTO_NEXT) = some w →
      Does .autoVisit s ((((s.withOwl { s.owl with due := false, visitAt := at' }).put Reg.OWL_SCAUTO_NEXT
        ((s.nextVisit ((w + 1) % 256)).getD w))).visitWindow w)))

/-- s0 reads 0 and discards writes; the other scalar registers read what was last written, and no register of another number or
engine changes (R241). After an instruction the engine no longer holds and its PC is one word on; past the last instruction,
or outside the active half in forerunner mode, the engine faults (R241, R269, Table 10.4). Choices of the model in it: log
entries 36. -/
def Obligations.EngineRegistersFollow : Prop :=
  (∀ (s : Block) (n m i j : Nat) (v : Word),
     s.sx n 0 = 0 ∧ s.setSx n 0 v = s ∧ (i ≠ 0 → (s.setSx n i v).sx n i = v) ∧
       (n ≠ m ∨ i ≠ j → (s.setSx n i v).sx m j = s.sx m j)) ∧
  (∀ (s : Block) (n : Fin 16),
     let b := (s.put (Reg.FX_STATUS_WAITING n) 0).setEngine n { s.engine n with holdAt := none }
     (s.pcOk n (s.pc n + 4) = true → s.nextFx n = b.put (Reg.FX_PC_PC n) (s.get (Reg.FX_PC_PC n) + 1)) ∧
     (s.pcOk n (s.pc n + 4) = false → s.nextFx n = b.faultFx n 7))

/-- A word that is no instruction faults as ILLEGAL, and one with an uncorrectable error as PM_ECC, whatever instruction the
command names; a corrected word sets CE_SEEN and is performed (R244, R247, R265). Under GUARD_ONLY a running engine enters
HELD in place of issuing any instruction (R274); a vector access that is on its way is not cut short. Choices of the model in
it: log entries 81. Commands shown to complete, with what they then leave: nop. -/
def Obligations.IssueStops : Prop :=
  (∀ (s : State) (c : Instr) (n : Fin 16) (w : Word), foxWord c = some (n, w) → s.fxUp n = true → s.fxState n = 1 →
     s.get Reg.WH_GSTATUS_MODE ≠ 2 →
     let at' := s.get (Reg.FX_PC_PC n)
     (2 ≤ s.pmCheck n at' → Does c s (s.faultFx n 4)) ∧
     (s.pmCheck n at' ≤ 1 → foxLegal (s.pmWord n at') = false → Does c s (s.faultFx n 1)) ∧
     (s.pmCheck n at' = 1 → s.pmWord n at' = 1 → Does (.nop n) s ((s.put (Reg.FX_STATUS_CE_SEEN n) 1).nextFx n))) ∧
  (∀ (s : State) (c : Instr) (n : Fin 16) (w : Word), foxWord c = some (n, w) → s.fxUp n = true → s.fxState n = 1 →
     s.get Reg.WH_GSTATUS_MODE = 2 → (s.engine n).part = [] → Does c s (s.setFx n 5))

/-- A word has one instruction: the word of every well-formed instruction is read back as that instruction (R247). -/
def Obligations.FoxWordsReadBack : Prop :=
  ∀ (c : Instr) (n : Fin 16) (w : Word), c.wf = true → foxWord c = some (n, w) → foxLegal w = true ∧ foxCommand n w = some c

/-- Scalar operations (Tables 10.2 and 10.3). Branches and calls (Table 10.4, R269): where control goes when the target is in the
programme memory. Choices of the model in it: log entries 81. Commands shown to complete, with what they then leave: add, sub,
and, or, xor, shl, shr, sar, lt, ltu, mul, mulhs, min, max, div, addk, andk, ork, xork, shiftk, ltk, highk, ifeq, ifne, iflt,
ifge, iflo, ifhs, call, callr. -/
def Obligations.ScalarOperationsFollow : Prop :=
  (∀ (s : State) (n x y z : Fin 16) (imm : BitVec 18),
     let a := s.sx n y
     let b := s.sx n z
     let does := fun (c : Instr) (v : Word) => Issues c n s → Does c s ((s.setSx n x v).nextFx n)
     does (.add n x y z) (a + b) ∧ does (.sub n x y z) (a - b) ∧ does (.and n x y z) (a &&& b) ∧
     does (.or n x y z) (a ||| b) ∧ does (.xor n x y z) (a ^^^ b) ∧
     does (.shl n x y z) (a <<< bitsOf b 4 0) ∧ does (.shr n x y z) (a >>> bitsOf b 4 0) ∧
     does (.sar n x y z) (a.sshiftRight (bitsOf b 4 0)) ∧
     does (.lt n x y z) (if a.toInt < b.toInt then 1 else 0) ∧ does (.ltu n x y z) (if a.toNat < b.toNat then 1 else 0) ∧
     does (.mul n x y z) (a * b) ∧ does (.mulhs n x y z) (BitVec.ofInt 32 (a.toInt * b.toInt / 2 ^ 32)) ∧
     does (.min n x y z) (if a.toInt ≤ b.toInt then a else b) ∧ does (.max n x y z) (if a.toInt ≤ b.toInt then b else a) ∧
     does (.div n x y z) (if b = 0 then 0 else BitVec.ofInt 32 (a.toInt.tdiv b.toInt)) ∧
     does (.addk n x y imm) (a + imm.signExtend 32) ∧ does (.andk n x y imm) (a &&& imm.setWidth 32) ∧
     does (.ork n x y imm) (a ||| imm.setWidth 32) ∧ does (.xork n x y imm) (a ^^^ imm.setWidth 32) ∧
     (bitsOf imm 6 5 = 0 → does (.shiftk n x y imm) (a <<< bitsOf imm 4 0)) ∧
     (bitsOf imm 6 5 = 1 → does (.shiftk n x y imm) (a >>> bitsOf imm 4 0)) ∧
     (bitsOf imm 6 5 = 2 → does (.shiftk n x y imm) (a.sshiftRight (bitsOf imm 4 0))) ∧
     does (.ltk n x y imm) (if a.toInt < imm.toInt then 1 else 0) ∧
     (∀ h : BitVec 22, does (.highk n x h) (BitVec.ofNat 32 (h.toNat * 1024)))) ∧
  (∀ (s : State) (n x y : Fin 16) (off : BitVec 18),
     let a := s.sx n x
     let b := s.sx n y
     let goes := (s.pc n : Int) + 4 * off.toInt
     let branch := fun (c : Instr) (taken : Prop) => Issues c n s →
       (¬ taken → Does c s (s.nextFx n)) ∧ (taken → s.pcOk n goes = true → Does c s (s.setPc n goes.toNat)) ∧
         (taken → s.pcOk n goes = false → Does c s (s.faultFx n 7))
     branch (.ifeq n x y off) (a = b) ∧ branch (.ifne n x y off) (a ≠ b) ∧
     branch (.iflt n x y off) (a.toInt < b.toInt) ∧ branch (.ifge n x y off) (b.toInt ≤ a.toInt) ∧
     branch (.iflo n x y off) (a.toNat < b.toNat) ∧ branch (.ifhs n x y off) (b.toNat ≤ a.toNat) ∧
     (∀ l : BitVec 22,
       let goes := (s.pc n : Int) + 4 * l.toInt
       Issues (.call n x l) n s → s.pcOk n goes = true →
         Does (.call n x l) s ((s.setSx n x (BitVec.ofNat 32 (s.pc n + 4))).setPc n goes.toNat)) ∧
     (let t := (b + off.signExtend 32).toNat / 4 * 4
       let goes := if s.frm n then t % 32768 + 32768 * s.actHalf n else t
       Issues (.callr n x y off) n s → s.pcOk n goes = true →
         Does (.callr n x y off) s ((s.setSx n x (BitVec.ofNat 32 (s.pc n + 4))).setPc n goes)))

/-- Where a data access goes (R242, R243): the scratch memory, the mailbox region and the rest of the result memory, by address;
an address that is no multiple of the access's size is judged first. Loads (R242–R244, R248–R250, Table 10.2): from scratch
memory, and from bytes of the result memory that have been written and are not in the write buffer; a misaligned access and
one outside the memories fault. Stores (R248–R250, Table 10.2): to scratch memory at once, to the mailbox region with the
write buffer empty, and elsewhere into the write buffer while it has room; a misaligned access and one outside the memories
fault, and nothing is stored. Bytes written to the result memory read back, and every other byte reads as before (R25, R360).
Choices of the model in it: log entries 36. Commands shown to complete, with what they then leave: load32, load16s, load16u,
load8s, load8u, store32, store16, store8, vload, vstore. -/
def Obligations.LoadsAndStoresFollow : Prop :=
  (∀ (a size : Nat), size = 1 ∨ size = 2 ∨ size = 4 ∨ size = 32 →
     (a % size ≠ 0 → placeOf a size = .fault 2) ∧
     (a % size = 0 → a < 0x8000 → placeOf a size = .scratch a) ∧
     (a % size = 0 → 0x800000 ≤ a → a < 0x810000 → placeOf a size = .mailbox (a - 0x800000)) ∧
     (a % size = 0 → 0x810000 ≤ a → a < 0x1000000 → placeOf a size = .memory (a - 0x800000)) ∧
     (a % size = 0 → (0x8000 ≤ a ∧ a < 0x800000) ∨ 0x1000000 ≤ a → placeOf a size = .fault 3)) ∧
  (∀ (s : State) (n x y : Fin 16) (imm : BitVec 18),
     let at' := (s.sx n y + imm.signExtend 32).toNat
     let loads := fun (c : Instr) (k : Nat) (goes : Block → List Byte → Block) => Issues c n s →
       (∀ a, placeOf at' k = .scratch a → (∀ i, i < k → s.scrCheck n (a + i) = 0) →
         Does c s (goes s.toBlock (s.scratchBytes n a k))) ∧
       (∀ o (bs : List Byte), placeOf at' k = .memory o → (s.engine n).wbuf = [] →
         (List.range k).map (fun i => s.byteAt (o + i)) = bs.map some → Does c s (goes s.toBlock bs)) ∧
       (∀ o (bs : List Byte), placeOf at' k = .mailbox o → (s.engine n).wbuf = [] → k ≤ 4 →
         (List.range k).map (fun i => s.byteAt (o + i)) = bs.map some →
         Does c s (goes (s.setEngine n { s.engine n with part := [] }) bs)) ∧
       (∀ cause, placeOf at' k = .fault cause → Does c s (s.faultFx n cause))
     let word := fun (ext : Word → Word) (b : Block) (bs : List Byte) => (b.setSx n x (ext (bytesWord bs))).nextFx n
     loads (.load32 n x y imm) 4 (word id) ∧
     loads (.load16s n x y imm) 2 (word (fun w => (w.extractLsb' 0 16).signExtend 32)) ∧
     loads (.load16u n x y imm) 2 (word id) ∧
     loads (.load8s n x y imm) 1 (word (fun w => (w.extractLsb' 0 8).signExtend 32)) ∧
     loads (.load8u n x y imm) 1 (word id) ∧
     loads (.vload n x y imm) 32 (fun b bs => (b.setVx n x (bytesVec bs)).nextFx n)) ∧
  (∀ (s : State) (n x y : Fin 16) (imm : BitVec 18),
     let at' := (s.sx n y + imm.signExtend 32).toNat
     let g := s.engine n
     let stores := fun (c : Instr) (bs : List Byte) => Issues c n s →
       (∀ a, placeOf at' bs.length = .scratch a → Does c s ((s.scratchWrite n a bs).nextFx n)) ∧
       (∀ o, placeOf at' bs.length = .mailbox o → g.wbuf = [] → bs.length ≤ 4 →
         let t := s.memWrite o bs
         Does c s ((t.setEngine n { t.engine n with part := [] }).nextFx n)) ∧
       (∀ o, placeOf at' bs.length = .memory o → g.wbuf.length < 8 →
         Does c s ((s.setEngine n { g with wbuf := g.wbuf ++ [⟨o, bs⟩] }).nextFx n)) ∧
       (∀ cause, placeOf at' bs.length = .fault cause → Does c s (s.faultFx n cause))
     stores (.store32 n x y imm) (wordBytes (s.sx n x)) ∧ stores (.store16 n x y imm) ((wordBytes (s.sx n x)).take 2) ∧
     stores (.store8 n x y imm) ((wordBytes (s.sx n x)).take 1) ∧ stores (.vstore n x y imm) (vecBytes (s.vx n x))) ∧
  (∀ (s : Block) (o : Nat) (bs : List Byte), o + bs.length ≤ memSize →
     (∀ i, i < bs.length → (s.memWrite o bs).byteAt (o + i) = bs[i]?) ∧
     (∀ a : Nat, a < o ∨ o + bs.length ≤ a → (s.memWrite o bs).byteAt a = s.byteAt a))

/-- Loads and stores of an engine's scratch memory are performed at issue (R248): a load takes the bytes as they stand, a store
puts its bytes there and no others of any engine, and the engine goes on to the next instruction. A loaded byte that was
corrected sets CE_SEEN, and one that cannot be corrected is a SCR_ECC fault (R244). Commands shown to complete, with what they
then leave: load32, load16s, load16u, load8s, load8u, store32, store16, store8, vload, vstore. -/
def Obligations.ScratchAccessedAtIssue : Prop :=
  ∀ (s : State) (n x y : Fin 16) (imm : BitVec 18),
    let at' := (s.sx n y + imm.signExtend 32).toNat
    let loads := fun (c : Instr) (k : Nat) (goes : Block → List Byte → Block) => ∀ a, Issues c n s → placeOf at' k = .scratch a →
      let bs := (List.range k).map (fun i => s.scratch n (a + i))
      ((∀ i, i < k → s.scrCheck n (a + i) = 0) → Does c s ((goes s.toBlock bs).nextFx n)) ∧
      ((∀ i, i < k → s.scrCheck n (a + i) ≤ 1) → (∃ i, i < k ∧ s.scrCheck n (a + i) = 1) →
        Does c s ((goes (s.put (Reg.FX_STATUS_CE_SEEN n) 1) bs).nextFx n)) ∧
      ((∃ i, i < k ∧ 2 ≤ s.scrCheck n (a + i)) → Does c s (s.faultFx n 5))
    let word := fun (ext : Word → Word) (b : Block) (bs : List Byte) => b.setSx n x (ext (bytesWord bs))
    let stores := fun (c : Instr) (bs : List Byte) => ∀ a, Issues c n s → placeOf at' bs.length = .scratch a →
      let t := s.scratchWrite n a bs
      Does c s (t.nextFx n) ∧
        (∀ (m : Fin 16) (i : Fin 32768), m ≠ n ∨ i < a ∨ a + bs.length ≤ i →
          t.scratch m i = s.scratch m i ∧ t.scrCheck m i = s.scrCheck m i) ∧
        (∀ i, i < bs.length → bs[i]? = some (t.scratch n (a + i)) ∧ t.scrCheck n (a + i) = 0)
    loads (.load32 n x y imm) 4 (word id) ∧
    loads (.load16s n x y imm) 2 (word (fun w => (w.extractLsb' 0 16).signExtend 32)) ∧
    loads (.load16u n x y imm) 2 (word id) ∧
    loads (.load8s n x y imm) 1 (word (fun w => (w.extractLsb' 0 8).signExtend 32)) ∧
    loads (.load8u n x y imm) 1 (word id) ∧
    loads (.vload n x y imm) 32 (fun b bs => b.setVx n x (bytesVec bs)) ∧
    stores (.store32 n x y imm) (wordBytes (s.sx n x)) ∧ stores (.store16 n x y imm) ((wordBytes (s.sx n x)).take 2) ∧
    stores (.store8 n x y imm) ((wordBytes (s.sx n x)).take 1) ∧ stores (.vstore n x y imm) (vecBytes (s.vx n x))

/-- An access to the mailbox region holds at issue until the write buffer is empty, and is then performed (R250). A vector access
is performed 32 bits at a time, each of them a command of its own, and ends with the last (R26, R243). Commands shown to
complete, with what they then leave: load32, load16s, load16u, load8s, load8u, store32, store16, store8, vload, vstore. -/
def Obligations.MailboxWaitsForBuffer : Prop :=
  ∀ (s : State) (n x y : Fin 16) (imm : BitVec 18),
    let at' := (s.sx n y + imm.signExtend 32).toNat
    let part := fun (b : Block) (l : List Byte) => b.setEngine n { b.engine n with part := l }
    let loads := fun (c : Instr) (k : Nat) (goes : Block → List Byte → Block) => ∀ o, Issues c n s → placeOf at' k = .mailbox o →
      let got := (s.engine n).part.take (k - 4)
      let r := s.loadBytes n (o + got.length) (min k 4)
      ((s.engine n).wbuf ≠ [] → Does c s s.toBlock) ∧
      ((s.engine n).wbuf = [] → Does c s (
        if r.2.1 then r.2.2.faultFx n 6
        else if got.length + 4 < k then part r.2.2 (got ++ r.1)
        else (goes (part r.2.2 []) (got ++ r.1)).nextFx n))
    let word := fun (ext : Word → Word) (b : Block) (bs : List Byte) => b.setSx n x (ext (bytesWord bs))
    let stores := fun (c : Instr) (bs : List Byte) => ∀ o, Issues c n s → placeOf at' bs.length = .mailbox o →
      let put := (s.engine n).part.take (bs.length - 4)
      let t := s.memWrite (o + put.length) ((bs.drop put.length).take 4)
      ((s.engine n).wbuf ≠ [] → Does c s s.toBlock) ∧
      ((s.engine n).wbuf = [] → Does c s (
        if put.length + 4 < bs.length then part t (put ++ (bs.drop put.length).take 4) else (part t []).nextFx n))
    loads (.load32 n x y imm) 4 (word id) ∧
    loads (.load16s n x y imm) 2 (word (fun w => (w.extractLsb' 0 16).signExtend 32)) ∧
    loads (.load16u n x y imm) 2 (word id) ∧
    loads (.load8s n x y imm) 1 (word (fun w => (w.extractLsb' 0 8).signExtend 32)) ∧
    loads (.load8u n x y imm) 1 (word id) ∧
    loads (.vload n x y imm) 32 (fun b bs => b.setVx n x (bytesVec bs)) ∧
    stores (.store32 n x y imm) (wordBytes (s.sx n x)) ∧ stores (.store16 n x y imm) ((wordBytes (s.sx n x)).take 2) ∧
    stores (.store8 n x y imm) ((wordBytes (s.sx n x)).take 1) ∧ stores (.vstore n x y imm) (vecBytes (s.vx n x))

/-- Lanes: a vector made of lanes has them, and an accumulator made of numbers that fit has those numbers (R241). Vector
operations, lane by lane (R253, Table 10.5). Accumulator operations, lane by lane (R253, Table 10.6); results saturate at 40
bits, and a saturation is marked. Commands shown to complete, with what they then leave: vadd, vsub, vadds, vsubs, vmul,
vmulq, vmin, vmax, vand, vor, vxor, vclt, vceq, vsel, vsar, vshl, vsplat, vext, vins, vsum, vidx, vclamp, amac, amsu, amul,
aclr, aaddv, aldv, amacs, aout, asum. -/
def Obligations.VectorOperationsFollow : Prop :=
  (∀ (f : Nat → BitVec 16) (l : Fin 16), lane (ofLanes f) l = f l) ∧
  (∀ (f : Nat → Int) (l : Fin 16), -(2 ^ 39) ≤ f l → f l < 2 ^ 39 → accLane (ofAccLanes f) l = f l) ∧
  (∀ (s : State) (n x y z : Fin 16),
     let lanes := fun (c : Instr) (f : Nat → BitVec 16) => Issues c n s → Does c s ((s.setVx n x (ofLanes f)).nextFx n)
     let d := lane (s.vx n x)
     let a := lane (s.vx n y)
     let b := lane (s.vx n z)
     let k := bitsOf (s.sx n z) 3 0
     let yes := 0xFFFF#16
     let result := fun (c : Instr) (v : Word) => Issues c n s → Does c s ((s.setSx n x v).nextFx n)
     lanes (.vadd n x y z) (fun l => a l + b l) ∧ lanes (.vsub n x y z) (fun l => a l - b l) ∧
     lanes (.vadds n x y z) (fun l => sat16 ((a l).toInt + (b l).toInt)) ∧
     lanes (.vsubs n x y z) (fun l => sat16 ((a l).toInt - (b l).toInt)) ∧
     lanes (.vmul n x y z) (fun l => a l * b l) ∧
     lanes (.vmulq n x y z) (fun l => sat16 (((a l).toInt * (b l).toInt + 2 ^ 14) / 2 ^ 15)) ∧
     lanes (.vmin n x y z) (fun l => if (a l).toInt ≤ (b l).toInt then a l else b l) ∧
     lanes (.vmax n x y z) (fun l => if (a l).toInt ≤ (b l).toInt then b l else a l) ∧
     lanes (.vand n x y z) (fun l => a l &&& b l) ∧ lanes (.vor n x y z) (fun l => a l ||| b l) ∧
     lanes (.vxor n x y z) (fun l => a l ^^^ b l) ∧
     lanes (.vclt n x y z) (fun l => if (a l).toInt < (b l).toInt then yes else 0) ∧
     lanes (.vceq n x y z) (fun l => if a l = b l then yes else 0) ∧
     lanes (.vsel n x y z) (fun l => (d l &&& a l) ||| (~~~(d l) &&& b l)) ∧
     lanes (.vsar n x y z) (fun l => (a l).sshiftRight k) ∧ lanes (.vshl n x y z) (fun l => a l <<< k) ∧
     lanes (.vsplat n x y) (fun _ => (s.sx n y).extractLsb' 0 16) ∧
     result (.vext n x y z) ((a k).signExtend 32) ∧
     lanes (.vins n x y z) (fun l => if l = k then (s.sx n y).extractLsb' 0 16 else d l) ∧
     result (.vsum n x y) (BitVec.ofInt 32 ((List.range 16).foldl (fun t l => t + (a l).toInt) 0)) ∧
     lanes (.vidx n x) (fun l => BitVec.ofNat 16 l) ∧
     lanes (.vclamp n x y z) (fun l =>
       let m := if (d l).toInt < (a l).toInt then a l else d l
       if (b l).toInt < m.toInt then b l else m)) ∧
  (∀ (s : State) (n x y z : Fin 16),
     let acc := fun (c : Instr) (f : Nat → Int) => Issues c n s →
       Does c s (((s.when ((List.range 16).any (fun l => decide (saturate 40 (f l) ≠ f l)))
         (·.put (Reg.FX_STATUS_ACC_SAT_SEEN n) 1)).setAx n x (ofAccLanes (fun l => saturate 40 (f l)))).nextFx n)
     let d := accLane (s.ax n x)
     let a := fun l => (lane (s.vx n y) l).toInt
     let b := fun l => (lane (s.vx n z) l).toInt
     let r := bitsOf (s.sx n z) 5 0
     let sum := (List.range 16).foldl (fun t l => t + accLane (s.ax n y) l) 0
     acc (.amac n x y z) (fun l => d l + a l * b l) ∧ acc (.amsu n x y z) (fun l => d l - a l * b l) ∧
     acc (.amul n x y z) (fun l => a l * b l) ∧ acc (.aclr n x) (fun _ => 0) ∧
     acc (.aaddv n x y) (fun l => d l + a l) ∧ acc (.aldv n x y) a ∧
     acc (.amacs n x y z) (fun l => d l + a l * ((s.sx n z).extractLsb' 0 16).toInt) ∧
     (Issues (.aout n x y z) n s → Does (.aout n x y z) s
       ((s.setVx n x (ofLanes (fun l => sat16 (roundShift (accLane (s.ax n y) l) (min 39 r))))).nextFx n)) ∧
     (Issues (.asum n x y z) n s → Does (.asum n x y z) s
       ((s.setSx n x (BitVec.ofInt 32 (saturate 32 (roundShift sum r)))).nextFx n)))

/-- Node instructions of an engine (R246, R254–R257, Table 10.7): they queue their transactions where there is room, and hold
where there is none. STEP.ARM instructions of an engine (R258, Table 10.8). Waits of an engine (R259–R261, R270, R274, Table
10.9): the wait ends when what it waits for has come, else the engine holds; with a forerunner load complete, one that held
already hands over instead. Choices of the model in it: log entries 37, 100. Commands shown to complete, with what they then
leave: nodeWr, nodeInc, nodeWrv, nodeIncv, nodeRd, nodeSense, nodeFence, stepArmOpen, stepArmArm, stepArmSeal, stepArmCancel,
stepArmStatus, waitLocal, waitMains, waitLine, waitEvent, waitSignal, waitTimeout. -/
def Obligations.NodeAndStepInstructionsFollow : Prop :=
  (∀ (s : State) (n x y z : Fin 16),
     let a := (s.sx n x).toNat
     let b := (s.sx n y).toNat
     let g := s.engine n
     let queues := fun (c : Instr) (k : Nat) (goes : Block) => Issues c n s →
       (s.queued (5 + n) + k ≤ 1024 → Does c s (goes.nextFx n)) ∧ (1024 < s.queued (5 + n) + k → Does c s (s.holdFx n))
     let pend := fun (op at' : Nat) => if x = 0 then s.fxSubmit n op at' 0 none
       else (s.setEngine n { g with pend := [x.val] }).fxSubmit n op at' 0 (some x.val)
     queues (.nodeWr n x y) 1 (s.fxSubmit n 1 a b none) ∧ queues (.nodeInc n x y) 1 (s.fxSubmit n 2 a b none) ∧
     (∀ lanes : Fin 16,
       let each := fun (op : Nat) => s.each (List.range (lanes + 1)) (fun t l =>
         t.fxSubmit n op (a + l * (s.sx n z).toNat) ((s.vx n y).extractLsb' (16 * l) 12).toNat none)
       queues (.nodeWrv n x y z lanes) (lanes + 1) (each 1) ∧ queues (.nodeIncv n x y z lanes) (lanes + 1) (each 2)) ∧
     queues (.nodeRd n x y false) 1 (pend 4 b) ∧ queues (.nodeRd n x y true) 1 (pend 3 b) ∧
     queues (.nodeSense n x y false) 1 (pend 8 b) ∧ queues (.nodeSense n x y true) 1 (pend 9 (b / 2 ^ 20 * 2 ^ 20)) ∧
     (Issues (.nodeFence n x) n s →
       let idle := s.queueEmpty n = true ∧ s.hasBusy (5 + n) = false ∧ g.done = []
       (idle → Does (.nodeFence n x) s (((s.setEngine n { g with fence := (0, 0, 0) }).setSx n x (BitVec.ofNat 32
         (min g.fence.1 255 + 256 * min g.fence.2.1 255 + 65536 * min g.fence.2.2 255))).nextFx n)) ∧
       (¬ idle → Does (.nodeFence n x) s (s.holdFx n)))) ∧
  (∀ (s : State) (n x y z : Fin 16),
     let i := s.stepArg n y
     let own := 5 + n.val
     let goes := fun (b : Block) (v : Nat) => (b.setSx n x (BitVec.ofNat 32 v)).nextFx n
     (∀ tb : Fin 8, Issues (.stepArmOpen n x y z tb) n s → (s.engine n).holdAt = none → (s.step' i).waiting = none →
       let c := Instr.stepArmOpen n x y z tb
       (4 < tb.val → Does c s (goes s.toBlock 2)) ∧
       (tb.val ≤ 4 → s.stepState i = 1 ∨ s.stepState i = 2 → Does c s (goes s.toBlock 1)) ∧
       (1 ≤ tb.val → tb.val ≤ 4 → s.stepState i ≠ 1 → s.stepState i ≠ 2 → (s.step' i).disarm = [] →
         Does c s (goes (((s.put (Reg.STEP_CTL_TB i) tb).put (Reg.STEP_CTL_MAXWAIT i) 0).openNow i own tb) 0))) ∧
     (Issues (.stepArmArm n x y z) n s →
       (s.stepMine i own = false → Does (.stepArmArm n x y z) s (goes s.toBlock 3)) ∧
       (s.stepMine i own = true → s.nodeRoom n 1 = true → Does (.stepArmArm n x y z) s (goes (s.submit
         { Txn.to own 6 ((s.sx n z).toNat % 2 ^ 24) 0 (.fox n none) with leaf := 512 * i }) 0)) ∧
       (s.stepMine i own = true → s.nodeRoom n 1 = false → Does (.stepArmArm n x y z) s (s.holdFx n))) ∧
     (Issues (.stepArmSeal n x y) n s →
       (s.stepMine i own = false → Does (.stepArmSeal n x y) s (goes s.toBlock 3)) ∧
       (s.stepMine i own = true → s.armsQueued own i = true → Does (.stepArmSeal n x y) s (s.holdFx n)) ∧
       (s.stepMine i own = true → s.armsQueued own i = false → Does (.stepArmSeal n x y) s (goes (s.sealNow i).2 (s.sealNow i).1))) ∧
     (Issues (.stepArmCancel n x y) n s →
       let mine := (s.stepState i = 1 ∨ s.stepState i = 2) ∧ s.get (Reg.STEP_CTL_OWNER i) = own
       (mine → Does (.stepArmCancel n x y) s (goes (s.cancelStep i 5) 0)) ∧
       (¬ mine → Does (.stepArmCancel n x y) s (goes s.toBlock 3))) ∧
     (Issues (.stepArmStatus n x y) n s → Does (.stepArmStatus n x y) s (goes s.toBlock (s.reg (Reg.STEP_STAT i)).toNat))) ∧
  (∀ (s : State) (n x y z : Fin 16),
     let g := s.engine n
     let goes := fun (b : Block) (v : Word) => (b.setSx n x v).nextFx n
     let late := if g.holdAt = none then 0x40000000#32 else 0
     let free := g.holdAt = none ∨ s.handoverDue n = false
     let hands := fun (c : Instr) => g.holdAt ≠ none → s.handoverDue n = true → Does c s (s.handover n)
     let until' := fun (c : Instr) (now : Count) => Issues c n s →
       (free → s.sPair n y ≤ now → Does c s (goes s.toBlock late)) ∧ (now < s.sPair n y → Does c s (s.holdWait n)) ∧ hands c
     until' (.waitLocal n x y z) s.localCount ∧ until' (.waitMains n x y z) s.mainsNow ∧
     (∀ w : Fin 4, Issues (.waitLine n x z w) n s →
       let issued := g.holdAt.getD s.now
       let past := (s.lineTb w).qwPast.find? (fun v => v.leads issued)
       let here := (s.windows w).find? (fun v => s.longEnough w v.len && s.windowOk w v issued && decide (v.st ≤ 6 * s.now))
       (∀ v, free → past = some v ∨ (past = none ∧ here = some v) → Does (.waitLine n x z w) s
         (goes s.toBlock (BitVec.ofNat 32 (v.off + (if v.st < 6 * g.heldEnd then 2 ^ 30 else 0))))) ∧
       (past = none → here = none → Does (.waitLine n x z w) s (s.holdWait n)) ∧ hands (.waitLine n x z w)) ∧
     (∀ m : BitVec 8, Issues (.waitEvent n x z m) n s →
       (free → g.latches &&& m ≠ 0 → Does (.waitEvent n x z m) s (goes (s.setEngine n { g with
         latches := g.latches &&& ~~~(g.latches &&& m) }) ((g.latches &&& m).setWidth 32))) ∧
       (g.latches &&& m = 0 → Does (.waitEvent n x z m) s (s.holdWait n)) ∧ hands (.waitEvent n x z m)) ∧
     (Issues (.waitSignal n x z) n s →
       (free → s.flag (Reg.FX_STATUS_SIGNAL n) = true →
         Does (.waitSignal n x z) s (goes (s.put (Reg.FX_STATUS_SIGNAL n) 0) 0)) ∧
       (s.flag (Reg.FX_STATUS_SIGNAL n) = false → Does (.waitSignal n x z) s (s.holdWait n)) ∧ hands (.waitSignal n x z)) ∧
     (∀ t0 : Nat, let w := s.pmWord n (s.get (Reg.FX_PC_PC n))
       g.holdAt = some t0 → s.fxUp n = true → s.fxState n = 1 → bitsOf w 31 26 = 0x3A → foxLegal w = true → bitsOf w 17 14 ≠ 0 →
       s.pmCheck n (s.get (Reg.FX_PC_PC n)) = 0 → t0 + (s.sx n (bitsOf w 17 14)).toNat ≤ s.now →
       (s.get Reg.WH_GSTATUS_MODE ≠ 2 →
         (s.handoverDue n = false → Does (.waitTimeout n) s ((s.setSx n (bitsOf w 25 22) 0x80000000#32).nextFx n)) ∧
         hands (.waitTimeout n)) ∧
       (s.get Reg.WH_GSTATUS_MODE = 2 → g.part = [] → Does (.waitTimeout n) s (s.setFx n 5))))

/-- System instructions, TEMP.RD and QF.PUT (R251, R262, R266, R442, Table 10.11). Choices of the model in it: log entries 36, 39.
Commands shown to complete, with what they then leave: halt, nop, sync, gets, tempRd, qfPut. -/
def Obligations.SystemInstructionsFollow : Prop :=
  ∀ (s : State) (n x y : Fin 16),
    let g := s.engine n
    (Issues (.halt n) n s →
      (s.queueEmpty n = true → g.wbuf = [] →
        let b := (s.setPc n (if s.frm n then (s.pc n + 4) % 32768 + 32768 * s.actHalf n else (s.pc n + 4) % 65536)).offFx n 3
        let b := (b.setEngine n { b.engine n with byHalt := true }).put (Reg.FX_STATUS_HALT_SEEN n) 1
        Does (.halt n) s (b.raise (592 + 4 * n) (b.fxDetail n))) ∧
      (s.queueEmpty n = false ∨ g.wbuf ≠ [] → Does (.halt n) s (s.holdFx n))) ∧
    (Issues (.nop n) n s → Does (.nop n) s (s.nextFx n)) ∧
    (Issues (.sync n) n s → (g.wbuf = [] → Does (.sync n) s (s.nextFx n)) ∧ (g.wbuf ≠ [] → Does (.sync n) s (s.holdFx n))) ∧
    (∀ k : Fin 64, Issues (.gets n x k) n s →
      (k = 2 → Does (.gets n x k) s (((s.setEngine n { g with capHi := s.localCount.extractLsb' 32 32 }).setSx n x
        (s.localCount.extractLsb' 0 32)).nextFx n)) ∧
      (k ≠ 2 → Does (.gets n x k) s ((s.setSx n x (s.special n k)).nextFx n))) ∧
    (∀ k : Fin 64, Issues (.tempRd n x k) n s →
      (k.val < 24 → Does (.tempRd n x k) s ((s.draw.2.setSx n x (BitVec.ofNat 32
        (s.get (Reg.THERM_READING k) + 2 ^ 31 * (s.sensor k).isNone.toNat))).nextFx n)) ∧
      (60 ≤ k.val → Does (.tempRd n x k) s ((s.draw.2.setSx n x (BitVec.ofNat 32
        (Config.freeNat s.free % 65536 + 2 ^ 31))).nextFx n))) ∧
    (∀ f : Fin 256, Issues (.qfPut n x y f) n s →
      let v := s.sx n x
      let d := s.sx n y
      let r := figureRec (bitsOf v 15 0) (bitsOf v 23 16) f (bitsOf d 15 0) n (s.get (Reg.FX_CTL_EPOCH n)) s.localCount
      let b := (s.pushRing n r).setDom (bitsOf d 9 0) { s.domain (bitsOf d 9 0) with figure := r }
      (bitsOf v 31 24 ≠ 0 → Does (.qfPut n x y f) s (s.faultFx n 1)) ∧
      (bitsOf v 31 24 = 0 → s.flag (Reg.FX_QFRING_PLY n) = false →
        Does (.qfPut n x y f) s ((b.raise (594 + 4 * n) (b.fxDetail n)).nextFx n)) ∧
      (bitsOf v 31 24 = 0 → s.flag (Reg.FX_QFRING_PLY n) = true →
        Does (.qfPut n x y f) s (((b.offerQf r).raise (594 + 4 * n) ((b.offerQf r).fxDetail n)).nextFx n)))

/-- Commands to engines and what moves without an instruction: starts and stops, drains, completions, stores on their way, the
debug window, rings and migration (R249, R255, R263, R266, R268, R271, R272, Tables 10.15–10.17). A migration's copy leaves
engine B RUNNING with A's registers, memories and program counter, under the epoch after A's, and A draining (R272). Choices
of the model in it: log entries 38, 51. Commands shown to complete, with what they then leave: nodeCompletion,
writeBufferDrain, fxStart, fxStop, fxStopDrain, fxDrainComplete, fxDbgDataAccess, ringEnable, foxMigrateSwitch,
foxMigrateCopyDone. -/
def Obligations.EnginesFollow : Prop :=
  (∀ (s : State) (m : BitVec 16) (n : Fin 16), s.writable Reg.FX_GCMD = true → maskEngines m = [n.val] →
    (s.fxUp n = true → (s.fxState n = 0 ∨ s.fxState n = 3 ∨ s.fxState n = 4) → s.frm n = false → s.actHalf n = 0 →
      let b := ((s.put (Reg.FX_CTL_EPOCH n) (s.get (Reg.FX_CTL_EPOCH n) + 1)).put (Reg.FX_STATUS_CAUSE n) 0).setPc n
        (4 * s.get (Reg.FX_START_ADDR n) % 65536)
      Does (.fxStart m) s ((b.setEngine n { s.engine n with fence := (0, 0, 0), behind := none, byHalt := false }).setFx n 1)) ∧
    ((s.fxState n = 1 ∨ s.fxState n = 2 ∨ s.fxState n = 5) → 
      Does (.fxStop m) s ((s.setEngine n { s.engine n with frmLoaded := false }).offFx n 3)) ∧
    ((s.fxState n = 1 ∨ s.fxState n = 5) →
      let b := (s.unhold n).setFx n 2
      Does (.fxStopDrain m) s ((b.setEngine n { b.engine n with frmLoaded := false, part := [] }).ownerGone (5 + n)))) ∧
  (∀ (s : State) (n : Fin 16), s.fxState n = 2 → s.queueEmpty n = true → (s.engine n).pend = [] → (s.engine n).wbuf = [] →
    Does (.fxDrainComplete n) s (s.offFx n 3)) ∧
  (∀ (s : State) (n : Fin 16) (d : NodeDone) (rest : List NodeDone) (x : Nat), (s.engine n).done = d :: rest →
    d.code = 0 → d.reg = some x →
    Does (.nodeCompletion n) s ((s.setEngine n { s.engine n with
      done := rest, pend := (s.engine n).pend.erase x }).setSx n x (BitVec.ofNat 32 (d.payload % 2 ^ 24)))) ∧
  (∀ (s : State) (n : Fin 16) (d : NodeDone) (rest : List NodeDone), (s.engine n).done = d :: rest →
    d.code = 7 → d.reg = none → s.flag (Reg.FX_STATUS_NODE_SEEN n) = true →
    let g := s.engine n
    Does (.nodeCompletion n) s ((s.setEngine n { g with
      done := rest, fence := (g.fence.1, g.fence.2.1, g.fence.2.2 + 1) }).bump (Reg.FX_NCNT_FAILED n) 1)) ∧
  (∀ (s : State) (n : Fin 16) (i : Fin 8) (x : Store), (s.engine n).wbuf[i.val]? = some x →
    ((s.engine n).wbuf.take i).any (fun y => y.meets x) = false →
    Does (.writeBufferDrain n i) s ((s.memWrite x.offset x.bytes).setEngine n { s.engine n with
      wbuf := (s.engine n).wbuf.eraseIdx i })) ∧
  (∀ (s : State) (ag : Fin 3) (v : Word), s.writable Reg.FX_DBG_DATA = true → s.coreOn = true →
    let w := s.reg (ownCopy ag Reg.FX_DBG_IDX)
    let n := bitsOf w 11 8
    let stopped := s.fxState n = 0 ∨ s.fxState n = 3 ∨ s.fxState n = 4
    Does (.fxDbgDataAccess ag none) s (s.advanceDbg ag) ∧
    (stopped → Does (.fxDbgDataAccess ag (some v)) s ((s.dbgWrite n (bitsOf w 7 0) v).advanceDbg ag)) ∧
    (¬ stopped → Does (.fxDbgDataAccess ag (some v)) s (s.advanceDbg ag))) ∧
  (∀ (s : State) (n : Fin 16) (v : Word), s.writable (Reg.FX_QFRING n) = true → s.flag (Reg.FX_QFRING_EN n) = false →
    let b := ((s.put (Reg.FX_QFRING_PLY n) (bitsOf v 5 5)).put (Reg.FX_QFRING_BASE n) (bitsOf v 22 12)).put
      (Reg.FX_QFRING_SIZE n) (bitsOf v 2 0)
    let r := b.ringRegion n
    let clear := r.1 % r.2 = 0 ∧ 0x10000 ≤ r.1 ∧ r.1 + r.2 ≤ memSize ∧ (∀ q ∈ b.fifoRegions, overlaps r q.2 = false) ∧
      (∀ q ∈ b.ringRegions, overlaps r q.2 = false)
    (bitsOf v 4 4 = 0 → Does (.ringEnable n v) s (b.put (Reg.FX_QFRING_EN n) 0)) ∧
    (bitsOf v 4 4 = 1 → ¬ clear → Does (.ringEnable n v) s (b.put (Reg.FX_QFRING_CFG_BAD n) 1)) ∧
    (bitsOf v 4 4 = 1 → clear → Does (.ringEnable n v) s (((((b.put (Reg.FX_QFRING_EN n) 1).put (Reg.FX_QFRING_CFG_BAD n) 0).put
      (Reg.FX_QFWP_PTR n) 0).put (Reg.FX_QFRP_PTR n) 0).put (Reg.FX_QFLOST_COUNT n) 0))) ∧
  (∀ (s : State) (m : FoxMigration), s.fox.mig = some m → s.flag Reg.FX_MIG_COPYING = false → m.instant ≤ s.tbNow m.tb →
    (s.engine m.src).part = [] →
    let b := (s.put Reg.FX_MIG_PENDING 0).put Reg.FX_MIG_COPYING 1
    Does .foxMigrateSwitch s (((b.unhold m.src).setFx m.src 6).finishPacket m.host m.tag 0 (pairWords s.localCount))) ∧
  (∀ (s : State) (m : FoxMigration) (a b : Fin 16), s.fox.mig = some m → m.src = a → m.dst = b → a ≠ b →
     s.flag Reg.FX_MIG_COPYING = true → (s.engine a).wbuf = [] → (s.engine a).pend = [] →
     Yields .foxMigrateCopyDone s (fun t =>
       t.fxState b = 1 ∧ t.fxState a = 2 ∧ t.pc b = s.pc a ∧ (∀ i, t.sx b i = s.sx a i) ∧ (∀ i, t.vx b i = s.vx a i) ∧
         (∀ i, t.ax b i = s.ax a i) ∧ (∀ i : Fin 16384, t.pmWord b i = s.pmWord a i) ∧
         (∀ i : Fin 32768, t.scratch b i = s.scratch a i) ∧
         (∀ i : Fin 16384, t.pmCheck b i = 0) ∧ (∀ i : Fin 32768, t.scrCheck b i = 0) ∧
         t.get (Reg.FX_CTL_EPOCH b) = (s.get (Reg.FX_CTL_EPOCH a) + 1) % 2 ^ (Reg.FX_CTL_EPOCH b).width ∧ t.fox.mig = none))

/-- The access codes, bit by bit: a write sets RW bits to the written ones, clears W1C bits written 1 and leaves every other bit
(R11). Register writes (R11, R384, R462, R474, R506–R508): where they are ignored, an agent's own copy of an index register,
and the registers whose write has no other effect. A read of the _LO register of an RO pair captures the _HI half, and the
same reader's next read of the _HI register gives that half; other readers keep theirs (R52, R509). Choices of the model in
it: log entries 73, 74. Commands shown to complete, with what they then leave: registerWrite, readLoCapture. -/
def Obligations.RegisterAccessesFollow : Prop :=
  (∀ (r : RegRow) (old v : Word) (i : Fin 32),
     (bitOf r.rw i = true → (r.merge old v).getLsbD i = v.getLsbD i) ∧
     (bitOf r.rw i = false → bitOf r.w1c i = true → v.getLsbD i = true → (r.merge old v).getLsbD i = false) ∧
     (bitOf r.rw i = false → (bitOf r.w1c i = false ∨ v.getLsbD i = false) → (r.merge old v).getLsbD i = old.getLsbD i)) ∧
  (∀ (s : State) (ag : Fin 3) (a : Fin 65536) (v : Word), (a.val % 4 ≠ 0 ∨ s.writable a = false) →
    Does (.registerWrite ag a v) s s.toBlock) ∧
  (∀ (s : State) (ag : Fin 3) (a : Fin 65536) (v : Word), a.val % 4 = 0 → s.writable a = true → a.val ≠ Reg.SEQ_IDX →
    a.val ∈ indexRegs → Does (.registerWrite ag a v) s (s.writeFields (ownCopy ag a) v)) ∧
  (∀ (s : State) (ag : Fin 3) (a : Fin 65536) (v : Word) (r : RegRow), a.val % 4 = 0 → s.writable a = true → a.val < 0x1000 →
    regRow a = some r → Does (.registerWrite ag a v) s (s.setReg a (r.merge (s.reg a) v))) ∧
  (∀ (s : State) (ag : Fin 2) (a : Fin 65536) (v : Word), s.writable a = true →
    a.val ∈ [Reg.WDT_CFG, Reg.WDT_KICK, Reg.TRAIL_WP, Reg.TRAIL_FFGEN, Reg.RST_CFG] →
      Does (.registerWrite (ag.castLE (by decide)) a v) s s.toBlock) ∧
  (∀ (s : State) (ag : Fin 3) (a : Fin 65536), a.val ∈ roPairs → s.domainOn (regDomain a) = true →
     Does (.readLoCapture ag a) s (s.withHiCap (Bank.set (fun _ => none) s.hiCap (0x10000 * ag + a) (some (s.readWord ag (a + 4))))) ∧
     (∀ b : Block, b.captured ag a = some (s.readWord ag (a + 4)) → (b.readReg ag (a + 4)).1 = s.readWord ag (a + 4)) ∧
     Yields (.readLoCapture ag a) s (fun b => (b.readReg ag (a + 4)).1 = s.readWord ag (a + 4) ∧
       ∀ o : Fin 3, o ≠ ag → b.captured o a = s.captured o a))

/-- The Bear core's restarts and its watchdog (R435, R436, R440, R441). Boot: the slot that is selected runs, none that verifies
is reported and tried again after 1 s, and trial firmware is confirmed after 10 s (R437–R439). Sensors, at their periods: a
conversion in range is the reading and is valid, one out of range or failed is INVALID, and a scanned diode is taken with its
range (R279, R442, R443). Choices of the model in it: log entries 39, 79, 98. Commands shown to complete, with what they then
leave: bearRestart, bootSelect, fwConfirm, wdtKick, wdtExpire, sensorSample, sensorScan. -/
def Obligations.BearBootAndSensorsFollow : Prop :=
  (∀ (s : State) (cause : Fin 16), s.bearOn = true → (cause = 3 ∨ cause = 4 ∨ cause = 6) →
    Yields (.bearRestart cause) s (fun b => b.flag Reg.BEAR_STATUS_RUNNING = false ∧ b.flag Reg.DEN_STATUS_FW_RUNNING = false ∧
      b.flag Reg.CMD_STATUS_FW_READY = false ∧ b.get Reg.BEAR_STATUS_LAST_CAUSE = cause ∧ b.den.bootDue = true ∧
      b.get Reg.BOOT_FAILS = if cause ≠ 6 ∧ s.now ≤ s.den.bearAt + 10 ^ 10 then satAdd 8 (s.get Reg.BOOT_FAILS) 1 else 0)) ∧
  (∀ s : State, s.bearOn = true → 103 * s.den.wdtAt + 10 ^ 8 * s.den.wdtPeriod ≤ 103 * s.now →
    Does .wdtExpire s ((s.raise 917 0).bearRestart 2)) ∧
  (∀ (s : State) (v : Word), (s.bearOn = true → v = 0xC35A → Does (.wdtKick 2 v) s (s.withDen { s.den with wdtAt := s.now })) ∧
    (v ≠ 0xC35A → Does (.wdtKick 2 v) s s.toBlock)) ∧
  (∀ (s : State) (v : Word), Does (.wdtKick 0 v) s s.toBlock ∧ Does (.wdtKick 1 v) s s.toBlock) ∧
  (∀ s : State, s.den.bootDue = true → s.domainOn 6 = true → s.rstHeld = false → s.hoardUp = true → s.busySS 16 = false →
    s.dueAfter s.den.triedAt (10 ^ 9) = true →
    match s.selectSlot with
    | (none, _, t) =>
      let t := t.withDen { t.den with triedAt := some t.now }
      Does .bootSelect s ((t.showBoot (t.get Reg.BOOT_ACTIVE) true).raise 923 0)
    | (some b, trial, t) => Does .bootSelect s ((t.showBoot b false).firmwareRuns b trial)) ∧
  (∀ s : State, s.bootRec.trial = false → (s.get Reg.BOOT_FAILS < 3 ∨ s.get Reg.BOOT_ACTIVE ≠ s.bootRec.primary) →
    let p := s.bootRec.primary
    s.selectSlot.1 = if s.slotGood p then some p else if s.slotGood (1 - p) then some (1 - p) else none) ∧
  (∀ s : State, s.den.waitConfirm = true → s.fwHoard = true → s.deferring = false → s.den.startAt + 10 ^ 10 ≤ s.now →
    let b := s.get Reg.BOOT_ACTIVE
    let t := (s.writeBoot ⟨b, false, false⟩).showBoot b false
    Does .fwConfirm s (((t.withDen { t.den with waitConfirm := false }).fwRaise 921 none).answerActivate b)) ∧
  (∀ (s : State) (l : List (Option (BitVec 16))), s.domainOn 6 = true → s.busySS 16 = false → s.dueAfter s.den.sampledAt 125000 = true →
    l.length ≤ 24 →
    Yields (.sensorSample l) s (fun b => ∀ (i : Fin 24) (r : Option (BitVec 16)), l[i.val]? = some r →
      (∀ v, r = some v → b.get (Reg.THERM_READING i) = v.toNat ∧
        b.flag (Reg.THERM_INVALID i) = (decide (v.toInt < -512) || decide (1280 < v.toInt))) ∧
      (r = none → b.flag (Reg.THERM_INVALID i) = true))) ∧
  (∀ (s : State) (l : List (BitVec 16)), s.domainOn 6 = true → s.busySS 16 = false → s.dueAfter s.den.scannedAt 1000000 = true →
    l.length ≤ 36 →
    Yields (.sensorScan l) s (fun b => ∀ (i : Fin 36) (v : BitVec 16), l[i.val]? = some v → s.sensorGone (24 + i) = false →
      Bank.get (fun _ => ⟨0, true⟩) b.den.sensors (24 + i) = ⟨v, decide (v.toInt < -480) || decide (1280 < v.toInt)⟩))

/-- A raise reaches attention path A and B: the pending bit of an enabled source of class ALARM or FAULT is set, whether the
interval's budget is spent or not (R450–R452). The event controller (R449–R454, R461). Choices of the model in it: log entries
6, 43, 98. Commands shown to complete, with what they then leave: eventRaise, intervalEnd, evPendClear, evBudgetWrite,
evFwraise, evCntRead. -/
def Obligations.EventControllerFollows : Prop :=
  (∀ (s : State) (src : Fin 1036) (d : Nat), s.mayRaise src = true → s.classOf src ≤ 1 →
     Yields (.eventRaise src d) s (fun b =>
       (s.srcBit (Reg.EV_EN_A 0) src = true → b.srcBit (Reg.EV_PEND_A 0) src = true) ∧
       (s.srcBit (Reg.EV_EN_B 0) src = true → b.srcBit (Reg.EV_PEND_B 0) src = true))) ∧
  (∀ (s : State) (src : Fin 1036) (d : Nat), (s.mayRaise src = true → Does (.eventRaise src d) s (s.raise src d)) ∧
    (s.mayRaise src = false → Does (.eventRaise src d) s s.toBlock)) ∧
  (∀ s : State, s.ev.interval < s.evInterval → s.ev.trailCnt = [] → s.ev.plyCnt = [] → Yields .intervalEnd s (fun b =>
    b.ev.singles = [] ∧ b.ev.tokens = min 80000000 (s.ev.tokens + 135 * (s.evInterval - s.ev.interval)) ∧
      b.ev.staged = s.ev.staged ∧ b.ev.interval = s.evInterval ∧ b.ev.singlesIn = s.evInterval ∧
      b.get Reg.TRAIL_TOKENS_COUNT = b.ev.tokens / 100 % 2 ^ 20)) ∧
  (∀ (s : State) (ag : Fin 3) (h : Fin 2) (i : Fin 33) (v : Word),
    ((ag = 2 ∨ ag.val = h.val) →
      Does (.evPendClear ag h i v) s (s.writeFields (if h = 0 then Reg.EV_PEND_A i else Reg.EV_PEND_B i) (s.clearable h i v)) ∧
        (s.ev.setIn ≠ s.eventCycle → s.clearable h i v = v) ∧
        (s.ev.setIn = s.eventCycle → ∀ b : Fin 32, (h.val, 32 * i.val + b.val) ∈ s.ev.setBits →
          (s.clearable h i v).getLsbD b = false)) ∧
    (ag ≠ 2 → ag.val ≠ h.val → Does (.evPendClear ag h i v) s s.toBlock)) ∧
  (∀ (s : State) (p : Fin 4) (v : Word),
    let ok := bitsOf v 7 0 ≤ bitsOf v 15 8 ∧ bitsOf v 15 8 ≤ bitsOf v 23 16 ∧ bitsOf v 23 16 ≤ bitsOf v 31 24
    (ok → Does (.evBudgetWrite p v) s (s.setReg (Reg.EV_BUDGET p) v)) ∧
      (¬ ok → Does (.evBudgetWrite p v) s (s.put Reg.EV_STATUS_CFG_IGNORED 1))) ∧
  (∀ (s : State) (ag : Fin 3) (v : Word),
    let n := bitsOf v 10 0
    (ag = 2 → 880 ≤ n → n ≤ 943 →
      Does (.evFwraise ag v) s (s.raiseWith n ((List.range 8).map (fun k => s.reg (Reg.EV_FWDATA k))) false)) ∧
      ((ag ≠ 2 ∨ n < 880 ∨ 943 < n) → Does (.evFwraise ag v) s (s.put Reg.EV_STATUS_FWRAISE_IGNORED 1))) ∧
  (∀ (s : State) (ag : Fin 3),
    let f : Fld := ⟨ownCopy ag Reg.EV_CNT_IDX, 10, 0⟩
    Does (.evCntRead ag) s (s.put f (if s.get f = 1035 then 0 else s.get f + 1)))

/-- The Trail (R347, R455–R458). Choices of the model in it: log entries 72. Commands shown to complete, with what they then
leave: trailWrite, trailScan. -/
def Obligations.TrailFollows : Prop :=
  (∀ s : State, s.ev.staged = [] → Does .trailWrite s s.toBlock) ∧
  (∀ (s : State) (r : TrailRec) (rest : List TrailRec), s.ev.staged = r :: rest → s.fwHoard = true → s.deferring = false →
    s.den.scanDue = none → s.hoard.readOnly.elem 6 = false →
      Does .trailWrite s ((s.unstage.writeTrail r).writeFf r (s.unstage.writeTrail r).ev.rseq.toNat)) ∧
  (∀ (s : Block) (r : TrailRec), r.data.length ≤ 8 → s.hoard.readOnly.elem 6 = false → s.ev.rseq.toNat + 2 < 2 ^ 64 →
    let q := s.ev.rseq.toNat + 1
    let i := 1024 + q % 130048
    s.rowCount (trailAt i / 4096) < 950000 →
      let t := s.writeTrail r
      t.ev.rseq = BitVec.ofNat 64 q ∧ t.reg Reg.TRAIL_WP = BitVec.ofNat 32 (1024 + (q + 1) % 130048) ∧
        t.ev.staged = s.ev.staged ∧ t.hBytes (trailAt i) 64 = trailBytes r q false ∧ t.trailValid i = true) ∧
  (∀ (s : State) (cause : Nat), s.den.scanDue = some cause → s.fwHoard = true → s.deferring = false →
    Yields .trailScan s (fun b => b.den.scanDue = none ∧
      b.ev.rseq = BitVec.ofNat 64 (s.lastRseq + if s.hoard.readOnly.elem 6 then 0 else 1)))

/-- Statistics streams: their enabling, and the parts of blocks that a packet brings, the first of which opens a block
(R370–R373). STAT.PULL (R261, R373): the oldest ready block, header and data units, no more than asked for, is copied to
scratch memory and its slot is empty again; the result tells how much, its BSEQ, and whether the block was cut short or its
bytes could not be read. A misaligned address, or one past the scratch memory, faults; a stream that does not exist answers
so, and with no block ready it waits or answers that there is none. The outbound queues, and the links' lanes and trainings
(R365–R367, R374, R375, R377). Choices of the model in it: log entries 50, 51, 52, 99. Commands shown to complete, with what
they then leave: statPull, laneLock, laneDown, linkTrain, plyRetrain, statPacket, streamEnable, outboundSend. -/
def Obligations.PlyFollows : Prop :=
  (∀ (s : State) (k : Fin 64) (v : Word), s.writable (Reg.PLY_STREAM k) = true →
    let b := ((s.put (Reg.PLY_STREAM_BASE k) (bitsOf v 22 12)).put (Reg.PLY_STREAM_SLOTS k) (bitsOf v 11 8)).put
      (Reg.PLY_STREAM_SIZE k) (bitsOf v 5 4)
    (s.flag (Reg.PLY_STREAM_EN k) = true → bitsOf v 0 0 = 1 → Does (.streamEnable k v) s s.toBlock) ∧
    (s.flag (Reg.PLY_STREAM_EN k) = true → bitsOf v 0 0 = 0 → Does (.streamEnable k v) s
      ((((s.discardOpen k).setStream k Stream.reset).put (Reg.PLY_STREAM_EN k) 0).put (Reg.PLY_SSTAT_READY k) 0)) ∧
    (s.flag (Reg.PLY_STREAM_EN k) = false → bitsOf v 0 0 = 0 → Does (.streamEnable k v) s b) ∧
    (s.flag (Reg.PLY_STREAM_EN k) = false → bitsOf v 0 0 = 1 → b.streamOk k = true → Does (.streamEnable k v) s
      (((b.put (Reg.PLY_STREAM_EN k) 1).put (Reg.PLY_STREAM_CFG_BAD k) 0).setStream k Stream.reset)) ∧
    (s.flag (Reg.PLY_STREAM_EN k) = false → bitsOf v 0 0 = 1 → b.streamOk k = false →
      Does (.streamEnable k v) s (b.put (Reg.PLY_STREAM_CFG_BAD k) 1))) ∧
  (∀ (s : State) (ws : List (BitVec 64)) (valid : Bool), (s.takePacket 1 ws valid s.statLayout).1 = none →
    Does (.statPacket ws valid) s (s.takePacket 1 ws valid s.statLayout).2) ∧
  (∀ (s t : State) (ws : List (BitVec 64)) (k : Nat) (pl : List (BitVec 64)) (i : Nat) (o : OpenBlock),
    s.takePacket 1 ws true s.statLayout = (some (k, pl), t.toBlock) → bitsOf (pl.headD 0) 45 45 = 0 →
      openBlock (t.slotList k) = some (i, o) →
      let h := pl.headD 0
      let bytes : List Byte := (pl.drop 2).flatMap (fun w => (List.range 8).map (fun j => w.extractLsb' (8 * j) 8))
      ((o.bseq = bitsOf h 63 56 ∧ o.units = bitsOf h 55 46) → Does (.statPacket ws true) s
        (t.acceptPart k i o (bitsOf h 55 46) ((pl.length - 2) / 4) (bitsOf h 44 44 == 1) bytes)) ∧
      (¬ (o.bseq = bitsOf h 63 56 ∧ o.units = bitsOf h 55 46) → Does (.statPacket ws true) s (t.discardOpen k))) ∧
  (∀ (s t : State) (ws : List (BitVec 64)) (k : Nat) (pl : List (BitVec 64)),
    s.takePacket 1 ws true s.statLayout = (some (k, pl), t.toBlock) → bitsOf (pl.headD 0) 45 45 = 1 → bitsOf (pl.headD 0) 55 46 = 0 →
      let h := pl.headD 0
      let u := pl.getD 1 0
      let new : OpenBlock :=
        { bseq := bitsOf h 63 56, fmt := BitVec.ofNat 32 (bitsOf h 31 0), acqStart := BitVec.ofNat 32 (bitsOf u 63 32),
          acqEnd := BitVec.ofNat 32 (bitsOf u 31 0), wave := bitsOf h 43 42, units := 0 }
      let b := (t.discardOpen k).openIn k new
      let bytes : List Byte := (pl.drop 2).flatMap (fun w => (List.range 8).map (fun j => w.extractLsb' (8 * j) 8))
      ∀ i o, openBlock (b.slotList k) = some (i, o) → Does (.statPacket ws true) s
        (b.acceptPart k i o 0 ((pl.length - 2) / 4) (bitsOf h 44 44 == 1) bytes)) ∧
  (∀ (s : State) (n x y z : Fin 16) (units : Fin 1024) (wait : Bool), Issues (.statPull n x y z units wait) n s →
     let k := (s.sx n z).toNat
     let a := (s.sx n y).toNat
     (a % 32 ≠ 0 → Does (.statPull n x y z units wait) s (s.faultFx n 2)) ∧
     (a % 32 = 0 → 63 < k → Does (.statPull n x y z units wait) s ((s.setSx n x 0x90000000).nextFx n)) ∧
     (a % 32 = 0 → k ≤ 63 → (s.flag (Reg.PLY_STREAM_EN k) = false ∨ oldestReady (s.slotList k) = none) →
       (wait = false → Does (.statPull n x y z units wait) s ((s.setSx n x 0x80000000).nextFx n)) ∧
       (wait = true → Does (.statPull n x y z units wait) s (s.holdFx n))) ∧
     (∀ i bseq u, a % 32 = 0 → k ≤ 63 → s.flag (Reg.PLY_STREAM_EN k) = true → oldestReady (s.slotList k) = some (i, bseq, u) →
       let m := min (u + 1) (if units.val = 0 then 1024 else units.val)
       (0x8000 < a + 32 * m → Does (.statPull n x y z units wait) s (s.faultFx n 3)) ∧
       (a + 32 * m ≤ 0x8000 →
         let r := s.memRead (.pull n) (s.slotAt k i) (32 * m)
         let b := if r.2.1 then r.2.2.2.put (Reg.FX_STATUS_CE_SEEN n) 1 else r.2.2.2
         Does (.statPull n x y z units wait) s (((((b.scratchWrite n a r.1).setSlotOf k i .empty).showReady k).setSx n x
           (BitVec.ofNat 32 (m + 65536 * bseq + 2 ^ 29 * r.2.2.1.toNat + 2 ^ 30 * (decide (m < u + 1)).toNat))).nextFx n)))) ∧
  (∀ (s : State) (q : Fin 3), s.get Reg.PLY_STATUS_OUT_STATE = 2 → s.outDue q = true → (∀ p : Fin 3, p < q → s.outDue p = false) →
    Yields (.outboundSend q) s (fun b =>
      b.ply.sent = outPacket q s.ply.outSeq (((s.outQueue q).take (outCount q)).map Prod.snd) ∧
        b.outQueue q = (s.outQueue q).drop (outCount q) ∧ (∀ p : Fin 3, p ≠ q → b.outQueue p = s.outQueue p) ∧
        b.ply.outSeq = (s.ply.outSeq + 1) % 65536)) ∧
  (∀ (s : State) (q : Fin 3), (s.get Reg.PLY_STATUS_OUT_STATE ≠ 2 ∨ s.outDue q = false) → Does (.outboundSend q) s s.toBlock) ∧
  (∀ (s : State) (i : Fin 16) (bad : Nat), s.laneOn i = true → s.get (Reg.PLY_LANE_STATE i) = 0 →
    Yields (.laneLock i bad) s (fun b => b.get (Reg.PLY_LANE_STATE i) = 1 ∧
      Bank.get (fun _ => 0) b.ply.laneErr i = Bank.get (fun _ => 0) s.ply.laneErr i + bad)) ∧
  (∀ (s : State) (i : Fin 16) (bad : Nat) (clock : Bool), s.laneOn i = true → s.get (Reg.PLY_LANE_STATE i) ≠ 0 →
    (64 ≤ bad ∨ clock = true) → Yields (.laneDown i bad clock) s (fun b => b.get (Reg.PLY_LANE_STATE i) = 0 ∧
      (s.get (Reg.PLY_LANE_STATE i) = 2 → b.get (linkState (i / 8)) = if s.linkOn (i / 8) then 1 else 0))) ∧
  (∀ (s : State) (d : Fin 2) (trip turn : Nat), s.get (linkState d) ≠ 2 → s.linkOn d = true →
    (s.get (linkState d) ≠ 0 ∨ Bank.get (fun _ => 0) s.ply.tryAt d ≤ s.now) →
    (s.pickWidth d = none → Does (.linkTrain d trip turn) s ((s.withPly { s.ply with
      tryAt := Bank.set (fun _ => 0) s.ply.tryAt d (s.now + 100000) }).put (linkState d) 0)) ∧
    (∀ c lo, s.pickWidth d = some (c, lo) → Yields (.linkTrain d trip turn) s (fun b => b.get (linkState d) = 2 ∧
      (∀ i, i < 2 ^ c → b.get (Reg.PLY_LANE_STATE (lo + i)) = 2) ∧
      (d = 0 → b.get Reg.PLY_STATUS_IN_WIDTH = c ∧ b.get Reg.PLY_LAT_LAT = (trip - turn) / 2 % 65536) ∧
      (d = 1 → b.get Reg.PLY_STATUS_OUT_WIDTH = c)))) ∧
  (∀ (s : State) (v : Word), s.writable Reg.PLY_CTL = true → Does (.plyRetrain v) s (s.writePlyCtl (withBits v 4 4 1)))

/-- Requests to domains (R281–R284, R295, R434): a request found with its source disabled is discarded and counted; otherwise it
makes an IDLE domain PENDING, merges with a request not yet run, and waits in a running domain. Runs of domains (R284–R287,
R290–R293): a run that cannot start yet does not; SC08 beside the SC07 job of its wavelength is signalled, and SC10 needs no
engine. A run of SC10 or SC11 ends with its figure published; one on an engine ends when the engine has stopped, and what its
steps brought into force is journalled. Choices of the model in it: log entries 45, 46, 47, 48, 101. Commands shown to
complete, with what they then leave: tempEvaluate, denReqTake, domainMinGap, domainRunStart, domainRunEnd. -/
def Obligations.DomainsFollow : Prop :=
  (∀ (s : Block) (d : Nat) (enabled : DomRec → Bool) (waive : Bool), domainCal d ≠ 0 →
    let v := s.domain d
    let ok := !(s.domRec d).hold && enabled (s.domRec d)
    (ok = false → s.request d enabled waive = (s.setDom d { v with discards := satAdd 16 v.discards 1 }).fwRaise 933 none) ∧
    (ok = true → v.state = 0 → s.request d enabled waive =
      s.setDom d { v with state := 1, order := s.stock.order, waived := waive }) ∧
    (ok = true → v.state = 2 → s.request d enabled waive = s.setDom d { v with merges := satAdd 16 v.merges 1 }) ∧
    (ok = true → (v.state = 3 ∨ v.state = 5) → s.request d enabled waive =
      s.setDom d { v with merges := satAdd 16 v.merges 1, merged := true })) ∧
  (∀ s : State, s.fwUp = false → Does .tempEvaluate s s.toBlock ∧ Does .denReqTake s s.toBlock) ∧
  (∀ s : State, s.fwUp = true →
    let b := s.withStock { s.stock with order := s.stock.order + 1 }
    Does .tempEvaluate s ((b.requestReturns.requestStarts).each domainList Block.evaluate)) ∧
  (∀ s : State, s.fwUp = true → Yields .denReqTake s (fun b =>
    (∀ i : Fin 32, b.reg (Reg.DEN_REQ i) = 0) ∧ b.get Reg.DEN_STATUS_REQ_PENDING = 0)) ∧
  (∀ (s : State) (d : Fin 1024), s.fwUp = true → (s.domain d).state = 1 →
    let gapOver := (s.domain d).waived = true ∨ (s.domain d).started = none ∨
      ∃ t, (s.domain d).started = some t ∧ t + 10 ^ 7 * (s.domRec d).minGap ≤ s.now
    (gapOver → Does (.domainMinGap d) s (s.setDom d { s.domain d with state := 2, waived := false })) ∧
      (¬ gapOver → Does (.domainMinGap d) s s.toBlock)) ∧
  (∀ (s : State) (d : Fin 1024), s.startable d = false → Does (.domainRunStart d) s s.toBlock) ∧
  (∀ (s : State) (d : Fin 1024), s.startable d = true →
    (∀ e, e ∈ domainList → (s.domain e).state = 2 → ((s.domain e).order < (s.domain d).order ∨
      ((s.domain e).order = (s.domain d).order ∧ e < d)) → s.startable e = false) →
    (domainCal d = 10 → Does (.domainRunStart d) s (s.noteStart d 3 none [])) ∧
    (∀ n, domainCal d = 8 → s.sc07Runs (domainUnit d / 4) = true → s.sc07Engine (domainUnit d / 4) = some n →
      Does (.domainRunStart d) s ((s.put (Reg.FX_STATUS_SIGNAL n) 1).noteStart d 3 none [])) ∧
    (domainCal d = 11 →
      let b := s.withStock { s.stock with ref7 := some (s.stock.ref7.getD (s.get (Reg.REF_SEL_SRC 7))) }
      Does (.domainRunStart d) s ((if s.get (Reg.REF_SEL_SRC 7) = 0 then b else b.switchRef 7 0).noteStart d 3 none [])) ∧
    ((domainCal d ≠ 8 ∨ s.sc07Runs (domainUnit d / 4) = false) → domainCal d ≠ 10 → domainCal d ≠ 11 →
      Does (.domainRunStart d) s (s.startRunOn d))) ∧
  (∀ (s : State) (d : Fin 1024), domainCal d = 12 → Yields (.domainRunStart d) s (fun b =>
    (s.startable d = true → (∀ e, e ∈ domainList → e ≠ d → s.startable e = false) →
      (b.domain d).state = 3 ∧ (b.domain d).engine = some (s.domRec d).engine ∧
        (b.domain d).runs = satAdd 16 (s.domain d).runs 1 ∧ (b.domain d).started = some s.now ∧
        b.reg (Reg.FX_ARG (s.domRec d).engine 0) = BitVec.ofNat 32 d))) ∧
  (∀ (s : State) (d : Fin 1024) (m : List Int), s.fwUp = true → ((s.domain d).state = 3 ∨ (s.domain d).state = 5) →
    ((domainCal d = 10 ∨ domainCal d = 11) → m.length < measCount d → Does (.domainRunEnd d m) s s.toBlock) ∧
    ((domainCal d = 10 ∨ domainCal d = 11) → measCount d ≤ m.length →
      (∀ f, f ∈ s.den.figures → f.number ≠ s.get Reg.DEN_FIGLOG_NEXT) → Yields (.domainRunEnd d m) s (fun b =>
      (b.domain d).state = (if (s.domain d).merged then 1 else 0) ∧ (b.domain d).merged = false ∧
        b.get Reg.DEN_FIGLOG_NEXT = (s.get Reg.DEN_FIGLOG_NEXT + 1) % 2 ^ 16 ∧ b.figureAt (s.get Reg.DEN_FIGLOG_NEXT) = (b.domain d).figure)) ∧
    (domainCal d ≠ 10 → domainCal d ≠ 11 → (s.domain d).engine ≠ none → s.runEnded d = none →
      Does (.domainRunEnd d m) s s.toBlock) ∧
    (domainCal d ≠ 10 → domainCal d ≠ 11 → (s.domain d).engine = none →
      Does (.domainRunEnd d m) s ((s.withStock { s.stock with order := s.stock.order + 1 }).noteEnd d)) ∧
    (∀ halted, domainCal d ≠ 10 → domainCal d ≠ 11 → s.runEnded d = some halted →
      let steps := (jobDomains d).flatMap (fun e => (s.domain e).steps)
      let l := (jobDomains d).filter (fun e => (s.domain e).engine == (s.domain d).engine)
      let b := if domainCal d = 12 then s.toBlock else s.each l (fun b e => b.queueDelta e steps)
      let b := b.withStock { b.stock with
        fired := b.stock.fired.filter (fun f => !steps.elem f.1), order := b.stock.order + 1 }
      let b := b.each l Block.noteEnd
      Does (.domainRunEnd d m) s (if halted then b else b.fwRaise 932 none)))

/-- Frames to the macros of the Hoard (R20, R21, R319–R321): a read gives the bytes, and counts what it corrected and what read
UE; a word that is written, by firmware and not to the image in use, reads back; a status clears its flags. Firmware's writes
of configuration items, and the wear and retention records (R343–R351). Choices of the model in it: log entries 64, 65, 71,
104. Commands shown to complete, with what they then leave: macroRead, macroWrite, macroStatus, macroReset, macroIdent,
configItemWrite, wearFlush, wearForecast, retentionUpdate. -/
def Obligations.StoreFollows : Prop :=
  (∀ (s : State) (m : Fin 8) (a : Fin 0x600000) (n : Fin 4097) (ce : Nat), s.hoardUp = true → spanOk a n = true → s.hoard.ue = [] →
    Yields (.macroRead m a n ce []) s (fun b =>
      (b.macroSt m).data = s.hBytes (macroOffset m a) n ∧ (b.macroSt m).ue = (s.macroSt m).ue ∧
        (b.macroSt m).ce = ((s.macroSt m).ce || decide (0 < ce)) ∧
        b.get (Reg.HD_MACRO_CE m) = satAdd 16 (s.get (Reg.HD_MACRO_CE m)) ce)) ∧
  (∀ (s : State) (m : Fin 8) (a : Fin 0x600000) (bs : List Byte) (err : Bool), s.fwHoard = true → spanOk a bs.length = true →
    s.deferring = false → hoardRegion (macroOffset m a) ≠ s.currentImage + 2 → s.rowCount (macroOffset m a / 4096) < 950000 → s.rowTakes (macroOffset m a / 4096) = true →
    ¬ (41 * mib ≤ macroOffset m a ∧ macroOffset m a < 42 * mib) →
    Yields (.macroWrite m a bs err) s (fun b => b.hBytes (macroOffset m a) bs.length = bs ∧
      b.hBad (macroOffset m a) bs.length = false ∧ b.rowCount (macroOffset m a / 4096) = s.rowCount (macroOffset m a / 4096) + 1)) ∧
  (∀ (s : State) (m : Fin 8), s.hoardUp = true →
    Yields (.macroStatus m) s (fun b => (b.macroSt m).ce = false ∧ (b.macroSt m).ue = false ∧ (b.macroSt m).werr = false) ∧
    Yields (.macroReset m) s (fun b => (b.macroSt m).prog = none) ∧
    Yields (.macroIdent m) s (fun b => (b.macroSt m).data.length = 8)) ∧
  (∀ (s : State) (m : Fin 8) (a : Fin 0x600000) (n : Fin 4097) (ce : Nat) (bad : List Nat) (bs : List Byte) (err : Bool),
    s.hoardUp = false → Does (.macroRead m a n ce bad) s s.toBlock ∧ Does (.macroWrite m a bs err) s s.toBlock ∧
      Does (.macroStatus m) s s.toBlock ∧ Does (.macroReset m) s s.toBlock ∧ Does (.macroIdent m) s s.toBlock) ∧
  (∀ (s : State) (it : Fin 65536) (v : List Byte), s.fwHoard = true → s.deferring = false → it ≠ 0 →
    ¬ (0x700 ≤ it.val ∧ it.val ≤ 0x710) → v.length ≤ 65535 →
    (s.itemsLeft 1 = true → Does (.configItemWrite it v) s (((s.writeItem it v).2).applyItem it)) ∧
    (s.itemsLeft 1 = false → Does (.configItemWrite it v) s (s.raise 879 0))) ∧
  (∀ (s : State) (it : Fin 65536) (v : List Byte),
    (s.fwHoard = false ∨ s.deferring = true) → Does (.configItemWrite it v) s s.toBlock) ∧
  (∀ s : State, s.fwHoard = true → s.deferring = false → s.hoard.flushAt + 14400 * 10 ^ 9 ≤ s.now →
    Yields .wearFlush s (fun b => b.hoard.flushes = s.hoard.flushes + 1 ∧ b.hoard.flushAt = s.now)) ∧
  (∀ s : State, s.fwHoard = true → (s.hoard.history.headD (0, s.hoard.wear.rows)).1 + 86400 * 10 ^ 9 ≤ s.now →
    Yields .wearForecast s (fun b =>
    b.hoard.history = ((s.now, s.hoard.wear.rows) :: s.hoard.history).take 30 ∧ b.hoard.wear = s.hoard.wear)) ∧
  (∀ s : State, s.fwHoard = true → s.deferring = true → s.hoard.ageAt + 10 ^ 9 ≤ s.now → Yields .retentionUpdate s (fun b =>
    b.hoard.ageAt = s.now ∧ ∃ k : Nat, ∀ g : Fin 12,
      b.age g = s.age g + (s.now - s.hoard.ageAt) * ageGain (s.hoardTemp - 840) k / 10 ^ 9)) ∧
  (∀ s : State, s.fwHoard = false → Does .wearFlush s s.toBlock ∧ Does .wearForecast s s.toBlock ∧ Does .retentionUpdate s s.toBlock)

/-- The journal: the oldest record that waits is appended with the next JSEQ, or refused (R333–R335, R347, R352). Commits: when
one begins, and how it ends (R336–R338, R347, R352, R427). Choices of the model in it: log entries 67, 104. Commands shown to
complete, with what they then leave: journalAppend, commitBegin, commitDone. -/
def Obligations.JournalAndCommitsFollow : Prop :=
  (∀ s : State, (s.hoard.appends = [] ∨ s.fwHoard = false) → Does .journalAppend s s.toBlock) ∧
  (∀ (s : State) (r : JReq) (rest : List JReq), s.hoard.appends = r :: rest → s.fwHoard = true →
    let t := s.setHoard { s.hoard with appends := rest }
    let body := runsBody r.runs
    let len := 1 + (body.length + 31) / 32
    (s.deferring = false → s.hoard.readOnly.elem 5 = true →
      Does .journalAppend s ((t.markDirty r.domain).recordTold r.owner r.type 0x30)) ∧
    (s.deferring = false → s.hoard.readOnly.elem 5 = false → s.get Reg.HD_JOURNAL_USED + len ≤ 65536 → t.journalRoom len = true →
      let u := t.appendRecord r.type r.flags r.domain r.runs.length body
      let u := u.put Reg.HD_JOURNAL_USED (u.get Reg.HD_JOURNAL_USED + len)
      let u := if r.type ≤ 2 ∧ r.domain ≠ 0x3FF then u.setDom r.domain { u.domain r.domain with image := 0, jseq := u.jseq } else u
      Does .journalAppend s (u.recordTold r.owner r.type 0) ∧
        (len ≤ journalWords - s.hoard.next → u.jseq = (s.jseq + 1) % 2 ^ 64))) ∧
  (∀ s : State, s.fwHoard = true → s.deferring = false → s.hoard.commit = none → s.commitMinOver = true →
    s.hoard.want.isSome = true →
      let o := s.hoard.want.getD .none
      let bad := s.hoard.readOnly.elem (if s.currentImage = 1 then 4 else 3)
      (bad = true → Does .commitBegin s (s.abandonCommit o 0x30)) ∧
      (bad = false → Does .commitBegin s (s.beginCommit o s.hoard.wantSrc))) ∧
  (∀ s : State, s.fwHoard = true → s.deferring = false → s.hoard.commit = none → s.commitMinOver = true → s.hoard.want = none →
    (s.commitDue = false → Does .commitBegin s s.toBlock) ∧
    (s.commitDue = true → 65536 * s.commitFill ≤ 100 * s.get Reg.HD_JOURNAL_USED →
      s.hoard.readOnly.elem (if s.currentImage = 1 then 4 else 3) = false → Does .commitBegin s (s.beginCommit .none s.hoard.wantSrc))) ∧
  (∀ s : State, (s.fwHoard = false ∨ s.deferring = true ∨ s.hoard.commit.isSome = true ∨ s.commitMinOver = false) →
    Does .commitBegin s s.toBlock) ∧
  (∀ (s : State) (bad : List Nat) (fail : Bool), s.hoard.commit = none → Does (.commitDone (bad, fail)) s s.toBlock) ∧
  (∀ (s : State) (c : Commit) (bad : List Nat), s.hoard.commit = some c → s.fwHoard = true → s.deferring = false →
    Does (.commitDone (bad, true)) s ((s.each bad (fun b i => b.retireSegment c.target i)).abandonCommit c.owner 0x31) ∧
    Yields (.commitDone (bad, false)) s (fun b => b.hoard.commit = none ∧ b.hoard.dirty = [] ∧ b.get Reg.HD_IMAGES_BUILDING = 0 ∧
      b.get Reg.HD_STATUS_COMMITTING = 0 ∧ b.get Reg.HD_JOURNAL_BUDGET_SPENT = 0))

/-- A record that is written to good rows of the journal reads back as a record with the next JSEQ, its fields and its place
(R332, R335). -/
def Obligations.JournalRecordReadsBack : Prop :=
  ∀ (s : Block) (type flags domain nrun : Nat) (body : List Byte),
    let len := 1 + (body.length + 31) / 32
    let w := s.hoard.next
    1 ≤ type → type ≤ 4 → domain < 65536 → nrun < 65536 → w + len ≤ journalWords → s.jseq + 1 < 2 ^ 64 →
    s.hoard.wear.remap = [] → s.hoard.readOnly = [] →
    (∀ r, journalAt w / 4096 ≤ r → r ≤ (journalAt w + 32 * len - 1) / 4096 → s.rowCount r < 950000) →
      (s.appendRecord type flags domain nrun body).journalRec w = some ⟨type, s.jseq + 1, nrun, len, w⟩

/-- Restores of marked hubs, and the deferral of writes (R218, R219, R339–R342, R352, R468). Choices of the model in it: log
entries 63, 104. Commands shown to complete, with what they then leave: partnerRestore, restore, writeDefer, writeResume. -/
def Obligations.RestoresFollow : Prop :=
  (∀ (s : State) (d : Fin 5), (s.fwHoard = false ∨ s.flag Reg.HD_STATUS_RESTORING = true) →
    Does .restore s s.toBlock ∧ Does (.partnerRestore d) s s.toBlock) ∧
  (∀ s : State, s.fwHoard = true → s.flag Reg.HD_STATUS_RESTORING = false →
    Does .restore s (((s.ownTorn.restoreHubs s.ownPlan (s.flagged restoreOrder) true .restore).2).buildTables s.ownPlan)) ∧
  (∀ (s : State) (d : Fin 5), s.fwHoard = true → s.flag Reg.HD_STATUS_RESTORING = false →
    let hubs := s.flagged (restoreOrder.filter (fun k => dieOf (k / 64) == d))
    (hubs ≠ [] → Does (.partnerRestore d) s (((s.ownTorn.restoreHubs s.ownPlan hubs true .restore).2).life 10 1)) ∧
      (hubs = [] → Does (.partnerRestore d) s s.toBlock)) ∧
  (∀ s : State, s.fwHoard = true → s.hoard.deferOn = false → (960 ≤ s.hoardTemp ∨ s.nvmOut = true) →
    Does .writeDefer s ((((s.setHoard { s.hoard with deferOn := true }).put Reg.HD_STATUS_DEFERRING 1).put
      Reg.HD_STATUS_DEFER_SEEN 1).raise 869 s.jseq)) ∧
  (∀ s : State, (s.fwHoard = false ∨ s.hoard.deferOn = true ∨ (s.hoardTemp < 960 ∧ s.nvmOut = false)) →
    Does .writeDefer s s.toBlock) ∧
  (∀ s : State, s.fwHoard = true → s.hoard.deferOn = true → s.hoardTemp < 920 → s.nvmOut = false →
    Yields .writeResume s (fun b => b.deferring = false ∧ b.hoard.deferred = [])) ∧
  (∀ s : State, (s.hoard.deferOn = false ∨ 920 ≤ s.hoardTemp ∨ s.nvmOut = true) → Does .writeResume s s.toBlock)

/-- A Skein frame that passes its checks takes effect at its select release (R382–R393): with no reply held before it, the port
notes that the frame was taken, and the effect and the frame's own reply are those of its opcode. Of two write frames of one
core cycle Skein A's is performed first (R29): where B's stood before it in the queue, B's is the last written. A frame that
fails a check has no effect: the port keeps its held reply and notes the abort, its opcode and the lowest reason that applies
(R386–R388, R393, R394, R397, R400, Table 15.4). Recovery frames, the collection of a reply and the end of a pulse (R390,
R394, R398). Choices of the model in it: log entries 53, 54, 91, 105. Commands shown to complete, with what they then leave:
repeatFrame, nopFrame, status, regRd, regWr, memRd, memWr, pktPost, pktFetch, fmtSet, fmtRecover, selTimeout, replyReady,
attnPulseEnd. -/
def Obligations.FramesFollow : Prop :=
  (∀ (s : State) (p : Fin 2) (w : Wire), s.samples = true → w.complete = true → (s.port p).held = none →
     ∃ v : PortSt, v.held = none ∧ v.acc = true ∧ v.abt = false ∧ v.sent = [] ∧ v.wrote = (s.port p).wrote ∧
       let t := s.setPort p v
       let takes := fun (c : Instr) (op n : Nat) (body : List (Nat × Nat)) (own : Option Held) (b : Block) =>
         s.crcOk p op n body w = true → Does c s (b.setPort p { b.port p with held := own })
       let reply := fun (ws : List Word) (ecc pkt : Bool) => some (⟨ws, false, false, ecc, pkt⟩ : Held)
       let writes := fun (c : Instr) (op : Nat) (m : Bool) (addr : Word) (ws : List Word) (b : Block)
           (again : Block → Nat → List Word → Block) =>
         let body := s.addrField p addr :: dataFields ws
         let u := b.setPort p { b.port p with wrote := some (b.now, m, s.frameAddr p addr, ws) }
         let second := fun (a : Nat) (vs : List Word) => p = 0 ∧ w.same = true ∧ (u.port 1).wrote = some (u.now, m, a, vs)
         ((∀ a vs, ¬ second a vs) → takes c op ws.length body none u) ∧
           (∀ a vs, second a vs → takes c op ws.length body none (again u a vs))
       takes (.repeatFrame p 0 w) 0 0 [] none t ∧
       takes (.nopFrame p 1 0 w) 1 0 [] none t ∧
       (s.coreOn = true → takes (.status p 0 w) 2 0 [] (reply [t.pstat p] false false) t) ∧
       (∀ (addr : Word) (n : Fin 65536),
         let a := s.frameAddr p addr
         1 ≤ n → n ≤ 255 → regSpanOk a n = true → (∀ x, x ∈ regAddrs a n → s.domainOn (regDomain x) = true) →
           takes (.regRd p addr n w) 0x10 n [s.addrField p addr] (reply (t.readRegs p (regAddrs a n)).1 false false)
             (t.readRegs p (regAddrs a n)).2) ∧
       (∀ (addr : Word) (ws : List Word),
         let a := s.frameAddr p addr
         let as := regAddrs a ws.length
         1 ≤ ws.length → ws.length ≤ 255 → regSpanOk a ws.length = true → s.regClaimed p as = false → s.autoRefused p = false →
           (∀ x, x ∈ as → s.domainOn (regDomain x) = true) →
           writes (.regWr p addr ws w) 0x11 false addr ws (t.each (as.zip ws) (fun b (x, v) => b.writeReg p x v))
             (fun b a' vs => b.each (((regAddrs a' vs.length).zip vs).filter (fun x => as.elem x.1 && !dataPorts.elem x.1))
               (fun b (x, v) => b.writeReg 1 x v))) ∧
       (∀ (addr : Word) (n : Fin 65536),
         let a := s.frameAddr p addr
         let r := t.memWords p a n
         1 ≤ n → n ≤ 255 → memSpanOk a (4 * n) = true → s.memPowered a (4 * n) = true →
           takes (.memRd p addr n w) 0x20 n [s.addrField p addr] (reply r.1 r.2.1 false) r.2.2) ∧
       (∀ (addr : Word) (ws : List Word),
         let a := s.frameAddr p addr
         1 ≤ ws.length → ws.length ≤ 255 → memSpanOk a (4 * ws.length) = true → s.memClaimed p a = false →
           s.autoRefused p = false → s.memPowered a (4 * ws.length) = true →
           writes (.memWr p addr ws w) 0x21 true addr ws (t.memPutWords a ws) Block.memPutWords) ∧
       (∀ ws : List Word, 1 ≤ ws.length → ws.length ≤ 255 → s.autoRefused p = false → s.coreOn = true →
         (s.host p).outstanding < 32 → bitsOf (ws.headD 0) 15 8 = ws.length →
           takes (.pktPost p ws w) 0x30 ws.length (dataFields ws) none (t.postPacket p ws)) ∧
       (∀ (n : Fin 65536) (r : Reply) (rest : List Reply), (s.host p).ready = r :: rest → r.words.length ≤ n → 1 ≤ n → n ≤ 255 →
         s.coreOn = true →
           takes (.pktFetch p n w) 0x31 n [] (reply r.words (bitsOf (r.words.getD 1 0) 29 29 == 1) true)
             (t.setHost p { t.host p with ready := rest, sel := some r })) ∧
       (∀ v : Word, fmtOk v = true → takes (.fmtSet p 1 v w) 0x3F 1 (dataFields [v]) none (t.setReg (Reg.SKP_FMT p) v))) ∧
  (∀ (s : State) (p : Fin 2) (w : Wire) (addr : Word) (n : Fin 65536) (ws : List Word), s.samples = true →
    let aborts := fun (f : Instr × Nat × Nat × List (Nat × Nat)) (reason : Nat) => Yields f.1 s (fun b =>
      (b.port p).acc = false ∧ (b.port p).abt = true ∧ (b.port p).held = (s.port p).held ∧ (b.port p).sent = [] ∧
        b.flag (Reg.SKP_ABORT_ABORT_SEEN p) = true ∧ b.get (Reg.SKP_ABORT_OPCODE p) = f.2.1 ∧
        b.get (Reg.SKP_ABORT_REASON p) = reason)
    let crc := fun (f : Instr × Nat × Nat × List (Nat × Nat)) => s.crcOk p f.2.1 f.2.2.1 f.2.2.2 w
    let stops := fun (f : Instr × Nat × Nat × List (Nat × Nat)) (reason : Nat) => crc f = true → aborts f reason
    let ad := s.addrField p addr
    let data := dataFields ws
    let fRepeat := (Instr.repeatFrame p n w, 0, n.val, [])
    let fNop := fun (op : Fin 256) => (Instr.nopFrame p op n w, op.val, n.val, [])
    let fStatus := (Instr.status p n w, 2, n.val, [])
    let fRegRd := (Instr.regRd p addr n w, 0x10, n.val, [ad])
    let fRegWr := (Instr.regWr p addr ws w, 0x11, ws.length, ad :: data)
    let fMemRd := (Instr.memRd p addr n w, 0x20, n.val, [ad])
    let fMemWr := (Instr.memWr p addr ws w, 0x21, ws.length, ad :: data)
    let fPost := (Instr.pktPost p ws w, 0x30, ws.length, data)
    let fFetch := (Instr.pktFetch p n w, 0x31, n.val, [])
    let fFmt := (Instr.fmtSet p n addr w, 0x3F, n.val, dataFields [addr])
    (∀ f, f ∈ [fRepeat, fNop 1, fStatus, fRegRd, fRegWr, fMemRd, fMemWr, fPost, fFetch, fFmt] →
      (w.complete = false → aborts f 1) ∧ (w.complete = true → crc f = false → aborts f 2)) ∧
    (w.complete = true →
      (n ≠ 0 → stops fRepeat 3 ∧ stops (fNop 1) 3 ∧ stops fStatus 3) ∧
      (∀ op : Fin 256, frameOpcode op = false → stops (fNop op) 3) ∧
      (n = 0 ∨ 255 < n.val → stops fRegRd 3 ∧ stops fMemRd 3 ∧ stops fFetch 3) ∧
      (ws.length = 0 ∨ 255 < ws.length → stops fRegWr 3 ∧ stops fMemWr 3 ∧ stops fPost 3) ∧
      (1 ≤ ws.length → ws.length ≤ 255 →
        (regSpanOk (s.frameAddr p addr) ws.length = false → stops fRegWr 4) ∧
        (regSpanOk (s.frameAddr p addr) ws.length = true → s.regClaimed p (regAddrs (s.frameAddr p addr) ws.length) = true →
          stops fRegWr 5) ∧
        (p = 0 → s.flag Reg.RST_STATUS_AUTO = true → stops fPost 6) ∧
        (s.autoRefused p = false → s.coreOn = false → stops fPost 7) ∧
        (s.autoRefused p = false → s.coreOn = true → 32 ≤ (s.host p).outstanding → stops fPost 8) ∧
        (s.autoRefused p = false → s.coreOn = true → (s.host p).outstanding < 32 → bitsOf (ws.headD 0) 15 8 ≠ ws.length →
          stops fPost 11)) ∧
      (1 ≤ n → n ≤ 255 → s.coreOn = true → (s.host p).ready = [] → stops fFetch 9) ∧
      (1 ≤ n → n ≤ 255 → s.coreOn = true → ∀ r rest, (s.host p).ready = r :: rest → n < r.words.length → stops fFetch 10) ∧
      (n ≠ 1 → stops fFmt 3) ∧ (n = 1 → fmtOk addr = false → stops fFmt 12)) ∧
    (∀ (op : Fin 256) (clocked : Bool), s.get (Reg.SKP_TMO_MS p) ≠ 0 → Yields (.selTimeout p op clocked) s (fun b =>
      (b.port p).acc = false ∧ (b.port p).abt = true ∧ b.get (Reg.SKP_ABORT_OPCODE p) = op ∧
        b.get (Reg.SKP_ABORT_REASON p) = 13))) ∧
  (∀ (s : State) (p : Fin 2) (w : Wire) (addr : Word) (n : Fin 65536) (ws : List Word), s.samples = false →
    Does (.regRd p addr n w) s s.toBlock ∧ Does (.regWr p addr ws w) s s.toBlock ∧ Does (.pktPost p ws w) s s.toBlock ∧
      Does (.fmtRecover p) s s.toBlock) ∧
  (∀ (s : State) (p : Fin 2),
     (s.samples = true → Yields (.fmtRecover p) s (fun b => b.reg (Reg.SKP_FMT p) = regReset (Reg.SKP_FMT p) ∧
       b.flag (Reg.SKP_ABORT_RECOVER_SEEN p) = true ∧ (b.port p).held = (s.port p).held)) ∧
     (∀ r, (s.port p).held = some r → Does (.replyReady p) s (s.setPort p { s.port p with held := some { r with ready := true } })) ∧
     ((s.port p).held = none → Does (.replyReady p) s s.toBlock) ∧
     (∀ i, Bank.get (fun _ => none) s.ev.pulse p = some i →
       (i + 200 ≤ s.now → Does (.attnPulseEnd p) s (s.withEv { s.ev with pulse := Bank.set (fun _ => none) s.ev.pulse p none })) ∧
       (s.now < i + 200 → Does (.attnPulseEnd p) s s.toBlock)) ∧
     (Bank.get (fun _ => none) s.ev.pulse p = none → Does (.attnPulseEnd p) s s.toBlock))

/-- Acknowledgement: a packet with a busy tag is answered TAG_BUSY, one that R411 refuses its status, and any other joins its
lane; a packet that firmware does not take in time is answered TIMEOUT (R404–R411). Which packet starts, and what its answer
is: the oldest of a lane, when its opcode is the command's and R408 lets it; a packet that ends with a status brings a final
reply with it, its header's tag and opcode, and the data words (R404, R407, R408, R413). Choices of the model in it: log
entries 55, 56, 106. Commands shown to complete, with what they then leave: packetAck, packetTimeout. -/
def Obligations.PacketsFollow : Prop :=
  (∀ (s : State) (h : Fin 2),
     ((s.host h).posted = [] ∨ s.interpUp = false → Does (.packetAck h) s s.toBlock) ∧
     (∀ p rest, (s.host h).posted = p :: rest → s.interpUp = true →
       let q := { p with ackAt := s.now }
       let t := s.setHost h { s.host h with posted := rest }
       (p.busy = true → Yields (.packetAck h) s (fun b => ∃ n, (b.host h).ready = (s.host h).ready ++
         [⟨p.tag, replyWords p.header 0x13 false true false 0 [], true, true, n⟩])) ∧
       (p.busy = false → ∀ st d, t.judgement h q = some (st, d) → Yields (.packetAck h) s (fun b => ∃ n,
         (b.host h).ready = (s.host h).ready ++ [⟨p.tag, replyWords p.header st false false false d [], true, false, n⟩] ∧
           (b.host h).hw = (s.host h).hw ∧ (b.host h).fw = (s.host h).fw ∧
           (p.opcode = 0x30 → p.lenOk = true → p.paramBad = none → b.stock = (t.discardRequest (p.f 1 9 0)).stock))) ∧
       (p.busy = false → t.judgement h q = none → longOpcode p.opcode = false →
         (hwOpcode p.opcode = true → Does (.packetAck h) s (t.setHost h { t.host h with hw := (s.host h).hw ++ [q] })) ∧
         (hwOpcode p.opcode = false → Does (.packetAck h) s (t.setHost h { t.host h with fw := (s.host h).fw ++ [q] }))) ∧
       (p.busy = false → t.judgement h q = none → longOpcode p.opcode = true → Yields (.packetAck h) s (fun b =>
         (∃ n, (b.host h).ready = (s.host h).ready ++ [⟨p.tag, replyWords p.header 1 true false false 0 [], false, false, n⟩]) ∧
           (if hwOpcode p.opcode then (b.host h).hw = (s.host h).hw ++ [q] else (b.host h).fw = (s.host h).fw ++ [q])))) ∧
     (∀ p rest, (s.host h).fw = p :: rest → s.interpUp = true →
       (p.ackAt + s.fwWait ≤ s.now → Does (.packetTimeout h) s
         ((s.setHost h { s.host h with fw := rest }).finalReply h p 0x21 0 false [])) ∧
       (s.now < p.ackAt + s.fwWait → Does (.packetTimeout h) s s.toBlock))) ∧
  (∀ (s : Block) (h : Fin 2) (op : Nat) (p : Packet) (rest : List Packet),
    let ok := p.opcode = op ∧ s.interpUp = true ∧
      (p.seq = true → ∀ q, q ∈ (s.host h).open → p.order ≤ q.order)
    ((s.host h).hw = p :: rest → ok → s.startHw h op =
      some (p, s.setHost h { s.host h with hw := rest, running := (s.host h).running ++ [p] })) ∧
    ((s.host h).hw = p :: rest → ¬ ok → s.startHw h op = none) ∧
    ((s.host h).hw = [] → s.startHw h op = none) ∧
    ((s.host h).fw = p :: rest → ok → s.fwUp = true → s.fwBusy = false → (s.cmd.lastFw ≠ h ∨ s.fwWaits (1 - h) = false) →
      s.startFw h op = some (p, (s.setHost h { s.host h with fw := rest, running := (s.host h).running ++ [p] }).withCmd
        { s.cmd with lastFw := h })) ∧
    ((s.host h).fw = p :: rest → (¬ ok ∨ s.fwUp = false ∨ s.fwBusy = true ∨ (s.cmd.lastFw = h ∧ s.fwWaits (1 - h) = true)) →
      s.startFw h op = none)) ∧
  (∀ (s : Block) (h : Fin 2) (p : Packet) (st detail : Nat) (ue : Bool) (data : List Word),
    (s.host h).runningTag p.tag = some p → p.drop = false → Replied (s.finish h p.tag st detail ue data) h p st detail ue data) ∧
  (∀ (s : Block) (h : Fin 2) (p : Packet) (st detail : Nat) (ue : Bool) (data : List Word),
    (s.host h).runningTag p.tag = some p → p.drop = true →
      ((s.finish h p.tag st detail ue data).host h).ready = (s.host h).ready) ∧
  (∀ (s : Block) (h : Fin 2) (p : Packet) (i st : Nat), (s.refuse h p st i) = s.finish h p.tag st i false [] ∧
    ∀ data, s.answer h p data = s.finish h p.tag 0 0 false data)

/-- General packets and those of acquisition (R413, R415, R430, R461, Tables 16.5 and 16.6). Placement, migration and engines
(R183, R269–R271, R416–R418, R424, R431, Tables 16.7 and 16.16). Choices of the model in it: log entries 44, 59, 60, 62.
Commands shown to complete, with what they then leave: ping, claim, discard, ident, spindleCmd, fifoRead, migrate,
migrateCancel, seqLoad, foxLoad, foxCmd, guardArm, frmMode, frmLoadFox, frmLoadSeq, frmNodes, loopback, eventInject. -/
def Obligations.GeneralPacketsFollow : Prop :=
  (∀ (s : State) (h : Fin 2) (p : Packet) (b : Block), Starts s h 0x00 p b →
    Does (.ping h) s (b.answer h p [b.localCount.extractLsb' 0 32, b.localCount.extractLsb' 32 32])) ∧
  (∀ (s : State) (h : Fin 2) (p : Packet) (b : Block), Starts s h 0x01 p b → Yields (.claim h) s (fun t =>
    t.claims (1 - h) = b.claims (1 - h) ∧
      t.claims h = if p.word 1 &&& b.claims (1 - h) = 0 then (b.claims h &&& ~~~(p.word 2)) ||| p.word 1 else b.claims h)) ∧
  (∀ (s : State) (h : Fin 2) (p : Packet) (b : Block), Starts s h 0x02 p b → Yields (.discard h) s (fun t =>
    (bitsOf (p.word 1) 0 0 = 1 → (t.host h).posted = [] ∧ (t.host h).hw = [] ∧ (t.host h).fw = []) ∧
      (bitsOf (p.word 1) 1 1 = 1 → (t.host h).ready.length = 1 ∧ (t.host h).sel = none) ∧
      (∀ q, q ∈ (t.host h).running → q.order ≠ p.order) ∧ t.host (1 - h) = s.host (1 - h))) ∧
  (∀ (s : State) (h : Fin 2) (p : Packet) (b : Block), Starts s h 0x03 p b → Does (.ident h) s (b.answer h p
    [b.reg Reg.TOP_ID, b.reg Reg.TOP_REV, BitVec.ofNat 32 b.den.fwVersion, BitVec.ofNat 32 (b.get Reg.BOOT_ACTIVE)])) ∧
  (∀ (s : State) (h : Fin 2) (p : Packet) (b : Block), Starts s h 0xF0 p b →
    Does (.loopback h) s (b.answer h p (p.words.drop 1))) ∧
  (∀ (s : State) (h : Fin 2) (p : Packet) (b : Block), Starts s h 0xF1 p b →
    Does (.eventInject h) s ((b.raiseWith (p.word 1).toNat [] true).answer h p [])) ∧
  (∀ (s : State) (h : Fin 2) (p : Packet) (b : Block), Starts s h 0x10 p b →
    let names := (p.maskFrom 1 2).filter (· < 48)
    let t := b.each names (fun b n => if b.writable (Reg.SP_CTL n) then b.spCommand n (p.f 2 18 16) else b)
    let u := t.withFree (t.free + 3)
    Does (.spindleCmd h) s (u.answer h p [u.spWord names 0 t.free, u.spWord names 16 (t.free + 1), u.spWord names 32 (t.free + 2)]) ∧
      (∀ n : Fin 16, n.val ∈ names → bitsOf (u.spWord names 0 t.free) (2 * n + 1) (2 * n) = t.spState n % 4)) ∧
  (∀ (s : State) (h : Fin 2) (p : Packet) (b : Block), Starts s h 0x11 p b →
    let f := p.f 1 5 0
    let k := min (p.f 1 13 8) (b.fifoLevel f)
    let r := b.fifoWords h f k 0
    let t := r.2.2.writeFifoRp f (BitVec.ofNat 32 (r.2.2.get (Reg.FIFO_RP_PTR f) + k))
    (b.flag (Reg.FIFO_CFG_EN f) = false → Does (.fifoRead h) s (b.refuse h p 0x20 0)) ∧
    (b.flag (Reg.FIFO_CFG_EN f) = true → Does (.fifoRead h) s
      (t.finish h p.tag 0 0 r.2.1 (BitVec.ofNat 32 (t.get (Reg.FIFO_RP_PTR f) + 65536 * k) :: r.1)))) ∧
  (∀ (s : State) (h : Fin 2) (p : Packet) (b : Block), Starts s h 0x70 p b → Does (.guardArm h) s
    ((b.each (p.maskFrom 2 8) (fun b w => if b.writable Reg.OWL_GCMD then b.armGuard w (p.f 1 1 0 == 1) else b)).answer h p [])) ∧
  (∀ (s : State) (h : Fin 2) (p : Packet) (b : Block), Starts s h 0x90 p b →
    let from' := p.f 1 13 8
    let goes := p.f 1 21 16
    let at' : Count := p.word 3 ++ p.word 2
    (p.f 1 0 0 = 0 → b.spMigBusy from' goes = true → Does (.migrate h) s (b.refuse h p 0x20 0)) ∧
    (p.f 1 0 0 = 0 → b.spMigBusy from' goes = false → Does (.migrate h) s
      (b.setSp from' { b.sp from' with mig := some ⟨goes, p.f 1 26 24, at', h, p.tag⟩ })) ∧
    (p.f 1 0 0 = 1 → b.fxMigBusy from' goes = true → Does (.migrate h) s (b.refuse h p 0x20 0)) ∧
    (p.f 1 0 0 = 1 → b.fxMigBusy from' goes = false → Does (.migrate h) s
      ((((b.withFox { b.fox with mig := some ⟨from', goes, p.f 1 26 24, at', h, p.tag⟩ }).put Reg.FX_MIG_FROM from').put
        Reg.FX_MIG_TO goes).put Reg.FX_MIG_PENDING 1))) ∧
  (∀ (s : State) (h : Fin 2) (p : Packet) (b : Block), Starts s h 0x91 p b →
    (∀ t, b.cancelMigOf h (p.f 1 7 0) = some t → Does (.migrateCancel h) s (t.answer h p [])) ∧
    (b.cancelMigOf h (p.f 1 7 0) = none → Does (.migrateCancel h) s (b.refuse h p 0x20 0))) ∧
  (∀ (s : State) (h : Fin 2) (p : Packet) (b : Block), Starts s h 0x92 p b →
    let n := p.f 1 5 0
    let l := List.range (p.f 1 15 12 + 1)
    let e := p.f 1 11 8
    ((∃ i, i ∈ l ∧ b.seqIgnored n (e + i) = true) → Does (.seqLoad h) s (b.refuse h p 0x20 0)) ∧
    ((∀ i, i ∈ l → b.seqIgnored n (e + i) = false) → Does (.seqLoad h) s
      ((b.each l (fun b i => b.commitEntry n (e + i) (p.definition (2 + 4 * i)))).answer h p []))) ∧
  (∀ (s : State) (h : Fin 2) (p : Packet) (b : Block), Starts s h 0x93 p b →
    let n := p.f 1 3 0
    let o := p.f 1 31 16
    (b.fxStill n = false → Does (.foxLoad h) s (b.refuse h p 0x20 0)) ∧
    (b.fxStill n = true → p.f 1 4 4 = 1 → Does (.foxLoad h) s
      ((b.each (p.bytesFrom 2).zipIdx (fun b (x, i) => b.writeScr n (o + i) x)).answer h p [])) ∧
    (b.fxStill n = true → p.f 1 4 4 = 0 → Does (.foxLoad h) s
      ((b.each (p.words.drop 2).zipIdx (fun b (x, i) => b.writePm n (o + 4 * i) x)).answer h p []))) ∧
  (∀ (s : State) (h : Fin 2) (p : Packet) (b : Block), Starts s h 0x36 p b → p.f 1 20 19 = 0 →
    let named := (List.range 16).filter (fun n => bitOf (p.word 1).toNat n)
    let refused := (named.filter (fun n => !b.foxTakes p n)).foldl (fun a n => a + 2 ^ n) 0
    let t := b.each (named.filter (b.foxTakes p)) (Block.fxCommand · (p.f 1 18 16))
    Does (.foxCmd h) s (t.finish h p.tag (if refused = 0 then 0 else 0x20) refused false [t.fxStates 0 10, t.fxStates 10 6])) ∧
  (∀ (s : State) (h : Fin 2) (p : Packet) (b : Block), Starts s h 0xA0 p b →
    let kind := p.f 1 0 0
    let u := p.f 1 6 1
    let on := p.f 1 8 8 == 1
    (kind = 0 → b.spState u = 0 → (on = true ∨ b.flag (Reg.SP_CFG_FRM u) = true) →
      Does (.frmMode h) s ((b.frmSpindle u on).answer h p [])) ∧
    (kind = 1 → b.fxStill u = true → (on = true ∨ b.frm u = true) → Does (.frmMode h) s ((b.frmEngine u on).answer h p [])) ∧
    (kind = 0 → b.spState u ≠ 0 → Does (.frmMode h) s (b.refuse h p 0x20 0)) ∧
    (kind = 1 → b.fxStill u = false → Does (.frmMode h) s (b.refuse h p 0x20 0))) ∧
  (∀ (s : State) (h : Fin 2) (p : Packet) (b : Block), Starts s h 0xA1 p b →
    let n := p.f 1 3 0
    let o := 32768 * (1 - b.actHalf n) + p.f 1 31 16
    let t := b.each (p.words.drop 3).zipIdx (fun b (x, i) => b.setPm n (o / 4 + i) x)
    ((b.frm n = false ∨ (b.engine n).frmLoaded = true) → Does (.frmLoadFox h) s (b.refuse h p 0x20 0)) ∧
    (b.frm n = true → (b.engine n).frmLoaded = false → p.f 1 8 8 = 0 → Does (.frmLoadFox h) s (t.answer h p [])) ∧
    (b.frm n = true → (b.engine n).frmLoaded = false → p.f 1 8 8 = 1 → Does (.frmLoadFox h) s
      ((t.setEngine n { t.engine n with entry := p.f 2 14 0, frmLoaded := true }).answer h p []))) ∧
  (∀ (s : State) (h : Fin 2) (p : Packet) (b : Block), Starts s h 0xA2 p b →
    let n := p.f 1 5 0
    let e := 8 * (1 - b.get (Reg.SP_CFG_FRM_BANK n)) + p.f 1 14 12
    let t := b.each (List.range (p.f 1 18 16 + 1)) (fun b i => b.commitEntry n (e + i) (p.definition (2 + 4 * i)))
    ((b.flag (Reg.SP_CFG_FRM n) = false ∨ (b.sp n).frmLoaded = true) → Does (.frmLoadSeq h) s (b.refuse h p 0x20 0)) ∧
    (b.flag (Reg.SP_CFG_FRM n) = true → (b.sp n).frmLoaded = false → p.f 1 8 8 = 0 → Does (.frmLoadSeq h) s (t.answer h p [])) ∧
    (b.flag (Reg.SP_CFG_FRM n) = true → (b.sp n).frmLoaded = false → p.f 1 8 8 = 1 → Does (.frmLoadSeq h) s
      ((t.setSp n { t.sp n with frmLoaded := true, frmNent := p.f 1 22 20, frmUrg := p.f 1 26 24 }).answer h p []))) ∧
  (∀ (s : State) (h : Fin 2) (p : Packet) (b : Block), Starts s h 0xA3 p b →
    let kind := p.f 1 0 0
    let u := p.f 1 6 1
    ((b.unitFrm kind u = false ∨ b.unitLoaded kind u = true) → Does (.frmNodes h) s (b.refuse h p 0x20 0)) ∧
    (b.unitFrm kind u = true → b.unitLoaded kind u = false → Does (.frmNodes h) s
      (b.queueNodes h p (((p.nodes 2).zipIdx).map (fun (a, j) => Txn.to 22 1 a (p.code 4 j) .none)))))

/-- Node packets queue their transactions as their host's requester, 3 for the line-card host and 2 for the package host (R204,
R419, Table 16.8). STEP packets, by function: open, arm, seal, cancel, status, and open, arm and seal in one; each answers a
status of Table 10.8 (R421, Table 16.9). Choices of the model in it: log entries 57, 58. Commands shown to complete, with what
they then leave: stepOpenComplete, nodeWrite, nodeIncr, nodeRead, sense, stepPktOpen, stepPktArm, stepPktSeal, stepPktCancel,
stepPktStatus, oneshot, hubStatusPacket. -/
def Obligations.NodeAndStepPacketsFollow : Prop :=
  (∀ (s : State) (h : Fin 2) (p : Packet) (b : Block), Starts s h 0x20 p b → Does (.nodeWrite h) s
    (b.queueNodes h p ((p.nodes 1).zipIdx.map (fun (a, j) => Txn.to (3 - h) 1 a (p.code 3 j) .none)))) ∧
  (∀ (s : State) (h : Fin 2) (p : Packet) (b : Block), Starts s h 0x21 p b → Does (.nodeIncr h) s
    (b.queueNodes h p ((p.nodes 1).zipIdx.map (fun (a, j) => Txn.to (3 - h) 2 a (p.code 3 j) .none)))) ∧
  (∀ (s : State) (h : Fin 2) (p : Packet) (b : Block), Starts s h 0x22 p b → Does (.nodeRead h) s
    (b.queueNodes h p ((p.nodes 1).map (fun a => Txn.to (3 - h) (if p.f 3 0 0 = 1 then 3 else 4) a 0 .none)))) ∧
  (∀ (s : State) (h : Fin 2) (p : Packet) (b : Block), Starts s h 0x23 p b → Does (.sense h) s
    (b.queueNodes h p [Txn.to (3 - h) (if p.f 1 24 24 = 1 then 9 else 8) (p.f 1 23 0) 0 .none])) ∧
  (∀ (s : State) (h : Fin 2) (p : Packet) (b : Block), Starts s h 0x25 p b → Does (.hubStatusPacket h) s
    (b.queueNodes h p [{ Txn.to (3 - h) 10 (2 ^ 14 * p.f 1 23 14) 0 .none with leaf := p.f 1 1 0 }])) ∧
  (∀ (p : Packet) (i : Nat), (p.nodes i).length = p.f (i + 1) 31 16 ∧
    ∀ j (hj : j < (p.nodes i).length), (p.nodes i)[j] = (p.f i 23 0 + j * p.f (i + 1) 15 0) % 2 ^ 24) ∧
  (∀ (s : State) (h : Fin 2) (p : Packet) (b : Block), Starts s h 0x24 p b →
    let i := p.f 1 4 0
    let tb := p.f 1 13 11
    let opened := b.openStep i (3 - h) tb 0 (if tb = 0 then some (p.word 3 ++ p.word 2) else none) (.packet h p.tag 0)
    let arms := (p.words.drop p.stepBase).map (fun w => { Txn.to (3 - h) 6 (2 ^ 14 * bitsOf w 23 14) 0 .none with leaf := 512 * i })
    (p.f 1 10 8 = 0 →
      (∀ c, opened.1 = .code c → Does (.stepPktOpen h) s (opened.2.answer h p [BitVec.ofNat 32 c])) ∧
      (opened.1 = .waits → Does (.stepPktOpen h) s opened.2)) ∧
    (p.f 1 10 8 = 1 →
      (b.stepMine i (3 - h) = false → Does (.stepPktArm h) s (b.answer h p [3])) ∧
      (b.stepMine i (3 - h) = true → arms = [] → Does (.stepPktArm h) s (b.answer h p [0])) ∧
      (b.stepMine i (3 - h) = true → arms ≠ [] → Does (.stepPktArm h) s (b.queueNodes h p arms))) ∧
    (p.f 1 10 8 = 2 →
      ((b.step' i).sealing.isSome = true → Does (.stepPktSeal h) s (b.answer h p [3])) ∧
      ((b.step' i).sealing = none → Does (.stepPktSeal h) s (b.sealStep i (3 - h) (.packet h p.tag 0)))) ∧
    (p.f 1 10 8 = 3 →
      let mine := (b.stepState i = 1 ∨ b.stepState i = 2) ∧ b.get (Reg.STEP_CTL_OWNER i) = 3 - h
      (mine → Does (.stepPktCancel h) s ((b.cancelStep i 5).answer h p [0])) ∧
      (¬ mine → Does (.stepPktCancel h) s (b.answer h p [3]))) ∧
    (p.f 1 10 8 = 4 → Does (.stepPktStatus h) s (b.answer h p [b.reg (Reg.STEP_STAT i)])) ∧
    (p.f 1 10 8 = 5 →
      (opened.1 = .code 0 → Does (.oneshot h) s ((opened.2.queueNodes h p arms).sealStep i (3 - h) (.packet h p.tag 0))) ∧
      (∀ c, c ≠ 0 → opened.1 = .code c → Does (.oneshot h) s (opened.2.answer h p [BitVec.ofNat 32 c])) ∧
      (opened.1 = .waits → Does (.oneshot h) s opened.2))) ∧
  (∀ (s : State) (i : Fin 32),
    ((s.step' i).waiting = none ∨ (s.step' i).disarm ≠ [] → Does (.stepOpenComplete i) s s.toBlock) ∧
    (∀ q, (s.step' i).waiting = some q → (s.step' i).disarm = [] →
      let t := s.openNow i q.req q.tb
      ((∀ h tag k, q.owner ≠ .packet h tag k) → Does (.stepOpenComplete i) s t) ∧
      (∀ h tag k, q.owner = .packet h tag k →
        ((t.host h).runningTag tag = none → Does (.stepOpenComplete i) s t) ∧
        (∀ p, (t.host h).runningTag tag = some p →
          let arms := (p.words.drop p.stepBase).map (fun w =>
            { Txn.to (agentReq h) 6 (2 ^ 14 * bitsOf w 23 14) 0 .none with leaf := 512 * p.f 1 4 0 })
          (p.f 1 10 8 ≠ 5 → Does (.stepOpenComplete i) s (t.answer h p [0])) ∧
          (p.f 1 10 8 = 5 → Does (.stepOpenComplete i) s
            ((t.queueNodes h p arms).sealStep (p.f 1 4 0) (agentReq h) (.packet h p.tag 0)))))))

/-- Packets of configuration items and calibration domains (R280, R281, R292, R414, R422, R423, Tables 16.5, 16.10 and 16.11).
Packets of restores, commits, the log and the memories (R333, R362, R425–R427, R430, R457, R459, Tables 16.12, 16.13 and
16.15). Firmware updates (R428, R429, R439, Table 16.14). Choices of the model in it: log entries 61, 62, 63, 65, 68. Commands
shown to complete, with what they then leave: configSave, itemRead, itemWrite, calRun, domainSet, domainGet, domainStatus,
paramSet, calSetup, imageRestore, domainRestore, commit, keepNodes, hoardRead, trailRead, trailClear, figureRead,
countersRead, fwBegin, fwData, fwCheck, fwActivate, guardStore, memFill. -/
def Obligations.StorePacketsFollow : Prop :=
  (∀ (s : State) (h : Fin 2) (p : Packet) (b : Block), Stored s h 0x04 p b → b.deferring = false →
    b.hoard.readOnly.elem 7 = false →
    let l := (List.range 15).filter (fun n => decide (3 ≤ n) && bitOf (p.word 1).toNat n)
    (b.itemsLeft l.length = true → Does (.configSave h) s
      ((b.each l (fun b n => (b.writeItem (0x100 + n) (b.snapshotBytes n)).2)).answer h p [BitVec.ofNat 32 l.length])) ∧
    (b.itemsLeft l.length = false → Does (.configSave h) s ((b.raise 879 0).refuse h p 0x30 0))) ∧
  (∀ (s : State) (h : Fin 2) (p : Packet) (b : Block), Stored s h 0x05 p b →
    (b.item (p.f 1 15 0) = none → Does (.itemRead h) s (b.answer h p [0, 0])) ∧
    (∀ g v, b.item (p.f 1 15 0) = some (g, v) → Does (.itemRead h) s
      (b.answer h p (BitVec.ofNat 32 v.length :: BitVec.ofNat 32 g :: wordsOf v (min 251 ((v.length + 3) / 4)))))) ∧
  (∀ (s : State) (h : Fin 2) (p : Packet) (b : Block), b.deferring = false → b.hoard.readOnly.elem 7 = false → b.itemsLeft 1 = true →
    (Stored s h 0x06 p b →
      let r := b.writeItem (p.f 1 15 0) p.itemValue
      Does (.itemWrite h) s ((r.2.applyItem (p.f 1 15 0)).answer h p [BitVec.ofNat 32 r.1])) ∧
    (Stored s h 0x71 p b → Does (.guardStore h) s ((b.writeItem 0x880 (p.bytesFrom 1)).2.answer h p [])) ∧
    (Stored s h 0x31 p b → Does (.domainSet h) s ((b.writeItem (0x200 + p.f 1 15 0) (p.bytesFrom 1)).2.answer h p [])) ∧
    (Stored s h 0x35 p b → Does (.calSetup h) s ((b.writeItem 0x601 (p.bytesFrom 1)).2.answer h p []))) ∧
  (∀ (s : State) (h : Fin 2) (p : Packet) (b : Block), Stored s h 0x34 p b → b.deferring = false → b.itemsLeft 1 = true →
    b.hoard.readOnly.elem 10 = false →
    let o := 0x180000 + 32 * p.f 1 13 0
    let t := b.hWrite (42 * mib + o) (p.bytesFrom 2)
    Does (.paramSet h) s ((t.setHoard { t.hoard with items := t.now :: t.hoard.items }).answer h p [BitVec.ofNat 32 o])) ∧
  (∀ (s : State) (h : Fin 2) (p : Packet) (b : Block), b.deferring = true →
    (Stored s h 0x04 p b → Does (.configSave h) s (b.refuse h p 0x20 0)) ∧ (Stored s h 0x06 p b → Does (.itemWrite h) s (b.refuse h p 0x20 0)) ∧
    (Stored s h 0x31 p b → Does (.domainSet h) s (b.refuse h p 0x20 0)) ∧ (Stored s h 0x34 p b → Does (.paramSet h) s (b.refuse h p 0x20 0))) ∧
  (∀ (s : State) (h : Fin 2) (p : Packet) (b : Block), s.hoardUp = true → s.startFw h 0x30 = some (p, b) →
    let d := p.f 1 9 0
    let t := (b.withStock { b.stock with order := b.stock.order + 1 }).request d DomRec.hostEn false
    ((b.domRec d).hold = true → Does (.calRun h) s ((b.discardRequest d).refuse h p 0x14 0)) ∧
    ((b.domRec d).hold = false → (b.domRec d).hostEn = false → Does (.calRun h) s ((b.discardRequest d).refuse h p 0x12 1)) ∧
    ((b.domRec d).hold = false → (b.domRec d).hostEn = true → Does (.calRun h) s
      (t.answer h p [BitVec.ofNat 32 (t.domainState d)]))) ∧
  (∀ (s : State) (h : Fin 2) (p : Packet) (b : Block),
    (Stored s h 0x32 p b → Does (.domainGet h) s (b.answer h p (wordsOf ((b.domRec (p.f 1 9 0)).bytes (p.f 1 9 0)) 4))) ∧
    (Taken s h 0x33 p b → Does (.domainStatus h) s (b.answer h p (b.domainWords (p.f 1 9 0))))) ∧
  (∀ (s : State) (h : Fin 2) (p : Packet) (b : Block), b.restoreBlocked = true →
    (Stored s h 0x40 p b → Does (.imageRestore h) s (b.refuse h p 0x20 0)) ∧
    (Stored s h 0x41 p b → Does (.domainRestore h) s (b.refuse h p 0x20 0))) ∧
  (∀ (s : State) (h : Fin 2) (p : Packet) (b : Block), Stored s h 0x40 p b → b.restoreBlocked = false →
    ∀ k, b.restoreSource p = some k →
      let plan := b.packetPlan k p.upto
      let torn := b.packetTorn k p.upto
      let r := (if torn then b.torn else b).restoreHubs plan restoreOrder false .restore
      let t := r.2.each tableDomains (fun r d => r.buildTable plan [] d)
      ((b.restoreTbs restoreOrder).length ≤ b.freeSteps.length →
        Does (.imageRestore h) s (((t.life 9 1).keepFlags h p r.1 torn).makePersistent h p k)) ∧
      (b.freeSteps.length < (b.restoreTbs restoreOrder).length → Does (.imageRestore h) s s.toBlock)) ∧
  (∀ (s : State) (h : Fin 2) (p : Packet) (b : Block), Stored s h 0x41 p b → b.restoreBlocked = false →
    let d := p.f 1 9 0
    (b.domain d).state ≠ 3 → (b.domain d).state ≠ 5 → ∀ k i rest, b.restoreSource p = some k → b.freeSteps = i :: rest →
      let plan := b.packetPlan k p.upto
      let torn := b.packetTorn k p.upto
      let r := if torn then b.torn else b
      let flags := (r.reportSources plan (nodeHubs (domainNodes d))).1
      Does (.domainRestore h) s ((((r.life 9 1).keepFlags h p flags torn).restoreDomain plan d i (.packet h p.tag 0)).2)) ∧
  (∀ (s : State) (h : Fin 2) (p : Packet) (b : Block), Stored s h 0x42 p b →
    let busy := b.hoard.commit.isSome = true ∨ b.hoard.want.isSome = true ∨ b.deferring = true
    (busy → Does (.commit h) s (b.refuse h p 0x20 0)) ∧
    (¬ busy → b.commitDue = false → Does (.commit h) s (b.answer h p [0])) ∧
    (¬ busy → b.commitDue = true → b.commitMinOver = false → Does (.commit h) s (b.refuse h p 0x30 0)) ∧
    (¬ busy → b.commitDue = true → b.commitMinOver = true → Does (.commit h) s
      (b.setHoard { b.hoard with want := some (.packet h p.tag 0), wantSrc := none }))) ∧
  (∀ (s : State) (h : Fin 2) (p : Packet) (b : Block), Stored s h 0x43 p b → b.deferring = false → b.imageRestoring = false →
    Does (.keepNodes h) s (b.queueNodes h p ((p.nodes 1).map (fun a => Txn.to 4 4 a 0 .none)))) ∧
  (∀ (s : State) (h : Fin 2) (p : Packet) (b : Block), Stored s h 0x44 p b →
    let o := (p.word 1).toNat
    let n := p.f 2 7 0
    Does (.hoardRead h) s (b.finish h p.tag 0 0 (b.hBad o (4 * n)) (wordsOf (b.hBytes o (4 * n)) n))) ∧
  (∀ (s : State) (h : Fin 2) (p : Packet) (b : Block), Stored s h 0x50 p b →
    let l := (List.range (p.f 1 31 28)).map (fun i => trailAt ((p.f 1 16 0 + i) % 131072))
    Does (.trailRead h) s (b.finish h p.tag 0 0 (l.any (fun o => b.hBad o 64)) (l.flatMap (fun o => wordsOf (b.hBytes o 64) 16)))) ∧
  (∀ (s : State) (h : Fin 2) (p : Packet) (b : Block), Stored s h 0x51 p b →
    (p.f 1 0 0 = 0 → Does (.trailClear h) s (b.answer h p [])) ∧
    (p.f 1 0 0 = 1 → b.deferring = false → b.clearedLately = true → Does (.trailClear h) s (b.refuse h p 0x30 0)) ∧
    (p.f 1 0 0 = 1 → b.deferring = false → b.clearedLately = false → b.hoard.readOnly.elem 7 = false → b.itemsLeft 1 = true →
      Yields (.trailClear h) s (fun t => t.get Reg.TRAIL_FFGEN_FFGEN = (b.get Reg.TRAIL_FFGEN_FFGEN + 1) % 65536 ∧
        t.get Reg.TRAIL_STATE_FF_FILL = 0 ∧ t.flag Reg.EV_STATUS_FF_FULL = false ∧ t.ev.clearedAt = some s.now))) ∧
  (∀ (s : State) (h : Fin 2) (p : Packet) (b : Block),
    (Taken s h 0x52 p b → Does (.figureRead h) s (b.answer h p
      ((List.range (p.f 1 21 16)).flatMap (fun i => wordsOf (recBytes (b.figureAt (p.f 1 15 0 + i))) 4)))) ∧
    (Taken s h 0x53 p b → Does (.countersRead h) s (b.answer h p ((List.range 16).flatMap (fun i =>
      pairWords (BitVec.ofNat 64 (Bank.get (fun _ => 0) b.hoard.wear.life i)))))) ∧
    (Taken s h 0x80 p b → Does (.memFill h) s
      ((b.each (List.range ((p.word 2).toNat / 4)) (fun b i =>
        if b.domainOn (2 + memBank ((p.word 1).toNat + 4 * i)) then b.memWrite ((p.word 1).toNat + 4 * i) (wordBytes (p.word 3)) else b)
        ).answer h p []))) ∧
  (∀ (s : State) (h : Fin 2), s.hoardUp = false → ∀ c, c ∈ [Instr.configSave h, .itemRead h, .itemWrite h, .guardStore h, .calRun h,
    .domainSet h, .domainGet h, .paramSet h, .calSetup h, .imageRestore h, .domainRestore h, .commit h, .keepNodes h, .hoardRead h,
    .trailRead h, .trailClear h, .fwBegin h, .fwData h, .fwCheck h, .fwActivate h] → Does c s s.toBlock) ∧
  (∀ (s : State) (h : Fin 2) (p : Packet) (b : Block),
     (Stored s h 0x60 p b →
       ((∃ u, b.update = some u ∧ u.host ≠ h) → Does (.fwBegin h) s (b.refuse h p 0x20 0)) ∧
       ((∀ u, b.update = some u → u.host = h) →
         let lib := p.f 1 0 0 == 1
         let base := if lib then b.library.2 else 0x200000 * (1 - b.get Reg.BOOT_ACTIVE)
         Does (.fwBegin h) s ((b.setUpdate (some ⟨h, lib, base, (p.word 2).toNat, false⟩)).answer h p []))) ∧
     (Stored s h 0x61 p b →
       (b.ownUpdate h = none → Does (.fwData h) s (b.refuse h p 0x20 0)) ∧
       (∀ u, b.ownUpdate h = some u → (p.word 1).toNat + 4 * (p.words.length - 2) ≤ u.len → b.deferring = false →
         b.hoard.readOnly.elem (hoardRegion u.base) = false →
           Does (.fwData h) s ((b.hWrite (u.base + (p.word 1).toNat) (p.bytesFrom 2)).answer h p [])) ∧
       (∀ u, b.ownUpdate h = some u → u.len < (p.word 1).toNat + 4 * (p.words.length - 2) →
         Does (.fwData h) s (b.refuse h p 0x20 0))) ∧
     (Stored s h 0x62 p b →
       (b.ownUpdate h = none → Does (.fwCheck h) s (b.refuse h p 0x20 0)) ∧
       (∀ u, b.ownUpdate h = some u →
         if b.updateGood u then Does (.fwCheck h) s ((b.setUpdate (if u.library then none else some { u with checked := true })).answer h p
           [BitVec.ofNat 32 (b.hNat (u.base + 4) 4), BitVec.ofNat 32 (b.hNat (u.base + 2) 2)])
         else Does (.fwCheck h) s (((if u.library then b else (b.put Reg.HD_STATUS_SIG_FAIL_SEEN 1).raise 876
           (macroAddress u.base)).setUpdate none).refuse h p 0x31 0))) ∧
     (Stored s h 0x63 p b →
       (b.update = none → Does (.fwActivate h) s (b.refuse h p 0x20 0)) ∧
       (∀ u, b.update = some u → u.checked = true → b.deferring = false → b.hoard.readOnly.elem 7 = false → b.itemsLeft 1 = true →
         Yields (.fwActivate h) s (fun t => t.update = none ∧ t.den.activate = some ((h : Nat), p.tag) ∧ t.den.bootDue = true ∧
           t.get Reg.BEAR_STATUS_LAST_CAUSE = 5 ∧ t.flag Reg.BEAR_STATUS_RUNNING = false))))
end

