-- ==== Sys2Proof/Laws/State.lean ====
section
/-! SUPPORT. One lemma for each part of the block after each replacement of a part. -/

namespace Sys2Proof.Machine

@[simp] theorem Block.withRegs_regs (s : Block) (v) : (s.withRegs v).regs = v := rfl
@[simp] theorem Block.withRegs_hiCap (s : Block) (v) : (s.withRegs v).hiCap = s.hiCap := rfl
@[simp] theorem Block.withRegs_localCount (s : Block) (v) : (s.withRegs v).localCount = s.localCount := rfl
@[simp] theorem Block.withRegs_free (s : Block) (v) : (s.withRegs v).free = s.free := rfl
@[simp] theorem Block.withRegs_ev (s : Block) (v) : (s.withRegs v).ev = s.ev := rfl
@[simp] theorem Block.withRegs_den (s : Block) (v) : (s.withRegs v).den = s.den := rfl
@[simp] theorem Block.withRegs_power (s : Block) (v) : (s.withRegs v).power = s.power := rfl
@[simp] theorem Block.withRegs_tap (s : Block) (v) : (s.withRegs v).tap = s.tap := rfl
@[simp] theorem Block.withRegs_time (s : Block) (v) : (s.withRegs v).time = s.time := rfl
@[simp] theorem Block.withRegs_acq (s : Block) (v) : (s.withRegs v).acq = s.acq := rfl
@[simp] theorem Block.withRegs_sett (s : Block) (v) : (s.withRegs v).sett = s.sett := rfl
@[simp] theorem Block.withRegs_whorl (s : Block) (v) : (s.withRegs v).whorl = s.whorl := rfl
@[simp] theorem Block.withRegs_fox (s : Block) (v) : (s.withRegs v).fox = s.fox := rfl
@[simp] theorem Block.withRegs_owl (s : Block) (v) : (s.withRegs v).owl = s.owl := rfl
@[simp] theorem Block.withRegs_cmd (s : Block) (v) : (s.withRegs v).cmd = s.cmd := rfl
@[simp] theorem Block.withRegs_ports (s : Block) (v) : (s.withRegs v).ports = s.ports := rfl
@[simp] theorem Block.withRegs_mem (s : Block) (v) : (s.withRegs v).mem = s.mem := rfl
@[simp] theorem Block.withRegs_ply (s : Block) (v) : (s.withRegs v).ply = s.ply := rfl
@[simp] theorem Block.withRegs_hoard (s : Block) (v) : (s.withRegs v).hoard = s.hoard := rfl
@[simp] theorem Block.withRegs_stock (s : Block) (v) : (s.withRegs v).stock = s.stock := rfl
@[simp] theorem Block.withRegs_update (s : Block) (v) : (s.withRegs v).update = s.update := rfl

@[simp] theorem Block.withHiCap_regs (s : Block) (v) : (s.withHiCap v).regs = s.regs := rfl
@[simp] theorem Block.withHiCap_hiCap (s : Block) (v) : (s.withHiCap v).hiCap = v := rfl
@[simp] theorem Block.withHiCap_localCount (s : Block) (v) : (s.withHiCap v).localCount = s.localCount := rfl
@[simp] theorem Block.withHiCap_free (s : Block) (v) : (s.withHiCap v).free = s.free := rfl
@[simp] theorem Block.withHiCap_ev (s : Block) (v) : (s.withHiCap v).ev = s.ev := rfl
@[simp] theorem Block.withHiCap_den (s : Block) (v) : (s.withHiCap v).den = s.den := rfl
@[simp] theorem Block.withHiCap_power (s : Block) (v) : (s.withHiCap v).power = s.power := rfl
@[simp] theorem Block.withHiCap_tap (s : Block) (v) : (s.withHiCap v).tap = s.tap := rfl
@[simp] theorem Block.withHiCap_time (s : Block) (v) : (s.withHiCap v).time = s.time := rfl
@[simp] theorem Block.withHiCap_acq (s : Block) (v) : (s.withHiCap v).acq = s.acq := rfl
@[simp] theorem Block.withHiCap_sett (s : Block) (v) : (s.withHiCap v).sett = s.sett := rfl
@[simp] theorem Block.withHiCap_whorl (s : Block) (v) : (s.withHiCap v).whorl = s.whorl := rfl
@[simp] theorem Block.withHiCap_fox (s : Block) (v) : (s.withHiCap v).fox = s.fox := rfl
@[simp] theorem Block.withHiCap_owl (s : Block) (v) : (s.withHiCap v).owl = s.owl := rfl
@[simp] theorem Block.withHiCap_cmd (s : Block) (v) : (s.withHiCap v).cmd = s.cmd := rfl
@[simp] theorem Block.withHiCap_ports (s : Block) (v) : (s.withHiCap v).ports = s.ports := rfl
@[simp] theorem Block.withHiCap_mem (s : Block) (v) : (s.withHiCap v).mem = s.mem := rfl
@[simp] theorem Block.withHiCap_ply (s : Block) (v) : (s.withHiCap v).ply = s.ply := rfl
@[simp] theorem Block.withHiCap_hoard (s : Block) (v) : (s.withHiCap v).hoard = s.hoard := rfl
@[simp] theorem Block.withHiCap_stock (s : Block) (v) : (s.withHiCap v).stock = s.stock := rfl
@[simp] theorem Block.withHiCap_update (s : Block) (v) : (s.withHiCap v).update = s.update := rfl

@[simp] theorem Block.withLocalCount_regs (s : Block) (v) : (s.withLocalCount v).regs = s.regs := rfl
@[simp] theorem Block.withLocalCount_hiCap (s : Block) (v) : (s.withLocalCount v).hiCap = s.hiCap := rfl
@[simp] theorem Block.withLocalCount_localCount (s : Block) (v) : (s.withLocalCount v).localCount = v := rfl
@[simp] theorem Block.withLocalCount_free (s : Block) (v) : (s.withLocalCount v).free = s.free := rfl
@[simp] theorem Block.withLocalCount_ev (s : Block) (v) : (s.withLocalCount v).ev = s.ev := rfl
@[simp] theorem Block.withLocalCount_den (s : Block) (v) : (s.withLocalCount v).den = s.den := rfl
@[simp] theorem Block.withLocalCount_power (s : Block) (v) : (s.withLocalCount v).power = s.power := rfl
@[simp] theorem Block.withLocalCount_tap (s : Block) (v) : (s.withLocalCount v).tap = s.tap := rfl
@[simp] theorem Block.withLocalCount_time (s : Block) (v) : (s.withLocalCount v).time = s.time := rfl
@[simp] theorem Block.withLocalCount_acq (s : Block) (v) : (s.withLocalCount v).acq = s.acq := rfl
@[simp] theorem Block.withLocalCount_sett (s : Block) (v) : (s.withLocalCount v).sett = s.sett := rfl
@[simp] theorem Block.withLocalCount_whorl (s : Block) (v) : (s.withLocalCount v).whorl = s.whorl := rfl
@[simp] theorem Block.withLocalCount_fox (s : Block) (v) : (s.withLocalCount v).fox = s.fox := rfl
@[simp] theorem Block.withLocalCount_owl (s : Block) (v) : (s.withLocalCount v).owl = s.owl := rfl
@[simp] theorem Block.withLocalCount_cmd (s : Block) (v) : (s.withLocalCount v).cmd = s.cmd := rfl
@[simp] theorem Block.withLocalCount_ports (s : Block) (v) : (s.withLocalCount v).ports = s.ports := rfl
@[simp] theorem Block.withLocalCount_mem (s : Block) (v) : (s.withLocalCount v).mem = s.mem := rfl
@[simp] theorem Block.withLocalCount_ply (s : Block) (v) : (s.withLocalCount v).ply = s.ply := rfl
@[simp] theorem Block.withLocalCount_hoard (s : Block) (v) : (s.withLocalCount v).hoard = s.hoard := rfl
@[simp] theorem Block.withLocalCount_stock (s : Block) (v) : (s.withLocalCount v).stock = s.stock := rfl
@[simp] theorem Block.withLocalCount_update (s : Block) (v) : (s.withLocalCount v).update = s.update := rfl

@[simp] theorem Block.withFree_regs (s : Block) (v) : (s.withFree v).regs = s.regs := rfl
@[simp] theorem Block.withFree_hiCap (s : Block) (v) : (s.withFree v).hiCap = s.hiCap := rfl
@[simp] theorem Block.withFree_localCount (s : Block) (v) : (s.withFree v).localCount = s.localCount := rfl
@[simp] theorem Block.withFree_free (s : Block) (v) : (s.withFree v).free = v := rfl
@[simp] theorem Block.withFree_ev (s : Block) (v) : (s.withFree v).ev = s.ev := rfl
@[simp] theorem Block.withFree_den (s : Block) (v) : (s.withFree v).den = s.den := rfl
@[simp] theorem Block.withFree_power (s : Block) (v) : (s.withFree v).power = s.power := rfl
@[simp] theorem Block.withFree_tap (s : Block) (v) : (s.withFree v).tap = s.tap := rfl
@[simp] theorem Block.withFree_time (s : Block) (v) : (s.withFree v).time = s.time := rfl
@[simp] theorem Block.withFree_acq (s : Block) (v) : (s.withFree v).acq = s.acq := rfl
@[simp] theorem Block.withFree_sett (s : Block) (v) : (s.withFree v).sett = s.sett := rfl
@[simp] theorem Block.withFree_whorl (s : Block) (v) : (s.withFree v).whorl = s.whorl := rfl
@[simp] theorem Block.withFree_fox (s : Block) (v) : (s.withFree v).fox = s.fox := rfl
@[simp] theorem Block.withFree_owl (s : Block) (v) : (s.withFree v).owl = s.owl := rfl
@[simp] theorem Block.withFree_cmd (s : Block) (v) : (s.withFree v).cmd = s.cmd := rfl
@[simp] theorem Block.withFree_ports (s : Block) (v) : (s.withFree v).ports = s.ports := rfl
@[simp] theorem Block.withFree_mem (s : Block) (v) : (s.withFree v).mem = s.mem := rfl
@[simp] theorem Block.withFree_ply (s : Block) (v) : (s.withFree v).ply = s.ply := rfl
@[simp] theorem Block.withFree_hoard (s : Block) (v) : (s.withFree v).hoard = s.hoard := rfl
@[simp] theorem Block.withFree_stock (s : Block) (v) : (s.withFree v).stock = s.stock := rfl
@[simp] theorem Block.withFree_update (s : Block) (v) : (s.withFree v).update = s.update := rfl

@[simp] theorem Block.withEv_regs (s : Block) (v) : (s.withEv v).regs = s.regs := rfl
@[simp] theorem Block.withEv_hiCap (s : Block) (v) : (s.withEv v).hiCap = s.hiCap := rfl
@[simp] theorem Block.withEv_localCount (s : Block) (v) : (s.withEv v).localCount = s.localCount := rfl
@[simp] theorem Block.withEv_free (s : Block) (v) : (s.withEv v).free = s.free := rfl
@[simp] theorem Block.withEv_ev (s : Block) (v) : (s.withEv v).ev = v := rfl
@[simp] theorem Block.withEv_den (s : Block) (v) : (s.withEv v).den = s.den := rfl
@[simp] theorem Block.withEv_power (s : Block) (v) : (s.withEv v).power = s.power := rfl
@[simp] theorem Block.withEv_tap (s : Block) (v) : (s.withEv v).tap = s.tap := rfl
@[simp] theorem Block.withEv_time (s : Block) (v) : (s.withEv v).time = s.time := rfl
@[simp] theorem Block.withEv_acq (s : Block) (v) : (s.withEv v).acq = s.acq := rfl
@[simp] theorem Block.withEv_sett (s : Block) (v) : (s.withEv v).sett = s.sett := rfl
@[simp] theorem Block.withEv_whorl (s : Block) (v) : (s.withEv v).whorl = s.whorl := rfl
@[simp] theorem Block.withEv_fox (s : Block) (v) : (s.withEv v).fox = s.fox := rfl
@[simp] theorem Block.withEv_owl (s : Block) (v) : (s.withEv v).owl = s.owl := rfl
@[simp] theorem Block.withEv_cmd (s : Block) (v) : (s.withEv v).cmd = s.cmd := rfl
@[simp] theorem Block.withEv_ports (s : Block) (v) : (s.withEv v).ports = s.ports := rfl
@[simp] theorem Block.withEv_mem (s : Block) (v) : (s.withEv v).mem = s.mem := rfl
@[simp] theorem Block.withEv_ply (s : Block) (v) : (s.withEv v).ply = s.ply := rfl
@[simp] theorem Block.withEv_hoard (s : Block) (v) : (s.withEv v).hoard = s.hoard := rfl
@[simp] theorem Block.withEv_stock (s : Block) (v) : (s.withEv v).stock = s.stock := rfl
@[simp] theorem Block.withEv_update (s : Block) (v) : (s.withEv v).update = s.update := rfl

@[simp] theorem Block.withDen_regs (s : Block) (v) : (s.withDen v).regs = s.regs := rfl
@[simp] theorem Block.withDen_hiCap (s : Block) (v) : (s.withDen v).hiCap = s.hiCap := rfl
@[simp] theorem Block.withDen_localCount (s : Block) (v) : (s.withDen v).localCount = s.localCount := rfl
@[simp] theorem Block.withDen_free (s : Block) (v) : (s.withDen v).free = s.free := rfl
@[simp] theorem Block.withDen_ev (s : Block) (v) : (s.withDen v).ev = s.ev := rfl
@[simp] theorem Block.withDen_den (s : Block) (v) : (s.withDen v).den = v := rfl
@[simp] theorem Block.withDen_power (s : Block) (v) : (s.withDen v).power = s.power := rfl
@[simp] theorem Block.withDen_tap (s : Block) (v) : (s.withDen v).tap = s.tap := rfl
@[simp] theorem Block.withDen_time (s : Block) (v) : (s.withDen v).time = s.time := rfl
@[simp] theorem Block.withDen_acq (s : Block) (v) : (s.withDen v).acq = s.acq := rfl
@[simp] theorem Block.withDen_sett (s : Block) (v) : (s.withDen v).sett = s.sett := rfl
@[simp] theorem Block.withDen_whorl (s : Block) (v) : (s.withDen v).whorl = s.whorl := rfl
@[simp] theorem Block.withDen_fox (s : Block) (v) : (s.withDen v).fox = s.fox := rfl
@[simp] theorem Block.withDen_owl (s : Block) (v) : (s.withDen v).owl = s.owl := rfl
@[simp] theorem Block.withDen_cmd (s : Block) (v) : (s.withDen v).cmd = s.cmd := rfl
@[simp] theorem Block.withDen_ports (s : Block) (v) : (s.withDen v).ports = s.ports := rfl
@[simp] theorem Block.withDen_mem (s : Block) (v) : (s.withDen v).mem = s.mem := rfl
@[simp] theorem Block.withDen_ply (s : Block) (v) : (s.withDen v).ply = s.ply := rfl
@[simp] theorem Block.withDen_hoard (s : Block) (v) : (s.withDen v).hoard = s.hoard := rfl
@[simp] theorem Block.withDen_stock (s : Block) (v) : (s.withDen v).stock = s.stock := rfl
@[simp] theorem Block.withDen_update (s : Block) (v) : (s.withDen v).update = s.update := rfl

@[simp] theorem Block.withPower_regs (s : Block) (v) : (s.withPower v).regs = s.regs := rfl
@[simp] theorem Block.withPower_hiCap (s : Block) (v) : (s.withPower v).hiCap = s.hiCap := rfl
@[simp] theorem Block.withPower_localCount (s : Block) (v) : (s.withPower v).localCount = s.localCount := rfl
@[simp] theorem Block.withPower_free (s : Block) (v) : (s.withPower v).free = s.free := rfl
@[simp] theorem Block.withPower_ev (s : Block) (v) : (s.withPower v).ev = s.ev := rfl
@[simp] theorem Block.withPower_den (s : Block) (v) : (s.withPower v).den = s.den := rfl
@[simp] theorem Block.withPower_power (s : Block) (v) : (s.withPower v).power = v := rfl
@[simp] theorem Block.withPower_tap (s : Block) (v) : (s.withPower v).tap = s.tap := rfl
@[simp] theorem Block.withPower_time (s : Block) (v) : (s.withPower v).time = s.time := rfl
@[simp] theorem Block.withPower_acq (s : Block) (v) : (s.withPower v).acq = s.acq := rfl
@[simp] theorem Block.withPower_sett (s : Block) (v) : (s.withPower v).sett = s.sett := rfl
@[simp] theorem Block.withPower_whorl (s : Block) (v) : (s.withPower v).whorl = s.whorl := rfl
@[simp] theorem Block.withPower_fox (s : Block) (v) : (s.withPower v).fox = s.fox := rfl
@[simp] theorem Block.withPower_owl (s : Block) (v) : (s.withPower v).owl = s.owl := rfl
@[simp] theorem Block.withPower_cmd (s : Block) (v) : (s.withPower v).cmd = s.cmd := rfl
@[simp] theorem Block.withPower_ports (s : Block) (v) : (s.withPower v).ports = s.ports := rfl
@[simp] theorem Block.withPower_mem (s : Block) (v) : (s.withPower v).mem = s.mem := rfl
@[simp] theorem Block.withPower_ply (s : Block) (v) : (s.withPower v).ply = s.ply := rfl
@[simp] theorem Block.withPower_hoard (s : Block) (v) : (s.withPower v).hoard = s.hoard := rfl
@[simp] theorem Block.withPower_stock (s : Block) (v) : (s.withPower v).stock = s.stock := rfl
@[simp] theorem Block.withPower_update (s : Block) (v) : (s.withPower v).update = s.update := rfl

@[simp] theorem Block.withTap_regs (s : Block) (v) : (s.withTap v).regs = s.regs := rfl
@[simp] theorem Block.withTap_hiCap (s : Block) (v) : (s.withTap v).hiCap = s.hiCap := rfl
@[simp] theorem Block.withTap_localCount (s : Block) (v) : (s.withTap v).localCount = s.localCount := rfl
@[simp] theorem Block.withTap_free (s : Block) (v) : (s.withTap v).free = s.free := rfl
@[simp] theorem Block.withTap_ev (s : Block) (v) : (s.withTap v).ev = s.ev := rfl
@[simp] theorem Block.withTap_den (s : Block) (v) : (s.withTap v).den = s.den := rfl
@[simp] theorem Block.withTap_power (s : Block) (v) : (s.withTap v).power = s.power := rfl
@[simp] theorem Block.withTap_tap (s : Block) (v) : (s.withTap v).tap = v := rfl
@[simp] theorem Block.withTap_time (s : Block) (v) : (s.withTap v).time = s.time := rfl
@[simp] theorem Block.withTap_acq (s : Block) (v) : (s.withTap v).acq = s.acq := rfl
@[simp] theorem Block.withTap_sett (s : Block) (v) : (s.withTap v).sett = s.sett := rfl
@[simp] theorem Block.withTap_whorl (s : Block) (v) : (s.withTap v).whorl = s.whorl := rfl
@[simp] theorem Block.withTap_fox (s : Block) (v) : (s.withTap v).fox = s.fox := rfl
@[simp] theorem Block.withTap_owl (s : Block) (v) : (s.withTap v).owl = s.owl := rfl
@[simp] theorem Block.withTap_cmd (s : Block) (v) : (s.withTap v).cmd = s.cmd := rfl
@[simp] theorem Block.withTap_ports (s : Block) (v) : (s.withTap v).ports = s.ports := rfl
@[simp] theorem Block.withTap_mem (s : Block) (v) : (s.withTap v).mem = s.mem := rfl
@[simp] theorem Block.withTap_ply (s : Block) (v) : (s.withTap v).ply = s.ply := rfl
@[simp] theorem Block.withTap_hoard (s : Block) (v) : (s.withTap v).hoard = s.hoard := rfl
@[simp] theorem Block.withTap_stock (s : Block) (v) : (s.withTap v).stock = s.stock := rfl
@[simp] theorem Block.withTap_update (s : Block) (v) : (s.withTap v).update = s.update := rfl

@[simp] theorem Block.withTime_regs (s : Block) (v) : (s.withTime v).regs = s.regs := rfl
@[simp] theorem Block.withTime_hiCap (s : Block) (v) : (s.withTime v).hiCap = s.hiCap := rfl
@[simp] theorem Block.withTime_localCount (s : Block) (v) : (s.withTime v).localCount = s.localCount := rfl
@[simp] theorem Block.withTime_free (s : Block) (v) : (s.withTime v).free = s.free := rfl
@[simp] theorem Block.withTime_ev (s : Block) (v) : (s.withTime v).ev = s.ev := rfl
@[simp] theorem Block.withTime_den (s : Block) (v) : (s.withTime v).den = s.den := rfl
@[simp] theorem Block.withTime_power (s : Block) (v) : (s.withTime v).power = s.power := rfl
@[simp] theorem Block.withTime_tap (s : Block) (v) : (s.withTime v).tap = s.tap := rfl
@[simp] theorem Block.withTime_time (s : Block) (v) : (s.withTime v).time = v := rfl
@[simp] theorem Block.withTime_acq (s : Block) (v) : (s.withTime v).acq = s.acq := rfl
@[simp] theorem Block.withTime_sett (s : Block) (v) : (s.withTime v).sett = s.sett := rfl
@[simp] theorem Block.withTime_whorl (s : Block) (v) : (s.withTime v).whorl = s.whorl := rfl
@[simp] theorem Block.withTime_fox (s : Block) (v) : (s.withTime v).fox = s.fox := rfl
@[simp] theorem Block.withTime_owl (s : Block) (v) : (s.withTime v).owl = s.owl := rfl
@[simp] theorem Block.withTime_cmd (s : Block) (v) : (s.withTime v).cmd = s.cmd := rfl
@[simp] theorem Block.withTime_ports (s : Block) (v) : (s.withTime v).ports = s.ports := rfl
@[simp] theorem Block.withTime_mem (s : Block) (v) : (s.withTime v).mem = s.mem := rfl
@[simp] theorem Block.withTime_ply (s : Block) (v) : (s.withTime v).ply = s.ply := rfl
@[simp] theorem Block.withTime_hoard (s : Block) (v) : (s.withTime v).hoard = s.hoard := rfl
@[simp] theorem Block.withTime_stock (s : Block) (v) : (s.withTime v).stock = s.stock := rfl
@[simp] theorem Block.withTime_update (s : Block) (v) : (s.withTime v).update = s.update := rfl

@[simp] theorem Block.withAcq_regs (s : Block) (v) : (s.withAcq v).regs = s.regs := rfl
@[simp] theorem Block.withAcq_hiCap (s : Block) (v) : (s.withAcq v).hiCap = s.hiCap := rfl
@[simp] theorem Block.withAcq_localCount (s : Block) (v) : (s.withAcq v).localCount = s.localCount := rfl
@[simp] theorem Block.withAcq_free (s : Block) (v) : (s.withAcq v).free = s.free := rfl
@[simp] theorem Block.withAcq_ev (s : Block) (v) : (s.withAcq v).ev = s.ev := rfl
@[simp] theorem Block.withAcq_den (s : Block) (v) : (s.withAcq v).den = s.den := rfl
@[simp] theorem Block.withAcq_power (s : Block) (v) : (s.withAcq v).power = s.power := rfl
@[simp] theorem Block.withAcq_tap (s : Block) (v) : (s.withAcq v).tap = s.tap := rfl
@[simp] theorem Block.withAcq_time (s : Block) (v) : (s.withAcq v).time = s.time := rfl
@[simp] theorem Block.withAcq_acq (s : Block) (v) : (s.withAcq v).acq = v := rfl
@[simp] theorem Block.withAcq_sett (s : Block) (v) : (s.withAcq v).sett = s.sett := rfl
@[simp] theorem Block.withAcq_whorl (s : Block) (v) : (s.withAcq v).whorl = s.whorl := rfl
@[simp] theorem Block.withAcq_fox (s : Block) (v) : (s.withAcq v).fox = s.fox := rfl
@[simp] theorem Block.withAcq_owl (s : Block) (v) : (s.withAcq v).owl = s.owl := rfl
@[simp] theorem Block.withAcq_cmd (s : Block) (v) : (s.withAcq v).cmd = s.cmd := rfl
@[simp] theorem Block.withAcq_ports (s : Block) (v) : (s.withAcq v).ports = s.ports := rfl
@[simp] theorem Block.withAcq_mem (s : Block) (v) : (s.withAcq v).mem = s.mem := rfl
@[simp] theorem Block.withAcq_ply (s : Block) (v) : (s.withAcq v).ply = s.ply := rfl
@[simp] theorem Block.withAcq_hoard (s : Block) (v) : (s.withAcq v).hoard = s.hoard := rfl
@[simp] theorem Block.withAcq_stock (s : Block) (v) : (s.withAcq v).stock = s.stock := rfl
@[simp] theorem Block.withAcq_update (s : Block) (v) : (s.withAcq v).update = s.update := rfl

@[simp] theorem Block.withSett_regs (s : Block) (v) : (s.withSett v).regs = s.regs := rfl
@[simp] theorem Block.withSett_hiCap (s : Block) (v) : (s.withSett v).hiCap = s.hiCap := rfl
@[simp] theorem Block.withSett_localCount (s : Block) (v) : (s.withSett v).localCount = s.localCount := rfl
@[simp] theorem Block.withSett_free (s : Block) (v) : (s.withSett v).free = s.free := rfl
@[simp] theorem Block.withSett_ev (s : Block) (v) : (s.withSett v).ev = s.ev := rfl
@[simp] theorem Block.withSett_den (s : Block) (v) : (s.withSett v).den = s.den := rfl
@[simp] theorem Block.withSett_power (s : Block) (v) : (s.withSett v).power = s.power := rfl
@[simp] theorem Block.withSett_tap (s : Block) (v) : (s.withSett v).tap = s.tap := rfl
@[simp] theorem Block.withSett_time (s : Block) (v) : (s.withSett v).time = s.time := rfl
@[simp] theorem Block.withSett_acq (s : Block) (v) : (s.withSett v).acq = s.acq := rfl
@[simp] theorem Block.withSett_sett (s : Block) (v) : (s.withSett v).sett = v := rfl
@[simp] theorem Block.withSett_whorl (s : Block) (v) : (s.withSett v).whorl = s.whorl := rfl
@[simp] theorem Block.withSett_fox (s : Block) (v) : (s.withSett v).fox = s.fox := rfl
@[simp] theorem Block.withSett_owl (s : Block) (v) : (s.withSett v).owl = s.owl := rfl
@[simp] theorem Block.withSett_cmd (s : Block) (v) : (s.withSett v).cmd = s.cmd := rfl
@[simp] theorem Block.withSett_ports (s : Block) (v) : (s.withSett v).ports = s.ports := rfl
@[simp] theorem Block.withSett_mem (s : Block) (v) : (s.withSett v).mem = s.mem := rfl
@[simp] theorem Block.withSett_ply (s : Block) (v) : (s.withSett v).ply = s.ply := rfl
@[simp] theorem Block.withSett_hoard (s : Block) (v) : (s.withSett v).hoard = s.hoard := rfl
@[simp] theorem Block.withSett_stock (s : Block) (v) : (s.withSett v).stock = s.stock := rfl
@[simp] theorem Block.withSett_update (s : Block) (v) : (s.withSett v).update = s.update := rfl

@[simp] theorem Block.withWhorl_regs (s : Block) (v) : (s.withWhorl v).regs = s.regs := rfl
@[simp] theorem Block.withWhorl_hiCap (s : Block) (v) : (s.withWhorl v).hiCap = s.hiCap := rfl
@[simp] theorem Block.withWhorl_localCount (s : Block) (v) : (s.withWhorl v).localCount = s.localCount := rfl
@[simp] theorem Block.withWhorl_free (s : Block) (v) : (s.withWhorl v).free = s.free := rfl
@[simp] theorem Block.withWhorl_ev (s : Block) (v) : (s.withWhorl v).ev = s.ev := rfl
@[simp] theorem Block.withWhorl_den (s : Block) (v) : (s.withWhorl v).den = s.den := rfl
@[simp] theorem Block.withWhorl_power (s : Block) (v) : (s.withWhorl v).power = s.power := rfl
@[simp] theorem Block.withWhorl_tap (s : Block) (v) : (s.withWhorl v).tap = s.tap := rfl
@[simp] theorem Block.withWhorl_time (s : Block) (v) : (s.withWhorl v).time = s.time := rfl
@[simp] theorem Block.withWhorl_acq (s : Block) (v) : (s.withWhorl v).acq = s.acq := rfl
@[simp] theorem Block.withWhorl_sett (s : Block) (v) : (s.withWhorl v).sett = s.sett := rfl
@[simp] theorem Block.withWhorl_whorl (s : Block) (v) : (s.withWhorl v).whorl = v := rfl
@[simp] theorem Block.withWhorl_fox (s : Block) (v) : (s.withWhorl v).fox = s.fox := rfl
@[simp] theorem Block.withWhorl_owl (s : Block) (v) : (s.withWhorl v).owl = s.owl := rfl
@[simp] theorem Block.withWhorl_cmd (s : Block) (v) : (s.withWhorl v).cmd = s.cmd := rfl
@[simp] theorem Block.withWhorl_ports (s : Block) (v) : (s.withWhorl v).ports = s.ports := rfl
@[simp] theorem Block.withWhorl_mem (s : Block) (v) : (s.withWhorl v).mem = s.mem := rfl
@[simp] theorem Block.withWhorl_ply (s : Block) (v) : (s.withWhorl v).ply = s.ply := rfl
@[simp] theorem Block.withWhorl_hoard (s : Block) (v) : (s.withWhorl v).hoard = s.hoard := rfl
@[simp] theorem Block.withWhorl_stock (s : Block) (v) : (s.withWhorl v).stock = s.stock := rfl
@[simp] theorem Block.withWhorl_update (s : Block) (v) : (s.withWhorl v).update = s.update := rfl

@[simp] theorem Block.withFox_regs (s : Block) (v) : (s.withFox v).regs = s.regs := rfl
@[simp] theorem Block.withFox_hiCap (s : Block) (v) : (s.withFox v).hiCap = s.hiCap := rfl
@[simp] theorem Block.withFox_localCount (s : Block) (v) : (s.withFox v).localCount = s.localCount := rfl
@[simp] theorem Block.withFox_free (s : Block) (v) : (s.withFox v).free = s.free := rfl
@[simp] theorem Block.withFox_ev (s : Block) (v) : (s.withFox v).ev = s.ev := rfl
@[simp] theorem Block.withFox_den (s : Block) (v) : (s.withFox v).den = s.den := rfl
@[simp] theorem Block.withFox_power (s : Block) (v) : (s.withFox v).power = s.power := rfl
@[simp] theorem Block.withFox_tap (s : Block) (v) : (s.withFox v).tap = s.tap := rfl
@[simp] theorem Block.withFox_time (s : Block) (v) : (s.withFox v).time = s.time := rfl
@[simp] theorem Block.withFox_acq (s : Block) (v) : (s.withFox v).acq = s.acq := rfl
@[simp] theorem Block.withFox_sett (s : Block) (v) : (s.withFox v).sett = s.sett := rfl
@[simp] theorem Block.withFox_whorl (s : Block) (v) : (s.withFox v).whorl = s.whorl := rfl
@[simp] theorem Block.withFox_fox (s : Block) (v) : (s.withFox v).fox = v := rfl
@[simp] theorem Block.withFox_owl (s : Block) (v) : (s.withFox v).owl = s.owl := rfl
@[simp] theorem Block.withFox_cmd (s : Block) (v) : (s.withFox v).cmd = s.cmd := rfl
@[simp] theorem Block.withFox_ports (s : Block) (v) : (s.withFox v).ports = s.ports := rfl
@[simp] theorem Block.withFox_mem (s : Block) (v) : (s.withFox v).mem = s.mem := rfl
@[simp] theorem Block.withFox_ply (s : Block) (v) : (s.withFox v).ply = s.ply := rfl
@[simp] theorem Block.withFox_hoard (s : Block) (v) : (s.withFox v).hoard = s.hoard := rfl
@[simp] theorem Block.withFox_stock (s : Block) (v) : (s.withFox v).stock = s.stock := rfl
@[simp] theorem Block.withFox_update (s : Block) (v) : (s.withFox v).update = s.update := rfl

@[simp] theorem Block.withOwl_regs (s : Block) (v) : (s.withOwl v).regs = s.regs := rfl
@[simp] theorem Block.withOwl_hiCap (s : Block) (v) : (s.withOwl v).hiCap = s.hiCap := rfl
@[simp] theorem Block.withOwl_localCount (s : Block) (v) : (s.withOwl v).localCount = s.localCount := rfl
@[simp] theorem Block.withOwl_free (s : Block) (v) : (s.withOwl v).free = s.free := rfl
@[simp] theorem Block.withOwl_ev (s : Block) (v) : (s.withOwl v).ev = s.ev := rfl
@[simp] theorem Block.withOwl_den (s : Block) (v) : (s.withOwl v).den = s.den := rfl
@[simp] theorem Block.withOwl_power (s : Block) (v) : (s.withOwl v).power = s.power := rfl
@[simp] theorem Block.withOwl_tap (s : Block) (v) : (s.withOwl v).tap = s.tap := rfl
@[simp] theorem Block.withOwl_time (s : Block) (v) : (s.withOwl v).time = s.time := rfl
@[simp] theorem Block.withOwl_acq (s : Block) (v) : (s.withOwl v).acq = s.acq := rfl
@[simp] theorem Block.withOwl_sett (s : Block) (v) : (s.withOwl v).sett = s.sett := rfl
@[simp] theorem Block.withOwl_whorl (s : Block) (v) : (s.withOwl v).whorl = s.whorl := rfl
@[simp] theorem Block.withOwl_fox (s : Block) (v) : (s.withOwl v).fox = s.fox := rfl
@[simp] theorem Block.withOwl_owl (s : Block) (v) : (s.withOwl v).owl = v := rfl
@[simp] theorem Block.withOwl_cmd (s : Block) (v) : (s.withOwl v).cmd = s.cmd := rfl
@[simp] theorem Block.withOwl_ports (s : Block) (v) : (s.withOwl v).ports = s.ports := rfl
@[simp] theorem Block.withOwl_mem (s : Block) (v) : (s.withOwl v).mem = s.mem := rfl
@[simp] theorem Block.withOwl_ply (s : Block) (v) : (s.withOwl v).ply = s.ply := rfl
@[simp] theorem Block.withOwl_hoard (s : Block) (v) : (s.withOwl v).hoard = s.hoard := rfl
@[simp] theorem Block.withOwl_stock (s : Block) (v) : (s.withOwl v).stock = s.stock := rfl
@[simp] theorem Block.withOwl_update (s : Block) (v) : (s.withOwl v).update = s.update := rfl

@[simp] theorem Block.withCmd_regs (s : Block) (v) : (s.withCmd v).regs = s.regs := rfl
@[simp] theorem Block.withCmd_hiCap (s : Block) (v) : (s.withCmd v).hiCap = s.hiCap := rfl
@[simp] theorem Block.withCmd_localCount (s : Block) (v) : (s.withCmd v).localCount = s.localCount := rfl
@[simp] theorem Block.withCmd_free (s : Block) (v) : (s.withCmd v).free = s.free := rfl
@[simp] theorem Block.withCmd_ev (s : Block) (v) : (s.withCmd v).ev = s.ev := rfl
@[simp] theorem Block.withCmd_den (s : Block) (v) : (s.withCmd v).den = s.den := rfl
@[simp] theorem Block.withCmd_power (s : Block) (v) : (s.withCmd v).power = s.power := rfl
@[simp] theorem Block.withCmd_tap (s : Block) (v) : (s.withCmd v).tap = s.tap := rfl
@[simp] theorem Block.withCmd_time (s : Block) (v) : (s.withCmd v).time = s.time := rfl
@[simp] theorem Block.withCmd_acq (s : Block) (v) : (s.withCmd v).acq = s.acq := rfl
@[simp] theorem Block.withCmd_sett (s : Block) (v) : (s.withCmd v).sett = s.sett := rfl
@[simp] theorem Block.withCmd_whorl (s : Block) (v) : (s.withCmd v).whorl = s.whorl := rfl
@[simp] theorem Block.withCmd_fox (s : Block) (v) : (s.withCmd v).fox = s.fox := rfl
@[simp] theorem Block.withCmd_owl (s : Block) (v) : (s.withCmd v).owl = s.owl := rfl
@[simp] theorem Block.withCmd_cmd (s : Block) (v) : (s.withCmd v).cmd = v := rfl
@[simp] theorem Block.withCmd_ports (s : Block) (v) : (s.withCmd v).ports = s.ports := rfl
@[simp] theorem Block.withCmd_mem (s : Block) (v) : (s.withCmd v).mem = s.mem := rfl
@[simp] theorem Block.withCmd_ply (s : Block) (v) : (s.withCmd v).ply = s.ply := rfl
@[simp] theorem Block.withCmd_hoard (s : Block) (v) : (s.withCmd v).hoard = s.hoard := rfl
@[simp] theorem Block.withCmd_stock (s : Block) (v) : (s.withCmd v).stock = s.stock := rfl
@[simp] theorem Block.withCmd_update (s : Block) (v) : (s.withCmd v).update = s.update := rfl

@[simp] theorem Block.withPorts_regs (s : Block) (v) : (s.withPorts v).regs = s.regs := rfl
@[simp] theorem Block.withPorts_hiCap (s : Block) (v) : (s.withPorts v).hiCap = s.hiCap := rfl
@[simp] theorem Block.withPorts_localCount (s : Block) (v) : (s.withPorts v).localCount = s.localCount := rfl
@[simp] theorem Block.withPorts_free (s : Block) (v) : (s.withPorts v).free = s.free := rfl
@[simp] theorem Block.withPorts_ev (s : Block) (v) : (s.withPorts v).ev = s.ev := rfl
@[simp] theorem Block.withPorts_den (s : Block) (v) : (s.withPorts v).den = s.den := rfl
@[simp] theorem Block.withPorts_power (s : Block) (v) : (s.withPorts v).power = s.power := rfl
@[simp] theorem Block.withPorts_tap (s : Block) (v) : (s.withPorts v).tap = s.tap := rfl
@[simp] theorem Block.withPorts_time (s : Block) (v) : (s.withPorts v).time = s.time := rfl
@[simp] theorem Block.withPorts_acq (s : Block) (v) : (s.withPorts v).acq = s.acq := rfl
@[simp] theorem Block.withPorts_sett (s : Block) (v) : (s.withPorts v).sett = s.sett := rfl
@[simp] theorem Block.withPorts_whorl (s : Block) (v) : (s.withPorts v).whorl = s.whorl := rfl
@[simp] theorem Block.withPorts_fox (s : Block) (v) : (s.withPorts v).fox = s.fox := rfl
@[simp] theorem Block.withPorts_owl (s : Block) (v) : (s.withPorts v).owl = s.owl := rfl
@[simp] theorem Block.withPorts_cmd (s : Block) (v) : (s.withPorts v).cmd = s.cmd := rfl
@[simp] theorem Block.withPorts_ports (s : Block) (v) : (s.withPorts v).ports = v := rfl
@[simp] theorem Block.withPorts_mem (s : Block) (v) : (s.withPorts v).mem = s.mem := rfl
@[simp] theorem Block.withPorts_ply (s : Block) (v) : (s.withPorts v).ply = s.ply := rfl
@[simp] theorem Block.withPorts_hoard (s : Block) (v) : (s.withPorts v).hoard = s.hoard := rfl
@[simp] theorem Block.withPorts_stock (s : Block) (v) : (s.withPorts v).stock = s.stock := rfl
@[simp] theorem Block.withPorts_update (s : Block) (v) : (s.withPorts v).update = s.update := rfl

@[simp] theorem Block.withMem_regs (s : Block) (v) : (s.withMem v).regs = s.regs := rfl
@[simp] theorem Block.withMem_hiCap (s : Block) (v) : (s.withMem v).hiCap = s.hiCap := rfl
@[simp] theorem Block.withMem_localCount (s : Block) (v) : (s.withMem v).localCount = s.localCount := rfl
@[simp] theorem Block.withMem_free (s : Block) (v) : (s.withMem v).free = s.free := rfl
@[simp] theorem Block.withMem_ev (s : Block) (v) : (s.withMem v).ev = s.ev := rfl
@[simp] theorem Block.withMem_den (s : Block) (v) : (s.withMem v).den = s.den := rfl
@[simp] theorem Block.withMem_power (s : Block) (v) : (s.withMem v).power = s.power := rfl
@[simp] theorem Block.withMem_tap (s : Block) (v) : (s.withMem v).tap = s.tap := rfl
@[simp] theorem Block.withMem_time (s : Block) (v) : (s.withMem v).time = s.time := rfl
@[simp] theorem Block.withMem_acq (s : Block) (v) : (s.withMem v).acq = s.acq := rfl
@[simp] theorem Block.withMem_sett (s : Block) (v) : (s.withMem v).sett = s.sett := rfl
@[simp] theorem Block.withMem_whorl (s : Block) (v) : (s.withMem v).whorl = s.whorl := rfl
@[simp] theorem Block.withMem_fox (s : Block) (v) : (s.withMem v).fox = s.fox := rfl
@[simp] theorem Block.withMem_owl (s : Block) (v) : (s.withMem v).owl = s.owl := rfl
@[simp] theorem Block.withMem_cmd (s : Block) (v) : (s.withMem v).cmd = s.cmd := rfl
@[simp] theorem Block.withMem_ports (s : Block) (v) : (s.withMem v).ports = s.ports := rfl
@[simp] theorem Block.withMem_mem (s : Block) (v) : (s.withMem v).mem = v := rfl
@[simp] theorem Block.withMem_ply (s : Block) (v) : (s.withMem v).ply = s.ply := rfl
@[simp] theorem Block.withMem_hoard (s : Block) (v) : (s.withMem v).hoard = s.hoard := rfl
@[simp] theorem Block.withMem_stock (s : Block) (v) : (s.withMem v).stock = s.stock := rfl
@[simp] theorem Block.withMem_update (s : Block) (v) : (s.withMem v).update = s.update := rfl

@[simp] theorem Block.withPly_regs (s : Block) (v) : (s.withPly v).regs = s.regs := rfl
@[simp] theorem Block.withPly_hiCap (s : Block) (v) : (s.withPly v).hiCap = s.hiCap := rfl
@[simp] theorem Block.withPly_localCount (s : Block) (v) : (s.withPly v).localCount = s.localCount := rfl
@[simp] theorem Block.withPly_free (s : Block) (v) : (s.withPly v).free = s.free := rfl
@[simp] theorem Block.withPly_ev (s : Block) (v) : (s.withPly v).ev = s.ev := rfl
@[simp] theorem Block.withPly_den (s : Block) (v) : (s.withPly v).den = s.den := rfl
@[simp] theorem Block.withPly_power (s : Block) (v) : (s.withPly v).power = s.power := rfl
@[simp] theorem Block.withPly_tap (s : Block) (v) : (s.withPly v).tap = s.tap := rfl
@[simp] theorem Block.withPly_time (s : Block) (v) : (s.withPly v).time = s.time := rfl
@[simp] theorem Block.withPly_acq (s : Block) (v) : (s.withPly v).acq = s.acq := rfl
@[simp] theorem Block.withPly_sett (s : Block) (v) : (s.withPly v).sett = s.sett := rfl
@[simp] theorem Block.withPly_whorl (s : Block) (v) : (s.withPly v).whorl = s.whorl := rfl
@[simp] theorem Block.withPly_fox (s : Block) (v) : (s.withPly v).fox = s.fox := rfl
@[simp] theorem Block.withPly_owl (s : Block) (v) : (s.withPly v).owl = s.owl := rfl
@[simp] theorem Block.withPly_cmd (s : Block) (v) : (s.withPly v).cmd = s.cmd := rfl
@[simp] theorem Block.withPly_ports (s : Block) (v) : (s.withPly v).ports = s.ports := rfl
@[simp] theorem Block.withPly_mem (s : Block) (v) : (s.withPly v).mem = s.mem := rfl
@[simp] theorem Block.withPly_ply (s : Block) (v) : (s.withPly v).ply = v := rfl
@[simp] theorem Block.withPly_hoard (s : Block) (v) : (s.withPly v).hoard = s.hoard := rfl
@[simp] theorem Block.withPly_stock (s : Block) (v) : (s.withPly v).stock = s.stock := rfl
@[simp] theorem Block.withPly_update (s : Block) (v) : (s.withPly v).update = s.update := rfl

@[simp] theorem Block.withHoard_regs (s : Block) (v) : (s.withHoard v).regs = s.regs := rfl
@[simp] theorem Block.withHoard_hiCap (s : Block) (v) : (s.withHoard v).hiCap = s.hiCap := rfl
@[simp] theorem Block.withHoard_localCount (s : Block) (v) : (s.withHoard v).localCount = s.localCount := rfl
@[simp] theorem Block.withHoard_free (s : Block) (v) : (s.withHoard v).free = s.free := rfl
@[simp] theorem Block.withHoard_ev (s : Block) (v) : (s.withHoard v).ev = s.ev := rfl
@[simp] theorem Block.withHoard_den (s : Block) (v) : (s.withHoard v).den = s.den := rfl
@[simp] theorem Block.withHoard_power (s : Block) (v) : (s.withHoard v).power = s.power := rfl
@[simp] theorem Block.withHoard_tap (s : Block) (v) : (s.withHoard v).tap = s.tap := rfl
@[simp] theorem Block.withHoard_time (s : Block) (v) : (s.withHoard v).time = s.time := rfl
@[simp] theorem Block.withHoard_acq (s : Block) (v) : (s.withHoard v).acq = s.acq := rfl
@[simp] theorem Block.withHoard_sett (s : Block) (v) : (s.withHoard v).sett = s.sett := rfl
@[simp] theorem Block.withHoard_whorl (s : Block) (v) : (s.withHoard v).whorl = s.whorl := rfl
@[simp] theorem Block.withHoard_fox (s : Block) (v) : (s.withHoard v).fox = s.fox := rfl
@[simp] theorem Block.withHoard_owl (s : Block) (v) : (s.withHoard v).owl = s.owl := rfl
@[simp] theorem Block.withHoard_cmd (s : Block) (v) : (s.withHoard v).cmd = s.cmd := rfl
@[simp] theorem Block.withHoard_ports (s : Block) (v) : (s.withHoard v).ports = s.ports := rfl
@[simp] theorem Block.withHoard_mem (s : Block) (v) : (s.withHoard v).mem = s.mem := rfl
@[simp] theorem Block.withHoard_ply (s : Block) (v) : (s.withHoard v).ply = s.ply := rfl
@[simp] theorem Block.withHoard_hoard (s : Block) (v) : (s.withHoard v).hoard = v := rfl
@[simp] theorem Block.withHoard_stock (s : Block) (v) : (s.withHoard v).stock = s.stock := rfl
@[simp] theorem Block.withHoard_update (s : Block) (v) : (s.withHoard v).update = s.update := rfl

@[simp] theorem Block.withStock_regs (s : Block) (v) : (s.withStock v).regs = s.regs := rfl
@[simp] theorem Block.withStock_hiCap (s : Block) (v) : (s.withStock v).hiCap = s.hiCap := rfl
@[simp] theorem Block.withStock_localCount (s : Block) (v) : (s.withStock v).localCount = s.localCount := rfl
@[simp] theorem Block.withStock_free (s : Block) (v) : (s.withStock v).free = s.free := rfl
@[simp] theorem Block.withStock_ev (s : Block) (v) : (s.withStock v).ev = s.ev := rfl
@[simp] theorem Block.withStock_den (s : Block) (v) : (s.withStock v).den = s.den := rfl
@[simp] theorem Block.withStock_power (s : Block) (v) : (s.withStock v).power = s.power := rfl
@[simp] theorem Block.withStock_tap (s : Block) (v) : (s.withStock v).tap = s.tap := rfl
@[simp] theorem Block.withStock_time (s : Block) (v) : (s.withStock v).time = s.time := rfl
@[simp] theorem Block.withStock_acq (s : Block) (v) : (s.withStock v).acq = s.acq := rfl
@[simp] theorem Block.withStock_sett (s : Block) (v) : (s.withStock v).sett = s.sett := rfl
@[simp] theorem Block.withStock_whorl (s : Block) (v) : (s.withStock v).whorl = s.whorl := rfl
@[simp] theorem Block.withStock_fox (s : Block) (v) : (s.withStock v).fox = s.fox := rfl
@[simp] theorem Block.withStock_owl (s : Block) (v) : (s.withStock v).owl = s.owl := rfl
@[simp] theorem Block.withStock_cmd (s : Block) (v) : (s.withStock v).cmd = s.cmd := rfl
@[simp] theorem Block.withStock_ports (s : Block) (v) : (s.withStock v).ports = s.ports := rfl
@[simp] theorem Block.withStock_mem (s : Block) (v) : (s.withStock v).mem = s.mem := rfl
@[simp] theorem Block.withStock_ply (s : Block) (v) : (s.withStock v).ply = s.ply := rfl
@[simp] theorem Block.withStock_hoard (s : Block) (v) : (s.withStock v).hoard = s.hoard := rfl
@[simp] theorem Block.withStock_stock (s : Block) (v) : (s.withStock v).stock = v := rfl
@[simp] theorem Block.withStock_update (s : Block) (v) : (s.withStock v).update = s.update := rfl

@[simp] theorem Block.withUpdate_regs (s : Block) (v) : (s.withUpdate v).regs = s.regs := rfl
@[simp] theorem Block.withUpdate_hiCap (s : Block) (v) : (s.withUpdate v).hiCap = s.hiCap := rfl
@[simp] theorem Block.withUpdate_localCount (s : Block) (v) : (s.withUpdate v).localCount = s.localCount := rfl
@[simp] theorem Block.withUpdate_free (s : Block) (v) : (s.withUpdate v).free = s.free := rfl
@[simp] theorem Block.withUpdate_ev (s : Block) (v) : (s.withUpdate v).ev = s.ev := rfl
@[simp] theorem Block.withUpdate_den (s : Block) (v) : (s.withUpdate v).den = s.den := rfl
@[simp] theorem Block.withUpdate_power (s : Block) (v) : (s.withUpdate v).power = s.power := rfl
@[simp] theorem Block.withUpdate_tap (s : Block) (v) : (s.withUpdate v).tap = s.tap := rfl
@[simp] theorem Block.withUpdate_time (s : Block) (v) : (s.withUpdate v).time = s.time := rfl
@[simp] theorem Block.withUpdate_acq (s : Block) (v) : (s.withUpdate v).acq = s.acq := rfl
@[simp] theorem Block.withUpdate_sett (s : Block) (v) : (s.withUpdate v).sett = s.sett := rfl
@[simp] theorem Block.withUpdate_whorl (s : Block) (v) : (s.withUpdate v).whorl = s.whorl := rfl
@[simp] theorem Block.withUpdate_fox (s : Block) (v) : (s.withUpdate v).fox = s.fox := rfl
@[simp] theorem Block.withUpdate_owl (s : Block) (v) : (s.withUpdate v).owl = s.owl := rfl
@[simp] theorem Block.withUpdate_cmd (s : Block) (v) : (s.withUpdate v).cmd = s.cmd := rfl
@[simp] theorem Block.withUpdate_ports (s : Block) (v) : (s.withUpdate v).ports = s.ports := rfl
@[simp] theorem Block.withUpdate_mem (s : Block) (v) : (s.withUpdate v).mem = s.mem := rfl
@[simp] theorem Block.withUpdate_ply (s : Block) (v) : (s.withUpdate v).ply = s.ply := rfl
@[simp] theorem Block.withUpdate_hoard (s : Block) (v) : (s.withUpdate v).hoard = s.hoard := rfl
@[simp] theorem Block.withUpdate_stock (s : Block) (v) : (s.withUpdate v).stock = s.stock := rfl
@[simp] theorem Block.withUpdate_update (s : Block) (v) : (s.withUpdate v).update = v := rfl

@[simp] theorem State.withBlock_toBlock (s : State) (b : Block) : (s.withBlock b).toBlock = b := rfl
@[simp] theorem State.withBlock_pending (s : State) (b : Block) : (s.withBlock b).pending = s.pending := rfl
@[simp] theorem State.withBlock_self (s : State) : s.withBlock s.toBlock = s := rfl

end Sys2Proof.Machine
end

