-- ==== Sys2Proof/Laws/Bank.lean ====
section
/-! SUPPORT. The laws of the sparse collections: what is read after a write, and that every operation keeps the canonical
form; and the same of the result memory. -/

namespace Sys2Proof.Machine

variable {α : Type}

/-! Reading after writing. -/

theorem Bank.get_insert (d : Nat → α) (b : Bank α) (k : Nat) (v : α) (i : Nat) :
    Bank.get d (Bank.insert b k v) i = if i = k then v else Bank.get d b i := by
  induction b with
  | nil => grind [Bank.insert, Bank.get]
  | cons p t ih => grind [Bank.insert, Bank.get]

theorem Bank.get_erase (d : Nat → α) (b : Bank α) (k i : Nat) :
    Bank.get d (Bank.erase b k) i = if i = k then d i else Bank.get d b i := by
  induction b with
  | nil => grind [Bank.erase, Bank.get]
  | cons p t ih => grind [Bank.erase, Bank.get]

/-- A key reads what was last written to it; every other key reads as before. -/
theorem Bank.get_set [DecidableEq α] (d : Nat → α) (b : Bank α) (k : Nat) (v : α) (i : Nat) :
    Bank.get d (Bank.set d b k v) i = if i = k then v else Bank.get d b i := by
  unfold Bank.set
  split
  · rw [Bank.get_erase]; split <;> simp_all
  · exact Bank.get_insert d b k v i

@[simp] theorem Bank.get_set_self [DecidableEq α] (d : Nat → α) (b : Bank α) (k : Nat) (v : α) :
    Bank.get d (Bank.set d b k v) k = v := by rw [Bank.get_set, if_pos rfl]

theorem Bank.get_set_ne [DecidableEq α] (d : Nat → α) (b : Bank α) {k i : Nat} (v : α) (h : i ≠ k) :
    Bank.get d (Bank.set d b k v) i = Bank.get d b i := by rw [Bank.get_set, if_neg h]

theorem Bank.find_insert (b : Bank α) (k : Nat) (v : α) (i : Nat) :
    Bank.find (Bank.insert b k v) i = if i = k then some v else Bank.find b i := by
  induction b with
  | nil => grind [Bank.insert, Bank.find]
  | cons p t ih => grind [Bank.insert, Bank.find]

/-! The canonical form. -/

theorem Bank.wfFrom_mono [DecidableEq α] (d : Nat → α) {b : Bank α} {lo lo' : Nat} (h : lo' ≤ lo)
    (hb : Bank.wfFrom d lo b = true) : Bank.wfFrom d lo' b = true := by
  cases b with
  | nil => rfl
  | cons p t => simp only [Bank.wfFrom, Bool.and_eq_true, decide_eq_true_eq] at *; exact ⟨⟨by omega, hb.1.2⟩, hb.2⟩

theorem Bank.wfFrom_insert [DecidableEq α] (d : Nat → α) {b : Bank α} {lo k : Nat} {v : α} (hk : lo ≤ k) (hv : v ≠ d k)
    (hb : Bank.wfFrom d lo b = true) : Bank.wfFrom d lo (Bank.insert b k v) = true := by
  induction b generalizing lo with
  | nil => simp [Bank.insert, Bank.wfFrom, hk, hv]
  | cons p t ih =>
    obtain ⟨j, w⟩ := p
    simp only [Bank.wfFrom, Bool.and_eq_true, decide_eq_true_eq] at hb
    obtain ⟨⟨h1, h2⟩, h3⟩ := hb
    simp only [Bank.insert]
    split
    · simp only [Bank.wfFrom, Bool.and_eq_true, decide_eq_true_eq]
      exact ⟨⟨hk, hv⟩, ⟨by omega, h2⟩, h3⟩
    · split
      · subst j
        simp only [Bank.wfFrom, Bool.and_eq_true, decide_eq_true_eq]
        exact ⟨⟨hk, hv⟩, h3⟩
      · simp only [Bank.wfFrom, Bool.and_eq_true, decide_eq_true_eq]
        exact ⟨⟨h1, h2⟩, ih (by omega) h3⟩

theorem Bank.wfFrom_erase [DecidableEq α] (d : Nat → α) {b : Bank α} {lo k : Nat} (hb : Bank.wfFrom d lo b = true) :
    Bank.wfFrom d lo (Bank.erase b k) = true := by
  induction b generalizing lo with
  | nil => rfl
  | cons p t ih =>
    obtain ⟨j, w⟩ := p
    simp only [Bank.wfFrom, Bool.and_eq_true, decide_eq_true_eq] at hb
    obtain ⟨⟨h1, h2⟩, h3⟩ := hb
    simp only [Bank.erase]
    split
    · exact Bank.wfFrom_mono d (by omega) (ih h3)
    · simp only [Bank.wfFrom, Bool.and_eq_true, decide_eq_true_eq]
      exact ⟨⟨h1, h2⟩, ih h3⟩

/-- A write keeps the canonical form. -/
theorem Bank.wf_set [DecidableEq α] (d : Nat → α) {b : Bank α} (k : Nat) (v : α) (hb : Bank.wf d b = true) :
    Bank.wf d (Bank.set d b k v) = true := by
  unfold Bank.set
  split
  · exact Bank.wfFrom_erase d hb
  · exact Bank.wfFrom_insert d (Nat.zero_le k) (by assumption) hb

/-- An operation on each entry that keeps its key, or drops it, and never leaves a default keeps the canonical form. -/
theorem Bank.wfFrom_filterMap [DecidableEq α] (d : Nat → α) {b : Bank α} {lo : Nat} {f : Nat × α → Option (Nat × α)}
    (hf : ∀ p q, f p = some q → p.2 ≠ d p.1 → q.1 = p.1 ∧ q.2 ≠ d q.1) (hb : Bank.wfFrom d lo b = true) :
    Bank.wfFrom d lo (b.filterMap f) = true := by
  induction b generalizing lo with
  | nil => rfl
  | cons p t ih =>
    obtain ⟨j, w⟩ := p
    simp only [Bank.wfFrom, Bool.and_eq_true, decide_eq_true_eq] at hb
    obtain ⟨⟨h1, h2⟩, h3⟩ := hb
    cases hq : f (j, w) with
    | none => rw [List.filterMap_cons_none hq]; exact Bank.wfFrom_mono d (by omega) (ih h3)
    | some q =>
      rw [List.filterMap_cons_some hq]
      obtain ⟨i, v⟩ := q
      have h := hf _ _ hq h2
      simp only at h
      obtain ⟨rfl, h4⟩ := h
      simp only [Bank.wfFrom, Bool.and_eq_true, decide_eq_true_eq]
      exact ⟨⟨h1, h4⟩, ih h3⟩

theorem Bank.rising_mono {b : Bank α} {lo lo' : Nat} (h : lo' ≤ lo) (hb : Bank.rising lo b = true) :
    Bank.rising lo' b = true := by
  cases b with
  | nil => rfl
  | cons p t => simp only [Bank.rising, Bool.and_eq_true, decide_eq_true_eq] at *; exact ⟨by omega, hb.2⟩

theorem Bank.rising_insert {b : Bank α} {lo k : Nat} {v : α} (hk : lo ≤ k) (hb : Bank.rising lo b = true) :
    Bank.rising lo (Bank.insert b k v) = true := by
  induction b generalizing lo with
  | nil => simp [Bank.insert, Bank.rising, hk]
  | cons p t ih =>
    obtain ⟨j, w⟩ := p
    simp only [Bank.rising, Bool.and_eq_true, decide_eq_true_eq] at hb
    simp only [Bank.insert]
    split
    · simp only [Bank.rising, Bool.and_eq_true, decide_eq_true_eq]; exact ⟨hk, by omega, hb.2⟩
    · split
      · subst j
        simp only [Bank.rising, Bool.and_eq_true, decide_eq_true_eq]; exact ⟨hk, hb.2⟩
      · simp only [Bank.rising, Bool.and_eq_true, decide_eq_true_eq]
        exact ⟨hb.1, ih (by omega) hb.2⟩

theorem Bank.mem_insert {b : Bank α} {k : Nat} {v : α} {p : Nat × α} (h : p ∈ Bank.insert b k v) : p = (k, v) ∨ p ∈ b := by
  induction b with
  | nil => simpa [Bank.insert] using h
  | cons q t ih =>
    obtain ⟨j, w⟩ := q
    simp only [Bank.insert] at h
    split at h
    · simpa using h
    · split at h
      · rcases List.mem_cons.mp h with h | h
        · exact .inl h
        · exact .inr (List.mem_cons_of_mem _ h)
      · rcases List.mem_cons.mp h with h | h
        · exact .inr (h ▸ List.mem_cons_self)
        · rcases ih h with h | h
          · exact .inl h
          · exact .inr (List.mem_cons_of_mem _ h)

/-- The keys of a list rise strictly from `lo` on: as a property of pairs. -/
theorem Bank.rising_iff {b : Bank α} {lo : Nat} :
    Bank.rising lo b = true ↔ (∀ p ∈ b, lo ≤ p.1) ∧ b.Pairwise (fun p q => p.1 < q.1) := by
  induction b generalizing lo with
  | nil => simp [Bank.rising]
  | cons p t ih =>
    obtain ⟨j, w⟩ := p
    simp only [Bank.rising, Bool.and_eq_true, decide_eq_true_eq, ih, List.pairwise_cons, List.mem_cons,
      forall_eq_or_imp]
    constructor
    · rintro ⟨h1, h2, h3⟩
      exact ⟨⟨h1, fun q hq => by have := h2 q hq; omega⟩, fun q hq => by have := h2 q hq; omega, h3⟩
    · rintro ⟨⟨h1, -⟩, h3, h4⟩
      exact ⟨h1, fun q hq => h3 q hq, h4⟩

theorem Bank.rising_fill {b : Bank α} (lo : Nat) (vs : List α) (hb : Bank.rising 0 b = true) :
    Bank.rising 0 (Bank.fill b lo vs) = true := by
  rw [Bank.rising_iff] at *
  obtain ⟨-, hb⟩ := hb
  refine ⟨fun _ _ => Nat.zero_le _, ?_⟩
  have hkey : ∀ p ∈ (vs.zipIdx lo).map (fun p => (p.2, p.1)), lo ≤ p.1 ∧ p.1 < lo + vs.length := by
    intro p hp
    obtain ⟨q, hq, rfl⟩ := List.mem_map.mp hp
    obtain ⟨x, i⟩ := q
    have := List.mem_zipIdx hq
    simp only; omega
  have hmid : ((vs.zipIdx lo).map (fun p => (p.2, p.1))).Pairwise (fun p q => p.1 < q.1) := by
    clear hkey
    induction vs generalizing lo with
    | nil => simp
    | cons v t ih =>
      simp only [List.zipIdx_cons, List.map_cons, List.pairwise_cons]
      refine ⟨fun p hp => ?_, ih (lo + 1)⟩
      obtain ⟨q, hq, rfl⟩ := List.mem_map.mp hp
      obtain ⟨x, i⟩ := q
      have := List.mem_zipIdx hq
      simp only; omega
  unfold Bank.fill
  rw [List.pairwise_append, List.pairwise_append]
  refine ⟨⟨hb.filter _, hmid, fun p hp q hq => ?_⟩, hb.filter _, fun p hp q hq => ?_⟩
  · have h1 := hkey q hq
    simp only [List.mem_filter, decide_eq_true_eq] at hp; omega
  · simp only [List.mem_filter, decide_eq_true_eq] at hq
    rcases List.mem_append.mp hp with hp | hp
    · simp only [List.mem_filter, decide_eq_true_eq] at hp; omega
    · have h1 := hkey p hp; omega

/-! The result memory (R360). -/

/-- An offset reads what was last written to it; every other offset reads as before. -/
theorem Block.byteAt_setByte (s : Block) (a : Nat) (b : Byte) (i : Nat) :
    (s.setByte a b).byteAt i = if i = a ∧ a < memSize then some b else s.byteAt i := by
  unfold Block.setByte
  split
  · next h => simp only [Block.byteAt, Block.withMem_mem, Bank.find_insert, h, and_true]
  · next h => simp [h]

theorem Memory.wf_iff (m : List Host.Cell) :
    Memory.wf m = true ↔ Bank.rising 0 m = true ∧ ∀ c ∈ m, c.1 < memSize := by
  simp [Memory.wf, List.all_eq_true]

/-- A byte write keeps the canonical form. -/
theorem Memory.wf_setByte {s : Block} (a : Nat) (b : Byte) (h : Memory.wf s.mem = true) :
    Memory.wf (s.setByte a b).mem = true := by
  unfold Block.setByte
  split
  · next ha =>
    rw [Memory.wf_iff] at *
    refine ⟨Bank.rising_insert (Nat.zero_le a) h.1, fun c hc => ?_⟩
    rcases Bank.mem_insert hc with rfl | hc
    · exact ha
    · exact h.2 c hc
  · exact h

/-- A run of bytes inside the memory keeps the canonical form. -/
theorem Memory.wf_fill {m : List Host.Cell} (o : Nat) (bs : List Byte) (h : Memory.wf m = true) :
    Memory.wf (Bank.fill m o (bs.take (memSize - o))) = true := by
  rw [Memory.wf_iff] at *
  refine ⟨Bank.rising_fill o _ h.1, fun c hc => ?_⟩
  unfold Bank.fill at hc
  rcases List.mem_append.mp hc with hc | hc
  · rcases List.mem_append.mp hc with hc | hc
    · exact h.2 c (List.mem_filter.mp hc).1
    · obtain ⟨q, hq, rfl⟩ := List.mem_map.mp hc
      obtain ⟨x, i⟩ := q
      have := List.mem_zipIdx hq
      rw [List.length_take] at this
      simp only; omega
  · exact h.2 c (List.mem_filter.mp hc).1

end Sys2Proof.Machine
end

