-- ==== Sys2Proof/Laws/Frame.lean ====
section
/-! SUPPORT. What a function of the block may change. `Frame m s t`: between `s` and `t` only the parts of the block whose
bit is set in the mask `m` may differ, and the canonical form of the registers and of the result memory is kept. -/

namespace Sys2Proof.Machine

/-- Only the parts of the mask `m` may differ between `s` and `t`; the two canonical forms are kept. -/
structure Frame (m : Nat) (s t : Block) : Prop where
  regs_eq : m.testBit 0 = false → t.regs = s.regs
  hiCap_eq : m.testBit 1 = false → t.hiCap = s.hiCap
  localCount_eq : m.testBit 2 = false → t.localCount = s.localCount
  free_eq : m.testBit 3 = false → t.free = s.free
  ev_eq : m.testBit 4 = false → t.ev = s.ev
  den_eq : m.testBit 5 = false → t.den = s.den
  power_eq : m.testBit 6 = false → t.power = s.power
  tap_eq : m.testBit 7 = false → t.tap = s.tap
  time_eq : m.testBit 8 = false → t.time = s.time
  acq_eq : m.testBit 9 = false → t.acq = s.acq
  sett_eq : m.testBit 10 = false → t.sett = s.sett
  whorl_eq : m.testBit 11 = false → t.whorl = s.whorl
  fox_eq : m.testBit 12 = false → t.fox = s.fox
  owl_eq : m.testBit 13 = false → t.owl = s.owl
  cmd_eq : m.testBit 14 = false → t.cmd = s.cmd
  ports_eq : m.testBit 15 = false → t.ports = s.ports
  mem_eq : m.testBit 16 = false → t.mem = s.mem
  ply_eq : m.testBit 17 = false → t.ply = s.ply
  hoard_eq : m.testBit 18 = false → t.hoard = s.hoard
  stock_eq : m.testBit 19 = false → t.stock = s.stock
  update_eq : m.testBit 20 = false → t.update = s.update
  regs_wf : Bank.wf regReset s.regs = true → Bank.wf regReset t.regs = true
  mem_wf : Memory.wf s.mem = true → Memory.wf t.mem = true

theorem Frame.refl (m : Nat) (s : Block) : Frame m s s := by
  constructor <;> intros <;> first | rfl | assumption

/-- Every bit of `a` is set in `m`. -/
def subMask (a m : Nat) : Bool := Nat.beq (Nat.land a m) a

theorem subMask_iff {a m : Nat} : subMask a m = true ↔ a &&& m = a := by
  unfold subMask; rw [Nat.beq_eq]; rfl

theorem testBit_of_sub {a m i : Nat} (h : subMask a m = true) (hm : m.testBit i = false) : a.testBit i = false := by
  rw [← subMask_iff.mp h, Nat.testBit_and, hm, Bool.and_false]

theorem sub_trans {a b c : Nat} (h : subMask a b = true) (h' : subMask b c = true) : subMask a c = true := by
  rw [subMask_iff] at *; rw [← h, Nat.and_assoc, h']

/-- What `a` may change, a larger mask may change too; and frames compose. -/
theorem Frame.via {a m : Nat} {s0 s t : Block} (h : Frame a s t) (hm : subMask a m = true) (h0 : Frame m s0 s) : Frame m s0 t where
  regs_eq := fun hb => (h.regs_eq (testBit_of_sub hm hb)).trans (h0.regs_eq hb)
  hiCap_eq := fun hb => (h.hiCap_eq (testBit_of_sub hm hb)).trans (h0.hiCap_eq hb)
  localCount_eq := fun hb => (h.localCount_eq (testBit_of_sub hm hb)).trans (h0.localCount_eq hb)
  free_eq := fun hb => (h.free_eq (testBit_of_sub hm hb)).trans (h0.free_eq hb)
  ev_eq := fun hb => (h.ev_eq (testBit_of_sub hm hb)).trans (h0.ev_eq hb)
  den_eq := fun hb => (h.den_eq (testBit_of_sub hm hb)).trans (h0.den_eq hb)
  power_eq := fun hb => (h.power_eq (testBit_of_sub hm hb)).trans (h0.power_eq hb)
  tap_eq := fun hb => (h.tap_eq (testBit_of_sub hm hb)).trans (h0.tap_eq hb)
  time_eq := fun hb => (h.time_eq (testBit_of_sub hm hb)).trans (h0.time_eq hb)
  acq_eq := fun hb => (h.acq_eq (testBit_of_sub hm hb)).trans (h0.acq_eq hb)
  sett_eq := fun hb => (h.sett_eq (testBit_of_sub hm hb)).trans (h0.sett_eq hb)
  whorl_eq := fun hb => (h.whorl_eq (testBit_of_sub hm hb)).trans (h0.whorl_eq hb)
  fox_eq := fun hb => (h.fox_eq (testBit_of_sub hm hb)).trans (h0.fox_eq hb)
  owl_eq := fun hb => (h.owl_eq (testBit_of_sub hm hb)).trans (h0.owl_eq hb)
  cmd_eq := fun hb => (h.cmd_eq (testBit_of_sub hm hb)).trans (h0.cmd_eq hb)
  ports_eq := fun hb => (h.ports_eq (testBit_of_sub hm hb)).trans (h0.ports_eq hb)
  mem_eq := fun hb => (h.mem_eq (testBit_of_sub hm hb)).trans (h0.mem_eq hb)
  ply_eq := fun hb => (h.ply_eq (testBit_of_sub hm hb)).trans (h0.ply_eq hb)
  hoard_eq := fun hb => (h.hoard_eq (testBit_of_sub hm hb)).trans (h0.hoard_eq hb)
  stock_eq := fun hb => (h.stock_eq (testBit_of_sub hm hb)).trans (h0.stock_eq hb)
  update_eq := fun hb => (h.update_eq (testBit_of_sub hm hb)).trans (h0.update_eq hb)
  regs_wf := fun w => h.regs_wf (h0.regs_wf w)
  mem_wf := fun w => h.mem_wf (h0.mem_wf w)

theorem Frame.ite {m : Nat} {s0 a b : Block} {c : Prop} [Decidable c] (ha : Frame m s0 a) (hb : Frame m s0 b) :
    Frame m s0 (if c then a else b) := by split <;> assumption

theorem Frame.each {α : Type} {m : Nat} {s0 s : Block} {l : List α} {f : Block → α → Block}
    (hf : ∀ t x, Frame m s0 t → Frame m s0 (f t x)) (h : Frame m s0 s) : Frame m s0 (s.each l f) := by
  unfold Block.each
  induction l generalizing s with
  | nil => exact h
  | cons x l ih => exact ih (hf s x h)

theorem Frame.foldl {α : Type} {m : Nat} {s0 s : Block} {l : List α} {f : Block → α → Block}
    (hf : ∀ t x, Frame m s0 t → Frame m s0 (f t x)) (h : Frame m s0 s) : Frame m s0 (l.foldl f s) := by
  induction l generalizing s with
  | nil => exact h
  | cons x l ih => exact ih (hf s x h)

theorem Frame.foldlFst {α β : Type} {m : Nat} {s0 : Block} {a : Block × β} {l : List α} {f : Block × β → α → Block × β}
    (hf : ∀ a x, Frame m s0 a.1 → Frame m s0 (f a x).1) (h : Frame m s0 a.1) : Frame m s0 (l.foldl f a).1 := by
  induction l generalizing a with
  | nil => exact h
  | cons x l ih => exact ih (hf a x h)

theorem Frame.foldlSnd {α β : Type} {m : Nat} {s0 : Block} {a : β × Block} {l : List α} {f : β × Block → α → β × Block}
    (hf : ∀ a x, Frame m s0 a.2 → Frame m s0 (f a x).2) (h : Frame m s0 a.2) : Frame m s0 (l.foldl f a).2 := by
  induction l generalizing a with
  | nil => exact h
  | cons x l ih => exact ih (hf a x h)

theorem Frame.idf {m : Nat} {s0 s : Block} (h : Frame m s0 s) : Frame m s0 (id s) := h

theorem Frame.when {m : Nat} {s0 s : Block} {b : Bool} {f : Block → Block}
    (hf : ∀ t, Frame m s0 t → Frame m s0 (f t)) (h : Frame m s0 s) : Frame m s0 (s.when b f) := by
  unfold Block.when; split
  · exact hf s h
  · exact h

theorem Frame.pair2 {α : Type} {m : Nat} {s0 b : Block} {e : α × Block} {a : α} (h : e = (a, b)) (hf : Frame m s0 e.2) :
    Frame m s0 b := by subst h; exact hf

theorem Frame.pair3 {α β : Type} {m : Nat} {s0 b : Block} {e : α × β × Block} {a : α} {c : β} (h : e = (a, c, b))
    (hf : Frame m s0 e.2.2) : Frame m s0 b := by subst h; exact hf

theorem Frame.pair4 {α β γ : Type} {m : Nat} {s0 b : Block} {e : α × β × γ × Block} {a : α} {c : β} {d : γ}
    (h : e = (a, c, d, b)) (hf : Frame m s0 e.2.2.2) : Frame m s0 b := by subst h; exact hf

theorem Frame.snd {α : Type} {m : Nat} {s0 b : Block} {a : α} (h : Frame m s0 b) : Frame m s0 (a, b).2 := h

theorem Frame.snd2 {α β : Type} {m : Nat} {s0 b : Block} {a : α} {c : β} (h : Frame m s0 b) : Frame m s0 (a, c, b).2.2 := h

theorem Frame.snd3 {α β γ : Type} {m : Nat} {s0 b : Block} {a : α} {c : β} {d : γ} (h : Frame m s0 b) :
    Frame m s0 (a, c, d, b).2.2.2 := h

theorem Frame.put_regs {m : Nat} {s0 t : Block} {x : _} (hm : m.testBit 0 = true) (hx : Bank.wf regReset t.regs = true → Bank.wf regReset x = true) (h : Frame m s0 t) :
    Frame m s0 (t.withRegs x) where
  regs_eq := fun hb => absurd (hm.symm.trans hb) (by decide)
  hiCap_eq := h.hiCap_eq
  localCount_eq := h.localCount_eq
  free_eq := h.free_eq
  ev_eq := h.ev_eq
  den_eq := h.den_eq
  power_eq := h.power_eq
  tap_eq := h.tap_eq
  time_eq := h.time_eq
  acq_eq := h.acq_eq
  sett_eq := h.sett_eq
  whorl_eq := h.whorl_eq
  fox_eq := h.fox_eq
  owl_eq := h.owl_eq
  cmd_eq := h.cmd_eq
  ports_eq := h.ports_eq
  mem_eq := h.mem_eq
  ply_eq := h.ply_eq
  hoard_eq := h.hoard_eq
  stock_eq := h.stock_eq
  update_eq := h.update_eq
  regs_wf := fun w => hx (h.regs_wf w)
  mem_wf := h.mem_wf

theorem Frame.put_hiCap {m : Nat} {s0 t : Block} {x : _} (hm : m.testBit 1 = true) (h : Frame m s0 t) :
    Frame m s0 (t.withHiCap x) where
  regs_eq := h.regs_eq
  hiCap_eq := fun hb => absurd (hm.symm.trans hb) (by decide)
  localCount_eq := h.localCount_eq
  free_eq := h.free_eq
  ev_eq := h.ev_eq
  den_eq := h.den_eq
  power_eq := h.power_eq
  tap_eq := h.tap_eq
  time_eq := h.time_eq
  acq_eq := h.acq_eq
  sett_eq := h.sett_eq
  whorl_eq := h.whorl_eq
  fox_eq := h.fox_eq
  owl_eq := h.owl_eq
  cmd_eq := h.cmd_eq
  ports_eq := h.ports_eq
  mem_eq := h.mem_eq
  ply_eq := h.ply_eq
  hoard_eq := h.hoard_eq
  stock_eq := h.stock_eq
  update_eq := h.update_eq
  regs_wf := h.regs_wf
  mem_wf := h.mem_wf

theorem Frame.put_localCount {m : Nat} {s0 t : Block} {x : _} (hm : m.testBit 2 = true) (h : Frame m s0 t) :
    Frame m s0 (t.withLocalCount x) where
  regs_eq := h.regs_eq
  hiCap_eq := h.hiCap_eq
  localCount_eq := fun hb => absurd (hm.symm.trans hb) (by decide)
  free_eq := h.free_eq
  ev_eq := h.ev_eq
  den_eq := h.den_eq
  power_eq := h.power_eq
  tap_eq := h.tap_eq
  time_eq := h.time_eq
  acq_eq := h.acq_eq
  sett_eq := h.sett_eq
  whorl_eq := h.whorl_eq
  fox_eq := h.fox_eq
  owl_eq := h.owl_eq
  cmd_eq := h.cmd_eq
  ports_eq := h.ports_eq
  mem_eq := h.mem_eq
  ply_eq := h.ply_eq
  hoard_eq := h.hoard_eq
  stock_eq := h.stock_eq
  update_eq := h.update_eq
  regs_wf := h.regs_wf
  mem_wf := h.mem_wf

theorem Frame.put_free {m : Nat} {s0 t : Block} {x : _} (hm : m.testBit 3 = true) (h : Frame m s0 t) :
    Frame m s0 (t.withFree x) where
  regs_eq := h.regs_eq
  hiCap_eq := h.hiCap_eq
  localCount_eq := h.localCount_eq
  free_eq := fun hb => absurd (hm.symm.trans hb) (by decide)
  ev_eq := h.ev_eq
  den_eq := h.den_eq
  power_eq := h.power_eq
  tap_eq := h.tap_eq
  time_eq := h.time_eq
  acq_eq := h.acq_eq
  sett_eq := h.sett_eq
  whorl_eq := h.whorl_eq
  fox_eq := h.fox_eq
  owl_eq := h.owl_eq
  cmd_eq := h.cmd_eq
  ports_eq := h.ports_eq
  mem_eq := h.mem_eq
  ply_eq := h.ply_eq
  hoard_eq := h.hoard_eq
  stock_eq := h.stock_eq
  update_eq := h.update_eq
  regs_wf := h.regs_wf
  mem_wf := h.mem_wf

theorem Frame.put_ev {m : Nat} {s0 t : Block} {x : _} (hm : m.testBit 4 = true) (h : Frame m s0 t) :
    Frame m s0 (t.withEv x) where
  regs_eq := h.regs_eq
  hiCap_eq := h.hiCap_eq
  localCount_eq := h.localCount_eq
  free_eq := h.free_eq
  ev_eq := fun hb => absurd (hm.symm.trans hb) (by decide)
  den_eq := h.den_eq
  power_eq := h.power_eq
  tap_eq := h.tap_eq
  time_eq := h.time_eq
  acq_eq := h.acq_eq
  sett_eq := h.sett_eq
  whorl_eq := h.whorl_eq
  fox_eq := h.fox_eq
  owl_eq := h.owl_eq
  cmd_eq := h.cmd_eq
  ports_eq := h.ports_eq
  mem_eq := h.mem_eq
  ply_eq := h.ply_eq
  hoard_eq := h.hoard_eq
  stock_eq := h.stock_eq
  update_eq := h.update_eq
  regs_wf := h.regs_wf
  mem_wf := h.mem_wf

theorem Frame.put_den {m : Nat} {s0 t : Block} {x : _} (hm : m.testBit 5 = true) (h : Frame m s0 t) :
    Frame m s0 (t.withDen x) where
  regs_eq := h.regs_eq
  hiCap_eq := h.hiCap_eq
  localCount_eq := h.localCount_eq
  free_eq := h.free_eq
  ev_eq := h.ev_eq
  den_eq := fun hb => absurd (hm.symm.trans hb) (by decide)
  power_eq := h.power_eq
  tap_eq := h.tap_eq
  time_eq := h.time_eq
  acq_eq := h.acq_eq
  sett_eq := h.sett_eq
  whorl_eq := h.whorl_eq
  fox_eq := h.fox_eq
  owl_eq := h.owl_eq
  cmd_eq := h.cmd_eq
  ports_eq := h.ports_eq
  mem_eq := h.mem_eq
  ply_eq := h.ply_eq
  hoard_eq := h.hoard_eq
  stock_eq := h.stock_eq
  update_eq := h.update_eq
  regs_wf := h.regs_wf
  mem_wf := h.mem_wf

theorem Frame.put_power {m : Nat} {s0 t : Block} {x : _} (hm : m.testBit 6 = true) (h : Frame m s0 t) :
    Frame m s0 (t.withPower x) where
  regs_eq := h.regs_eq
  hiCap_eq := h.hiCap_eq
  localCount_eq := h.localCount_eq
  free_eq := h.free_eq
  ev_eq := h.ev_eq
  den_eq := h.den_eq
  power_eq := fun hb => absurd (hm.symm.trans hb) (by decide)
  tap_eq := h.tap_eq
  time_eq := h.time_eq
  acq_eq := h.acq_eq
  sett_eq := h.sett_eq
  whorl_eq := h.whorl_eq
  fox_eq := h.fox_eq
  owl_eq := h.owl_eq
  cmd_eq := h.cmd_eq
  ports_eq := h.ports_eq
  mem_eq := h.mem_eq
  ply_eq := h.ply_eq
  hoard_eq := h.hoard_eq
  stock_eq := h.stock_eq
  update_eq := h.update_eq
  regs_wf := h.regs_wf
  mem_wf := h.mem_wf

theorem Frame.put_tap {m : Nat} {s0 t : Block} {x : _} (hm : m.testBit 7 = true) (h : Frame m s0 t) :
    Frame m s0 (t.withTap x) where
  regs_eq := h.regs_eq
  hiCap_eq := h.hiCap_eq
  localCount_eq := h.localCount_eq
  free_eq := h.free_eq
  ev_eq := h.ev_eq
  den_eq := h.den_eq
  power_eq := h.power_eq
  tap_eq := fun hb => absurd (hm.symm.trans hb) (by decide)
  time_eq := h.time_eq
  acq_eq := h.acq_eq
  sett_eq := h.sett_eq
  whorl_eq := h.whorl_eq
  fox_eq := h.fox_eq
  owl_eq := h.owl_eq
  cmd_eq := h.cmd_eq
  ports_eq := h.ports_eq
  mem_eq := h.mem_eq
  ply_eq := h.ply_eq
  hoard_eq := h.hoard_eq
  stock_eq := h.stock_eq
  update_eq := h.update_eq
  regs_wf := h.regs_wf
  mem_wf := h.mem_wf

theorem Frame.put_time {m : Nat} {s0 t : Block} {x : _} (hm : m.testBit 8 = true) (h : Frame m s0 t) :
    Frame m s0 (t.withTime x) where
  regs_eq := h.regs_eq
  hiCap_eq := h.hiCap_eq
  localCount_eq := h.localCount_eq
  free_eq := h.free_eq
  ev_eq := h.ev_eq
  den_eq := h.den_eq
  power_eq := h.power_eq
  tap_eq := h.tap_eq
  time_eq := fun hb => absurd (hm.symm.trans hb) (by decide)
  acq_eq := h.acq_eq
  sett_eq := h.sett_eq
  whorl_eq := h.whorl_eq
  fox_eq := h.fox_eq
  owl_eq := h.owl_eq
  cmd_eq := h.cmd_eq
  ports_eq := h.ports_eq
  mem_eq := h.mem_eq
  ply_eq := h.ply_eq
  hoard_eq := h.hoard_eq
  stock_eq := h.stock_eq
  update_eq := h.update_eq
  regs_wf := h.regs_wf
  mem_wf := h.mem_wf

theorem Frame.put_acq {m : Nat} {s0 t : Block} {x : _} (hm : m.testBit 9 = true) (h : Frame m s0 t) :
    Frame m s0 (t.withAcq x) where
  regs_eq := h.regs_eq
  hiCap_eq := h.hiCap_eq
  localCount_eq := h.localCount_eq
  free_eq := h.free_eq
  ev_eq := h.ev_eq
  den_eq := h.den_eq
  power_eq := h.power_eq
  tap_eq := h.tap_eq
  time_eq := h.time_eq
  acq_eq := fun hb => absurd (hm.symm.trans hb) (by decide)
  sett_eq := h.sett_eq
  whorl_eq := h.whorl_eq
  fox_eq := h.fox_eq
  owl_eq := h.owl_eq
  cmd_eq := h.cmd_eq
  ports_eq := h.ports_eq
  mem_eq := h.mem_eq
  ply_eq := h.ply_eq
  hoard_eq := h.hoard_eq
  stock_eq := h.stock_eq
  update_eq := h.update_eq
  regs_wf := h.regs_wf
  mem_wf := h.mem_wf

theorem Frame.put_sett {m : Nat} {s0 t : Block} {x : _} (hm : m.testBit 10 = true) (h : Frame m s0 t) :
    Frame m s0 (t.withSett x) where
  regs_eq := h.regs_eq
  hiCap_eq := h.hiCap_eq
  localCount_eq := h.localCount_eq
  free_eq := h.free_eq
  ev_eq := h.ev_eq
  den_eq := h.den_eq
  power_eq := h.power_eq
  tap_eq := h.tap_eq
  time_eq := h.time_eq
  acq_eq := h.acq_eq
  sett_eq := fun hb => absurd (hm.symm.trans hb) (by decide)
  whorl_eq := h.whorl_eq
  fox_eq := h.fox_eq
  owl_eq := h.owl_eq
  cmd_eq := h.cmd_eq
  ports_eq := h.ports_eq
  mem_eq := h.mem_eq
  ply_eq := h.ply_eq
  hoard_eq := h.hoard_eq
  stock_eq := h.stock_eq
  update_eq := h.update_eq
  regs_wf := h.regs_wf
  mem_wf := h.mem_wf

theorem Frame.put_whorl {m : Nat} {s0 t : Block} {x : _} (hm : m.testBit 11 = true) (h : Frame m s0 t) :
    Frame m s0 (t.withWhorl x) where
  regs_eq := h.regs_eq
  hiCap_eq := h.hiCap_eq
  localCount_eq := h.localCount_eq
  free_eq := h.free_eq
  ev_eq := h.ev_eq
  den_eq := h.den_eq
  power_eq := h.power_eq
  tap_eq := h.tap_eq
  time_eq := h.time_eq
  acq_eq := h.acq_eq
  sett_eq := h.sett_eq
  whorl_eq := fun hb => absurd (hm.symm.trans hb) (by decide)
  fox_eq := h.fox_eq
  owl_eq := h.owl_eq
  cmd_eq := h.cmd_eq
  ports_eq := h.ports_eq
  mem_eq := h.mem_eq
  ply_eq := h.ply_eq
  hoard_eq := h.hoard_eq
  stock_eq := h.stock_eq
  update_eq := h.update_eq
  regs_wf := h.regs_wf
  mem_wf := h.mem_wf

theorem Frame.put_fox {m : Nat} {s0 t : Block} {x : _} (hm : m.testBit 12 = true) (h : Frame m s0 t) :
    Frame m s0 (t.withFox x) where
  regs_eq := h.regs_eq
  hiCap_eq := h.hiCap_eq
  localCount_eq := h.localCount_eq
  free_eq := h.free_eq
  ev_eq := h.ev_eq
  den_eq := h.den_eq
  power_eq := h.power_eq
  tap_eq := h.tap_eq
  time_eq := h.time_eq
  acq_eq := h.acq_eq
  sett_eq := h.sett_eq
  whorl_eq := h.whorl_eq
  fox_eq := fun hb => absurd (hm.symm.trans hb) (by decide)
  owl_eq := h.owl_eq
  cmd_eq := h.cmd_eq
  ports_eq := h.ports_eq
  mem_eq := h.mem_eq
  ply_eq := h.ply_eq
  hoard_eq := h.hoard_eq
  stock_eq := h.stock_eq
  update_eq := h.update_eq
  regs_wf := h.regs_wf
  mem_wf := h.mem_wf

theorem Frame.put_owl {m : Nat} {s0 t : Block} {x : _} (hm : m.testBit 13 = true) (h : Frame m s0 t) :
    Frame m s0 (t.withOwl x) where
  regs_eq := h.regs_eq
  hiCap_eq := h.hiCap_eq
  localCount_eq := h.localCount_eq
  free_eq := h.free_eq
  ev_eq := h.ev_eq
  den_eq := h.den_eq
  power_eq := h.power_eq
  tap_eq := h.tap_eq
  time_eq := h.time_eq
  acq_eq := h.acq_eq
  sett_eq := h.sett_eq
  whorl_eq := h.whorl_eq
  fox_eq := h.fox_eq
  owl_eq := fun hb => absurd (hm.symm.trans hb) (by decide)
  cmd_eq := h.cmd_eq
  ports_eq := h.ports_eq
  mem_eq := h.mem_eq
  ply_eq := h.ply_eq
  hoard_eq := h.hoard_eq
  stock_eq := h.stock_eq
  update_eq := h.update_eq
  regs_wf := h.regs_wf
  mem_wf := h.mem_wf

theorem Frame.put_cmd {m : Nat} {s0 t : Block} {x : _} (hm : m.testBit 14 = true) (h : Frame m s0 t) :
    Frame m s0 (t.withCmd x) where
  regs_eq := h.regs_eq
  hiCap_eq := h.hiCap_eq
  localCount_eq := h.localCount_eq
  free_eq := h.free_eq
  ev_eq := h.ev_eq
  den_eq := h.den_eq
  power_eq := h.power_eq
  tap_eq := h.tap_eq
  time_eq := h.time_eq
  acq_eq := h.acq_eq
  sett_eq := h.sett_eq
  whorl_eq := h.whorl_eq
  fox_eq := h.fox_eq
  owl_eq := h.owl_eq
  cmd_eq := fun hb => absurd (hm.symm.trans hb) (by decide)
  ports_eq := h.ports_eq
  mem_eq := h.mem_eq
  ply_eq := h.ply_eq
  hoard_eq := h.hoard_eq
  stock_eq := h.stock_eq
  update_eq := h.update_eq
  regs_wf := h.regs_wf
  mem_wf := h.mem_wf

theorem Frame.put_ports {m : Nat} {s0 t : Block} {x : _} (hm : m.testBit 15 = true) (h : Frame m s0 t) :
    Frame m s0 (t.withPorts x) where
  regs_eq := h.regs_eq
  hiCap_eq := h.hiCap_eq
  localCount_eq := h.localCount_eq
  free_eq := h.free_eq
  ev_eq := h.ev_eq
  den_eq := h.den_eq
  power_eq := h.power_eq
  tap_eq := h.tap_eq
  time_eq := h.time_eq
  acq_eq := h.acq_eq
  sett_eq := h.sett_eq
  whorl_eq := h.whorl_eq
  fox_eq := h.fox_eq
  owl_eq := h.owl_eq
  cmd_eq := h.cmd_eq
  ports_eq := fun hb => absurd (hm.symm.trans hb) (by decide)
  mem_eq := h.mem_eq
  ply_eq := h.ply_eq
  hoard_eq := h.hoard_eq
  stock_eq := h.stock_eq
  update_eq := h.update_eq
  regs_wf := h.regs_wf
  mem_wf := h.mem_wf

theorem Frame.put_mem {m : Nat} {s0 t : Block} {x : _} (hm : m.testBit 16 = true) (hx : Memory.wf t.mem = true → Memory.wf x = true) (h : Frame m s0 t) :
    Frame m s0 (t.withMem x) where
  regs_eq := h.regs_eq
  hiCap_eq := h.hiCap_eq
  localCount_eq := h.localCount_eq
  free_eq := h.free_eq
  ev_eq := h.ev_eq
  den_eq := h.den_eq
  power_eq := h.power_eq
  tap_eq := h.tap_eq
  time_eq := h.time_eq
  acq_eq := h.acq_eq
  sett_eq := h.sett_eq
  whorl_eq := h.whorl_eq
  fox_eq := h.fox_eq
  owl_eq := h.owl_eq
  cmd_eq := h.cmd_eq
  ports_eq := h.ports_eq
  mem_eq := fun hb => absurd (hm.symm.trans hb) (by decide)
  ply_eq := h.ply_eq
  hoard_eq := h.hoard_eq
  stock_eq := h.stock_eq
  update_eq := h.update_eq
  regs_wf := h.regs_wf
  mem_wf := fun w => hx (h.mem_wf w)

theorem Frame.put_ply {m : Nat} {s0 t : Block} {x : _} (hm : m.testBit 17 = true) (h : Frame m s0 t) :
    Frame m s0 (t.withPly x) where
  regs_eq := h.regs_eq
  hiCap_eq := h.hiCap_eq
  localCount_eq := h.localCount_eq
  free_eq := h.free_eq
  ev_eq := h.ev_eq
  den_eq := h.den_eq
  power_eq := h.power_eq
  tap_eq := h.tap_eq
  time_eq := h.time_eq
  acq_eq := h.acq_eq
  sett_eq := h.sett_eq
  whorl_eq := h.whorl_eq
  fox_eq := h.fox_eq
  owl_eq := h.owl_eq
  cmd_eq := h.cmd_eq
  ports_eq := h.ports_eq
  mem_eq := h.mem_eq
  ply_eq := fun hb => absurd (hm.symm.trans hb) (by decide)
  hoard_eq := h.hoard_eq
  stock_eq := h.stock_eq
  update_eq := h.update_eq
  regs_wf := h.regs_wf
  mem_wf := h.mem_wf

theorem Frame.put_hoard {m : Nat} {s0 t : Block} {x : _} (hm : m.testBit 18 = true) (h : Frame m s0 t) :
    Frame m s0 (t.withHoard x) where
  regs_eq := h.regs_eq
  hiCap_eq := h.hiCap_eq
  localCount_eq := h.localCount_eq
  free_eq := h.free_eq
  ev_eq := h.ev_eq
  den_eq := h.den_eq
  power_eq := h.power_eq
  tap_eq := h.tap_eq
  time_eq := h.time_eq
  acq_eq := h.acq_eq
  sett_eq := h.sett_eq
  whorl_eq := h.whorl_eq
  fox_eq := h.fox_eq
  owl_eq := h.owl_eq
  cmd_eq := h.cmd_eq
  ports_eq := h.ports_eq
  mem_eq := h.mem_eq
  ply_eq := h.ply_eq
  hoard_eq := fun hb => absurd (hm.symm.trans hb) (by decide)
  stock_eq := h.stock_eq
  update_eq := h.update_eq
  regs_wf := h.regs_wf
  mem_wf := h.mem_wf

theorem Frame.put_stock {m : Nat} {s0 t : Block} {x : _} (hm : m.testBit 19 = true) (h : Frame m s0 t) :
    Frame m s0 (t.withStock x) where
  regs_eq := h.regs_eq
  hiCap_eq := h.hiCap_eq
  localCount_eq := h.localCount_eq
  free_eq := h.free_eq
  ev_eq := h.ev_eq
  den_eq := h.den_eq
  power_eq := h.power_eq
  tap_eq := h.tap_eq
  time_eq := h.time_eq
  acq_eq := h.acq_eq
  sett_eq := h.sett_eq
  whorl_eq := h.whorl_eq
  fox_eq := h.fox_eq
  owl_eq := h.owl_eq
  cmd_eq := h.cmd_eq
  ports_eq := h.ports_eq
  mem_eq := h.mem_eq
  ply_eq := h.ply_eq
  hoard_eq := h.hoard_eq
  stock_eq := fun hb => absurd (hm.symm.trans hb) (by decide)
  update_eq := h.update_eq
  regs_wf := h.regs_wf
  mem_wf := h.mem_wf

theorem Frame.put_update {m : Nat} {s0 t : Block} {x : _} (hm : m.testBit 20 = true) (h : Frame m s0 t) :
    Frame m s0 (t.withUpdate x) where
  regs_eq := h.regs_eq
  hiCap_eq := h.hiCap_eq
  localCount_eq := h.localCount_eq
  free_eq := h.free_eq
  ev_eq := h.ev_eq
  den_eq := h.den_eq
  power_eq := h.power_eq
  tap_eq := h.tap_eq
  time_eq := h.time_eq
  acq_eq := h.acq_eq
  sett_eq := h.sett_eq
  whorl_eq := h.whorl_eq
  fox_eq := h.fox_eq
  owl_eq := h.owl_eq
  cmd_eq := h.cmd_eq
  ports_eq := h.ports_eq
  mem_eq := h.mem_eq
  ply_eq := h.ply_eq
  hoard_eq := h.hoard_eq
  stock_eq := h.stock_eq
  update_eq := fun hb => absurd (hm.symm.trans hb) (by decide)
  regs_wf := h.regs_wf
  mem_wf := h.mem_wf

/-- A mask of every part: the two canonical forms are all there is to show. -/
theorem Frame.all {s t : Block} (hr : Bank.wf regReset s.regs = true → Bank.wf regReset t.regs = true)
    (hm : Memory.wf s.mem = true → Memory.wf t.mem = true) : Frame 2097151 s t := by
  constructor
  case regs_wf => exact hr
  case mem_wf => exact hm
  all_goals exact fun h => absurd h (by decide)

theorem bit_of_sub {a m i : Nat} (h : subMask a m = true) (ha : a.testBit i = true) : m.testBit i = true := by
  rw [← subMask_iff.mp h, Nat.testBit_and, Bool.and_eq_true] at ha; exact ha.2

theorem Block.setReg_frame (s : Block) (a : Nat) (v : Word) : Frame 1 s (s.setReg a v) := by
  constructor
  case regs_wf => exact fun h => Bank.wf_set _ _ _ h
  case mem_wf => exact fun h => h
  all_goals first | exact fun _ => rfl | exact fun h => absurd h (by decide)

theorem Block.warmReset_frame (s : Block) (lo hi : Nat) (keep : Nat → Bool) : Frame 1 s (s.warmReset lo hi keep) := by
  constructor
  case regs_wf =>
    refine fun h => Bank.wfFrom_filterMap _ ?_ h
    rintro ⟨a, v⟩ q hq hv
    simp only at hq
    split at hq
    · split at hq
      · cases hq
      · cases hq; exact ⟨rfl, by assumption⟩
    · cases hq; exact ⟨rfl, hv⟩
  case mem_wf => exact fun h => h
  all_goals first | exact fun _ => rfl | exact fun h => absurd h (by decide)

theorem Block.setByte_frame (s : Block) (a : Nat) (b : Byte) : Frame 65536 s (s.setByte a b) := by
  constructor
  case regs_wf => unfold Block.setByte; split <;> exact fun h => h
  case mem_wf => exact fun h => Memory.wf_setByte a b h
  all_goals first
    | (unfold Block.setByte; split <;> exact fun _ => rfl)
    | exact fun h => absurd h (by decide)

theorem Bank.wf_filter {α : Type} [DecidableEq α] (d : Nat → α) {b : Bank α} (f : Nat × α → Bool)
    (h : Bank.wf d b = true) : Bank.wf d (b.filter f) = true := by
  rw [← List.filterMap_eq_filter]
  refine Bank.wfFrom_filterMap d ?_ h
  intro p q hq hp
  have : q = p := by
    unfold Option.guard at hq; split at hq
    · cases hq; rfl
    · cases hq
  subst this; exact ⟨rfl, hp⟩

theorem Frame.filter_regs {m : Nat} {s0 t : Block} {f : Nat × Word → Bool} (hm : m.testBit 0 = true) (h : Frame m s0 t) :
    Frame m s0 (t.withRegs (t.regs.filter f)) := Frame.put_regs hm (fun w => Bank.wf_filter _ _ w) h

end Sys2Proof.Machine
end

