-- ==== Sys2Proof/Laws/FrameOps.lean ====
section
/-! SUPPORT. What each function of Machine/Ops.lean may change. -/

namespace Sys2Proof.Machine

theorem Block.put_frame x0 x1 x2 : Frame 1 x0 (Block.put x0 x1 x2) := by
  unfold Block.put
  try extract_lets
  repeat' first
    | with_reducible assumption
    | with_reducible exact Frame.refl _ _
    | ((with_reducible apply Frame.via (Block.setReg_frame _ _ _)); · rfl)

theorem Block.setBit_frame x0 x1 x2 x3 : Frame 1 x0 (Block.setBit x0 x1 x2 x3) := by
  unfold Block.setBit
  try extract_lets
  repeat' first
    | with_reducible assumption
    | with_reducible exact Frame.refl _ _
    | with_reducible apply Frame.ite
    | ((with_reducible apply Frame.via (Block.setReg_frame _ _ _)); · rfl)
    | (split <;> try extract_lets)

theorem Block.setDomain_frame x0 x1 x2 : Frame 1 x0 (Block.setDomain x0 x1 x2) := by
  unfold Block.setDomain
  try extract_lets
  repeat' first
    | with_reducible assumption
    | with_reducible exact Frame.refl _ _
    | with_reducible apply Frame.ite
    | ((with_reducible apply Frame.via (Block.setBit_frame _ _ _ _)); · rfl)
    | (split <;> try extract_lets)

theorem Block.setHost_frame x0 x1 x2 : Frame 16384 x0 (Block.setHost x0 x1 x2) := by
  unfold Block.setHost
  try extract_lets
  repeat' first
    | with_reducible assumption
    | with_reducible exact Frame.refl _ _
    | (with_reducible intro _; try extract_lets)
    | ((with_reducible apply Frame.put_cmd); · rfl)

theorem Block.bump_frame x0 x1 x2 : Frame 1 x0 (Block.bump x0 x1 x2) := by
  unfold Block.bump
  try extract_lets
  repeat' first
    | with_reducible assumption
    | with_reducible exact Frame.refl _ _
    | ((with_reducible apply Frame.via (Block.put_frame _ _ _)); · rfl)

theorem Block.setOwlWin_frame x0 x1 x2 : Frame 8192 x0 (Block.setOwlWin x0 x1 x2) := by
  unfold Block.setOwlWin
  try extract_lets
  repeat' first
    | with_reducible assumption
    | with_reducible exact Frame.refl _ _
    | (with_reducible intro _; try extract_lets)
    | ((with_reducible apply Frame.put_owl); · rfl)

theorem Block.putB_frame x0 x1 x2 : Frame 1 x0 (Block.putB x0 x1 x2) := by
  unfold Block.putB
  try extract_lets
  repeat' first
    | with_reducible assumption
    | with_reducible exact Frame.refl _ _
    | with_reducible apply Frame.ite
    | ((with_reducible apply Frame.via (Block.put_frame _ _ _)); · rfl)
    | (split <;> try extract_lets)

theorem Block.writeFields_frame x0 x1 x2 : Frame 1 x0 (Block.writeFields x0 x1 x2) := by
  unfold Block.writeFields
  try extract_lets
  repeat' first
    | with_reducible assumption
    | with_reducible exact Frame.refl _ _
    | ((with_reducible apply Frame.via (Block.setReg_frame _ _ _)); · rfl)
    | with_reducible exact Frame.snd (by assumption)
    | with_reducible refine Frame.pair2 (by assumption) ?_
    | with_reducible refine Frame.pair3 (by assumption) ?_
    | with_reducible refine Frame.pair4 (by assumption) ?_
    | (split <;> try extract_lets)
    | (dsimp +zetaDelta only; split <;> try extract_lets)

theorem Block.suspend_frame x0 x1 x2 : Frame 8193 x0 (Block.suspend x0 x1 x2) := by
  unfold Block.suspend
  try extract_lets
  repeat' first
    | with_reducible assumption
    | with_reducible exact Frame.refl _ _
    | ((with_reducible apply Frame.via (Block.setBit_frame _ _ _ _)); · rfl)
    | ((with_reducible apply Frame.via (Block.setOwlWin_frame _ _ _)); · rfl)

theorem Block.setPair_frame x0 x1 x2 x3 : Frame 1 x0 (Block.setPair x0 x1 x2 x3) := by
  unfold Block.setPair
  try extract_lets
  repeat' first
    | with_reducible assumption
    | with_reducible exact Frame.refl _ _
    | ((with_reducible apply Frame.via (Block.setReg_frame _ _ _)); · rfl)

theorem Block.drawN_frame x0 x1 : Frame 8 x0 (Block.drawN x0 x1).2 := by
  unfold Block.drawN
  try extract_lets
  repeat' first
    | with_reducible assumption
    | with_reducible exact Frame.refl _ _
    | ((with_reducible apply Frame.put_free); · rfl)
    | dsimp only

theorem Block.draw_frame x0 : Frame 8 x0 (Block.draw x0).2 := by
  unfold Block.draw
  try extract_lets
  repeat' first
    | with_reducible assumption
    | with_reducible exact Frame.refl _ _
    | ((with_reducible apply Frame.put_free); · rfl)
    | dsimp only

end Sys2Proof.Machine
end

