-- ==== Sys2Proof/Laws/FrameEvents.lean ====
section
/-! SUPPORT. What each function of Machine/Events.lean may change. -/

namespace Sys2Proof.Machine

theorem Block.setEngine_frame x0 x1 x2 : Frame 4096 x0 (Block.setEngine x0 x1 x2) := by
  unfold Block.setEngine
  try extract_lets
  repeat' first
    | with_reducible assumption
    | with_reducible exact Frame.refl _ _
    | (with_reducible intro _; try extract_lets)
    | ((with_reducible apply Frame.put_fox); · rfl)

theorem Block.pulseIf_frame x0 x1 x2 : Frame 16 x0 (Block.pulseIf x0 x1 x2) := by
  unfold Block.pulseIf
  try extract_lets
  repeat' first
    | with_reducible assumption
    | with_reducible exact Frame.refl _ _
    | (with_reducible intro _; try extract_lets)
    | with_reducible apply Frame.ite
    | ((with_reducible apply Frame.put_ev); · rfl)
    | (split <;> try extract_lets)

theorem followUps_frame x0 x1 : Frame 1 x1 (followUps x0 x1).2 := by
  unfold followUps
  try extract_lets
  repeat' first
    | with_reducible assumption
    | with_reducible exact Frame.refl _ _
    | (with_reducible intro _; try extract_lets)
    | with_reducible apply Frame.ite
    | with_reducible apply Frame.when
    | ((with_reducible apply Frame.via (Block.put_frame _ _ _)); · rfl)
    | (split <;> try extract_lets)
    | dsimp only

theorem Block.raiseFox_frame x0 x1 : Frame 4096 x0 (Block.raiseFox x0 x1) := by
  unfold Block.raiseFox
  try extract_lets
  repeat' first
    | with_reducible assumption
    | with_reducible exact Frame.refl _ _
    | (with_reducible intro _; try extract_lets)
    | with_reducible apply Frame.each
    | ((with_reducible apply Frame.via (Block.setEngine_frame _ _ _)); · rfl)

theorem Block.setPending_frame x0 x1 x2 : Frame 17 x0 (Block.setPending x0 x1 x2) := by
  unfold Block.setPending
  try extract_lets
  repeat' first
    | with_reducible assumption
    | with_reducible exact Frame.refl _ _
    | with_reducible apply Frame.ite
    | ((with_reducible apply Frame.via (Block.setBit_frame _ _ _ _)); · rfl)
    | ((with_reducible apply Frame.put_ev); · rfl)
    | (split <;> try extract_lets)

theorem Block.countSingle_frame x0 x1 : Frame 16 x0 (Block.countSingle x0 x1) := by
  unfold Block.countSingle
  try extract_lets
  repeat' first
    | with_reducible assumption
    | with_reducible exact Frame.refl _ _
    | (with_reducible intro _; try extract_lets)
    | with_reducible apply Frame.ite
    | ((with_reducible apply Frame.put_ev); · rfl)
    | (split <;> try extract_lets)

theorem Block.raiseAttn_frame x0 x1 x2 : Frame 17 x0 (Block.raiseAttn x0 x1 x2) := by
  unfold Block.raiseAttn
  try extract_lets
  repeat' first
    | with_reducible assumption
    | with_reducible exact Frame.refl _ _
    | with_reducible apply Frame.ite
    | ((with_reducible apply Frame.via (Block.setPending_frame _ _ _)); · rfl)
    | ((with_reducible apply Frame.via (Block.countSingle_frame _ _)); · rfl)
    | ((with_reducible apply Frame.via (Block.pulseIf_frame _ _ _)); · rfl)
    | ((with_reducible apply Frame.via (Block.bump_frame _ _ _)); · rfl)
    | with_reducible exact Frame.snd (by assumption)
    | with_reducible refine Frame.pair2 (by assumption) ?_
    | with_reducible refine Frame.pair3 (by assumption) ?_
    | with_reducible refine Frame.pair4 (by assumption) ?_
    | (split <;> try extract_lets)
    | (dsimp +zetaDelta only; split <;> try extract_lets)

theorem Block.markDrop_frame x0 x1 : Frame 131073 x0 (Block.markDrop x0 x1) := by
  unfold Block.markDrop
  try extract_lets
  repeat' first
    | with_reducible assumption
    | with_reducible exact Frame.refl _ _
    | ((with_reducible apply Frame.via (Block.put_frame _ _ _)); · rfl)
    | ((with_reducible apply Frame.put_ply); · rfl)

theorem Block.offerEvt_frame x0 x1 : Frame 131073 x0 (Block.offerEvt x0 x1) := by
  unfold Block.offerEvt
  try extract_lets
  repeat' first
    | with_reducible assumption
    | with_reducible exact Frame.refl _ _
    | with_reducible apply Frame.ite
    | ((with_reducible apply Frame.via (Block.markDrop_frame _ _)); · rfl)
    | ((with_reducible apply Frame.via (Block.bump_frame _ _ _)); · rfl)
    | ((with_reducible apply Frame.put_ply); · rfl)
    | (split <;> try extract_lets)

theorem Block.countPly_frame x0 x1 : Frame 17 x0 (Block.countPly x0 x1) := by
  unfold Block.countPly
  try extract_lets
  repeat' first
    | with_reducible assumption
    | with_reducible exact Frame.refl _ _
    | (with_reducible intro _; try extract_lets)
    | with_reducible apply Frame.ite
    | ((with_reducible apply Frame.via (Block.put_frame _ _ _)); · rfl)
    | ((with_reducible apply Frame.via (Block.bump_frame _ _ _)); · rfl)
    | ((with_reducible apply Frame.put_ev); · rfl)
    | (split <;> try extract_lets)

theorem Block.raisePly_frame x0 x1 : Frame 131089 x0 (Block.raisePly x0 x1) := by
  unfold Block.raisePly
  try extract_lets
  repeat' first
    | with_reducible assumption
    | with_reducible exact Frame.refl _ _
    | with_reducible apply Frame.ite
    | ((with_reducible apply Frame.via (Block.offerEvt_frame _ _)); · rfl)
    | ((with_reducible apply Frame.via (Block.countSingle_frame _ _)); · rfl)
    | ((with_reducible apply Frame.via (Block.countPly_frame _ _)); · rfl)
    | (split <;> try extract_lets)

theorem Block.showTrail_frame x0 : Frame 1 x0 (Block.showTrail x0) := by
  unfold Block.showTrail
  try extract_lets
  repeat' first
    | with_reducible assumption
    | with_reducible exact Frame.refl _ _
    | ((with_reducible apply Frame.via (Block.put_frame _ _ _)); · rfl)

theorem Block.stage_frame x0 x1 : Frame 17 x0 (Block.stage x0 x1) := by
  unfold Block.stage
  try extract_lets
  repeat' first
    | with_reducible assumption
    | with_reducible exact Frame.refl _ _
    | ((with_reducible apply Frame.via (Block.showTrail_frame _)); · rfl)
    | ((with_reducible apply Frame.put_ev); · rfl)

theorem Block.addLost_frame x0 x1 : Frame 1 x0 (Block.addLost x0 x1) := by
  unfold Block.addLost
  try extract_lets
  repeat' first
    | with_reducible assumption
    | with_reducible exact Frame.refl _ _
    | ((with_reducible apply Frame.via (Block.setReg_frame _ _ _)); · rfl)

theorem Block.countTrail_frame x0 x1 : Frame 17 x0 (Block.countTrail x0 x1) := by
  unfold Block.countTrail
  try extract_lets
  repeat' first
    | with_reducible assumption
    | with_reducible exact Frame.refl _ _
    | (with_reducible intro _; try extract_lets)
    | with_reducible apply Frame.ite
    | ((with_reducible apply Frame.via (Block.put_frame _ _ _)); · rfl)
    | ((with_reducible apply Frame.via (Block.addLost_frame _ _)); · rfl)
    | ((with_reducible apply Frame.put_ev); · rfl)
    | (split <;> try extract_lets)

theorem Block.raiseTrail_frame x0 x1 : Frame 17 x0 (Block.raiseTrail x0 x1) := by
  unfold Block.raiseTrail
  try extract_lets
  repeat' first
    | with_reducible assumption
    | with_reducible exact Frame.refl _ _
    | with_reducible apply Frame.ite
    | ((with_reducible apply Frame.via (Block.stage_frame _ _)); · rfl)
    | ((with_reducible apply Frame.via (Block.countSingle_frame _ _)); · rfl)
    | ((with_reducible apply Frame.via (Block.countTrail_frame _ _)); · rfl)
    | ((with_reducible apply Frame.put_ev); · rfl)
    | (split <;> try extract_lets)

theorem Block.deliver_frame x0 x1 : Frame 135185 x0 (Block.deliver x0 x1) := by
  unfold Block.deliver
  try extract_lets
  repeat' first
    | with_reducible assumption
    | with_reducible exact Frame.refl _ _
    | ((with_reducible apply Frame.via (Block.raiseFox_frame _ _)); · rfl)
    | ((with_reducible apply Frame.via (Block.raiseAttn_frame _ _ _)); · rfl)
    | ((with_reducible apply Frame.via (Block.raisePly_frame _ _)); · rfl)
    | ((with_reducible apply Frame.via (Block.raiseTrail_frame _ _)); · rfl)

theorem Block.deliverAll_frame x0 x1 x2 : Frame 135185 x2 (Block.deliverAll x0 x1 x2) := by
  induction x0 generalizing x1 x2 with
  | zero => exact Frame.refl _ _
  | succ n ih =>
    cases x1 with
    | nil => exact Frame.refl _ _
    | cons r rs =>
      exact Frame.via (ih _ _) rfl (Frame.via (followUps_frame _ _) rfl (Frame.via (Block.deliver_frame _ _) rfl (Frame.refl _ _)))

theorem Block.raiseWith_frame x0 x1 x2 x3 : Frame 135185 x0 (Block.raiseWith x0 x1 x2 x3) := by
  unfold Block.raiseWith
  try extract_lets
  repeat' first
    | with_reducible assumption
    | with_reducible exact Frame.refl _ _
    | with_reducible apply Frame.ite
    | ((with_reducible apply Frame.via (Block.deliverAll_frame _ _ _)); · rfl)
    | (split <;> try extract_lets)

theorem Block.raise_frame x0 x1 x2 : Frame 135185 x0 (Block.raise x0 x1 x2) := by
  unfold Block.raise
  try extract_lets
  repeat' first
    | with_reducible assumption
    | with_reducible exact Frame.refl _ _
    | ((with_reducible apply Frame.via (Block.raiseWith_frame _ _ _ _)); · rfl)

theorem Block.writeEvClass_frame x0 x1 x2 : Frame 17 x0 (Block.writeEvClass x0 x1 x2) := by
  unfold Block.writeEvClass
  try extract_lets
  repeat' first
    | with_reducible assumption
    | with_reducible exact Frame.refl _ _
    | (with_reducible intro _; try extract_lets)
    | with_reducible apply Frame.ite
    | with_reducible apply Frame.foldl
    | with_reducible apply Frame.foldlFst
    | with_reducible apply Frame.foldlSnd
    | ((with_reducible apply Frame.via (Block.writeFields_frame _ _ _)); · rfl)
    | ((with_reducible apply Frame.put_ev); · rfl)
    | (split <;> try extract_lets)
    | dsimp only

end Sys2Proof.Machine
end

