-- ==== Sys2Proof/Laws/FrameTrunk.lean ====
section
/-! SUPPORT. What each function of Machine/Trunk.lean may change. -/

namespace Sys2Proof.Machine

theorem Block.setHub_frame x0 x1 x2 : Frame 1024 x0 (Block.setHub x0 x1 x2) := by
  unfold Block.setHub
  try extract_lets
  repeat' first
    | with_reducible assumption
    | with_reducible exact Frame.refl _ _
    | (with_reducible intro _; try extract_lets)
    | ((with_reducible apply Frame.put_sett); · rfl)

theorem Block.setStep_frame x0 x1 x2 : Frame 1024 x0 (Block.setStep x0 x1 x2) := by
  unfold Block.setStep
  try extract_lets
  repeat' first
    | with_reducible assumption
    | with_reducible exact Frame.refl _ _
    | (with_reducible intro _; try extract_lets)
    | ((with_reducible apply Frame.put_sett); · rfl)

theorem Block.setTag_frame x0 x1 x2 x3 : Frame 1024 x0 (Block.setTag x0 x1 x2 x3) := by
  unfold Block.setTag
  try extract_lets
  repeat' first
    | with_reducible assumption
    | with_reducible exact Frame.refl _ _
    | (with_reducible intro _; try extract_lets)
    | ((with_reducible apply Frame.put_sett); · rfl)

theorem Block.setRestoreProg_frame x0 x1 x2 : Frame 2048 x0 (Block.setRestoreProg x0 x1 x2) := by
  unfold Block.setRestoreProg
  try extract_lets
  repeat' first
    | with_reducible assumption
    | with_reducible exact Frame.refl _ _
    | (with_reducible intro _; try extract_lets)
    | ((with_reducible apply Frame.put_whorl); · rfl)

theorem Block.endBurst_frame x0 x1 x2 : Frame 2049 x0 (Block.endBurst x0 x1 x2) := by
  unfold Block.endBurst
  try extract_lets
  repeat' first
    | with_reducible assumption
    | with_reducible exact Frame.refl _ _
    | with_reducible apply Frame.ite
    | ((with_reducible apply Frame.via (Block.setRestoreProg_frame _ _ _)); · rfl)
    | ((with_reducible apply Frame.via (Block.put_frame _ _ _)); · rfl)
    | (split <;> try extract_lets)

theorem Block.setQueue_frame x0 x1 x2 x3 : Frame 1024 x0 (Block.setQueue x0 x1 x2 x3) := by
  unfold Block.setQueue
  try extract_lets
  repeat' first
    | with_reducible assumption
    | with_reducible exact Frame.refl _ _
    | (with_reducible intro _; try extract_lets)
    | ((with_reducible apply Frame.put_sett); · rfl)

theorem Block.dropQueues_frame x0 x1 : Frame 3073 x0 (Block.dropQueues x0 x1) := by
  unfold Block.dropQueues
  try extract_lets
  repeat' first
    | with_reducible assumption
    | with_reducible exact Frame.refl _ _
    | (with_reducible intro _; try extract_lets)
    | with_reducible apply Frame.ite
    | with_reducible apply Frame.each
    | ((with_reducible apply Frame.via (Block.endBurst_frame _ _ _)); · rfl)
    | ((with_reducible apply Frame.via (Block.bump_frame _ _ _)); · rfl)
    | ((with_reducible apply Frame.via (Block.setQueue_frame _ _ _ _)); · rfl)
    | (split <;> try extract_lets)

theorem Block.setTrunk_frame x0 x1 x2 : Frame 1024 x0 (Block.setTrunk x0 x1 x2) := by
  unfold Block.setTrunk
  try extract_lets
  repeat' first
    | with_reducible assumption
    | with_reducible exact Frame.refl _ _
    | (with_reducible intro _; try extract_lets)
    | ((with_reducible apply Frame.put_sett); · rfl)

theorem Block.setHubRec_frame x0 x1 x2 : Frame 1024 x0 (Block.setHubRec x0 x1 x2) := by
  unfold Block.setHubRec
  try extract_lets
  repeat' first
    | with_reducible assumption
    | with_reducible exact Frame.refl _ _
    | (with_reducible intro _; try extract_lets)
    | ((with_reducible apply Frame.put_sett); · rfl)

theorem Block.setShadow_frame x0 x1 x2 : Frame 1024 x0 (Block.setShadow x0 x1 x2) := by
  unfold Block.setShadow
  try extract_lets
  repeat' first
    | with_reducible assumption
    | with_reducible exact Frame.refl _ _
    | ((with_reducible apply Frame.put_sett); · rfl)

theorem Block.setActive_frame x0 x1 x2 : Frame 1024 x0 (Block.setActive x0 x1 x2) := by
  unfold Block.setActive
  try extract_lets
  repeat' first
    | with_reducible assumption
    | with_reducible exact Frame.refl _ _
    | ((with_reducible apply Frame.put_sett); · rfl)

theorem Block.pushTxn_frame x0 x1 : Frame 1025 x0 (Block.pushTxn x0 x1) := by
  unfold Block.pushTxn
  try extract_lets
  repeat' first
    | with_reducible assumption
    | with_reducible exact Frame.refl _ _
    | with_reducible apply Frame.ite
    | ((with_reducible apply Frame.via (Block.setQueue_frame _ _ _ _)); · rfl)
    | ((with_reducible apply Frame.via (Block.setReg_frame _ _ _)); · rfl)
    | (split <;> try extract_lets)

theorem Block.send_frame x0 x1 x2 x3 : Frame 1024 x0 (Block.send x0 x1 x2 x3) := by
  unfold Block.send
  try extract_lets
  repeat' first
    | with_reducible assumption
    | with_reducible exact Frame.refl _ _
    | with_reducible apply Frame.ite
    | ((with_reducible apply Frame.via (Block.setTrunk_frame _ _ _)); · rfl)
    | (split <;> try extract_lets)

end Sys2Proof.Machine
end

