-- ==== Sys2Proof/Laws/FrameFront.lean ====
section
/-! SUPPORT. What each function of Machine/Front.lean may change. -/

namespace Sys2Proof.Machine

theorem Block.setSp_frame x0 x1 x2 : Frame 512 x0 (Block.setSp x0 x1 x2) := by
  unfold Block.setSp
  try extract_lets
  repeat' first
    | with_reducible assumption
    | with_reducible exact Frame.refl _ _
    | (with_reducible intro _; try extract_lets)
    | ((with_reducible apply Frame.put_acq); · rfl)

theorem Block.setAct_frame x0 x1 x2 : Frame 512 x0 (Block.setAct x0 x1 x2) := by
  unfold Block.setAct
  try extract_lets
  repeat' first
    | with_reducible assumption
    | with_reducible exact Frame.refl _ _
    | ((with_reducible apply Frame.via (Block.setSp_frame _ _ _)); · rfl)

theorem Block.beginSampling_frame x0 x1 x2 x3 : Frame 512 x0 (Block.beginSampling x0 x1 x2 x3) := by
  unfold Block.beginSampling
  try extract_lets
  repeat' first
    | with_reducible assumption
    | with_reducible exact Frame.refl _ _
    | with_reducible apply Frame.ite
    | ((with_reducible apply Frame.via (Block.setAct_frame _ _ _)); · rfl)
    | (split <;> try extract_lets)

theorem Block.refBegins_frame x0 x1 : Frame 512 x0 (Block.refBegins x0 x1) := by
  unfold Block.refBegins
  try extract_lets
  repeat' first
    | with_reducible assumption
    | with_reducible exact Frame.refl _ _
    | (with_reducible intro _; try extract_lets)
    | ((with_reducible apply Frame.put_acq); · rfl)

theorem Block.owlNoRef_frame x0 : Frame 8193 x0 (Block.owlNoRef x0) := by
  unfold Block.owlNoRef
  try extract_lets
  repeat' first
    | with_reducible assumption
    | with_reducible exact Frame.refl _ _
    | (with_reducible intro _; try extract_lets)
    | with_reducible apply Frame.ite
    | with_reducible apply Frame.each
    | ((with_reducible apply Frame.via (Block.suspend_frame _ _ _)); · rfl)
    | (split <;> try extract_lets)

theorem Block.updateRef_frame x0 x1 : Frame 513 x0 (Block.updateRef x0 x1) := by
  unfold Block.updateRef
  try extract_lets
  repeat' first
    | with_reducible assumption
    | with_reducible exact Frame.refl _ _
    | (with_reducible intro _; try extract_lets)
    | with_reducible apply Frame.ite
    | with_reducible apply Frame.each
    | ((with_reducible apply Frame.via (Block.putB_frame _ _ _)); · rfl)
    | ((with_reducible apply Frame.via (Block.beginSampling_frame _ _ _ _)); · rfl)
    | ((with_reducible apply Frame.via (Block.setAct_frame _ _ _)); · rfl)
    | ((with_reducible apply Frame.put_acq); · rfl)
    | with_reducible exact Frame.snd (by assumption)
    | with_reducible refine Frame.pair2 (by assumption) ?_
    | with_reducible refine Frame.pair3 (by assumption) ?_
    | with_reducible refine Frame.pair4 (by assumption) ?_
    | (split <;> try extract_lets)
    | (dsimp +zetaDelta only; split <;> try extract_lets)

theorem Block.markSwitch_frame x0 x1 : Frame 513 x0 (Block.markSwitch x0 x1) := by
  unfold Block.markSwitch
  try extract_lets
  repeat' first
    | with_reducible assumption
    | with_reducible exact Frame.refl _ _
    | (with_reducible intro _; try extract_lets)
    | ((with_reducible apply Frame.via (Block.put_frame _ _ _)); · rfl)
    | ((with_reducible apply Frame.put_acq); · rfl)

theorem Block.switchRef_frame x0 x1 x2 : Frame 513 x0 (Block.switchRef x0 x1 x2) := by
  unfold Block.switchRef
  try extract_lets
  repeat' first
    | with_reducible assumption
    | with_reducible exact Frame.refl _ _
    | ((with_reducible apply Frame.via (Block.updateRef_frame _ _)); · rfl)
    | ((with_reducible apply Frame.via (Block.markSwitch_frame _ _)); · rfl)
    | ((with_reducible apply Frame.via (Block.put_frame _ _ _)); · rfl)

theorem Block.refFall_frame x0 x1 x2 : Frame 8705 x0 (Block.refFall x0 x1 x2) := by
  unfold Block.refFall
  try extract_lets
  repeat' first
    | with_reducible assumption
    | with_reducible exact Frame.refl _ _
    | (with_reducible intro _; try extract_lets)
    | with_reducible apply Frame.ite
    | with_reducible apply Frame.each
    | with_reducible apply Frame.when
    | ((with_reducible apply Frame.via (Block.owlNoRef_frame _)); · rfl)
    | ((with_reducible apply Frame.via (Block.refBegins_frame _ _)); · rfl)
    | ((with_reducible apply Frame.via (Block.setBit_frame _ _ _ _)); · rfl)
    | ((with_reducible apply Frame.via (Block.put_frame _ _ _)); · rfl)
    | ((with_reducible apply Frame.via (Block.bump_frame _ _ _)); · rfl)
    | ((with_reducible apply Frame.via (Block.switchRef_frame _ _ _)); · rfl)
    | ((with_reducible apply Frame.via (Block.updateRef_frame _ _)); · rfl)
    | (split <;> try extract_lets)

theorem Block.leaveLine_frame x0 x1 : Frame 1 x0 (Block.leaveLine x0 x1) := by
  unfold Block.leaveLine
  try extract_lets
  repeat' first
    | with_reducible assumption
    | with_reducible exact Frame.refl _ _
    | ((with_reducible apply Frame.via (Block.put_frame _ _ _)); · rfl)

theorem Block.dropLine_frame x0 x1 : Frame 513 x0 (Block.dropLine x0 x1) := by
  unfold Block.dropLine
  try extract_lets
  repeat' first
    | with_reducible assumption
    | with_reducible exact Frame.refl _ _
    | ((with_reducible apply Frame.via (Block.setAct_frame _ _ _)); · rfl)
    | ((with_reducible apply Frame.via (Block.leaveLine_frame _ _)); · rfl)
    | with_reducible exact Frame.snd (by assumption)
    | with_reducible refine Frame.pair2 (by assumption) ?_
    | with_reducible refine Frame.pair3 (by assumption) ?_
    | with_reducible refine Frame.pair4 (by assumption) ?_
    | (split <;> try extract_lets)
    | (dsimp +zetaDelta only; split <;> try extract_lets)

theorem Block.owlBlank_frame x0 x1 : Frame 8193 x0 (Block.owlBlank x0 x1) := by
  unfold Block.owlBlank
  try extract_lets
  repeat' first
    | with_reducible assumption
    | with_reducible exact Frame.refl _ _
    | (with_reducible intro _; try extract_lets)
    | with_reducible apply Frame.each
    | ((with_reducible apply Frame.via (Block.suspend_frame _ _ _)); · rfl)

theorem Block.settleFrom_frame x0 x1 x2 : Frame 512 x0 (Block.settleFrom x0 x1 x2) := by
  unfold Block.settleFrom
  try extract_lets
  repeat' first
    | with_reducible assumption
    | with_reducible exact Frame.refl _ _
    | (with_reducible intro _; try extract_lets)
    | with_reducible apply Frame.ite
    | with_reducible apply Frame.each
    | ((with_reducible apply Frame.via (Block.setAct_frame _ _ _)); · rfl)
    | with_reducible exact Frame.snd (by assumption)
    | with_reducible refine Frame.pair2 (by assumption) ?_
    | with_reducible refine Frame.pair3 (by assumption) ?_
    | with_reducible refine Frame.pair4 (by assumption) ?_
    | (split <;> try extract_lets)
    | (dsimp +zetaDelta only; split <;> try extract_lets)

theorem Block.endCheck_frame x0 x1 : Frame 8705 x0 (Block.endCheck x0 x1) := by
  unfold Block.endCheck
  try extract_lets
  repeat' first
    | with_reducible assumption
    | with_reducible exact Frame.refl _ _
    | ((with_reducible apply Frame.via (Block.owlBlank_frame _ _)); · rfl)
    | ((with_reducible apply Frame.via (Block.settleFrom_frame _ _ _)); · rfl)

theorem doRefSwitchSettled_frame x0 x1 : Frame 513 x1 (doRefSwitchSettled x0 x1) := by
  unfold doRefSwitchSettled
  try extract_lets
  repeat' first
    | with_reducible assumption
    | with_reducible exact Frame.refl _ _
    | (with_reducible intro _; try extract_lets)
    | with_reducible apply Frame.ite
    | ((with_reducible apply Frame.via (Block.put_frame _ _ _)); · rfl)
    | ((with_reducible apply Frame.via (Block.updateRef_frame _ _)); · rfl)
    | ((with_reducible apply Frame.put_acq); · rfl)
    | (split <;> try extract_lets)

theorem Block.writeRefCtl_frame x0 x1 : Frame 8705 x0 (Block.writeRefCtl x0 x1) := by
  unfold Block.writeRefCtl
  try extract_lets
  repeat' first
    | with_reducible assumption
    | with_reducible exact Frame.refl _ _
    | (with_reducible intro _; try extract_lets)
    | with_reducible apply Frame.ite
    | with_reducible apply Frame.each
    | ((with_reducible apply Frame.via (Block.writeFields_frame _ _ _)); · rfl)
    | ((with_reducible apply Frame.via (Block.refFall_frame _ _ _)); · rfl)
    | ((with_reducible apply Frame.via (Block.refBegins_frame _ _)); · rfl)
    | (split <;> try extract_lets)

theorem Block.applyPin_frame x0 x1 : Frame 1 x0 (Block.applyPin x0 x1) := by
  unfold Block.applyPin
  try extract_lets
  repeat' first
    | with_reducible assumption
    | with_reducible exact Frame.refl _ _
    | with_reducible apply Frame.ite
    | ((with_reducible apply Frame.via (Block.put_frame _ _ _)); · rfl)
    | (split <;> try extract_lets)

theorem Block.writeXbPin_frame x0 x1 x2 : Frame 1 x0 (Block.writeXbPin x0 x1 x2) := by
  unfold Block.writeXbPin
  try extract_lets
  repeat' first
    | with_reducible assumption
    | with_reducible exact Frame.refl _ _
    | (with_reducible intro _; try extract_lets)
    | with_reducible apply Frame.ite
    | with_reducible apply Frame.when
    | ((with_reducible apply Frame.via (Block.put_frame _ _ _)); · rfl)
    | ((with_reducible apply Frame.via (Block.applyPin_frame _ _)); · rfl)
    | (split <;> try extract_lets)

theorem Block.writeRefSel_frame x0 x1 x2 : Frame 513 x0 (Block.writeRefSel x0 x1 x2) := by
  unfold Block.writeRefSel
  try extract_lets
  repeat' first
    | with_reducible assumption
    | with_reducible exact Frame.refl _ _
    | with_reducible apply Frame.ite
    | ((with_reducible apply Frame.via (Block.writeFields_frame _ _ _)); · rfl)
    | ((with_reducible apply Frame.via (Block.switchRef_frame _ _ _)); · rfl)
    | ((with_reducible apply Frame.via (Block.put_frame _ _ _)); · rfl)
    | (split <;> try extract_lets)

theorem Block.startSense_frame x0 x1 x2 : Frame 1025 x0 (Block.startSense x0 x1 x2).2 := by
  unfold Block.startSense
  try extract_lets
  repeat' first
    | with_reducible assumption
    | with_reducible exact Frame.refl _ _
    | with_reducible apply Frame.ite
    | ((with_reducible apply Frame.via (Block.pushTxn_frame _ _)); · rfl)
    | with_reducible exact Frame.snd (by assumption)
    | with_reducible refine Frame.pair2 (by assumption) ?_
    | with_reducible refine Frame.pair3 (by assumption) ?_
    | with_reducible refine Frame.pair4 (by assumption) ?_
    | (split <;> try extract_lets)
    | (dsimp +zetaDelta only; split <;> try extract_lets)
    | dsimp only

theorem Block.joinLine_frame x0 x1 x2 : Frame 1 x0 (Block.joinLine x0 x1 x2) := by
  unfold Block.joinLine
  try extract_lets
  repeat' first
    | with_reducible assumption
    | with_reducible exact Frame.refl _ _
    | ((with_reducible apply Frame.via (Block.bump_frame _ _ _)); · rfl)
    | ((with_reducible apply Frame.via (Block.put_frame _ _ _)); · rfl)

theorem Block.takePath_frame x0 x1 x2 : Frame 513 x0 (Block.takePath x0 x1 x2) := by
  unfold Block.takePath
  try extract_lets
  repeat' first
    | with_reducible assumption
    | with_reducible exact Frame.refl _ _
    | with_reducible apply Frame.ite
    | ((with_reducible apply Frame.via (Block.setAct_frame _ _ _)); · rfl)
    | ((with_reducible apply Frame.via (Block.joinLine_frame _ _ _)); · rfl)
    | ((with_reducible apply Frame.via (Block.put_frame _ _ _)); · rfl)
    | ((with_reducible apply Frame.via (Block.bump_frame _ _ _)); · rfl)
    | with_reducible exact Frame.snd (by assumption)
    | with_reducible refine Frame.pair2 (by assumption) ?_
    | with_reducible refine Frame.pair3 (by assumption) ?_
    | with_reducible refine Frame.pair4 (by assumption) ?_
    | (split <;> try extract_lets)
    | (dsimp +zetaDelta only; split <;> try extract_lets)

theorem Block.noteChain_frame x0 x1 x2 : Frame 135697 x0 (Block.noteChain x0 x1 x2) := by
  unfold Block.noteChain
  try extract_lets
  repeat' first
    | with_reducible assumption
    | with_reducible exact Frame.refl _ _
    | (with_reducible intro _; try extract_lets)
    | with_reducible apply Frame.ite
    | ((with_reducible apply Frame.via (Block.raise_frame _ _ _)); · rfl)
    | ((with_reducible apply Frame.put_acq); · rfl)
    | (split <;> try extract_lets)

theorem doXbLineRetry_frame x0 : Frame 513 x0 (doXbLineRetry x0) := by
  unfold doXbLineRetry
  try extract_lets
  repeat' first
    | with_reducible assumption
    | with_reducible exact Frame.refl _ _
    | (with_reducible intro _; try extract_lets)
    | with_reducible apply Frame.ite
    | with_reducible apply Frame.each
    | ((with_reducible apply Frame.via (Block.takePath_frame _ _ _)); · rfl)
    | with_reducible exact Frame.snd (by assumption)
    | with_reducible refine Frame.pair2 (by assumption) ?_
    | with_reducible refine Frame.pair3 (by assumption) ?_
    | with_reducible refine Frame.pair4 (by assumption) ?_
    | (split <;> try extract_lets)
    | (dsimp +zetaDelta only; split <;> try extract_lets)

theorem doClampConduct_frame x0 x1 : Frame 1 x1 (doClampConduct x0 x1) := by
  unfold doClampConduct
  try extract_lets
  repeat' first
    | with_reducible assumption
    | with_reducible exact Frame.refl _ _
    | ((with_reducible apply Frame.via (Block.put_frame _ _ _)); · rfl)
    | ((with_reducible apply Frame.via (Block.setBit_frame _ _ _ _)); · rfl)

theorem Block.updateRefs_frame x0 : Frame 513 x0 (Block.updateRefs x0) := by
  unfold Block.updateRefs
  try extract_lets
  repeat' first
    | with_reducible assumption
    | with_reducible exact Frame.refl _ _
    | (with_reducible intro _; try extract_lets)
    | with_reducible apply Frame.each
    | ((with_reducible apply Frame.via (Block.updateRef_frame _ _)); · rfl)

theorem doRefOkRise_frame x0 x1 : Frame 513 x1 (doRefOkRise x0 x1) := by
  unfold doRefOkRise
  try extract_lets
  repeat' first
    | with_reducible assumption
    | with_reducible exact Frame.refl _ _
    | (with_reducible intro _; try extract_lets)
    | with_reducible apply Frame.ite
    | ((with_reducible apply Frame.via (Block.updateRefs_frame _)); · rfl)
    | ((with_reducible apply Frame.via (Block.setBit_frame _ _ _ _)); · rfl)
    | (split <;> try extract_lets)

theorem Block.reportBall_frame x0 x1 x2 x3 : Frame 513 x0 (Block.reportBall x0 x1 x2 x3) := by
  unfold Block.reportBall
  try extract_lets
  repeat' first
    | with_reducible assumption
    | with_reducible exact Frame.refl _ _
    | (with_reducible intro _; try extract_lets)
    | with_reducible apply Frame.ite
    | ((with_reducible apply Frame.via (Block.setBit_frame _ _ _ _)); · rfl)
    | ((with_reducible apply Frame.put_acq); · rfl)
    | (split <;> try extract_lets)

theorem doOwPrecheckSample_frame x0 x1 x2 x3 : Frame 143897 x3 (doOwPrecheckSample x0 x1 x2 x3) := by
  unfold doOwPrecheckSample
  try extract_lets
  repeat' first
    | with_reducible assumption
    | with_reducible exact Frame.refl _ _
    | (with_reducible intro _; try extract_lets)
    | with_reducible apply Frame.ite
    | with_reducible apply Frame.each
    | ((with_reducible apply Frame.via (Block.draw_frame _)); · rfl)
    | ((with_reducible apply Frame.via (Block.reportBall_frame _ _ _ _)); · rfl)
    | ((with_reducible apply Frame.via (Block.setAct_frame _ _ _)); · rfl)
    | ((with_reducible apply Frame.via (Block.endCheck_frame _ _)); · rfl)
    | ((with_reducible apply Frame.via (Block.put_frame _ _ _)); · rfl)
    | ((with_reducible apply Frame.via (Block.raise_frame _ _ _)); · rfl)
    | with_reducible exact Frame.snd (by assumption)
    | with_reducible refine Frame.pair2 (by assumption) ?_
    | with_reducible refine Frame.pair3 (by assumption) ?_
    | with_reducible refine Frame.pair4 (by assumption) ?_
    | (split <;> try extract_lets)
    | (dsimp +zetaDelta only; split <;> try extract_lets)

theorem doInputOverrange_frame x0 x1 x2 : Frame 135697 x2 (doInputOverrange x0 x1 x2) := by
  unfold doInputOverrange
  try extract_lets
  repeat' first
    | with_reducible assumption
    | with_reducible exact Frame.refl _ _
    | (with_reducible intro _; try extract_lets)
    | with_reducible apply Frame.ite
    | ((with_reducible apply Frame.via (Block.setAct_frame _ _ _)); · rfl)
    | ((with_reducible apply Frame.via (Block.raise_frame _ _ _)); · rfl)
    | ((with_reducible apply Frame.put_acq); · rfl)
    | with_reducible exact Frame.snd (by assumption)
    | with_reducible refine Frame.pair2 (by assumption) ?_
    | with_reducible refine Frame.pair3 (by assumption) ?_
    | with_reducible refine Frame.pair4 (by assumption) ?_
    | (split <;> try extract_lets)
    | (dsimp +zetaDelta only; split <;> try extract_lets)

theorem doOwPrecheckStart_frame x0 x1 : Frame 512 x1 (doOwPrecheckStart x0 x1) := by
  unfold doOwPrecheckStart
  try extract_lets
  repeat' first
    | with_reducible assumption
    | with_reducible exact Frame.refl _ _
    | with_reducible apply Frame.ite
    | ((with_reducible apply Frame.via (Block.setAct_frame _ _ _)); · rfl)
    | with_reducible exact Frame.snd (by assumption)
    | with_reducible refine Frame.pair2 (by assumption) ?_
    | with_reducible refine Frame.pair3 (by assumption) ?_
    | with_reducible refine Frame.pair4 (by assumption) ?_
    | (split <;> try extract_lets)
    | (dsimp +zetaDelta only; split <;> try extract_lets)

theorem doRefSelWrite_frame x0 x1 x2 : Frame 513 x2 (doRefSelWrite x0 x1 x2) := by
  unfold doRefSelWrite
  try extract_lets
  repeat' first
    | with_reducible assumption
    | with_reducible exact Frame.refl _ _
    | with_reducible apply Frame.ite
    | ((with_reducible apply Frame.via (Block.writeRefSel_frame _ _ _)); · rfl)
    | (split <;> try extract_lets)

theorem doRefOkFall_frame x0 x1 : Frame 8705 x1 (doRefOkFall x0 x1) := by
  unfold doRefOkFall
  try extract_lets
  repeat' first
    | with_reducible assumption
    | with_reducible exact Frame.refl _ _
    | ((with_reducible apply Frame.via (Block.refFall_frame _ _ _)); · rfl)

theorem doXbPinApply_frame x0 x1 : Frame 1 x1 (doXbPinApply x0 x1) := by
  unfold doXbPinApply
  try extract_lets
  repeat' first
    | with_reducible assumption
    | with_reducible exact Frame.refl _ _
    | ((with_reducible apply Frame.via (Block.applyPin_frame _ _)); · rfl)

theorem doXbPinWrite_frame x0 x1 x2 : Frame 1 x2 (doXbPinWrite x0 x1 x2) := by
  unfold doXbPinWrite
  try extract_lets
  repeat' first
    | with_reducible assumption
    | with_reducible exact Frame.refl _ _
    | with_reducible apply Frame.ite
    | ((with_reducible apply Frame.via (Block.writeXbPin_frame _ _ _)); · rfl)
    | (split <;> try extract_lets)

theorem doRefCtlWrite_frame x0 x1 : Frame 8705 x1 (doRefCtlWrite x0 x1) := by
  unfold doRefCtlWrite
  try extract_lets
  repeat' first
    | with_reducible assumption
    | with_reducible exact Frame.refl _ _
    | with_reducible apply Frame.ite
    | ((with_reducible apply Frame.via (Block.writeRefCtl_frame _ _)); · rfl)
    | (split <;> try extract_lets)

theorem doSettleEnd_frame x0 x1 : Frame 512 x1 (doSettleEnd x0 x1) := by
  unfold doSettleEnd
  try extract_lets
  repeat' first
    | with_reducible assumption
    | with_reducible exact Frame.refl _ _
    | with_reducible apply Frame.ite
    | ((with_reducible apply Frame.via (Block.setAct_frame _ _ _)); · rfl)
    | with_reducible exact Frame.snd (by assumption)
    | with_reducible refine Frame.pair2 (by assumption) ?_
    | with_reducible refine Frame.pair3 (by assumption) ?_
    | with_reducible refine Frame.pair4 (by assumption) ?_
    | (split <;> try extract_lets)
    | (dsimp +zetaDelta only; split <;> try extract_lets)

end Sys2Proof.Machine
end

