-- ==== Sys2Proof/Laws/FrameMem.lean ====
section
/-! SUPPORT. What each function of Machine/Mem.lean may change. -/

namespace Sys2Proof.Machine

theorem Block.memWrite_frame x0 x1 x2 : Frame 65536 x0 (Block.memWrite x0 x1 x2) := by
  induction x2 generalizing x0 x1 with
  | nil =>
    unfold Block.memWrite
    try extract_lets
    repeat' first
      | with_reducible assumption
      | with_reducible exact Frame.refl _ _
      | ((with_reducible apply Frame.via (Block.setByte_frame _ _ _)); · rfl)
      | with_reducible exact Frame.snd (by assumption)
      | with_reducible refine Frame.pair2 (by assumption) ?_
      | with_reducible refine Frame.pair3 (by assumption) ?_
      | with_reducible refine Frame.pair4 (by assumption) ?_
      | (split <;> try extract_lets)
      | (dsimp +zetaDelta only; split <;> try extract_lets)
  | cons b t ih =>
    unfold Block.memWrite
    try extract_lets
    repeat' first
      | ((with_reducible apply Frame.via (ih _ _)); · rfl)
      | with_reducible assumption
      | with_reducible exact Frame.refl _ _
      | ((with_reducible apply Frame.via (Block.setByte_frame _ _ _)); · rfl)
      | with_reducible exact Frame.snd (by assumption)
      | with_reducible refine Frame.pair2 (by assumption) ?_
      | with_reducible refine Frame.pair3 (by assumption) ?_
      | with_reducible refine Frame.pair4 (by assumption) ?_
      | (split <;> try extract_lets)
      | (dsimp +zetaDelta only; split <;> try extract_lets)


theorem Block.readByte_frame x0 x1 : Frame 8 x0 (Block.readByte x0 x1).2.2 := by
  unfold Block.readByte
  try extract_lets
  repeat' first
    | with_reducible assumption
    | with_reducible exact Frame.refl _ _
    | ((with_reducible apply Frame.via (Block.draw_frame _)); · rfl)
    | with_reducible exact Frame.snd (by assumption)
    | with_reducible refine Frame.pair2 (by assumption) ?_
    | with_reducible refine Frame.pair3 (by assumption) ?_
    | with_reducible refine Frame.pair4 (by assumption) ?_
    | (split <;> try extract_lets)
    | (dsimp +zetaDelta only; split <;> try extract_lets)
    | dsimp only

theorem Block.countCe_frame x0 x1 : Frame 135185 x0 (Block.countCe x0 x1) := by
  unfold Block.countCe
  try extract_lets
  repeat' first
    | with_reducible assumption
    | with_reducible exact Frame.refl _ _
    | with_reducible apply Frame.ite
    | ((with_reducible apply Frame.via (Block.put_frame _ _ _)); · rfl)
    | ((with_reducible apply Frame.via (Block.bump_frame _ _ _)); · rfl)
    | ((with_reducible apply Frame.via (Block.raise_frame _ _ _)); · rfl)
    | (split <;> try extract_lets)

theorem Block.countUe_frame x0 x1 x2 x3 : Frame 135185 x0 (Block.countUe x0 x1 x2 x3) := by
  unfold Block.countUe
  try extract_lets
  repeat' first
    | with_reducible assumption
    | with_reducible exact Frame.refl _ _
    | with_reducible apply Frame.ite
    | ((with_reducible apply Frame.via (Block.put_frame _ _ _)); · rfl)
    | ((with_reducible apply Frame.via (Block.bump_frame _ _ _)); · rfl)
    | ((with_reducible apply Frame.via (Block.raise_frame _ _ _)); · rfl)
    | (split <;> try extract_lets)

theorem Block.memReadFrom_frame x0 x1 x2 x3 x4 : Frame 135193 x0 (Block.memReadFrom x0 x1 x2 x3 x4).2.2.2 := by
  induction x4 generalizing x0 x1 x2 x3 with
  | zero =>
    unfold Block.memReadFrom
    try extract_lets
    repeat' first
      | with_reducible assumption
      | with_reducible exact Frame.refl _ _
      | with_reducible apply Frame.ite
      | ((with_reducible apply Frame.via (Block.readByte_frame _ _)); · rfl)
      | ((with_reducible apply Frame.via (Block.countCe_frame _ _)); · rfl)
      | ((with_reducible apply Frame.via (Block.countUe_frame _ _ _ _)); · rfl)
      | with_reducible exact Frame.snd (by assumption)
      | with_reducible refine Frame.pair2 (by assumption) ?_
      | with_reducible refine Frame.pair3 (by assumption) ?_
      | with_reducible refine Frame.pair4 (by assumption) ?_
      | (split <;> try extract_lets)
      | (dsimp +zetaDelta only; split <;> try extract_lets)
      | dsimp only
  | succ n ih =>
    unfold Block.memReadFrom
    try extract_lets
    repeat' first
      | ((with_reducible apply Frame.via (ih _ _ _ _)); · rfl)
      | with_reducible assumption
      | with_reducible exact Frame.refl _ _
      | with_reducible apply Frame.ite
      | ((with_reducible apply Frame.via (Block.readByte_frame _ _)); · rfl)
      | ((with_reducible apply Frame.via (Block.countCe_frame _ _)); · rfl)
      | ((with_reducible apply Frame.via (Block.countUe_frame _ _ _ _)); · rfl)
      | with_reducible exact Frame.snd (by assumption)
      | with_reducible refine Frame.pair2 (by assumption) ?_
      | with_reducible refine Frame.pair3 (by assumption) ?_
      | with_reducible refine Frame.pair4 (by assumption) ?_
      | (split <;> try extract_lets)
      | (dsimp +zetaDelta only; split <;> try extract_lets)
      | dsimp only


theorem Block.memRead_frame x0 x1 x2 x3 : Frame 135193 x0 (Block.memRead x0 x1 x2 x3).2.2.2 := by
  unfold Block.memRead
  try extract_lets
  repeat' first
    | with_reducible assumption
    | with_reducible exact Frame.refl _ _
    | ((with_reducible apply Frame.via (Block.memReadFrom_frame _ _ _ _ _)); · rfl)
    | dsimp only

end Sys2Proof.Machine
end

