-- ==== Sys2Proof/Laws/FrameFifo.lean ====
section
/-! SUPPORT. What each function of Machine/Fifo.lean may change. -/

namespace Sys2Proof.Machine

theorem Block.plyDrop_frame x0 x1 x2 : Frame 135185 x0 (Block.plyDrop x0 x1 x2) := by
  unfold Block.plyDrop
  try extract_lets
  repeat' first
    | with_reducible assumption
    | with_reducible exact Frame.refl _ _
    | with_reducible apply Frame.ite
    | ((with_reducible apply Frame.via (Block.markDrop_frame _ _)); · rfl)
    | ((with_reducible apply Frame.via (Block.raise_frame _ _ _)); · rfl)
    | (split <;> try extract_lets)

theorem Block.writeFifoBase_frame x0 x1 x2 : Frame 1 x0 (Block.writeFifoBase x0 x1 x2) := by
  unfold Block.writeFifoBase
  try extract_lets
  repeat' first
    | with_reducible assumption
    | with_reducible exact Frame.refl _ _
    | with_reducible apply Frame.ite
    | ((with_reducible apply Frame.via (Block.writeFields_frame _ _ _)); · rfl)
    | (split <;> try extract_lets)

theorem Block.writeFifoCfg_frame x0 x1 x2 : Frame 1 x0 (Block.writeFifoCfg x0 x1 x2) := by
  unfold Block.writeFifoCfg
  try extract_lets
  repeat' first
    | with_reducible assumption
    | with_reducible exact Frame.refl _ _
    | with_reducible apply Frame.ite
    | ((with_reducible apply Frame.via (Block.put_frame _ _ _)); · rfl)
    | ((with_reducible apply Frame.via (Block.setReg_frame _ _ _)); · rfl)
    | (split <;> try extract_lets)

theorem Block.showLevel_frame x0 x1 : Frame 1 x0 (Block.showLevel x0 x1) := by
  unfold Block.showLevel
  try extract_lets
  repeat' first
    | with_reducible assumption
    | with_reducible exact Frame.refl _ _
    | with_reducible apply Frame.ite
    | ((with_reducible apply Frame.via (Block.put_frame _ _ _)); · rfl)
    | (split <;> try extract_lets)

theorem Block.writeFifoRp_frame x0 x1 x2 : Frame 1 x0 (Block.writeFifoRp x0 x1 x2) := by
  unfold Block.writeFifoRp
  try extract_lets
  repeat' first
    | with_reducible assumption
    | with_reducible exact Frame.refl _ _
    | with_reducible apply Frame.ite
    | ((with_reducible apply Frame.via (Block.showLevel_frame _ _)); · rfl)
    | ((with_reducible apply Frame.via (Block.put_frame _ _ _)); · rfl)
    | (split <;> try extract_lets)

theorem Block.checkWm_frame x0 x1 : Frame 135185 x0 (Block.checkWm x0 x1) := by
  unfold Block.checkWm
  try extract_lets
  repeat' first
    | with_reducible assumption
    | with_reducible exact Frame.refl _ _
    | with_reducible apply Frame.ite
    | ((with_reducible apply Frame.via (Block.setPair_frame _ _ _ _)); · rfl)
    | ((with_reducible apply Frame.via (Block.put_frame _ _ _)); · rfl)
    | ((with_reducible apply Frame.via (Block.raise_frame _ _ _)); · rfl)
    | (split <;> try extract_lets)

theorem Block.writeFifoWm_frame x0 x1 x2 : Frame 135185 x0 (Block.writeFifoWm x0 x1 x2) := by
  unfold Block.writeFifoWm
  try extract_lets
  repeat' first
    | with_reducible assumption
    | with_reducible exact Frame.refl _ _
    | ((with_reducible apply Frame.via (Block.checkWm_frame _ _)); · rfl)
    | ((with_reducible apply Frame.via (Block.writeFields_frame _ _ _)); · rfl)

theorem Block.writeFifoStat_frame x0 x1 x2 : Frame 135185 x0 (Block.writeFifoStat x0 x1 x2) := by
  unfold Block.writeFifoStat
  try extract_lets
  repeat' first
    | with_reducible assumption
    | with_reducible exact Frame.refl _ _
    | with_reducible apply Frame.ite
    | ((with_reducible apply Frame.via (Block.writeFields_frame _ _ _)); · rfl)
    | ((with_reducible apply Frame.via (Block.checkWm_frame _ _)); · rfl)
    | ((with_reducible apply Frame.via (Block.put_frame _ _ _)); · rfl)
    | (split <;> try extract_lets)

theorem doFifoNoticeClear_frame x0 x1 x2 : Frame 135185 x2 (doFifoNoticeClear x0 x1 x2) := by
  unfold doFifoNoticeClear
  try extract_lets
  repeat' first
    | with_reducible assumption
    | with_reducible exact Frame.refl _ _
    | with_reducible apply Frame.ite
    | ((with_reducible apply Frame.via (Block.writeFifoStat_frame _ _ _)); · rfl)
    | (split <;> try extract_lets)

theorem Block.overflow_frame x0 x1 : Frame 135185 x0 (Block.overflow x0 x1) := by
  unfold Block.overflow
  try extract_lets
  repeat' first
    | with_reducible assumption
    | with_reducible exact Frame.refl _ _
    | with_reducible apply Frame.ite
    | ((with_reducible apply Frame.via (Block.bump_frame _ _ _)); · rfl)
    | ((with_reducible apply Frame.via (Block.setPair_frame _ _ _ _)); · rfl)
    | ((with_reducible apply Frame.via (Block.put_frame _ _ _)); · rfl)
    | ((with_reducible apply Frame.via (Block.raise_frame _ _ _)); · rfl)
    | (split <;> try extract_lets)

theorem Block.storeRec_frame x0 x1 x2 : Frame 200721 x0 (Block.storeRec x0 x1 x2) := by
  unfold Block.storeRec
  try extract_lets
  repeat' first
    | with_reducible assumption
    | with_reducible exact Frame.refl _ _
    | ((with_reducible apply Frame.via (Block.memWrite_frame _ _ _)); · rfl)
    | ((with_reducible apply Frame.via (Block.checkWm_frame _ _)); · rfl)
    | ((with_reducible apply Frame.via (Block.showLevel_frame _ _)); · rfl)
    | ((with_reducible apply Frame.via (Block.put_frame _ _ _)); · rfl)

theorem Block.pushFifo_frame x0 x1 x2 : Frame 200721 x0 (Block.pushFifo x0 x1 x2) := by
  unfold Block.pushFifo
  try extract_lets
  repeat' first
    | with_reducible assumption
    | with_reducible exact Frame.refl _ _
    | with_reducible apply Frame.ite
    | ((with_reducible apply Frame.via (Block.overflow_frame _ _)); · rfl)
    | ((with_reducible apply Frame.via (Block.storeRec_frame _ _ _)); · rfl)
    | ((with_reducible apply Frame.via (Block.put_frame _ _ _)); · rfl)
    | (split <;> try extract_lets)

theorem Block.offerRes_frame x0 x1 : Frame 135185 x0 (Block.offerRes x0 x1) := by
  unfold Block.offerRes
  try extract_lets
  repeat' first
    | with_reducible assumption
    | with_reducible exact Frame.refl _ _
    | with_reducible apply Frame.ite
    | ((with_reducible apply Frame.via (Block.plyDrop_frame _ _ _)); · rfl)
    | ((with_reducible apply Frame.via (Block.bump_frame _ _ _)); · rfl)
    | ((with_reducible apply Frame.put_ply); · rfl)
    | (split <;> try extract_lets)

theorem Block.offerQf_frame x0 x1 : Frame 135185 x0 (Block.offerQf x0 x1) := by
  unfold Block.offerQf
  try extract_lets
  repeat' first
    | with_reducible assumption
    | with_reducible exact Frame.refl _ _
    | with_reducible apply Frame.ite
    | ((with_reducible apply Frame.via (Block.plyDrop_frame _ _ _)); · rfl)
    | ((with_reducible apply Frame.via (Block.bump_frame _ _ _)); · rfl)
    | ((with_reducible apply Frame.put_ply); · rfl)
    | (split <;> try extract_lets)

theorem doFifoRpWrite_frame x0 x1 x2 : Frame 1 x2 (doFifoRpWrite x0 x1 x2) := by
  unfold doFifoRpWrite
  try extract_lets
  repeat' first
    | with_reducible assumption
    | with_reducible exact Frame.refl _ _
    | with_reducible apply Frame.ite
    | ((with_reducible apply Frame.via (Block.writeFifoRp_frame _ _ _)); · rfl)
    | (split <;> try extract_lets)

theorem doFifoEnable_frame x0 x1 x2 : Frame 1 x2 (doFifoEnable x0 x1 x2) := by
  unfold doFifoEnable
  try extract_lets
  repeat' first
    | with_reducible assumption
    | with_reducible exact Frame.refl _ _
    | with_reducible apply Frame.ite
    | ((with_reducible apply Frame.via (Block.writeFifoCfg_frame _ _ _)); · rfl)
    | (split <;> try extract_lets)

end Sys2Proof.Machine
end

