-- ==== Sys2Proof/Laws/FrameReplies.lean ====
section
/-! SUPPORT. What each function of Machine/Replies.lean may change. -/

namespace Sys2Proof.Machine

theorem Block.makeReady_frame x0 x1 x2 x3 x4 x5 : Frame 16401 x0 (Block.makeReady x0 x1 x2 x3 x4 x5) := by
  unfold Block.makeReady
  try extract_lets
  repeat' first
    | with_reducible assumption
    | with_reducible exact Frame.refl _ _
    | with_reducible apply Frame.ite
    | ((with_reducible apply Frame.via (Block.setHost_frame _ _ _)); · rfl)
    | ((with_reducible apply Frame.via (Block.setReg_frame _ _ _)); · rfl)
    | ((with_reducible apply Frame.via (Block.pulseIf_frame _ _ _)); · rfl)
    | ((with_reducible apply Frame.put_cmd); · rfl)
    | (split <;> try extract_lets)

theorem Block.finalReply_frame x0 x1 x2 x3 x4 x5 x6 : Frame 16401 x0 (Block.finalReply x0 x1 x2 x3 x4 x5 x6) := by
  unfold Block.finalReply
  try extract_lets
  repeat' first
    | with_reducible assumption
    | with_reducible exact Frame.refl _ _
    | with_reducible apply Frame.ite
    | ((with_reducible apply Frame.via (Block.put_frame _ _ _)); · rfl)
    | ((with_reducible apply Frame.via (Block.bump_frame _ _ _)); · rfl)
    | ((with_reducible apply Frame.via (Block.makeReady_frame _ _ _ _ _ _)); · rfl)
    | (split <;> try extract_lets)

theorem Block.finish_frame x0 x1 x2 x3 x4 x5 x6 : Frame 16401 x0 (Block.finish x0 x1 x2 x3 x4 x5 x6) := by
  unfold Block.finish
  try extract_lets
  repeat' first
    | with_reducible assumption
    | with_reducible exact Frame.refl _ _
    | (with_reducible intro _; try extract_lets)
    | with_reducible apply Frame.ite
    | ((with_reducible apply Frame.via (Block.setHost_frame _ _ _)); · rfl)
    | ((with_reducible apply Frame.via (Block.finalReply_frame _ _ _ _ _ _ _)); · rfl)
    | with_reducible exact Frame.snd (by assumption)
    | with_reducible refine Frame.pair2 (by assumption) ?_
    | with_reducible refine Frame.pair3 (by assumption) ?_
    | with_reducible refine Frame.pair4 (by assumption) ?_
    | (split <;> try extract_lets)
    | (dsimp +zetaDelta only; split <;> try extract_lets)

theorem Block.finishPacket_frame x0 x1 x2 x3 x4 : Frame 16401 x0 (Block.finishPacket x0 x1 x2 x3 x4) := by
  unfold Block.finishPacket
  try extract_lets
  repeat' first
    | with_reducible assumption
    | with_reducible exact Frame.refl _ _
    | ((with_reducible apply Frame.via (Block.finish_frame _ _ _ _ _ _ _)); · rfl)

theorem Block.setRunning_frame x0 x1 x2 x3 : Frame 16384 x0 (Block.setRunning x0 x1 x2 x3) := by
  unfold Block.setRunning
  try extract_lets
  repeat' first
    | with_reducible assumption
    | with_reducible exact Frame.refl _ _
    | (with_reducible intro _; try extract_lets)
    | with_reducible apply Frame.ite
    | ((with_reducible apply Frame.via (Block.setHost_frame _ _ _)); · rfl)
    | (split <;> try extract_lets)

theorem Block.startHw_frame x0 x1 x2 {p : _} {t : Block} (e : Block.startHw x0 x1 x2 = some (p, t)) : Frame 16384 x0 t := by
  unfold Block.startHw at e
  dsimp only at e
  split at e
  · split at e
    · cases e; exact Frame.via (Block.setHost_frame _ _ _) rfl (Frame.refl _ _)
    · cases e
  · cases e

theorem Block.runHw_frame {m : Nat} {s0 : Block} (x0 : Block) (x1 : Nat) (x2 : Nat) (x3 : Block → Packet → Block) (hm : subMask 16384 m = true) (h3 : (∀ t y0, Frame m s0 t → Frame m s0 (x3 t y0))) (h : Frame m s0 x0) : Frame m s0 (Block.runHw x0 x1 x2 x3) := by
  unfold Block.runHw
  try extract_lets
  repeat' first
    | with_reducible assumption
    | refine Frame.via (Block.startHw_frame _ _ _ (by assumption)) (sub_trans rfl hm) ?_
    | with_reducible apply h3
    | with_reducible exact Frame.snd (by assumption)
    | with_reducible refine Frame.pair2 (by assumption) ?_
    | with_reducible refine Frame.pair3 (by assumption) ?_
    | with_reducible refine Frame.pair4 (by assumption) ?_
    | (split <;> try extract_lets)
    | (dsimp +zetaDelta only; split <;> try extract_lets)

theorem Block.startFw_frame x0 x1 x2 {p : _} {t : Block} (e : Block.startFw x0 x1 x2 = some (p, t)) : Frame 16384 x0 t := by
  unfold Block.startFw at e
  dsimp only at e
  split at e
  · split at e
    · cases e; exact Frame.put_cmd rfl (Frame.via (Block.setHost_frame _ _ _) rfl (Frame.refl _ _))
    · cases e
  · cases e

theorem Block.runFw_frame {m : Nat} {s0 : Block} (x0 : Block) (x1 : Nat) (x2 : Nat) (x3 : Block → Packet → Block) (hm : subMask 16384 m = true) (h3 : (∀ t y0, Frame m s0 t → Frame m s0 (x3 t y0))) (h : Frame m s0 x0) : Frame m s0 (Block.runFw x0 x1 x2 x3) := by
  unfold Block.runFw
  try extract_lets
  repeat' first
    | with_reducible assumption
    | refine Frame.via (Block.startFw_frame _ _ _ (by assumption)) (sub_trans rfl hm) ?_
    | with_reducible apply h3
    | with_reducible exact Frame.snd (by assumption)
    | with_reducible refine Frame.pair2 (by assumption) ?_
    | with_reducible refine Frame.pair3 (by assumption) ?_
    | with_reducible refine Frame.pair4 (by assumption) ?_
    | (split <;> try extract_lets)
    | (dsimp +zetaDelta only; split <;> try extract_lets)

end Sys2Proof.Machine
end

