-- ==== Sys2Proof/Laws/FrameSpindle.lean ====
section
/-! SUPPORT. What each function of Machine/Spindle.lean may change. -/

namespace Sys2Proof.Machine

theorem Block.abortAct_frame x0 x1 x2 : Frame 143889 x0 (Block.abortAct x0 x1 x2) := by
  unfold Block.abortAct
  try extract_lets
  repeat' first
    | with_reducible assumption
    | with_reducible exact Frame.refl _ _
    | with_reducible apply Frame.ite
    | ((with_reducible apply Frame.via (Block.dropLine_frame _ _)); · rfl)
    | ((with_reducible apply Frame.via (Block.endCheck_frame _ _)); · rfl)
    | ((with_reducible apply Frame.via (Block.bump_frame _ _ _)); · rfl)
    | ((with_reducible apply Frame.via (Block.setSp_frame _ _ _)); · rfl)
    | ((with_reducible apply Frame.via (Block.put_frame _ _ _)); · rfl)
    | ((with_reducible apply Frame.via (Block.raise_frame _ _ _)); · rfl)
    | with_reducible exact Frame.snd (by assumption)
    | with_reducible refine Frame.pair2 (by assumption) ?_
    | with_reducible refine Frame.pair3 (by assumption) ?_
    | with_reducible refine Frame.pair4 (by assumption) ?_
    | (split <;> try extract_lets)
    | (dsimp +zetaDelta only; split <;> try extract_lets)

theorem Block.unstall_frame x0 x1 : Frame 1 x0 (Block.unstall x0 x1) := by
  unfold Block.unstall
  try extract_lets
  repeat' first
    | with_reducible assumption
    | with_reducible exact Frame.refl _ _
    | with_reducible apply Frame.ite
    | ((with_reducible apply Frame.via (Block.put_frame _ _ _)); · rfl)
    | (split <;> try extract_lets)

theorem Block.cancelMig_frame x0 x1 : Frame 16913 x0 (Block.cancelMig x0 x1) := by
  unfold Block.cancelMig
  try extract_lets
  repeat' first
    | with_reducible assumption
    | with_reducible exact Frame.refl _ _
    | ((with_reducible apply Frame.via (Block.finishPacket_frame _ _ _ _ _)); · rfl)
    | ((with_reducible apply Frame.via (Block.setSp_frame _ _ _)); · rfl)
    | with_reducible exact Frame.snd (by assumption)
    | with_reducible refine Frame.pair2 (by assumption) ?_
    | with_reducible refine Frame.pair3 (by assumption) ?_
    | with_reducible refine Frame.pair4 (by assumption) ?_
    | (split <;> try extract_lets)
    | (dsimp +zetaDelta only; split <;> try extract_lets)

theorem Block.checkMigs_frame x0 : Frame 16913 x0 (Block.checkMigs x0) := by
  unfold Block.checkMigs
  try extract_lets
  repeat' first
    | with_reducible assumption
    | with_reducible exact Frame.refl _ _
    | (with_reducible intro _; try extract_lets)
    | with_reducible apply Frame.ite
    | with_reducible apply Frame.each
    | ((with_reducible apply Frame.via (Block.cancelMig_frame _ _)); · rfl)
    | with_reducible exact Frame.snd (by assumption)
    | with_reducible refine Frame.pair2 (by assumption) ?_
    | with_reducible refine Frame.pair3 (by assumption) ?_
    | with_reducible refine Frame.pair4 (by assumption) ?_
    | (split <;> try extract_lets)
    | (dsimp +zetaDelta only; split <;> try extract_lets)

theorem Block.enterStopped_frame x0 x1 : Frame 152081 x0 (Block.enterStopped x0 x1) := by
  unfold Block.enterStopped
  try extract_lets
  repeat' first
    | with_reducible assumption
    | with_reducible exact Frame.refl _ _
    | with_reducible apply Frame.ite
    | ((with_reducible apply Frame.via (Block.put_frame _ _ _)); · rfl)
    | ((with_reducible apply Frame.via (Block.unstall_frame _ _)); · rfl)
    | ((with_reducible apply Frame.via (Block.setSp_frame _ _ _)); · rfl)
    | ((with_reducible apply Frame.via (Block.checkMigs_frame _)); · rfl)
    | ((with_reducible apply Frame.via (Block.raise_frame _ _ _)); · rfl)
    | (split <;> try extract_lets)

theorem Block.spStopNow_frame x0 x1 : Frame 160273 x0 (Block.spStopNow x0 x1) := by
  unfold Block.spStopNow
  try extract_lets
  repeat' first
    | with_reducible assumption
    | with_reducible exact Frame.refl _ _
    | (with_reducible intro _; try extract_lets)
    | with_reducible apply Frame.ite
    | ((with_reducible apply Frame.via (Block.setSp_frame _ _ _)); · rfl)
    | ((with_reducible apply Frame.via (Block.abortAct_frame _ _ _)); · rfl)
    | ((with_reducible apply Frame.via (Block.put_frame _ _ _)); · rfl)
    | ((with_reducible apply Frame.via (Block.enterStopped_frame _ _)); · rfl)
    | with_reducible exact Frame.snd (by assumption)
    | with_reducible refine Frame.pair2 (by assumption) ?_
    | with_reducible refine Frame.pair3 (by assumption) ?_
    | with_reducible refine Frame.pair4 (by assumption) ?_
    | (split <;> try extract_lets)
    | (dsimp +zetaDelta only; split <;> try extract_lets)

theorem Block.setStaged_frame x0 x1 x2 x3 : Frame 512 x0 (Block.setStaged x0 x1 x2 x3) := by
  unfold Block.setStaged
  try extract_lets
  repeat' first
    | with_reducible assumption
    | with_reducible exact Frame.refl _ _
    | (with_reducible intro _; try extract_lets)
    | ((with_reducible apply Frame.put_acq); · rfl)

theorem Block.loadStaging_frame x0 x1 : Frame 512 x0 (Block.loadStaging x0 x1) := by
  unfold Block.loadStaging
  try extract_lets
  repeat' first
    | with_reducible assumption
    | with_reducible exact Frame.refl _ _
    | (with_reducible intro _; try extract_lets)
    | with_reducible apply Frame.ite
    | with_reducible apply Frame.each
    | ((with_reducible apply Frame.via (Block.setStaged_frame _ _ _ _)); · rfl)
    | (split <;> try extract_lets)

theorem Block.writeSeqIdx_frame x0 x1 x2 : Frame 513 x0 (Block.writeSeqIdx x0 x1 x2) := by
  unfold Block.writeSeqIdx
  try extract_lets
  repeat' first
    | with_reducible assumption
    | with_reducible exact Frame.refl _ _
    | with_reducible apply Frame.ite
    | ((with_reducible apply Frame.via (Block.put_frame _ _ _)); · rfl)
    | ((with_reducible apply Frame.via (Block.loadStaging_frame _ _)); · rfl)
    | (split <;> try extract_lets)

theorem Block.advanceSeq_frame x0 x1 : Frame 513 x0 (Block.advanceSeq x0 x1) := by
  unfold Block.advanceSeq
  try extract_lets
  repeat' first
    | with_reducible assumption
    | with_reducible exact Frame.refl _ _
    | with_reducible apply Frame.ite
    | ((with_reducible apply Frame.via (Block.put_frame _ _ _)); · rfl)
    | ((with_reducible apply Frame.via (Block.loadStaging_frame _ _)); · rfl)
    | (split <;> try extract_lets)

theorem Block.commitEntry_frame x0 x1 x2 x3 : Frame 512 x0 (Block.commitEntry x0 x1 x2 x3) := by
  unfold Block.commitEntry
  try extract_lets
  repeat' first
    | with_reducible assumption
    | with_reducible exact Frame.refl _ _
    | (with_reducible intro _; try extract_lets)
    | with_reducible apply Frame.ite
    | ((with_reducible apply Frame.via (Block.setAct_frame _ _ _)); · rfl)
    | ((with_reducible apply Frame.put_acq); · rfl)
    | with_reducible exact Frame.snd (by assumption)
    | with_reducible refine Frame.pair2 (by assumption) ?_
    | with_reducible refine Frame.pair3 (by assumption) ?_
    | with_reducible refine Frame.pair4 (by assumption) ?_
    | (split <;> try extract_lets)
    | (dsimp +zetaDelta only; split <;> try extract_lets)

theorem Block.writeSeqData_frame x0 x1 x2 : Frame 513 x0 (Block.writeSeqData x0 x1 x2) := by
  unfold Block.writeSeqData
  try extract_lets
  repeat' first
    | with_reducible assumption
    | with_reducible exact Frame.refl _ _
    | with_reducible apply Frame.ite
    | ((with_reducible apply Frame.via (Block.advanceSeq_frame _ _)); · rfl)
    | ((with_reducible apply Frame.via (Block.put_frame _ _ _)); · rfl)
    | ((with_reducible apply Frame.via (Block.setStaged_frame _ _ _ _)); · rfl)
    | ((with_reducible apply Frame.via (Block.commitEntry_frame _ _ _ _)); · rfl)
    | (split <;> try extract_lets)

theorem Block.recordRefusal_frame x0 x1 x2 x3 x4 : Frame 1 x0 (Block.recordRefusal x0 x1 x2 x3 x4) := by
  unfold Block.recordRefusal
  try extract_lets
  repeat' first
    | with_reducible assumption
    | with_reducible exact Frame.refl _ _
    | with_reducible apply Frame.ite
    | ((with_reducible apply Frame.via (Block.bump_frame _ _ _)); · rfl)
    | ((with_reducible apply Frame.via (Block.put_frame _ _ _)); · rfl)
    | (split <;> try extract_lets)

theorem Block.endDrain_frame x0 x1 : Frame 152081 x0 (Block.endDrain x0 x1) := by
  unfold Block.endDrain
  try extract_lets
  repeat' first
    | with_reducible assumption
    | with_reducible exact Frame.refl _ _
    | with_reducible apply Frame.ite
    | ((with_reducible apply Frame.via (Block.enterStopped_frame _ _)); · rfl)
    | (split <;> try extract_lets)

theorem Block.endUrgent_frame x0 x1 : Frame 152081 x0 (Block.endUrgent x0 x1) := by
  unfold Block.endUrgent
  try extract_lets
  repeat' first
    | with_reducible assumption
    | with_reducible exact Frame.refl _ _
    | ((with_reducible apply Frame.via (Block.endDrain_frame _ _)); · rfl)
    | ((with_reducible apply Frame.via (Block.put_frame _ _ _)); · rfl)

theorem Block.startRun_frame x0 x1 x2 : Frame 1537 x0 (Block.startRun x0 x1 x2) := by
  unfold Block.startRun
  try extract_lets
  repeat' first
    | with_reducible assumption
    | with_reducible exact Frame.refl _ _
    | ((with_reducible apply Frame.via (Block.startSense_frame _ _ _)); · rfl)
    | ((with_reducible apply Frame.via (Block.put_frame _ _ _)); · rfl)
    | ((with_reducible apply Frame.via (Block.unstall_frame _ _)); · rfl)
    | ((with_reducible apply Frame.via (Block.takePath_frame _ _ _)); · rfl)
    | with_reducible exact Frame.snd (by assumption)
    | with_reducible refine Frame.pair2 (by assumption) ?_
    | with_reducible refine Frame.pair3 (by assumption) ?_
    | with_reducible refine Frame.pair4 (by assumption) ?_
    | (split <;> try extract_lets)
    | (dsimp +zetaDelta only; split <;> try extract_lets)

theorem Block.startUrgent_frame x0 x1 : Frame 153105 x0 (Block.startUrgent x0 x1) := by
  unfold Block.startUrgent
  try extract_lets
  repeat' first
    | with_reducible assumption
    | with_reducible exact Frame.refl _ _
    | with_reducible apply Frame.ite
    | ((with_reducible apply Frame.via (Block.put_frame _ _ _)); · rfl)
    | ((with_reducible apply Frame.via (Block.setSp_frame _ _ _)); · rfl)
    | ((with_reducible apply Frame.via (Block.endUrgent_frame _ _)); · rfl)
    | ((with_reducible apply Frame.via (Block.recordRefusal_frame _ _ _ _ _)); · rfl)
    | ((with_reducible apply Frame.via (Block.startRun_frame _ _ _)); · rfl)
    | (split <;> try extract_lets)

theorem Block.abortForUrgent_frame x0 x1 : Frame 160273 x0 (Block.abortForUrgent x0 x1) := by
  unfold Block.abortForUrgent
  try extract_lets
  repeat' first
    | with_reducible assumption
    | with_reducible exact Frame.refl _ _
    | with_reducible apply Frame.ite
    | ((with_reducible apply Frame.via (Block.endDrain_frame _ _)); · rfl)
    | ((with_reducible apply Frame.via (Block.abortAct_frame _ _ _)); · rfl)
    | with_reducible exact Frame.snd (by assumption)
    | with_reducible refine Frame.pair2 (by assumption) ?_
    | with_reducible refine Frame.pair3 (by assumption) ?_
    | with_reducible refine Frame.pair4 (by assumption) ?_
    | (split <;> try extract_lets)
    | (dsimp +zetaDelta only; split <;> try extract_lets)

theorem Block.registerUrgent_frame x0 x1 : Frame 161297 x0 (Block.registerUrgent x0 x1) := by
  unfold Block.registerUrgent
  try extract_lets
  repeat' first
    | with_reducible assumption
    | with_reducible exact Frame.refl _ _
    | with_reducible apply Frame.ite
    | ((with_reducible apply Frame.via (Block.recordRefusal_frame _ _ _ _ _)); · rfl)
    | ((with_reducible apply Frame.via (Block.bump_frame _ _ _)); · rfl)
    | ((with_reducible apply Frame.via (Block.put_frame _ _ _)); · rfl)
    | ((with_reducible apply Frame.via (Block.checkMigs_frame _)); · rfl)
    | ((with_reducible apply Frame.via (Block.startUrgent_frame _ _)); · rfl)
    | ((with_reducible apply Frame.via (Block.abortForUrgent_frame _ _)); · rfl)
    | (split <;> try extract_lets)

theorem Block.takeUrgent_frame x0 x1 : Frame 161297 x0 (Block.takeUrgent x0 x1) := by
  unfold Block.takeUrgent
  try extract_lets
  repeat' first
    | with_reducible assumption
    | with_reducible exact Frame.refl _ _
    | ((with_reducible apply Frame.via (Block.registerUrgent_frame _ _)); · rfl)
    | ((with_reducible apply Frame.via (Block.setSp_frame _ _ _)); · rfl)

theorem Block.raiseUrgent_frame x0 x1 : Frame 161297 x0 (Block.raiseUrgent x0 x1) := by
  unfold Block.raiseUrgent
  try extract_lets
  repeat' first
    | with_reducible assumption
    | with_reducible exact Frame.refl _ _
    | with_reducible apply Frame.ite
    | ((with_reducible apply Frame.via (Block.takeUrgent_frame _ _)); · rfl)
    | ((with_reducible apply Frame.via (Block.setSp_frame _ _ _)); · rfl)
    | with_reducible exact Frame.snd (by assumption)
    | with_reducible refine Frame.pair2 (by assumption) ?_
    | with_reducible refine Frame.pair3 (by assumption) ?_
    | with_reducible refine Frame.pair4 (by assumption) ?_
    | (split <;> try extract_lets)
    | (dsimp +zetaDelta only; split <;> try extract_lets)

theorem Block.writeSpUrgent_frame x0 x1 : Frame 161297 x0 (Block.writeSpUrgent x0 x1) := by
  unfold Block.writeSpUrgent
  try extract_lets
  repeat' first
    | with_reducible assumption
    | with_reducible exact Frame.refl _ _
    | with_reducible apply Frame.ite
    | ((with_reducible apply Frame.via (Block.raiseUrgent_frame _ _)); · rfl)
    | (split <;> try extract_lets)

theorem Block.trigger_frame x0 x1 : Frame 512 x0 (Block.trigger x0 x1) := by
  unfold Block.trigger
  try extract_lets
  repeat' first
    | with_reducible assumption
    | with_reducible exact Frame.refl _ _
    | (with_reducible intro _; try extract_lets)
    | with_reducible apply Frame.ite
    | with_reducible apply Frame.each
    | ((with_reducible apply Frame.via (Block.setAct_frame _ _ _)); · rfl)
    | with_reducible exact Frame.snd (by assumption)
    | with_reducible refine Frame.pair2 (by assumption) ?_
    | with_reducible refine Frame.pair3 (by assumption) ?_
    | with_reducible refine Frame.pair4 (by assumption) ?_
    | (split <;> try extract_lets)
    | (dsimp +zetaDelta only; split <;> try extract_lets)

theorem Block.writeTgFire_frame x0 x1 : Frame 512 x0 (Block.writeTgFire x0 x1) := by
  unfold Block.writeTgFire
  try extract_lets
  repeat' first
    | with_reducible assumption
    | with_reducible exact Frame.refl _ _
    | (with_reducible intro _; try extract_lets)
    | with_reducible apply Frame.each
    | ((with_reducible apply Frame.via (Block.trigger_frame _ _)); · rfl)

theorem Block.spStart_frame x0 x1 : Frame 16913 x0 (Block.spStart x0 x1) := by
  unfold Block.spStart
  try extract_lets
  repeat' first
    | with_reducible assumption
    | with_reducible exact Frame.refl _ _
    | ((with_reducible apply Frame.via (Block.put_frame _ _ _)); · rfl)
    | ((with_reducible apply Frame.via (Block.setSp_frame _ _ _)); · rfl)
    | ((with_reducible apply Frame.via (Block.checkMigs_frame _)); · rfl)
    | with_reducible exact Frame.snd (by assumption)
    | with_reducible refine Frame.pair2 (by assumption) ?_
    | with_reducible refine Frame.pair3 (by assumption) ?_
    | with_reducible refine Frame.pair4 (by assumption) ?_
    | (split <;> try extract_lets)
    | (dsimp +zetaDelta only; split <;> try extract_lets)

theorem Block.spStartOnce_frame x0 x1 : Frame 16913 x0 (Block.spStartOnce x0 x1) := by
  unfold Block.spStartOnce
  try extract_lets
  repeat' first
    | with_reducible assumption
    | with_reducible exact Frame.refl _ _
    | ((with_reducible apply Frame.via (Block.put_frame _ _ _)); · rfl)
    | ((with_reducible apply Frame.via (Block.spStart_frame _ _)); · rfl)
    | with_reducible exact Frame.snd (by assumption)
    | with_reducible refine Frame.pair2 (by assumption) ?_
    | with_reducible refine Frame.pair3 (by assumption) ?_
    | with_reducible refine Frame.pair4 (by assumption) ?_
    | (split <;> try extract_lets)
    | (dsimp +zetaDelta only; split <;> try extract_lets)

theorem Block.spStopPass_frame x0 x1 : Frame 513 x0 (Block.spStopPass x0 x1) := by
  unfold Block.spStopPass
  try extract_lets
  repeat' first
    | with_reducible assumption
    | with_reducible exact Frame.refl _ _
    | with_reducible apply Frame.ite
    | ((with_reducible apply Frame.via (Block.setSp_frame _ _ _)); · rfl)
    | ((with_reducible apply Frame.via (Block.put_frame _ _ _)); · rfl)
    | (split <;> try extract_lets)

theorem Block.spCommand_frame x0 x1 x2 : Frame 160273 x0 (Block.spCommand x0 x1 x2) := by
  unfold Block.spCommand
  try extract_lets
  repeat' first
    | with_reducible assumption
    | with_reducible exact Frame.refl _ _
    | ((with_reducible apply Frame.via (Block.spStart_frame _ _)); · rfl)
    | ((with_reducible apply Frame.via (Block.spStartOnce_frame _ _)); · rfl)
    | ((with_reducible apply Frame.via (Block.spStopPass_frame _ _)); · rfl)
    | ((with_reducible apply Frame.via (Block.spStopNow_frame _ _)); · rfl)
    | with_reducible exact Frame.snd (by assumption)
    | with_reducible refine Frame.pair2 (by assumption) ?_
    | with_reducible refine Frame.pair3 (by assumption) ?_
    | with_reducible refine Frame.pair4 (by assumption) ?_
    | (split <;> try extract_lets)
    | (dsimp +zetaDelta only; split <;> try extract_lets)

theorem Block.writeSpCfg_frame x0 x1 x2 : Frame 1 x0 (Block.writeSpCfg x0 x1 x2) := by
  unfold Block.writeSpCfg
  try extract_lets
  repeat' first
    | with_reducible assumption
    | with_reducible exact Frame.refl _ _
    | with_reducible apply Frame.ite
    | ((with_reducible apply Frame.via (Block.put_frame _ _ _)); · rfl)
    | ((with_reducible apply Frame.via (Block.writeFields_frame _ _ _)); · rfl)
    | (split <;> try extract_lets)

theorem Block.endPass_frame x0 x1 : Frame 152081 x0 (Block.endPass x0 x1) := by
  unfold Block.endPass
  try extract_lets
  repeat' first
    | with_reducible assumption
    | with_reducible exact Frame.refl _ _
    | (with_reducible intro _; try extract_lets)
    | with_reducible apply Frame.ite
    | with_reducible apply Frame.each
    | ((with_reducible apply Frame.via (Block.setSp_frame _ _ _)); · rfl)
    | ((with_reducible apply Frame.via (Block.raise_frame _ _ _)); · rfl)
    | ((with_reducible apply Frame.via (Block.trigger_frame _ _)); · rfl)
    | ((with_reducible apply Frame.via (Block.enterStopped_frame _ _)); · rfl)
    | (split <;> try extract_lets)

theorem Block.endSeqRun_frame x0 x1 x2 x3 : Frame 152081 x0 (Block.endSeqRun x0 x1 x2 x3) := by
  unfold Block.endSeqRun
  try extract_lets
  repeat' first
    | with_reducible assumption
    | with_reducible exact Frame.refl _ _
    | with_reducible apply Frame.ite
    | ((with_reducible apply Frame.via (Block.enterStopped_frame _ _)); · rfl)
    | ((with_reducible apply Frame.via (Block.setSp_frame _ _ _)); · rfl)
    | ((with_reducible apply Frame.via (Block.endPass_frame _ _)); · rfl)
    | (split <;> try extract_lets)

theorem Block.restart_frame x0 x1 x2 : Frame 153105 x0 (Block.restart x0 x1 x2) := by
  unfold Block.restart
  try extract_lets
  repeat' first
    | with_reducible assumption
    | with_reducible exact Frame.refl _ _
    | with_reducible apply Frame.ite
    | ((with_reducible apply Frame.via (Block.setSp_frame _ _ _)); · rfl)
    | ((with_reducible apply Frame.via (Block.startRun_frame _ _ _)); · rfl)
    | ((with_reducible apply Frame.via (Block.recordRefusal_frame _ _ _ _ _)); · rfl)
    | ((with_reducible apply Frame.via (Block.endSeqRun_frame _ _ _ _)); · rfl)
    | ((with_reducible apply Frame.via (Block.endUrgent_frame _ _)); · rfl)
    | with_reducible exact Frame.snd (by assumption)
    | with_reducible refine Frame.pair2 (by assumption) ?_
    | with_reducible refine Frame.pair3 (by assumption) ?_
    | with_reducible refine Frame.pair4 (by assumption) ?_
    | (split <;> try extract_lets)
    | (dsimp +zetaDelta only; split <;> try extract_lets)

theorem doMigrateSwitch_frame x0 x1 : Frame 161297 x1 (doMigrateSwitch x0 x1) := by
  unfold doMigrateSwitch
  try extract_lets
  repeat' first
    | with_reducible assumption
    | with_reducible exact Frame.refl _ _
    | (with_reducible intro _; try extract_lets)
    | with_reducible apply Frame.ite
    | with_reducible apply Frame.each
    | ((with_reducible apply Frame.via (Block.commitEntry_frame _ _ _ _)); · rfl)
    | ((with_reducible apply Frame.via (Block.put_frame _ _ _)); · rfl)
    | ((with_reducible apply Frame.via (Block.unstall_frame _ _)); · rfl)
    | ((with_reducible apply Frame.via (Block.setSp_frame _ _ _)); · rfl)
    | ((with_reducible apply Frame.via (Block.registerUrgent_frame _ _)); · rfl)
    | ((with_reducible apply Frame.via (Block.endDrain_frame _ _)); · rfl)
    | ((with_reducible apply Frame.via (Block.finishPacket_frame _ _ _ _ _)); · rfl)
    | with_reducible exact Frame.snd (by assumption)
    | with_reducible refine Frame.pair2 (by assumption) ?_
    | with_reducible refine Frame.pair3 (by assumption) ?_
    | with_reducible refine Frame.pair4 (by assumption) ?_
    | (split <;> try extract_lets)
    | (dsimp +zetaDelta only; split <;> try extract_lets)

theorem doSpStartOnce_frame x0 x1 : Frame 16913 x1 (doSpStartOnce x0 x1) := by
  unfold doSpStartOnce
  try extract_lets
  repeat' first
    | with_reducible assumption
    | with_reducible exact Frame.refl _ _
    | with_reducible apply Frame.ite
    | ((with_reducible apply Frame.via (Block.spStartOnce_frame _ _)); · rfl)
    | (split <;> try extract_lets)

theorem Block.deliverRec_frame x0 x1 x2 x3 x4 : Frame 200721 x0 (Block.deliverRec x0 x1 x2 x3 x4) := by
  unfold Block.deliverRec
  try extract_lets
  repeat' first
    | with_reducible assumption
    | with_reducible exact Frame.refl _ _
    | with_reducible apply Frame.ite
    | ((with_reducible apply Frame.via (Block.put_frame _ _ _)); · rfl)
    | ((with_reducible apply Frame.via (Block.bump_frame _ _ _)); · rfl)
    | ((with_reducible apply Frame.via (Block.pushFifo_frame _ _ _)); · rfl)
    | ((with_reducible apply Frame.via (Block.offerRes_frame _ _)); · rfl)
    | with_reducible exact Frame.snd (by assumption)
    | with_reducible refine Frame.pair2 (by assumption) ?_
    | with_reducible refine Frame.pair3 (by assumption) ?_
    | with_reducible refine Frame.pair4 (by assumption) ?_
    | (split <;> try extract_lets)
    | (dsimp +zetaDelta only; split <;> try extract_lets)

theorem doSpUrgent_frame x0 x1 : Frame 161297 x1 (doSpUrgent x0 x1) := by
  unfold doSpUrgent
  try extract_lets
  repeat' first
    | with_reducible assumption
    | with_reducible exact Frame.refl _ _
    | with_reducible apply Frame.ite
    | ((with_reducible apply Frame.via (Block.writeSpUrgent_frame _ _)); · rfl)
    | (split <;> try extract_lets)

theorem doTgFire_frame x0 x1 : Frame 512 x1 (doTgFire x0 x1) := by
  unfold doTgFire
  try extract_lets
  repeat' first
    | with_reducible assumption
    | with_reducible exact Frame.refl _ _
    | with_reducible apply Frame.ite
    | ((with_reducible apply Frame.via (Block.writeTgFire_frame _ _)); · rfl)
    | (split <;> try extract_lets)

theorem doEntryRestart_frame x0 x1 : Frame 153105 x1 (doEntryRestart x0 x1) := by
  unfold doEntryRestart
  try extract_lets
  repeat' first
    | with_reducible assumption
    | with_reducible exact Frame.refl _ _
    | with_reducible apply Frame.ite
    | ((with_reducible apply Frame.via (Block.startUrgent_frame _ _)); · rfl)
    | ((with_reducible apply Frame.via (Block.put_frame _ _ _)); · rfl)
    | ((with_reducible apply Frame.via (Block.restart_frame _ _ _)); · rfl)
    | with_reducible exact Frame.snd (by assumption)
    | with_reducible refine Frame.pair2 (by assumption) ?_
    | with_reducible refine Frame.pair3 (by assumption) ?_
    | with_reducible refine Frame.pair4 (by assumption) ?_
    | (split <;> try extract_lets)
    | (dsimp +zetaDelta only; split <;> try extract_lets)

theorem doRunStart_frame x0 x1 : Frame 153105 x1 (doRunStart x0 x1) := by
  unfold doRunStart
  try extract_lets
  repeat' first
    | with_reducible assumption
    | with_reducible exact Frame.refl _ _
    | with_reducible apply Frame.ite
    | ((with_reducible apply Frame.via (Block.endSeqRun_frame _ _ _ _)); · rfl)
    | ((with_reducible apply Frame.via (Block.recordRefusal_frame _ _ _ _ _)); · rfl)
    | ((with_reducible apply Frame.via (Block.unstall_frame _ _)); · rfl)
    | ((with_reducible apply Frame.via (Block.put_frame _ _ _)); · rfl)
    | ((with_reducible apply Frame.via (Block.startRun_frame _ _ _)); · rfl)
    | ((with_reducible apply Frame.via (Block.setSp_frame _ _ _)); · rfl)
    | (split <;> try extract_lets)

theorem Block.readSeqData_frame x0 x1 : Frame 513 x0 (Block.readSeqData x0 x1).2 := by
  unfold Block.readSeqData
  try extract_lets
  repeat' first
    | with_reducible assumption
    | with_reducible exact Frame.refl _ _
    | with_reducible apply Frame.ite
    | ((with_reducible apply Frame.via (Block.advanceSeq_frame _ _)); · rfl)
    | (split <;> try extract_lets)
    | dsimp only

theorem doSpStopNow_frame x0 x1 : Frame 160273 x1 (doSpStopNow x0 x1) := by
  unfold doSpStopNow
  try extract_lets
  repeat' first
    | with_reducible assumption
    | with_reducible exact Frame.refl _ _
    | with_reducible apply Frame.ite
    | ((with_reducible apply Frame.via (Block.spStopNow_frame _ _)); · rfl)
    | (split <;> try extract_lets)

theorem doSpCfgWrite_frame x0 x1 x2 : Frame 1 x2 (doSpCfgWrite x0 x1 x2) := by
  unfold doSpCfgWrite
  try extract_lets
  repeat' first
    | with_reducible assumption
    | with_reducible exact Frame.refl _ _
    | with_reducible apply Frame.ite
    | ((with_reducible apply Frame.via (Block.writeSpCfg_frame _ _ _)); · rfl)
    | (split <;> try extract_lets)

theorem doSeqDataAccess_frame x0 x1 x2 : Frame 513 x2 (doSeqDataAccess x0 x1 x2) := by
  unfold doSeqDataAccess
  try extract_lets
  repeat' first
    | with_reducible assumption
    | with_reducible exact Frame.refl _ _
    | with_reducible apply Frame.ite
    | ((with_reducible apply Frame.via (Block.writeSeqData_frame _ _ _)); · rfl)
    | ((with_reducible apply Frame.via (Block.readSeqData_frame _ _)); · rfl)
    | with_reducible exact Frame.snd (by assumption)
    | with_reducible refine Frame.pair2 (by assumption) ?_
    | with_reducible refine Frame.pair3 (by assumption) ?_
    | with_reducible refine Frame.pair4 (by assumption) ?_
    | (split <;> try extract_lets)
    | (dsimp +zetaDelta only; split <;> try extract_lets)

theorem doUrgentRegister_frame x0 x1 : Frame 161297 x1 (doUrgentRegister x0 x1) := by
  unfold doUrgentRegister
  try extract_lets
  repeat' first
    | with_reducible assumption
    | with_reducible exact Frame.refl _ _
    | with_reducible apply Frame.ite
    | ((with_reducible apply Frame.via (Block.takeUrgent_frame _ _)); · rfl)
    | (split <;> try extract_lets)

theorem doSpStart_frame x0 x1 : Frame 16913 x1 (doSpStart x0 x1) := by
  unfold doSpStart
  try extract_lets
  repeat' first
    | with_reducible assumption
    | with_reducible exact Frame.refl _ _
    | with_reducible apply Frame.ite
    | ((with_reducible apply Frame.via (Block.spStart_frame _ _)); · rfl)
    | (split <;> try extract_lets)

theorem doSpStopPass_frame x0 x1 : Frame 513 x1 (doSpStopPass x0 x1) := by
  unfold doSpStopPass
  try extract_lets
  repeat' first
    | with_reducible assumption
    | with_reducible exact Frame.refl _ _
    | with_reducible apply Frame.ite
    | ((with_reducible apply Frame.via (Block.spStopPass_frame _ _)); · rfl)
    | (split <;> try extract_lets)

theorem doSeqIdxWrite_frame x0 x1 x2 : Frame 513 x2 (doSeqIdxWrite x0 x1 x2) := by
  unfold doSeqIdxWrite
  try extract_lets
  repeat' first
    | with_reducible assumption
    | with_reducible exact Frame.refl _ _
    | with_reducible apply Frame.ite
    | ((with_reducible apply Frame.via (Block.writeSeqIdx_frame _ _ _)); · rfl)
    | (split <;> try extract_lets)

theorem doFrmBankChange_frame x0 x1 : Frame 513 x1 (doFrmBankChange x0 x1) := by
  unfold doFrmBankChange
  try extract_lets
  repeat' first
    | with_reducible assumption
    | with_reducible exact Frame.refl _ _
    | with_reducible apply Frame.ite
    | ((with_reducible apply Frame.via (Block.put_frame _ _ _)); · rfl)
    | ((with_reducible apply Frame.via (Block.setSp_frame _ _ _)); · rfl)
    | (split <;> try extract_lets)

end Sys2Proof.Machine
end

