-- ==== Sys2Proof/Laws/FrameConvert.lean ====
section
/-! SUPPORT. What each function of Machine/Convert.lean may change. -/

namespace Sys2Proof.Machine

theorem Block.setNco_frame x0 x1 x2 : Frame 512 x0 (Block.setNco x0 x1 x2) := by
  unfold Block.setNco
  try extract_lets
  repeat' first
    | with_reducible assumption
    | with_reducible exact Frame.refl _ _
    | (with_reducible intro _; try extract_lets)
    | ((with_reducible apply Frame.put_acq); · rfl)

theorem Block.pushNco_frame x0 x1 x2 : Frame 512 x0 (Block.pushNco x0 x1 x2) := by
  unfold Block.pushNco
  try extract_lets
  repeat' first
    | with_reducible assumption
    | with_reducible exact Frame.refl _ _
    | ((with_reducible apply Frame.via (Block.setNco_frame _ _ _)); · rfl)

theorem Block.loadNco_frame x0 x1 : Frame 513 x0 (Block.loadNco x0 x1) := by
  unfold Block.loadNco
  try extract_lets
  repeat' first
    | with_reducible assumption
    | with_reducible exact Frame.refl _ _
    | ((with_reducible apply Frame.via (Block.setPair_frame _ _ _ _)); · rfl)
    | ((with_reducible apply Frame.via (Block.pushNco_frame _ _ _)); · rfl)
    | ((with_reducible apply Frame.via (Block.put_frame _ _ _)); · rfl)

theorem Block.restartNco_frame x0 x1 : Frame 513 x0 (Block.restartNco x0 x1) := by
  unfold Block.restartNco
  try extract_lets
  repeat' first
    | with_reducible assumption
    | with_reducible exact Frame.refl _ _
    | ((with_reducible apply Frame.via (Block.setBit_frame _ _ _ _)); · rfl)
    | ((with_reducible apply Frame.via (Block.put_frame _ _ _)); · rfl)
    | ((with_reducible apply Frame.via (Block.loadNco_frame _ _)); · rfl)
    | ((with_reducible apply Frame.via (Block.setNco_frame _ _ _)); · rfl)

theorem Block.unitWait_frame x0 x1 : Frame 513 x0 (Block.unitWait x0 x1) := by
  unfold Block.unitWait
  try extract_lets
  repeat' first
    | with_reducible assumption
    | with_reducible exact Frame.refl _ _
    | (with_reducible intro _; try extract_lets)
    | ((with_reducible apply Frame.via (Block.updateRef_frame _ _)); · rfl)
    | ((with_reducible apply Frame.put_acq); · rfl)

theorem Block.logReg_frame x0 x1 : Frame 512 x0 (Block.logReg x0 x1) := by
  unfold Block.logReg
  try extract_lets
  repeat' first
    | with_reducible assumption
    | with_reducible exact Frame.refl _ _
    | (with_reducible intro _; try extract_lets)
    | ((with_reducible apply Frame.put_acq); · rfl)

theorem Block.writeLogged_frame x0 x1 x2 : Frame 513 x0 (Block.writeLogged x0 x1 x2) := by
  unfold Block.writeLogged
  try extract_lets
  repeat' first
    | with_reducible assumption
    | with_reducible exact Frame.refl _ _
    | ((with_reducible apply Frame.via (Block.writeFields_frame _ _ _)); · rfl)
    | ((with_reducible apply Frame.via (Block.logReg_frame _ _)); · rfl)

theorem Block.writeNcoLoad_frame x0 x1 : Frame 513 x0 (Block.writeNcoLoad x0 x1) := by
  unfold Block.writeNcoLoad
  try extract_lets
  repeat' first
    | with_reducible assumption
    | with_reducible exact Frame.refl _ _
    | (with_reducible intro _; try extract_lets)
    | with_reducible apply Frame.each
    | ((with_reducible apply Frame.via (Block.loadNco_frame _ _)); · rfl)

theorem Block.writeFineQclk_frame x0 x1 x2 : Frame 1 x0 (Block.writeFineQclk x0 x1 x2) := by
  unfold Block.writeFineQclk
  try extract_lets
  repeat' first
    | with_reducible assumption
    | with_reducible exact Frame.refl _ _
    | ((with_reducible apply Frame.via (Block.put_frame _ _ _)); · rfl)
    | ((with_reducible apply Frame.via (Block.putB_frame _ _ _)); · rfl)

theorem Block.writeFineCalreq_frame x0 x1 x2 : Frame 513 x0 (Block.writeFineCalreq x0 x1 x2) := by
  unfold Block.writeFineCalreq
  try extract_lets
  repeat' first
    | with_reducible assumption
    | with_reducible exact Frame.refl _ _
    | with_reducible apply Frame.ite
    | ((with_reducible apply Frame.via (Block.writeFields_frame _ _ _)); · rfl)
    | ((with_reducible apply Frame.via (Block.put_frame _ _ _)); · rfl)
    | ((with_reducible apply Frame.via (Block.setSp_frame _ _ _)); · rfl)
    | (split <;> try extract_lets)

theorem Block.writeSwiftCalreq_frame x0 x1 x2 : Frame 513 x0 (Block.writeSwiftCalreq x0 x1 x2) := by
  unfold Block.writeSwiftCalreq
  try extract_lets
  repeat' first
    | with_reducible assumption
    | with_reducible exact Frame.refl _ _
    | with_reducible apply Frame.ite
    | ((with_reducible apply Frame.via (Block.writeFields_frame _ _ _)); · rfl)
    | ((with_reducible apply Frame.via (Block.put_frame _ _ _)); · rfl)
    | ((with_reducible apply Frame.via (Block.setSp_frame _ _ _)); · rfl)
    | (split <;> try extract_lets)

theorem Block.retuneNco_frame x0 x1 : Frame 512 x0 (Block.retuneNco x0 x1) := by
  unfold Block.retuneNco
  try extract_lets
  repeat' first
    | with_reducible assumption
    | with_reducible exact Frame.refl _ _
    | with_reducible apply Frame.ite
    | ((with_reducible apply Frame.via (Block.pushNco_frame _ _ _)); · rfl)
    | (split <;> try extract_lets)

theorem Block.writeNcoFreq_frame x0 x1 x2 : Frame 513 x0 (Block.writeNcoFreq x0 x1 x2) := by
  unfold Block.writeNcoFreq
  try extract_lets
  repeat' first
    | with_reducible assumption
    | with_reducible exact Frame.refl _ _
    | with_reducible apply Frame.ite
    | ((with_reducible apply Frame.via (Block.putB_frame _ _ _)); · rfl)
    | ((with_reducible apply Frame.via (Block.retuneNco_frame _ _)); · rfl)
    | ((with_reducible apply Frame.via (Block.setReg_frame _ _ _)); · rfl)
    | ((with_reducible apply Frame.via (Block.put_frame _ _ _)); · rfl)
    | (split <;> try extract_lets)

theorem Block.writeNcoPhase_frame x0 x1 x2 : Frame 513 x0 (Block.writeNcoPhase x0 x1 x2) := by
  unfold Block.writeNcoPhase
  try extract_lets
  repeat' first
    | with_reducible assumption
    | with_reducible exact Frame.refl _ _
    | ((with_reducible apply Frame.via (Block.retuneNco_frame _ _)); · rfl)
    | ((with_reducible apply Frame.via (Block.writeFields_frame _ _ _)); · rfl)

theorem Block.endAct_frame x0 x1 : Frame 513 x0 (Block.endAct x0 x1) := by
  unfold Block.endAct
  try extract_lets
  repeat' first
    | with_reducible assumption
    | with_reducible exact Frame.refl _ _
    | ((with_reducible apply Frame.via (Block.setAct_frame _ _ _)); · rfl)
    | ((with_reducible apply Frame.via (Block.dropLine_frame _ _)); · rfl)

theorem Block.noteRef_frame x0 x1 x2 : Frame 1 x0 (Block.noteRef x0 x1 x2) := by
  unfold Block.noteRef
  try extract_lets
  repeat' first
    | with_reducible assumption
    | with_reducible exact Frame.refl _ _
    | with_reducible apply Frame.ite
    | ((with_reducible apply Frame.via (Block.put_frame _ _ _)); · rfl)
    | (split <;> try extract_lets)

theorem doFineCalDone_frame x0 x1 x2 : Frame 135705 x2 (doFineCalDone x0 x1 x2) := by
  unfold doFineCalDone
  try extract_lets
  repeat' first
    | with_reducible assumption
    | with_reducible exact Frame.refl _ _
    | with_reducible apply Frame.ite
    | ((with_reducible apply Frame.via (Block.draw_frame _)); · rfl)
    | ((with_reducible apply Frame.via (Block.put_frame _ _ _)); · rfl)
    | ((with_reducible apply Frame.via (Block.noteRef_frame _ _ _)); · rfl)
    | ((with_reducible apply Frame.via (Block.noteChain_frame _ _ _)); · rfl)
    | ((with_reducible apply Frame.via (Block.putB_frame _ _ _)); · rfl)
    | ((with_reducible apply Frame.via (Block.bump_frame _ _ _)); · rfl)
    | ((with_reducible apply Frame.via (Block.endAct_frame _ _)); · rfl)
    | with_reducible exact Frame.snd (by assumption)
    | with_reducible refine Frame.pair2 (by assumption) ?_
    | with_reducible refine Frame.pair3 (by assumption) ?_
    | with_reducible refine Frame.pair4 (by assumption) ?_
    | (split <;> try extract_lets)
    | (dsimp +zetaDelta only; split <;> try extract_lets)

theorem Block.stopForCal_frame x0 x1 x2 : Frame 513 x0 (Block.stopForCal x0 x1 x2) := by
  unfold Block.stopForCal
  try extract_lets
  repeat' first
    | with_reducible assumption
    | with_reducible exact Frame.refl _ _
    | ((with_reducible apply Frame.via (Block.dropLine_frame _ _)); · rfl)
    | ((with_reducible apply Frame.via (Block.setSp_frame _ _ _)); · rfl)

theorem Block.startCal_frame x0 x1 : Frame 513 x0 (Block.startCal x0 x1) := by
  unfold Block.startCal
  try extract_lets
  repeat' first
    | with_reducible assumption
    | with_reducible exact Frame.refl _ _
    | with_reducible apply Frame.ite
    | ((with_reducible apply Frame.via (Block.stopForCal_frame _ _ _)); · rfl)
    | ((with_reducible apply Frame.via (Block.takePath_frame _ _ _)); · rfl)
    | ((with_reducible apply Frame.via (Block.setSp_frame _ _ _)); · rfl)
    | with_reducible exact Frame.snd (by assumption)
    | with_reducible refine Frame.pair2 (by assumption) ?_
    | with_reducible refine Frame.pair3 (by assumption) ?_
    | with_reducible refine Frame.pair4 (by assumption) ?_
    | (split <;> try extract_lets)
    | (dsimp +zetaDelta only; split <;> try extract_lets)

theorem Block.sampleOrWait_frame x0 x1 x2 x3 x4 : Frame 135697 x0 (Block.sampleOrWait x0 x1 x2 x3 x4) := by
  unfold Block.sampleOrWait
  try extract_lets
  repeat' first
    | with_reducible assumption
    | with_reducible exact Frame.refl _ _
    | with_reducible apply Frame.ite
    | ((with_reducible apply Frame.via (Block.beginSampling_frame _ _ _ _)); · rfl)
    | ((with_reducible apply Frame.via (Block.raise_frame _ _ _)); · rfl)
    | ((with_reducible apply Frame.via (Block.setAct_frame _ _ _)); · rfl)
    | (split <;> try extract_lets)

theorem doNcoLoad_frame x0 x1 : Frame 513 x1 (doNcoLoad x0 x1) := by
  unfold doNcoLoad
  try extract_lets
  repeat' first
    | with_reducible assumption
    | with_reducible exact Frame.refl _ _
    | with_reducible apply Frame.ite
    | ((with_reducible apply Frame.via (Block.writeNcoLoad_frame _ _)); · rfl)
    | (split <;> try extract_lets)

theorem doSwiftCalreqGo_frame x0 x1 x2 : Frame 513 x2 (doSwiftCalreqGo x0 x1 x2) := by
  unfold doSwiftCalreqGo
  try extract_lets
  repeat' first
    | with_reducible assumption
    | with_reducible exact Frame.refl _ _
    | with_reducible apply Frame.ite
    | ((with_reducible apply Frame.via (Block.writeSwiftCalreq_frame _ _ _)); · rfl)
    | (split <;> try extract_lets)

theorem Block.beginWaiting_frame x0 x1 : Frame 153105 x0 (Block.beginWaiting x0 x1) := by
  unfold Block.beginWaiting
  try extract_lets
  repeat' first
    | with_reducible assumption
    | with_reducible exact Frame.refl _ _
    | ((with_reducible apply Frame.via (doRunStart_frame _ _)); · rfl)
    | ((with_reducible apply Frame.via (Block.startCal_frame _ _)); · rfl)
    | ((with_reducible apply Frame.via (doEntryRestart_frame _ _)); · rfl)

theorem Block.beginAll_frame x0 x1 : Frame 153105 x0 (Block.beginAll x0 x1) := by
  unfold Block.beginAll
  try extract_lets
  repeat' first
    | with_reducible assumption
    | with_reducible exact Frame.refl _ _
    | (with_reducible intro _; try extract_lets)
    | with_reducible apply Frame.each
    | ((with_reducible apply Frame.via (doEntryRestart_frame _ _)); · rfl)
    | ((with_reducible apply Frame.via (Block.beginWaiting_frame _ _)); · rfl)

theorem doFineClockSwitch_frame x0 x1 : Frame 153105 x1 (doFineClockSwitch x0 x1) := by
  unfold doFineClockSwitch
  try extract_lets
  repeat' first
    | with_reducible assumption
    | with_reducible exact Frame.refl _ _
    | (with_reducible intro _; try extract_lets)
    | with_reducible apply Frame.ite
    | ((with_reducible apply Frame.via (Block.put_frame _ _ _)); · rfl)
    | ((with_reducible apply Frame.via (Block.unitWait_frame _ _)); · rfl)
    | ((with_reducible apply Frame.via (Block.updateRef_frame _ _)); · rfl)
    | ((with_reducible apply Frame.via (Block.beginAll_frame _ _)); · rfl)
    | (split <;> try extract_lets)

theorem Block.startSampling_frame x0 x1 x2 : Frame 135697 x0 (Block.startSampling x0 x1 x2) := by
  unfold Block.startSampling
  try extract_lets
  repeat' first
    | with_reducible assumption
    | with_reducible exact Frame.refl _ _
    | (with_reducible intro _; try extract_lets)
    | with_reducible apply Frame.ite
    | ((with_reducible apply Frame.via (Block.sampleOrWait_frame _ _ _ _ _)); · rfl)
    | with_reducible exact Frame.snd (by assumption)
    | with_reducible refine Frame.pair2 (by assumption) ?_
    | with_reducible refine Frame.pair3 (by assumption) ?_
    | with_reducible refine Frame.pair4 (by assumption) ?_
    | (split <;> try extract_lets)
    | (dsimp +zetaDelta only; split <;> try extract_lets)

theorem doSwiftSamplingStart_frame x0 x1 : Frame 135697 x1 (doSwiftSamplingStart x0 x1) := by
  unfold doSwiftSamplingStart
  try extract_lets
  repeat' first
    | with_reducible assumption
    | with_reducible exact Frame.refl _ _
    | ((with_reducible apply Frame.via (Block.startSampling_frame _ _ _)); · rfl)

theorem doFineQclkWrite_frame x0 x1 x2 : Frame 1 x2 (doFineQclkWrite x0 x1 x2) := by
  unfold doFineQclkWrite
  try extract_lets
  repeat' first
    | with_reducible assumption
    | with_reducible exact Frame.refl _ _
    | with_reducible apply Frame.ite
    | ((with_reducible apply Frame.via (Block.writeFineQclk_frame _ _ _)); · rfl)
    | (split <;> try extract_lets)

theorem doSwiftCalDone_frame x0 x1 x2 : Frame 135705 x2 (doSwiftCalDone x0 x1 x2) := by
  unfold doSwiftCalDone
  try extract_lets
  repeat' first
    | with_reducible assumption
    | with_reducible exact Frame.refl _ _
    | with_reducible apply Frame.ite
    | ((with_reducible apply Frame.via (Block.draw_frame _)); · rfl)
    | ((with_reducible apply Frame.via (Block.noteRef_frame _ _ _)); · rfl)
    | ((with_reducible apply Frame.via (Block.noteChain_frame _ _ _)); · rfl)
    | ((with_reducible apply Frame.via (Block.put_frame _ _ _)); · rfl)
    | ((with_reducible apply Frame.via (Block.putB_frame _ _ _)); · rfl)
    | ((with_reducible apply Frame.via (Block.bump_frame _ _ _)); · rfl)
    | ((with_reducible apply Frame.via (Block.endAct_frame _ _)); · rfl)
    | with_reducible exact Frame.snd (by assumption)
    | with_reducible refine Frame.pair2 (by assumption) ?_
    | with_reducible refine Frame.pair3 (by assumption) ?_
    | with_reducible refine Frame.pair4 (by assumption) ?_
    | (split <;> try extract_lets)
    | (dsimp +zetaDelta only; split <;> try extract_lets)

theorem doNcoFreqWrite_frame x0 x1 x2 : Frame 513 x2 (doNcoFreqWrite x0 x1 x2) := by
  unfold doNcoFreqWrite
  try extract_lets
  repeat' first
    | with_reducible assumption
    | with_reducible exact Frame.refl _ _
    | with_reducible apply Frame.ite
    | ((with_reducible apply Frame.via (Block.writeNcoFreq_frame _ _ _)); · rfl)
    | (split <;> try extract_lets)

theorem doFineCalStart_frame x0 x1 : Frame 513 x1 (doFineCalStart x0 x1) := by
  unfold doFineCalStart
  try extract_lets
  repeat' first
    | with_reducible assumption
    | with_reducible exact Frame.refl _ _
    | ((with_reducible apply Frame.via (Block.startCal_frame _ _)); · rfl)

theorem doFineCalreqGo_frame x0 x1 x2 : Frame 513 x2 (doFineCalreqGo x0 x1 x2) := by
  unfold doFineCalreqGo
  try extract_lets
  repeat' first
    | with_reducible assumption
    | with_reducible exact Frame.refl _ _
    | with_reducible apply Frame.ite
    | ((with_reducible apply Frame.via (Block.writeFineCalreq_frame _ _ _)); · rfl)
    | (split <;> try extract_lets)

theorem Block.memberEdge_frame x0 x1 x2 x3 : Frame 135697 x0 (Block.memberEdge x0 x1 x2 x3) := by
  unfold Block.memberEdge
  try extract_lets
  repeat' first
    | with_reducible assumption
    | with_reducible exact Frame.refl _ _
    | ((with_reducible apply Frame.via (Block.sampleOrWait_frame _ _ _ _ _)); · rfl)
    | ((with_reducible apply Frame.via (Block.put_frame _ _ _)); · rfl)
    | ((with_reducible apply Frame.via (Block.bump_frame _ _ _)); · rfl)
    | ((with_reducible apply Frame.via (Block.setAct_frame _ _ _)); · rfl)
    | with_reducible exact Frame.snd (by assumption)
    | with_reducible refine Frame.pair2 (by assumption) ?_
    | with_reducible refine Frame.pair3 (by assumption) ?_
    | with_reducible refine Frame.pair4 (by assumption) ?_
    | (split <;> try extract_lets)
    | (dsimp +zetaDelta only; split <;> try extract_lets)

theorem doSwiftCalStart_frame x0 x1 : Frame 513 x1 (doSwiftCalStart x0 x1) := by
  unfold doSwiftCalStart
  try extract_lets
  repeat' first
    | with_reducible assumption
    | with_reducible exact Frame.refl _ _
    | ((with_reducible apply Frame.via (Block.startCal_frame _ _)); · rfl)

theorem doFineSamplingStart_frame x0 x1 x2 : Frame 135697 x2 (doFineSamplingStart x0 x1 x2) := by
  unfold doFineSamplingStart
  try extract_lets
  repeat' first
    | with_reducible assumption
    | with_reducible exact Frame.refl _ _
    | ((with_reducible apply Frame.via (Block.startSampling_frame _ _ _)); · rfl)

theorem doGroupEdge_frame x0 x1 x2 x3 : Frame 135697 x3 (doGroupEdge x0 x1 x2 x3) := by
  unfold doGroupEdge
  try extract_lets
  repeat' first
    | with_reducible assumption
    | with_reducible exact Frame.refl _ _
    | (with_reducible intro _; try extract_lets)
    | with_reducible apply Frame.ite
    | with_reducible apply Frame.each
    | ((with_reducible apply Frame.via (Block.memberEdge_frame _ _ _ _)); · rfl)
    | with_reducible exact Frame.snd (by assumption)
    | with_reducible refine Frame.pair2 (by assumption) ?_
    | with_reducible refine Frame.pair3 (by assumption) ?_
    | with_reducible refine Frame.pair4 (by assumption) ?_
    | (split <;> try extract_lets)
    | (dsimp +zetaDelta only; split <;> try extract_lets)

end Sys2Proof.Machine
end

