-- ==== Sys2Proof/Laws/FrameSteps.lean ====
section
/-! SUPPORT. What each function of Machine/Steps.lean may change. -/

namespace Sys2Proof.Machine

theorem Block.sealDone_frame x0 x1 x2 : Frame 16401 x0 (Block.sealDone x0 x1 x2) := by
  unfold Block.sealDone
  try extract_lets
  repeat' first
    | with_reducible assumption
    | with_reducible exact Frame.refl _ _
    | ((with_reducible apply Frame.via (Block.finish_frame _ _ _ _ _ _ _)); · rfl)
    | ((with_reducible apply Frame.via (Block.finishPacket_frame _ _ _ _ _)); · rfl)
    | with_reducible exact Frame.snd (by assumption)
    | with_reducible refine Frame.pair2 (by assumption) ?_
    | with_reducible refine Frame.pair3 (by assumption) ?_
    | with_reducible refine Frame.pair4 (by assumption) ?_
    | (split <;> try extract_lets)
    | (dsimp +zetaDelta only; split <;> try extract_lets)

theorem Block.sealNow_frame x0 x1 : Frame 1025 x0 (Block.sealNow x0 x1).2 := by
  unfold Block.sealNow
  try extract_lets
  repeat' first
    | with_reducible assumption
    | with_reducible exact Frame.refl _ _
    | with_reducible apply Frame.ite
    | ((with_reducible apply Frame.via (Block.put_frame _ _ _)); · rfl)
    | ((with_reducible apply Frame.via (Block.setStep_frame _ _ _)); · rfl)
    | (split <;> try extract_lets)
    | dsimp only

theorem Block.settleSeals_frame x0 : Frame 17425 x0 (Block.settleSeals x0) := by
  unfold Block.settleSeals
  try extract_lets
  repeat' first
    | with_reducible assumption
    | with_reducible exact Frame.refl _ _
    | (with_reducible intro _; try extract_lets)
    | with_reducible apply Frame.ite
    | with_reducible apply Frame.each
    | ((with_reducible apply Frame.via (Block.sealDone_frame _ _ _)); · rfl)
    | ((with_reducible apply Frame.via (Block.setStep_frame _ _ _)); · rfl)
    | ((with_reducible apply Frame.via (Block.sealNow_frame _ _)); · rfl)
    | with_reducible exact Frame.snd (by assumption)
    | with_reducible refine Frame.pair2 (by assumption) ?_
    | with_reducible refine Frame.pair3 (by assumption) ?_
    | with_reducible refine Frame.pair4 (by assumption) ?_
    | (split <;> try extract_lets)
    | (dsimp +zetaDelta only; split <;> try extract_lets)

theorem Block.restoreEnded_frame x0 x1 : Frame 17425 x0 (Block.restoreEnded x0 x1) := by
  unfold Block.restoreEnded
  try extract_lets
  repeat' first
    | with_reducible assumption
    | with_reducible exact Frame.refl _ _
    | (with_reducible intro _; try extract_lets)
    | with_reducible apply Frame.ite
    | ((with_reducible apply Frame.via (Block.finishPacket_frame _ _ _ _ _)); · rfl)
    | ((with_reducible apply Frame.via (Block.put_frame _ _ _)); · rfl)
    | ((with_reducible apply Frame.put_sett); · rfl)
    | with_reducible exact Frame.snd (by assumption)
    | with_reducible refine Frame.pair2 (by assumption) ?_
    | with_reducible refine Frame.pair3 (by assumption) ?_
    | with_reducible refine Frame.pair4 (by assumption) ?_
    | (split <;> try extract_lets)
    | (dsimp +zetaDelta only; split <;> try extract_lets)

theorem Block.stepFault_frame x0 x1 : Frame 135185 x0 (Block.stepFault x0 x1) := by
  unfold Block.stepFault
  try extract_lets
  repeat' first
    | with_reducible assumption
    | with_reducible exact Frame.refl _ _
    | (with_reducible intro _; try extract_lets)
    | with_reducible apply Frame.each
    | with_reducible apply Frame.foldl
    | with_reducible apply Frame.foldlFst
    | with_reducible apply Frame.foldlSnd
    | ((with_reducible apply Frame.via (Block.raise_frame _ _ _)); · rfl)
    | ((with_reducible apply Frame.via (Block.put_frame _ _ _)); · rfl)
    | dsimp only

theorem Block.cancelStep_frame x0 x1 x2 : Frame 152593 x0 (Block.cancelStep x0 x1 x2) := by
  unfold Block.cancelStep
  try extract_lets
  repeat' first
    | with_reducible assumption
    | with_reducible exact Frame.refl _ _
    | (with_reducible intro _; try extract_lets)
    | with_reducible apply Frame.ite
    | ((with_reducible apply Frame.via (Block.put_frame _ _ _)); · rfl)
    | ((with_reducible apply Frame.via (Block.setStep_frame _ _ _)); · rfl)
    | ((with_reducible apply Frame.via (Block.restoreEnded_frame _ _)); · rfl)
    | ((with_reducible apply Frame.via (Block.settleSeals_frame _)); · rfl)
    | ((with_reducible apply Frame.via (Block.stepFault_frame _ _)); · rfl)
    | (split <;> try extract_lets)

theorem Block.ownerGone_frame x0 x1 : Frame 152593 x0 (Block.ownerGone x0 x1) := by
  unfold Block.ownerGone
  try extract_lets
  repeat' first
    | with_reducible assumption
    | with_reducible exact Frame.refl _ _
    | (with_reducible intro _; try extract_lets)
    | with_reducible apply Frame.ite
    | with_reducible apply Frame.each
    | ((with_reducible apply Frame.via (Block.put_frame _ _ _)); · rfl)
    | ((with_reducible apply Frame.via (Block.setStep_frame _ _ _)); · rfl)
    | ((with_reducible apply Frame.via (Block.cancelStep_frame _ _ _)); · rfl)
    | with_reducible exact Frame.snd (by assumption)
    | with_reducible refine Frame.pair2 (by assumption) ?_
    | with_reducible refine Frame.pair3 (by assumption) ?_
    | with_reducible refine Frame.pair4 (by assumption) ?_
    | (split <;> try extract_lets)
    | (dsimp +zetaDelta only; split <;> try extract_lets)

theorem Block.setRefused_frame x0 x1 x2 : Frame 1024 x0 (Block.setRefused x0 x1 x2) := by
  unfold Block.setRefused
  try extract_lets
  repeat' first
    | with_reducible assumption
    | with_reducible exact Frame.refl _ _
    | ((with_reducible apply Frame.via (Block.setHubRec_frame _ _ _)); · rfl)

theorem Block.stepPartial_frame x0 x1 : Frame 152593 x0 (Block.stepPartial x0 x1) := by
  unfold Block.stepPartial
  try extract_lets
  repeat' first
    | with_reducible assumption
    | with_reducible exact Frame.refl _ _
    | (with_reducible intro _; try extract_lets)
    | with_reducible apply Frame.each
    | ((with_reducible apply Frame.via (Block.setRefused_frame _ _ _)); · rfl)
    | ((with_reducible apply Frame.via (Block.restoreEnded_frame _ _)); · rfl)
    | ((with_reducible apply Frame.via (Block.stepFault_frame _ _)); · rfl)
    | ((with_reducible apply Frame.via (Block.put_frame _ _ _)); · rfl)

theorem Block.refuseFire_frame x0 x1 x2 : Frame 152593 x0 (Block.refuseFire x0 x1 x2) := by
  unfold Block.refuseFire
  try extract_lets
  repeat' first
    | with_reducible assumption
    | with_reducible exact Frame.refl _ _
    | with_reducible apply Frame.ite
    | ((with_reducible apply Frame.via (Block.setStep_frame _ _ _)); · rfl)
    | ((with_reducible apply Frame.via (Block.setRefused_frame _ _ _)); · rfl)
    | ((with_reducible apply Frame.via (Block.stepPartial_frame _ _)); · rfl)
    | (split <;> try extract_lets)

theorem Block.setDom_frame x0 x1 x2 : Frame 524288 x0 (Block.setDom x0 x1 x2) := by
  unfold Block.setDom
  try extract_lets
  repeat' first
    | with_reducible assumption
    | with_reducible exact Frame.refl _ _
    | (with_reducible intro _; try extract_lets)
    | ((with_reducible apply Frame.put_stock); · rfl)

theorem Block.openNow_frame x0 x1 x2 x3 : Frame 1025 x0 (Block.openNow x0 x1 x2 x3) := by
  unfold Block.openNow
  try extract_lets
  repeat' first
    | with_reducible assumption
    | with_reducible exact Frame.refl _ _
    | ((with_reducible apply Frame.via (Block.put_frame _ _ _)); · rfl)
    | ((with_reducible apply Frame.via (Block.setReg_frame _ _ _)); · rfl)
    | ((with_reducible apply Frame.via (Block.setStep_frame _ _ _)); · rfl)

theorem Block.openStep_frame x0 x1 x2 x3 x4 x5 x6 : Frame 1025 x0 (Block.openStep x0 x1 x2 x3 x4 x5 x6).2 := by
  unfold Block.openStep
  try extract_lets
  repeat' first
    | with_reducible assumption
    | with_reducible exact Frame.refl _ _
    | with_reducible apply Frame.ite
    | ((with_reducible apply Frame.via (Block.put_frame _ _ _)); · rfl)
    | ((with_reducible apply Frame.via (Block.setPair_frame _ _ _ _)); · rfl)
    | ((with_reducible apply Frame.via (Block.openNow_frame _ _ _ _)); · rfl)
    | ((with_reducible apply Frame.via (Block.setStep_frame _ _ _)); · rfl)
    | with_reducible exact Frame.snd (by assumption)
    | with_reducible refine Frame.pair2 (by assumption) ?_
    | with_reducible refine Frame.pair3 (by assumption) ?_
    | with_reducible refine Frame.pair4 (by assumption) ?_
    | (split <;> try extract_lets)
    | (dsimp +zetaDelta only; split <;> try extract_lets)
    | dsimp only

theorem Block.sealStep_frame x0 x1 x2 x3 : Frame 17425 x0 (Block.sealStep x0 x1 x2 x3) := by
  unfold Block.sealStep
  try extract_lets
  repeat' first
    | with_reducible assumption
    | with_reducible exact Frame.refl _ _
    | with_reducible apply Frame.ite
    | ((with_reducible apply Frame.via (Block.settleSeals_frame _)); · rfl)
    | ((with_reducible apply Frame.via (Block.setStep_frame _ _ _)); · rfl)
    | ((with_reducible apply Frame.via (Block.sealDone_frame _ _ _)); · rfl)
    | (split <;> try extract_lets)

theorem Block.writeStepCtl_frame x0 x1 x2 x3 : Frame 152593 x0 (Block.writeStepCtl x0 x1 x2 x3) := by
  unfold Block.writeStepCtl
  try extract_lets
  repeat' first
    | with_reducible assumption
    | with_reducible exact Frame.refl _ _
    | with_reducible apply Frame.ite
    | ((with_reducible apply Frame.via (Block.openStep_frame _ _ _ _ _ _ _)); · rfl)
    | ((with_reducible apply Frame.via (Block.put_frame _ _ _)); · rfl)
    | ((with_reducible apply Frame.via (Block.sealStep_frame _ _ _ _)); · rfl)
    | ((with_reducible apply Frame.via (Block.cancelStep_frame _ _ _)); · rfl)
    | (split <;> try extract_lets)

theorem Block.noteRestored_frame x0 x1 : Frame 524288 x0 (Block.noteRestored x0 x1) := by
  unfold Block.noteRestored
  try extract_lets
  repeat' first
    | with_reducible assumption
    | with_reducible exact Frame.refl _ _
    | (with_reducible intro _; try extract_lets)
    | with_reducible apply Frame.ite
    | ((with_reducible apply Frame.put_stock); · rfl)
    | (split <;> try extract_lets)

theorem Block.fireReported_frame x0 x1 x2 : Frame 541713 x0 (Block.fireReported x0 x1 x2) := by
  unfold Block.fireReported
  try extract_lets
  repeat' first
    | with_reducible assumption
    | with_reducible exact Frame.refl _ _
    | (with_reducible intro _; try extract_lets)
    | with_reducible apply Frame.ite
    | ((with_reducible apply Frame.via (Block.setStep_frame _ _ _)); · rfl)
    | ((with_reducible apply Frame.via (Block.noteRestored_frame _ _)); · rfl)
    | ((with_reducible apply Frame.via (Block.setRefused_frame _ _ _)); · rfl)
    | ((with_reducible apply Frame.via (Block.restoreEnded_frame _ _)); · rfl)
    | ((with_reducible apply Frame.via (Block.setPair_frame _ _ _ _)); · rfl)
    | ((with_reducible apply Frame.via (Block.put_frame _ _ _)); · rfl)
    | ((with_reducible apply Frame.put_stock); · rfl)
    | (split <;> try extract_lets)

theorem Block.armGranted_frame x0 x1 x2 : Frame 1025 x0 (Block.armGranted x0 x1 x2) := by
  unfold Block.armGranted
  try extract_lets
  repeat' first
    | with_reducible assumption
    | with_reducible exact Frame.refl _ _
    | with_reducible apply Frame.ite
    | ((with_reducible apply Frame.via (Block.put_frame _ _ _)); · rfl)
    | ((with_reducible apply Frame.via (Block.setStep_frame _ _ _)); · rfl)
    | (split <;> try extract_lets)

theorem doStepCancel_frame x0 x1 x2 x3 : Frame 152593 x3 (doStepCancel x0 x1 x2 x3) := by
  unfold doStepCancel
  try extract_lets
  repeat' first
    | with_reducible assumption
    | with_reducible exact Frame.refl _ _
    | with_reducible apply Frame.ite
    | ((with_reducible apply Frame.via (Block.writeStepCtl_frame _ _ _ _)); · rfl)
    | (split <;> try extract_lets)

theorem doStepExpire_frame x0 x1 : Frame 152593 x1 (doStepExpire x0 x1) := by
  unfold doStepExpire
  try extract_lets
  repeat' first
    | with_reducible assumption
    | with_reducible exact Frame.refl _ _
    | with_reducible apply Frame.ite
    | ((with_reducible apply Frame.via (Block.cancelStep_frame _ _ _)); · rfl)
    | (split <;> try extract_lets)

theorem Block.completeOpen_frame x0 x1 : Frame 1025 x0 (Block.completeOpen x0 x1).2 := by
  unfold Block.completeOpen
  try extract_lets
  repeat' first
    | with_reducible assumption
    | with_reducible exact Frame.refl _ _
    | with_reducible apply Frame.ite
    | ((with_reducible apply Frame.via (Block.openNow_frame _ _ _ _)); · rfl)
    | with_reducible exact Frame.snd (by assumption)
    | with_reducible refine Frame.pair2 (by assumption) ?_
    | with_reducible refine Frame.pair3 (by assumption) ?_
    | with_reducible refine Frame.pair4 (by assumption) ?_
    | (split <;> try extract_lets)
    | (dsimp +zetaDelta only; split <;> try extract_lets)
    | dsimp only

theorem doStepReportTimeout_frame x0 x1 x2 x3 : Frame 152593 x3 (doStepReportTimeout x0 x1 x2 x3) := by
  unfold doStepReportTimeout
  try extract_lets
  repeat' first
    | with_reducible assumption
    | with_reducible exact Frame.refl _ _
    | with_reducible apply Frame.ite
    | ((with_reducible apply Frame.via (Block.refuseFire_frame _ _ _)); · rfl)
    | with_reducible exact Frame.snd (by assumption)
    | with_reducible refine Frame.pair2 (by assumption) ?_
    | with_reducible refine Frame.pair3 (by assumption) ?_
    | with_reducible refine Frame.pair4 (by assumption) ?_
    | (split <;> try extract_lets)
    | (dsimp +zetaDelta only; split <;> try extract_lets)

theorem Block.creditSteps_frame x0 x1 : Frame 1024 x0 (Block.creditSteps x0 x1) := by
  unfold Block.creditSteps
  try extract_lets
  repeat' first
    | with_reducible assumption
    | with_reducible exact Frame.refl _ _
    | (with_reducible intro _; try extract_lets)
    | with_reducible apply Frame.ite
    | with_reducible apply Frame.each
    | ((with_reducible apply Frame.via (Block.setStep_frame _ _ _)); · rfl)
    | (split <;> try extract_lets)

theorem doStepSeal_frame x0 x1 x2 x3 : Frame 152593 x3 (doStepSeal x0 x1 x2 x3) := by
  unfold doStepSeal
  try extract_lets
  repeat' first
    | with_reducible assumption
    | with_reducible exact Frame.refl _ _
    | with_reducible apply Frame.ite
    | ((with_reducible apply Frame.via (Block.writeStepCtl_frame _ _ _ _)); · rfl)
    | (split <;> try extract_lets)

theorem doStepOpen_frame x0 x1 x2 x3 : Frame 152593 x3 (doStepOpen x0 x1 x2 x3) := by
  unfold doStepOpen
  try extract_lets
  repeat' first
    | with_reducible assumption
    | with_reducible exact Frame.refl _ _
    | with_reducible apply Frame.ite
    | ((with_reducible apply Frame.via (Block.writeStepCtl_frame _ _ _ _)); · rfl)
    | (split <;> try extract_lets)

end Sys2Proof.Machine
end

