-- ==== Sys2Proof/Laws/FrameSett.lean ====
section
/-! SUPPORT. What each function of Machine/Sett.lean may change. -/

namespace Sys2Proof.Machine

theorem doHubMarkerTimeout_frame x0 x1 x2 : Frame 1024 x2 (doHubMarkerTimeout x0 x1 x2) := by
  unfold doHubMarkerTimeout
  try extract_lets
  repeat' first
    | with_reducible assumption
    | with_reducible exact Frame.refl _ _
    | with_reducible apply Frame.ite
    | ((with_reducible apply Frame.via (Block.setHub_frame _ _ _)); · rfl)
    | (split <;> try extract_lets)

theorem Block.silenceTrunk_frame x0 x1 : Frame 1024 x0 (Block.silenceTrunk x0 x1) := by
  unfold Block.silenceTrunk
  try extract_lets
  repeat' first
    | with_reducible assumption
    | with_reducible exact Frame.refl _ _
    | (with_reducible intro _; try extract_lets)
    | with_reducible apply Frame.ite
    | with_reducible apply Frame.each
    | ((with_reducible apply Frame.via (Block.setTrunk_frame _ _ _)); · rfl)
    | ((with_reducible apply Frame.via (Block.setHub_frame _ _ _)); · rfl)
    | (split <;> try extract_lets)

theorem Block.restoreWritten_frame x0 x1 : Frame 135185 x0 (Block.restoreWritten x0 x1) := by
  unfold Block.restoreWritten
  try extract_lets
  repeat' first
    | with_reducible assumption
    | with_reducible exact Frame.refl _ _
    | (with_reducible intro _; try extract_lets)
    | with_reducible apply Frame.ite
    | ((with_reducible apply Frame.via (Block.raise_frame _ _ _)); · rfl)
    | ((with_reducible apply Frame.via (Block.put_frame _ _ _)); · rfl)
    | (split <;> try extract_lets)

theorem Block.endNodePacket_frame x0 x1 x2 : Frame 278545 x0 (Block.endNodePacket x0 x1 x2) := by
  unfold Block.endNodePacket
  try extract_lets
  repeat' first
    | with_reducible assumption
    | with_reducible exact Frame.refl _ _
    | with_reducible apply Frame.ite
    | ((with_reducible apply Frame.via (Block.finish_frame _ _ _ _ _ _ _)); · rfl)
    | ((with_reducible apply Frame.put_hoard); · rfl)
    | with_reducible exact Frame.snd (by assumption)
    | with_reducible refine Frame.pair2 (by assumption) ?_
    | with_reducible refine Frame.pair3 (by assumption) ?_
    | with_reducible refine Frame.pair4 (by assumption) ?_
    | (split <;> try extract_lets)
    | (dsimp +zetaDelta only; split <;> try extract_lets)

theorem Block.packetNode_frame x0 x1 x2 x3 x4 x5 : Frame 278545 x0 (Block.packetNode x0 x1 x2 x3 x4 x5) := by
  unfold Block.packetNode
  try extract_lets
  repeat' first
    | with_reducible assumption
    | with_reducible exact Frame.refl _ _
    | (with_reducible intro _; try extract_lets)
    | with_reducible apply Frame.ite
    | ((with_reducible apply Frame.via (Block.endNodePacket_frame _ _ _)); · rfl)
    | ((with_reducible apply Frame.via (Block.setRunning_frame _ _ _ _)); · rfl)
    | with_reducible exact Frame.snd (by assumption)
    | with_reducible refine Frame.pair2 (by assumption) ?_
    | with_reducible refine Frame.pair3 (by assumption) ?_
    | with_reducible refine Frame.pair4 (by assumption) ?_
    | (split <;> try extract_lets)
    | (dsimp +zetaDelta only; split <;> try extract_lets)

theorem Block.tapDone_frame x0 x1 x2 : Frame 512 x0 (Block.tapDone x0 x1 x2) := by
  unfold Block.tapDone
  try extract_lets
  repeat' first
    | with_reducible assumption
    | with_reducible exact Frame.refl _ _
    | with_reducible apply Frame.ite
    | ((with_reducible apply Frame.via (Block.setAct_frame _ _ _)); · rfl)
    | with_reducible exact Frame.snd (by assumption)
    | with_reducible refine Frame.pair2 (by assumption) ?_
    | with_reducible refine Frame.pair3 (by assumption) ?_
    | with_reducible refine Frame.pair4 (by assumption) ?_
    | (split <;> try extract_lets)
    | (dsimp +zetaDelta only; split <;> try extract_lets)

theorem Block.guardDone_frame x0 x1 x2 x3 : Frame 9217 x0 (Block.guardDone x0 x1 x2 x3) := by
  unfold Block.guardDone
  try extract_lets
  repeat' first
    | with_reducible assumption
    | with_reducible exact Frame.refl _ _
    | with_reducible apply Frame.ite
    | ((with_reducible apply Frame.via (Block.setOwlWin_frame _ _ _)); · rfl)
    | ((with_reducible apply Frame.via (Block.put_frame _ _ _)); · rfl)
    | ((with_reducible apply Frame.via (Block.setQueue_frame _ _ _ _)); · rfl)
    | (split <;> try extract_lets)

theorem Block.settDone_frame x0 x1 x2 : Frame 1024 x0 (Block.settDone x0 x1 x2) := by
  unfold Block.settDone
  try extract_lets
  repeat' first
    | with_reducible assumption
    | with_reducible exact Frame.refl _ _
    | with_reducible apply Frame.ite
    | ((with_reducible apply Frame.via (Block.setTrunk_frame _ _ _)); · rfl)
    | (split <;> try extract_lets)

theorem Block.complete_frame x0 x1 x2 x3 : Frame 423441 x0 (Block.complete x0 x1 x2 x3) := by
  unfold Block.complete
  try extract_lets
  repeat' first
    | with_reducible assumption
    | with_reducible exact Frame.refl _ _
    | ((with_reducible apply Frame.via (Block.restoreWritten_frame _ _)); · rfl)
    | ((with_reducible apply Frame.via (Block.setEngine_frame _ _ _)); · rfl)
    | ((with_reducible apply Frame.via (Block.packetNode_frame _ _ _ _ _ _)); · rfl)
    | ((with_reducible apply Frame.via (Block.tapDone_frame _ _ _)); · rfl)
    | ((with_reducible apply Frame.via (Block.guardDone_frame _ _ _ _)); · rfl)
    | ((with_reducible apply Frame.via (Block.settDone_frame _ _ _)); · rfl)
    | with_reducible exact Frame.snd (by assumption)
    | with_reducible refine Frame.pair2 (by assumption) ?_
    | with_reducible refine Frame.pair3 (by assumption) ?_
    | with_reducible refine Frame.pair4 (by assumption) ?_
    | (split <;> try extract_lets)
    | (dsimp +zetaDelta only; split <;> try extract_lets)

theorem Block.senseDone_frame x0 x1 x2 : Frame 1 x0 (Block.senseDone x0 x1 x2) := by
  unfold Block.senseDone
  try extract_lets
  repeat' first
    | with_reducible assumption
    | with_reducible exact Frame.refl _ _
    | with_reducible apply Frame.ite
    | ((with_reducible apply Frame.via (Block.put_frame _ _ _)); · rfl)
    | (split <;> try extract_lets)

theorem Block.endTag_frame x0 x1 x2 x3 : Frame 1024 x0 (Block.endTag x0 x1 x2 x3) := by
  unfold Block.endTag
  try extract_lets
  repeat' first
    | with_reducible assumption
    | with_reducible exact Frame.refl _ _
    | ((with_reducible apply Frame.via (Block.setTag_frame _ _ _ _)); · rfl)

theorem Block.abortBusy_frame x0 x1 : Frame 423441 x0 (Block.abortBusy x0 x1) := by
  unfold Block.abortBusy
  try extract_lets
  repeat' first
    | with_reducible assumption
    | with_reducible exact Frame.refl _ _
    | (with_reducible intro _; try extract_lets)
    | with_reducible apply Frame.each
    | ((with_reducible apply Frame.via (Block.complete_frame _ _ _ _)); · rfl)
    | ((with_reducible apply Frame.via (Block.senseDone_frame _ _ _)); · rfl)
    | ((with_reducible apply Frame.via (Block.endTag_frame _ _ _ _)); · rfl)
    | with_reducible exact Frame.snd (by assumption)
    | with_reducible refine Frame.pair2 (by assumption) ?_
    | with_reducible refine Frame.pair3 (by assumption) ?_
    | with_reducible refine Frame.pair4 (by assumption) ?_
    | (split <;> try extract_lets)
    | (dsimp +zetaDelta only; split <;> try extract_lets)

theorem Block.refusedNode_frame x0 x1 : Frame 135185 x0 (Block.refusedNode x0 x1) := by
  unfold Block.refusedNode
  try extract_lets
  repeat' first
    | with_reducible assumption
    | with_reducible exact Frame.refl _ _
    | with_reducible apply Frame.ite
    | ((with_reducible apply Frame.via (Block.raise_frame _ _ _)); · rfl)
    | ((with_reducible apply Frame.via (Block.bump_frame _ _ _)); · rfl)
    | (split <;> try extract_lets)

theorem Block.completeUnsent_frame x0 x1 x2 : Frame 423441 x0 (Block.completeUnsent x0 x1 x2) := by
  unfold Block.completeUnsent
  try extract_lets
  repeat' first
    | with_reducible assumption
    | with_reducible exact Frame.refl _ _
    | with_reducible apply Frame.ite
    | ((with_reducible apply Frame.via (Block.refusedNode_frame _ _)); · rfl)
    | ((with_reducible apply Frame.via (Block.settleSeals_frame _)); · rfl)
    | ((with_reducible apply Frame.via (Block.complete_frame _ _ _ _)); · rfl)
    | ((with_reducible apply Frame.via (Block.senseDone_frame _ _ _)); · rfl)
    | (split <;> try extract_lets)

theorem Block.settleHeads_frame x0 x1 x2 x3 : Frame 425489 x1 (Block.settleHeads x0 x1 x2 x3) := by
  induction x0 generalizing x1 x2 x3 with
  | zero =>
    unfold Block.settleHeads
    try extract_lets
    repeat' first
      | with_reducible assumption
      | with_reducible exact Frame.refl _ _
      | ((with_reducible apply Frame.via (Block.completeUnsent_frame _ _ _)); · rfl)
      | ((with_reducible apply Frame.via (Block.endBurst_frame _ _ _)); · rfl)
      | ((with_reducible apply Frame.via (Block.setQueue_frame _ _ _ _)); · rfl)
      | with_reducible exact Frame.snd (by assumption)
      | with_reducible refine Frame.pair2 (by assumption) ?_
      | with_reducible refine Frame.pair3 (by assumption) ?_
      | with_reducible refine Frame.pair4 (by assumption) ?_
      | (split <;> try extract_lets)
      | (dsimp +zetaDelta only; split <;> try extract_lets)
  | succ n ih =>
    unfold Block.settleHeads
    try extract_lets
    repeat' first
      | ((with_reducible apply Frame.via (ih _ _ _)); · rfl)
      | with_reducible assumption
      | with_reducible exact Frame.refl _ _
      | ((with_reducible apply Frame.via (Block.completeUnsent_frame _ _ _)); · rfl)
      | ((with_reducible apply Frame.via (Block.endBurst_frame _ _ _)); · rfl)
      | ((with_reducible apply Frame.via (Block.setQueue_frame _ _ _ _)); · rfl)
      | with_reducible exact Frame.snd (by assumption)
      | with_reducible refine Frame.pair2 (by assumption) ?_
      | with_reducible refine Frame.pair3 (by assumption) ?_
      | with_reducible refine Frame.pair4 (by assumption) ?_
      | (split <;> try extract_lets)
      | (dsimp +zetaDelta only; split <;> try extract_lets)


theorem Block.settleTrunk_frame x0 x1 : Frame 425489 x0 (Block.settleTrunk x0 x1) := by
  unfold Block.settleTrunk
  try extract_lets
  repeat' first
    | with_reducible assumption
    | with_reducible exact Frame.refl _ _
    | (with_reducible intro _; try extract_lets)
    | with_reducible apply Frame.each
    | ((with_reducible apply Frame.via (Block.settleHeads_frame _ _ _ _)); · rfl)

theorem Block.showDie_frame x0 x1 : Frame 1 x0 (Block.showDie x0 x1) := by
  unfold Block.showDie
  try extract_lets
  repeat' first
    | with_reducible assumption
    | with_reducible exact Frame.refl _ _
    | (with_reducible intro _; try extract_lets)
    | ((with_reducible apply Frame.via (Block.setBit_frame _ _ _ _)); · rfl)

theorem Block.enterHub_frame x0 x1 x2 : Frame 425489 x0 (Block.enterHub x0 x1 x2) := by
  unfold Block.enterHub
  try extract_lets
  repeat' first
    | with_reducible assumption
    | with_reducible exact Frame.refl _ _
    | (with_reducible intro _; try extract_lets)
    | ((with_reducible apply Frame.via (Block.setHubRec_frame _ _ _)); · rfl)
    | ((with_reducible apply Frame.via (Block.setBit_frame _ _ _ _)); · rfl)
    | ((with_reducible apply Frame.via (Block.putB_frame _ _ _)); · rfl)
    | ((with_reducible apply Frame.via (Block.settleTrunk_frame _ _)); · rfl)
    | ((with_reducible apply Frame.via (Block.showDie_frame _ _)); · rfl)

theorem Block.stopTrunk_frame x0 x1 : Frame 425489 x0 (Block.stopTrunk x0 x1) := by
  unfold Block.stopTrunk
  try extract_lets
  repeat' first
    | with_reducible assumption
    | with_reducible exact Frame.refl _ _
    | (with_reducible intro _; try extract_lets)
    | with_reducible apply Frame.ite
    | with_reducible apply Frame.each
    | ((with_reducible apply Frame.via (Block.setBit_frame _ _ _ _)); · rfl)
    | ((with_reducible apply Frame.via (Block.put_frame _ _ _)); · rfl)
    | ((with_reducible apply Frame.via (Block.silenceTrunk_frame _ _)); · rfl)
    | ((with_reducible apply Frame.via (Block.setStep_frame _ _ _)); · rfl)
    | ((with_reducible apply Frame.via (Block.cancelStep_frame _ _ _)); · rfl)
    | ((with_reducible apply Frame.via (Block.refuseFire_frame _ _ _)); · rfl)
    | ((with_reducible apply Frame.via (Block.abortBusy_frame _ _)); · rfl)
    | ((with_reducible apply Frame.via (Block.enterHub_frame _ _ _)); · rfl)
    | ((with_reducible apply Frame.via (Block.setHubRec_frame _ _ _)); · rfl)
    | with_reducible exact Frame.snd (by assumption)
    | with_reducible refine Frame.pair2 (by assumption) ?_
    | with_reducible refine Frame.pair3 (by assumption) ?_
    | with_reducible refine Frame.pair4 (by assumption) ?_
    | (split <;> try extract_lets)
    | (dsimp +zetaDelta only; split <;> try extract_lets)

theorem Block.startTrunk_frame x0 x1 : Frame 3073 x0 (Block.startTrunk x0 x1) := by
  unfold Block.startTrunk
  try extract_lets
  repeat' first
    | with_reducible assumption
    | with_reducible exact Frame.refl _ _
    | with_reducible apply Frame.ite
    | ((with_reducible apply Frame.via (Block.setTrunk_frame _ _ _)); · rfl)
    | ((with_reducible apply Frame.via (Block.put_frame _ _ _)); · rfl)
    | ((with_reducible apply Frame.via (Block.setBit_frame _ _ _ _)); · rfl)
    | ((with_reducible apply Frame.put_whorl); · rfl)
    | (split <;> try extract_lets)

theorem Block.atNode_frame {m : Nat} {s0 : Block} (x0 : Block) (x1 : Nat) (x2 : Nat) (x3 : Nat) (x4 : Nat) (x5 : Nat) (x6 : Block → Block) (hm : subMask 1024 m = true) (h6 : (∀ t, Frame m s0 t → Frame m s0 (x6 t))) (h : Frame m s0 x0) : Frame m s0 (Block.atNode x0 x1 x2 x3 x4 x5 x6) := by
  unfold Block.atNode
  try extract_lets
  repeat' first
    | with_reducible assumption
    | with_reducible apply Frame.ite
    | refine Frame.via (Block.setHub_frame _ _ _) (sub_trans rfl hm) ?_
    | with_reducible apply h6
    | (split <;> try extract_lets)

theorem Block.hubWrite_frame x0 x1 x2 x3 x4 x5 : Frame 1024 x0 (Block.hubWrite x0 x1 x2 x3 x4 x5) := by
  unfold Block.hubWrite
  try extract_lets
  repeat' first
    | with_reducible assumption
    | with_reducible exact Frame.refl _ _
    | (with_reducible intro _; try extract_lets)
    | with_reducible apply Frame.ite
    | ((with_reducible apply Block.atNode_frame); · rfl)
    | ((with_reducible apply Frame.via (Block.setShadow_frame _ _ _)); · rfl)
    | ((with_reducible apply Frame.via (Block.setHub_frame _ _ _)); · rfl)
    | (split <;> try extract_lets)

theorem Block.hubIncr_frame x0 x1 x2 x3 x4 x5 : Frame 1024 x0 (Block.hubIncr x0 x1 x2 x3 x4 x5) := by
  unfold Block.hubIncr
  try extract_lets
  repeat' first
    | with_reducible assumption
    | with_reducible exact Frame.refl _ _
    | (with_reducible intro _; try extract_lets)
    | ((with_reducible apply Block.atNode_frame); · rfl)
    | ((with_reducible apply Frame.via (Block.setShadow_frame _ _ _)); · rfl)

theorem Block.hubRead_frame x0 x1 x2 x3 x4 x5 x6 : Frame 1024 x0 (Block.hubRead x0 x1 x2 x3 x4 x5 x6) := by
  unfold Block.hubRead
  try extract_lets
  repeat' first
    | with_reducible assumption
    | with_reducible exact Frame.refl _ _
    | (with_reducible intro _; try extract_lets)
    | with_reducible apply Frame.ite
    | ((with_reducible apply Block.atNode_frame); · rfl)
    | ((with_reducible apply Frame.via (Block.setHub_frame _ _ _)); · rfl)
    | (split <;> try extract_lets)

theorem Block.copyAll_frame x0 x1 : Frame 1024 x0 (Block.copyAll x0 x1) := by
  unfold Block.copyAll
  try extract_lets
  repeat' first
    | with_reducible assumption
    | with_reducible exact Frame.refl _ _
    | ((with_reducible apply Frame.put_sett); · rfl)

theorem Block.hubCopy_frame x0 x1 x2 x3 x4 x5 : Frame 1024 x0 (Block.hubCopy x0 x1 x2 x3 x4 x5) := by
  unfold Block.hubCopy
  try extract_lets
  repeat' first
    | with_reducible assumption
    | with_reducible exact Frame.refl _ _
    | (with_reducible intro _; try extract_lets)
    | with_reducible apply Frame.ite
    | ((with_reducible apply Frame.via (Block.setHub_frame _ _ _)); · rfl)
    | ((with_reducible apply Frame.via (Block.copyAll_frame _ _)); · rfl)
    | ((with_reducible apply Block.atNode_frame); · rfl)
    | ((with_reducible apply Frame.via (Block.setShadow_frame _ _ _)); · rfl)
    | (split <;> try extract_lets)

theorem Block.onHub_frame x0 x1 x2 : Frame 1024 x0 (Block.onHub x0 x1 x2) := by
  unfold Block.onHub
  try extract_lets
  repeat' first
    | with_reducible assumption
    | with_reducible exact Frame.refl _ _
    | with_reducible apply Frame.ite
    | ((with_reducible apply Frame.via (Block.setHub_frame _ _ _)); · rfl)
    | (split <;> try extract_lets)

theorem Block.hubArm_frame x0 x1 x2 x3 x4 : Frame 1024 x0 (Block.hubArm x0 x1 x2 x3 x4) := by
  unfold Block.hubArm
  try extract_lets
  repeat' first
    | with_reducible assumption
    | with_reducible exact Frame.refl _ _
    | (with_reducible intro _; try extract_lets)
    | ((with_reducible apply Frame.via (Block.onHub_frame _ _ _)); · rfl)

theorem Block.hubNodeFire_frame x0 x1 x2 x3 x4 : Frame 1024 x0 (Block.hubNodeFire x0 x1 x2 x3 x4) := by
  unfold Block.hubNodeFire
  try extract_lets
  repeat' first
    | with_reducible assumption
    | with_reducible exact Frame.refl _ _
    | (with_reducible intro _; try extract_lets)
    | ((with_reducible apply Block.atNode_frame); · rfl)
    | ((with_reducible apply Frame.via (Block.setActive_frame _ _ _)); · rfl)

theorem Block.openTaps_frame x0 x1 x2 : Frame 1024 x0 (Block.openTaps x0 x1 x2) := by
  unfold Block.openTaps
  try extract_lets
  repeat' first
    | with_reducible assumption
    | with_reducible exact Frame.refl _ _
    | (with_reducible intro _; try extract_lets)
    | with_reducible apply Frame.ite
    | with_reducible apply Frame.each
    | ((with_reducible apply Frame.via (Block.setHub_frame _ _ _)); · rfl)
    | (split <;> try extract_lets)

theorem Block.hubSense_frame x0 x1 x2 x3 x4 x5 x6 : Frame 1024 x0 (Block.hubSense x0 x1 x2 x3 x4 x5 x6) := by
  unfold Block.hubSense
  try extract_lets
  repeat' first
    | with_reducible assumption
    | with_reducible exact Frame.refl _ _
    | (with_reducible intro _; try extract_lets)
    | with_reducible apply Frame.ite
    | ((with_reducible apply Frame.via (Block.openTaps_frame _ _ _)); · rfl)
    | ((with_reducible apply Block.atNode_frame); · rfl)
    | ((with_reducible apply Frame.via (Block.setHub_frame _ _ _)); · rfl)
    | (split <;> try extract_lets)

theorem Block.hubStatus_frame x0 x1 x2 x3 x4 x5 : Frame 1024 x0 (Block.hubStatus x0 x1 x2 x3 x4 x5) := by
  unfold Block.hubStatus
  try extract_lets
  repeat' first
    | with_reducible assumption
    | with_reducible exact Frame.refl _ _
    | (with_reducible intro _; try extract_lets)
    | ((with_reducible apply Frame.via (Block.onHub_frame _ _ _)); · rfl)

theorem Block.hubSilence_frame x0 x1 x2 x3 : Frame 1024 x0 (Block.hubSilence x0 x1 x2 x3) := by
  unfold Block.hubSilence
  try extract_lets
  repeat' first
    | with_reducible assumption
    | with_reducible exact Frame.refl _ _
    | (with_reducible intro _; try extract_lets)
    | with_reducible apply Frame.ite
    | ((with_reducible apply Frame.via (Block.onHub_frame _ _ _)); · rfl)
    | (split <;> try extract_lets)

theorem Block.hubTrain_frame x0 x1 x2 x3 x4 x5 x6 : Frame 1024 x0 (Block.hubTrain x0 x1 x2 x3 x4 x5 x6) := by
  unfold Block.hubTrain
  try extract_lets
  repeat' first
    | with_reducible assumption
    | with_reducible exact Frame.refl _ _
    | (with_reducible intro _; try extract_lets)
    | ((with_reducible apply Frame.via (Block.onHub_frame _ _ _)); · rfl)
    | with_reducible exact Frame.snd (by assumption)
    | with_reducible refine Frame.pair2 (by assumption) ?_
    | with_reducible refine Frame.pair3 (by assumption) ?_
    | with_reducible refine Frame.pair4 (by assumption) ?_
    | (split <;> try extract_lets)
    | (dsimp +zetaDelta only; split <;> try extract_lets)

theorem Block.hubPerforms_frame x0 x1 x2 x3 : Frame 1024 x0 (Block.hubPerforms x0 x1 x2 x3) := by
  unfold Block.hubPerforms
  try extract_lets
  repeat' first
    | with_reducible assumption
    | with_reducible exact Frame.refl _ _
    | ((with_reducible apply Frame.via (Block.hubWrite_frame _ _ _ _ _ _)); · rfl)
    | ((with_reducible apply Frame.via (Block.hubIncr_frame _ _ _ _ _ _)); · rfl)
    | ((with_reducible apply Frame.via (Block.hubRead_frame _ _ _ _ _ _ _)); · rfl)
    | ((with_reducible apply Frame.via (Block.hubCopy_frame _ _ _ _ _ _)); · rfl)
    | ((with_reducible apply Frame.via (Block.hubArm_frame _ _ _ _ _)); · rfl)
    | ((with_reducible apply Frame.via (Block.hubNodeFire_frame _ _ _ _ _)); · rfl)
    | ((with_reducible apply Frame.via (Block.hubSense_frame _ _ _ _ _ _ _)); · rfl)
    | ((with_reducible apply Frame.via (Block.openTaps_frame _ _ _)); · rfl)
    | ((with_reducible apply Frame.via (Block.hubStatus_frame _ _ _ _ _ _)); · rfl)
    | ((with_reducible apply Frame.via (Block.hubSilence_frame _ _ _ _)); · rfl)
    | ((with_reducible apply Frame.via (Block.hubTrain_frame _ _ _ _ _ _ _)); · rfl)
    | with_reducible exact Frame.snd (by assumption)
    | with_reducible refine Frame.pair2 (by assumption) ?_
    | with_reducible refine Frame.pair3 (by assumption) ?_
    | with_reducible refine Frame.pair4 (by assumption) ?_
    | (split <;> try extract_lets)
    | (dsimp +zetaDelta only; split <;> try extract_lets)

theorem Block.hubsTake_frame x0 x1 x2 : Frame 1024 x0 (Block.hubsTake x0 x1 x2) := by
  unfold Block.hubsTake
  try extract_lets
  repeat' first
    | with_reducible assumption
    | with_reducible exact Frame.refl _ _
    | ((with_reducible apply Frame.via (Block.hubPerforms_frame _ _ _ _)); · rfl)
    | ((with_reducible apply Frame.via (Block.setTrunk_frame _ _ _)); · rfl)
    | with_reducible exact Frame.snd (by assumption)
    | with_reducible refine Frame.pair2 (by assumption) ?_
    | with_reducible refine Frame.pair3 (by assumption) ?_
    | with_reducible refine Frame.pair4 (by assumption) ?_
    | (split <;> try extract_lets)
    | (dsimp +zetaDelta only; split <;> try extract_lets)

theorem doWriteShadowIncr_frame x0 x1 x2 x3 x4 : Frame 1024 x4 (doWriteShadowIncr x0 x1 x2 x3 x4) := by
  unfold doWriteShadowIncr
  try extract_lets
  repeat' first
    | with_reducible assumption
    | with_reducible exact Frame.refl _ _
    | ((with_reducible apply Frame.via (Block.hubsTake_frame _ _ _)); · rfl)

theorem doHubStatus_frame x0 x1 x2 x3 x4 : Frame 1024 x4 (doHubStatus x0 x1 x2 x3 x4) := by
  unfold doHubStatus
  try extract_lets
  repeat' first
    | with_reducible assumption
    | with_reducible exact Frame.refl _ _
    | ((with_reducible apply Frame.via (Block.hubsTake_frame _ _ _)); · rfl)

theorem Block.submit_frame x0 x1 : Frame 425489 x0 (Block.submit x0 x1) := by
  unfold Block.submit
  try extract_lets
  repeat' first
    | with_reducible assumption
    | with_reducible exact Frame.refl _ _
    | with_reducible apply Frame.ite
    | ((with_reducible apply Frame.via (Block.completeUnsent_frame _ _ _)); · rfl)
    | ((with_reducible apply Frame.via (Block.pushTxn_frame _ _)); · rfl)
    | ((with_reducible apply Frame.via (Block.settleHeads_frame _ _ _ _)); · rfl)
    | (split <;> try extract_lets)

theorem Block.writeSettCtl_frame x0 x1 : Frame 425489 x0 (Block.writeSettCtl x0 x1) := by
  unfold Block.writeSettCtl
  try extract_lets
  repeat' first
    | with_reducible assumption
    | with_reducible exact Frame.refl _ _
    | (with_reducible intro _; try extract_lets)
    | with_reducible apply Frame.ite
    | with_reducible apply Frame.each
    | ((with_reducible apply Frame.via (Block.writeFields_frame _ _ _)); · rfl)
    | ((with_reducible apply Frame.via (Block.startTrunk_frame _ _)); · rfl)
    | ((with_reducible apply Frame.via (Block.stopTrunk_frame _ _)); · rfl)
    | (split <;> try extract_lets)

theorem Block.kindIgnored_frame x0 : Frame 1 x0 (Block.kindIgnored x0) := by
  unfold Block.kindIgnored
  try extract_lets
  repeat' first
    | with_reducible assumption
    | with_reducible exact Frame.refl _ _
    | ((with_reducible apply Frame.via (Block.put_frame _ _ _)); · rfl)

theorem Block.writeKind_frame x0 x1 x2 x3 : Frame 1025 x0 (Block.writeKind x0 x1 x2 x3) := by
  unfold Block.writeKind
  try extract_lets
  repeat' first
    | with_reducible assumption
    | with_reducible exact Frame.refl _ _
    | (with_reducible intro _; try extract_lets)
    | with_reducible apply Frame.ite
    | ((with_reducible apply Frame.via (Block.kindIgnored_frame _)); · rfl)
    | ((with_reducible apply Frame.put_sett); · rfl)
    | (split <;> try extract_lets)

theorem Block.advanceKmap_frame x0 x1 : Frame 1 x0 (Block.advanceKmap x0 x1) := by
  unfold Block.advanceKmap
  try extract_lets
  repeat' first
    | with_reducible assumption
    | with_reducible exact Frame.refl _ _
    | ((with_reducible apply Frame.via (Block.put_frame _ _ _)); · rfl)

theorem Block.writeKmap_frame x0 x1 x2 : Frame 1025 x0 (Block.writeKmap x0 x1 x2) := by
  unfold Block.writeKmap
  try extract_lets
  repeat' first
    | with_reducible assumption
    | with_reducible exact Frame.refl _ _
    | (with_reducible intro _; try extract_lets)
    | with_reducible apply Frame.ite
    | ((with_reducible apply Frame.via (Block.kindIgnored_frame _)); · rfl)
    | ((with_reducible apply Frame.via (Block.advanceKmap_frame _ _)); · rfl)
    | ((with_reducible apply Frame.put_sett); · rfl)
    | (split <;> try extract_lets)

theorem Block.setOwn_frame x0 x1 x2 x3 : Frame 1024 x0 (Block.setOwn x0 x1 x2 x3) := by
  unfold Block.setOwn
  try extract_lets
  repeat' first
    | with_reducible assumption
    | with_reducible exact Frame.refl _ _
    | (with_reducible intro _; try extract_lets)
    | ((with_reducible apply Frame.via (Block.setTrunk_frame _ _ _)); · rfl)

theorem Block.releaseHub_frame x0 x1 : Frame 425489 x0 (Block.releaseHub x0 x1) := by
  unfold Block.releaseHub
  try extract_lets
  repeat' first
    | with_reducible assumption
    | with_reducible exact Frame.refl _ _
    | ((with_reducible apply Frame.via (Block.setHubRec_frame _ _ _)); · rfl)
    | ((with_reducible apply Frame.via (Block.setOwn_frame _ _ _ _)); · rfl)
    | ((with_reducible apply Frame.via (Block.enterHub_frame _ _ _)); · rfl)

theorem Block.trainHub_frame x0 x1 : Frame 425489 x0 (Block.trainHub x0 x1) := by
  unfold Block.trainHub
  try extract_lets
  repeat' first
    | with_reducible assumption
    | with_reducible exact Frame.refl _ _
    | ((with_reducible apply Frame.via (Block.enterHub_frame _ _ _)); · rfl)
    | ((with_reducible apply Frame.via (Block.setOwn_frame _ _ _ _)); · rfl)

theorem Block.quarantine_frame x0 x1 : Frame 425489 x0 (Block.quarantine x0 x1) := by
  unfold Block.quarantine
  try extract_lets
  repeat' first
    | with_reducible assumption
    | with_reducible exact Frame.refl _ _
    | ((with_reducible apply Frame.via (Block.enterHub_frame _ _ _)); · rfl)
    | ((with_reducible apply Frame.via (Block.setOwn_frame _ _ _ _)); · rfl)
    | ((with_reducible apply Frame.via (Block.put_frame _ _ _)); · rfl)
    | ((with_reducible apply Frame.via (Block.setHubRec_frame _ _ _)); · rfl)
    | ((with_reducible apply Frame.via (Block.raise_frame _ _ _)); · rfl)

theorem Block.writeHubCmd_frame x0 x1 x2 : Frame 425489 x0 (Block.writeHubCmd x0 x1 x2) := by
  unfold Block.writeHubCmd
  try extract_lets
  repeat' first
    | with_reducible assumption
    | with_reducible exact Frame.refl _ _
    | with_reducible apply Frame.ite
    | ((with_reducible apply Frame.via (Block.releaseHub_frame _ _)); · rfl)
    | ((with_reducible apply Frame.via (Block.trainHub_frame _ _)); · rfl)
    | ((with_reducible apply Frame.via (Block.quarantine_frame _ _)); · rfl)
    | with_reducible exact Frame.snd (by assumption)
    | with_reducible refine Frame.pair2 (by assumption) ?_
    | with_reducible refine Frame.pair3 (by assumption) ?_
    | with_reducible refine Frame.pair4 (by assumption) ?_
    | (split <;> try extract_lets)
    | (dsimp +zetaDelta only; split <;> try extract_lets)

theorem Block.idleReport_frame x0 x1 x2 : Frame 676881 x0 (Block.idleReport x0 x1 x2) := by
  unfold Block.idleReport
  try extract_lets
  repeat' first
    | with_reducible assumption
    | with_reducible exact Frame.refl _ _
    | (with_reducible intro _; try extract_lets)
    | with_reducible apply Frame.ite
    | with_reducible apply Frame.each
    | ((with_reducible apply Frame.via (Block.setHubRec_frame _ _ _)); · rfl)
    | ((with_reducible apply Frame.via (Block.bump_frame _ _ _)); · rfl)
    | ((with_reducible apply Frame.via (Block.raise_frame _ _ _)); · rfl)
    | ((with_reducible apply Frame.via (Block.put_frame _ _ _)); · rfl)
    | ((with_reducible apply Frame.via (Block.fireReported_frame _ _ _)); · rfl)
    | ((with_reducible apply Frame.via (Block.refuseFire_frame _ _ _)); · rfl)
    | ((with_reducible apply Frame.via (Block.cancelStep_frame _ _ _)); · rfl)
    | (split <;> try extract_lets)

theorem doStepFire_frame x0 x1 x2 x3 : Frame 1024 x3 (doStepFire x0 x1 x2 x3) := by
  unfold doStepFire
  try extract_lets
  repeat' first
    | with_reducible assumption
    | with_reducible exact Frame.refl _ _
    | ((with_reducible apply Frame.via (Block.hubsTake_frame _ _ _)); · rfl)

theorem doHubQuarantine_frame x0 x1 : Frame 425489 x1 (doHubQuarantine x0 x1) := by
  unfold doHubQuarantine
  try extract_lets
  repeat' first
    | with_reducible assumption
    | with_reducible exact Frame.refl _ _
    | with_reducible apply Frame.ite
    | ((with_reducible apply Frame.via (Block.writeHubCmd_frame _ _ _)); · rfl)
    | (split <;> try extract_lets)

theorem doTrkEnWrite_frame x0 x1 : Frame 425489 x1 (doTrkEnWrite x0 x1) := by
  unfold doTrkEnWrite
  try extract_lets
  repeat' first
    | with_reducible assumption
    | with_reducible exact Frame.refl _ _
    | with_reducible apply Frame.ite
    | ((with_reducible apply Frame.via (Block.writeSettCtl_frame _ _)); · rfl)
    | (split <;> try extract_lets)

theorem Block.passOver_frame x0 x1 x2 : Frame 1025 x0 (Block.passOver x0 x1 x2) := by
  unfold Block.passOver
  try extract_lets
  repeat' first
    | with_reducible assumption
    | with_reducible exact Frame.refl _ _
    | ((with_reducible apply Frame.via (Block.put_frame _ _ _)); · rfl)
    | ((with_reducible apply Frame.via (Block.setStep_frame _ _ _)); · rfl)

theorem doStepArm_frame x0 x1 x2 x3 x4 : Frame 1024 x4 (doStepArm x0 x1 x2 x3 x4) := by
  unfold doStepArm
  try extract_lets
  repeat' first
    | with_reducible assumption
    | with_reducible exact Frame.refl _ _
    | ((with_reducible apply Frame.via (Block.hubsTake_frame _ _ _)); · rfl)

theorem Block.commitStep_frame (m6 : Nat) (a : Block × List (Nat × Nat)) (i : Nat) :
    Frame 1025 a.1 (Block.commitStep m6 a i).1 := by
  obtain ⟨s, res⟩ := a
  unfold Block.commitStep
  dsimp only
  repeat' first
    | with_reducible assumption
    | with_reducible exact Frame.refl _ _
    | (with_reducible intro _; try extract_lets)
    | with_reducible apply Frame.ite
    | ((with_reducible apply Frame.via (Block.setStep_frame _ _ _)); · rfl)
    | ((with_reducible apply Frame.via (Block.passOver_frame _ _ _)); · rfl)
    | with_reducible exact Frame.snd (by assumption)
    | (split <;> try extract_lets)
    | (dsimp +zetaDelta only; split <;> try extract_lets)

theorem Block.sendMarker_frame x0 x1 x2 x3 : Frame 1024 x0 (Block.sendMarker x0 x1 x2 x3) := by
  unfold Block.sendMarker
  try extract_lets
  repeat' first
    | with_reducible assumption
    | with_reducible exact Frame.refl _ _
    | ((with_reducible apply Frame.via (Block.setTrunk_frame _ _ _)); · rfl)

theorem Block.formMarker_frame x0 x1 x2 : Frame 1024 x0 (Block.formMarker x0 x1 x2) := by
  unfold Block.formMarker
  try extract_lets
  repeat' first
    | with_reducible assumption
    | with_reducible exact Frame.refl _ _
    | (with_reducible intro _; try extract_lets)
    | with_reducible apply Frame.ite
    | ((with_reducible apply Frame.via (Block.setStep_frame _ _ _)); · rfl)
    | ((with_reducible apply Frame.via (Block.sendMarker_frame _ _ _ _)); · rfl)
    | with_reducible exact Frame.snd (by assumption)
    | with_reducible refine Frame.pair2 (by assumption) ?_
    | with_reducible refine Frame.pair3 (by assumption) ?_
    | with_reducible refine Frame.pair4 (by assumption) ?_
    | (split <;> try extract_lets)
    | (dsimp +zetaDelta only; split <;> try extract_lets)

theorem doMarkerForm_frame x0 x1 : Frame 1025 x1 (doMarkerForm x0 x1) := by
  unfold doMarkerForm
  extract_lets m6
  with_reducible apply Frame.each (fun _ _ h => Frame.via (Block.formMarker_frame _ _ _) rfl h)
  with_reducible apply Frame.foldlFst
  · exact fun a x h => Frame.via (Block.commitStep_frame m6 a x) rfl h
  · exact Frame.refl _ _

theorem Block.readKmap_frame x0 x1 : Frame 1 x0 (Block.readKmap x0 x1).2 := by
  unfold Block.readKmap
  try extract_lets
  repeat' first
    | with_reducible assumption
    | with_reducible exact Frame.refl _ _
    | with_reducible apply Frame.ite
    | ((with_reducible apply Frame.via (Block.advanceKmap_frame _ _)); · rfl)
    | (split <;> try extract_lets)
    | dsimp only

theorem doKmapDataAccess_frame x0 x1 x2 : Frame 1025 x2 (doKmapDataAccess x0 x1 x2) := by
  unfold doKmapDataAccess
  try extract_lets
  repeat' first
    | with_reducible assumption
    | with_reducible exact Frame.refl _ _
    | with_reducible apply Frame.ite
    | ((with_reducible apply Frame.via (Block.writeKmap_frame _ _ _)); · rfl)
    | ((with_reducible apply Frame.via (Block.readKmap_frame _ _)); · rfl)
    | with_reducible exact Frame.snd (by assumption)
    | with_reducible refine Frame.pair2 (by assumption) ?_
    | with_reducible refine Frame.pair3 (by assumption) ?_
    | with_reducible refine Frame.pair4 (by assumption) ?_
    | (split <;> try extract_lets)
    | (dsimp +zetaDelta only; split <;> try extract_lets)

theorem Block.loseHub_frame x0 x1 : Frame 425489 x0 (Block.loseHub x0 x1) := by
  unfold Block.loseHub
  try extract_lets
  repeat' first
    | with_reducible assumption
    | with_reducible exact Frame.refl _ _
    | (with_reducible intro _; try extract_lets)
    | with_reducible apply Frame.ite
    | with_reducible apply Frame.each
    | ((with_reducible apply Frame.via (Block.put_frame _ _ _)); · rfl)
    | ((with_reducible apply Frame.via (Block.enterHub_frame _ _ _)); · rfl)
    | ((with_reducible apply Frame.via (Block.setOwn_frame _ _ _ _)); · rfl)
    | ((with_reducible apply Frame.via (Block.raise_frame _ _ _)); · rfl)
    | ((with_reducible apply Frame.via (Block.refuseFire_frame _ _ _)); · rfl)
    | ((with_reducible apply Frame.via (Block.cancelStep_frame _ _ _)); · rfl)
    | (split <;> try extract_lets)

theorem Block.missSlot_frame x0 x1 : Frame 425489 x0 (Block.missSlot x0 x1) := by
  unfold Block.missSlot
  try extract_lets
  repeat' first
    | with_reducible assumption
    | with_reducible exact Frame.refl _ _
    | with_reducible apply Frame.ite
    | ((with_reducible apply Frame.via (Block.loseHub_frame _ _)); · rfl)
    | ((with_reducible apply Frame.via (Block.setHubRec_frame _ _ _)); · rfl)
    | (split <;> try extract_lets)

theorem Block.noSlot_frame x0 x1 : Frame 425489 x0 (Block.noSlot x0 x1) := by
  unfold Block.noSlot
  try extract_lets
  repeat' first
    | with_reducible assumption
    | with_reducible exact Frame.refl _ _
    | with_reducible apply Frame.ite
    | ((with_reducible apply Frame.via (Block.missSlot_frame _ _)); · rfl)
    | ((with_reducible apply Frame.via (Block.setHubRec_frame _ _ _)); · rfl)
    | (split <;> try extract_lets)

theorem Block.countSlot_frame x0 x1 : Frame 1024 x0 (Block.countSlot x0 x1) := by
  unfold Block.countSlot
  try extract_lets
  repeat' first
    | with_reducible assumption
    | with_reducible exact Frame.refl _ _
    | (with_reducible intro _; try extract_lets)
    | with_reducible apply Frame.ite
    | with_reducible apply Frame.each
    | ((with_reducible apply Frame.via (Block.setTag_frame _ _ _ _)); · rfl)
    | with_reducible exact Frame.snd (by assumption)
    | with_reducible refine Frame.pair2 (by assumption) ?_
    | with_reducible refine Frame.pair3 (by assumption) ?_
    | with_reducible refine Frame.pair4 (by assumption) ?_
    | (split <;> try extract_lets)
    | (dsimp +zetaDelta only; split <;> try extract_lets)

theorem doSlotMissing_frame x0 x1 x2 : Frame 425489 x2 (doSlotMissing x0 x1 x2) := by
  unfold doSlotMissing
  try extract_lets
  repeat' first
    | with_reducible assumption
    | with_reducible exact Frame.refl _ _
    | with_reducible apply Frame.ite
    | ((with_reducible apply Frame.via (Block.noSlot_frame _ _)); · rfl)
    | ((with_reducible apply Frame.via (Block.countSlot_frame _ _)); · rfl)
    | (split <;> try extract_lets)

theorem doIdle_frame x0 x1 x2 : Frame 1024 x2 (doIdle x0 x1 x2) := by
  unfold doIdle
  try extract_lets
  repeat' first
    | with_reducible assumption
    | with_reducible exact Frame.refl _ _
    | (with_reducible intro _; try extract_lets)
    | with_reducible apply Frame.ite
    | ((with_reducible apply Frame.via (Block.hubsTake_frame _ _ _)); · rfl)
    | with_reducible exact Frame.snd (by assumption)
    | with_reducible refine Frame.pair2 (by assumption) ?_
    | with_reducible refine Frame.pair3 (by assumption) ?_
    | with_reducible refine Frame.pair4 (by assumption) ?_
    | (split <;> try extract_lets)
    | (dsimp +zetaDelta only; split <;> try extract_lets)

theorem doTrainAlign_frame x0 x1 x2 x3 x4 : Frame 1024 x4 (doTrainAlign x0 x1 x2 x3 x4) := by
  unfold doTrainAlign
  try extract_lets
  repeat' first
    | with_reducible assumption
    | with_reducible exact Frame.refl _ _
    | ((with_reducible apply Frame.via (Block.hubsTake_frame _ _ _)); · rfl)

theorem Block.dropTrims_frame x0 x1 : Frame 1024 x0 (Block.dropTrims x0 x1) := by
  unfold Block.dropTrims
  try extract_lets
  repeat' first
    | with_reducible assumption
    | with_reducible exact Frame.refl _ _
    | (with_reducible intro _; try extract_lets)
    | ((with_reducible apply Frame.put_sett); · rfl)

theorem doPartnerDiePowerLoss_frame x0 x1 : Frame 525312 x1 (doPartnerDiePowerLoss x0 x1) := by
  unfold doPartnerDiePowerLoss
  try extract_lets
  repeat' first
    | with_reducible assumption
    | with_reducible exact Frame.refl _ _
    | (with_reducible intro _; try extract_lets)
    | with_reducible apply Frame.each
    | ((with_reducible apply Frame.via (Block.dropTrims_frame _ _)); · rfl)
    | ((with_reducible apply Frame.via (Block.setHub_frame _ _ _)); · rfl)
    | ((with_reducible apply Frame.put_stock); · rfl)

theorem doHubFire_frame x0 x1 x2 : Frame 1024 x2 (doHubFire x0 x1 x2) := by
  unfold doHubFire
  try extract_lets
  repeat' first
    | with_reducible assumption
    | with_reducible exact Frame.refl _ _
    | with_reducible apply Frame.ite
    | ((with_reducible apply Frame.via (Block.setHub_frame _ _ _)); · rfl)
    | ((with_reducible apply Frame.put_sett); · rfl)
    | with_reducible exact Frame.snd (by assumption)
    | with_reducible refine Frame.pair2 (by assumption) ?_
    | with_reducible refine Frame.pair3 (by assumption) ?_
    | with_reducible refine Frame.pair4 (by assumption) ?_
    | (split <;> try extract_lets)
    | (dsimp +zetaDelta only; split <;> try extract_lets)

theorem doPartnerDiePowerUp_frame x0 x1 : Frame 525312 x1 (doPartnerDiePowerUp x0 x1) := by
  unfold doPartnerDiePowerUp
  try extract_lets
  repeat' first
    | with_reducible assumption
    | with_reducible exact Frame.refl _ _
    | (with_reducible intro _; try extract_lets)
    | with_reducible apply Frame.ite
    | with_reducible apply Frame.each
    | ((with_reducible apply Frame.via (Block.setHub_frame _ _ _)); · rfl)
    | ((with_reducible apply Frame.put_stock); · rfl)
    | (split <;> try extract_lets)

theorem doHubRelease_frame x0 x1 : Frame 425489 x1 (doHubRelease x0 x1) := by
  unfold doHubRelease
  try extract_lets
  repeat' first
    | with_reducible assumption
    | with_reducible exact Frame.refl _ _
    | with_reducible apply Frame.ite
    | ((with_reducible apply Frame.via (Block.writeHubCmd_frame _ _ _)); · rfl)
    | (split <;> try extract_lets)

theorem doHubMarkerReceive_frame x0 x1 x2 x3 : Frame 1024 x3 (doHubMarkerReceive x0 x1 x2 x3) := by
  unfold doHubMarkerReceive
  try extract_lets
  repeat' first
    | with_reducible assumption
    | with_reducible exact Frame.refl _ _
    | with_reducible apply Frame.ite
    | ((with_reducible apply Frame.via (Block.setTrunk_frame _ _ _)); · rfl)
    | ((with_reducible apply Frame.via (Block.setHub_frame _ _ _)); · rfl)
    | (split <;> try extract_lets)

theorem Block.deliverAnswer_frame x0 x1 x2 x3 x4 x5 : Frame 423441 x0 (Block.deliverAnswer x0 x1 x2 x3 x4 x5) := by
  unfold Block.deliverAnswer
  try extract_lets
  repeat' first
    | with_reducible assumption
    | with_reducible exact Frame.refl _ _
    | with_reducible apply Frame.ite
    | ((with_reducible apply Frame.via (Block.endTag_frame _ _ _ _)); · rfl)
    | ((with_reducible apply Frame.via (Block.setHubRec_frame _ _ _)); · rfl)
    | ((with_reducible apply Frame.via (Block.complete_frame _ _ _ _)); · rfl)
    | ((with_reducible apply Frame.via (Block.senseDone_frame _ _ _)); · rfl)
    | with_reducible exact Frame.snd (by assumption)
    | with_reducible refine Frame.pair2 (by assumption) ?_
    | with_reducible refine Frame.pair3 (by assumption) ?_
    | with_reducible refine Frame.pair4 (by assumption) ?_
    | (split <;> try extract_lets)
    | (dsimp +zetaDelta only; split <;> try extract_lets)

theorem Block.retry_frame x0 x1 : Frame 423441 x0 (Block.retry x0 x1) := by
  unfold Block.retry
  try extract_lets
  repeat' first
    | with_reducible assumption
    | with_reducible exact Frame.refl _ _
    | with_reducible apply Frame.ite
    | ((with_reducible apply Frame.via (Block.settDone_frame _ _ _)); · rfl)
    | ((with_reducible apply Frame.via (Block.bump_frame _ _ _)); · rfl)
    | ((with_reducible apply Frame.via (Block.complete_frame _ _ _ _)); · rfl)
    | ((with_reducible apply Frame.via (Block.senseDone_frame _ _ _)); · rfl)
    | ((with_reducible apply Frame.via (Block.setQueue_frame _ _ _ _)); · rfl)
    | with_reducible exact Frame.snd (by assumption)
    | with_reducible refine Frame.pair2 (by assumption) ?_
    | with_reducible refine Frame.pair3 (by assumption) ?_
    | with_reducible refine Frame.pair4 (by assumption) ?_
    | (split <;> try extract_lets)
    | (dsimp +zetaDelta only; split <;> try extract_lets)

theorem doReplyTimeout_frame x0 x1 x2 x3 : Frame 423441 x3 (doReplyTimeout x0 x1 x2 x3) := by
  unfold doReplyTimeout
  try extract_lets
  repeat' first
    | with_reducible assumption
    | with_reducible exact Frame.refl _ _
    | with_reducible apply Frame.ite
    | ((with_reducible apply Frame.via (Block.retry_frame _ _)); · rfl)
    | ((with_reducible apply Frame.via (Block.endTag_frame _ _ _ _)); · rfl)
    | with_reducible exact Frame.snd (by assumption)
    | with_reducible refine Frame.pair2 (by assumption) ?_
    | with_reducible refine Frame.pair3 (by assumption) ?_
    | with_reducible refine Frame.pair4 (by assumption) ?_
    | (split <;> try extract_lets)
    | (dsimp +zetaDelta only; split <;> try extract_lets)

theorem Block.collide_frame x0 x1 x2 : Frame 425489 x0 (Block.collide x0 x1 x2) := by
  unfold Block.collide
  try extract_lets
  repeat' first
    | with_reducible assumption
    | with_reducible exact Frame.refl _ _
    | with_reducible apply Frame.ite
    | ((with_reducible apply Frame.via (Block.bump_frame _ _ _)); · rfl)
    | ((with_reducible apply Frame.via (Block.setHubRec_frame _ _ _)); · rfl)
    | ((with_reducible apply Frame.via (Block.quarantine_frame _ _)); · rfl)
    | (split <;> try extract_lets)

theorem Block.retryTag_frame x0 x1 x2 x3 : Frame 423441 x0 (Block.retryTag x0 x1 x2 x3) := by
  unfold Block.retryTag
  try extract_lets
  repeat' first
    | with_reducible assumption
    | with_reducible exact Frame.refl _ _
    | with_reducible apply Frame.ite
    | ((with_reducible apply Frame.via (Block.retry_frame _ _)); · rfl)
    | ((with_reducible apply Frame.via (Block.endTag_frame _ _ _ _)); · rfl)
    | with_reducible exact Frame.snd (by assumption)
    | with_reducible refine Frame.pair2 (by assumption) ?_
    | with_reducible refine Frame.pair3 (by assumption) ?_
    | with_reducible refine Frame.pair4 (by assumption) ?_
    | (split <;> try extract_lets)
    | (dsimp +zetaDelta only; split <;> try extract_lets)

theorem Block.takeSlot_frame x0 x1 x2 x3 x4 : Frame 947729 x0 (Block.takeSlot x0 x1 x2 x3 x4) := by
  unfold Block.takeSlot
  try extract_lets
  repeat' first
    | with_reducible assumption
    | with_reducible exact Frame.refl _ _
    | with_reducible apply Frame.ite
    | ((with_reducible apply Frame.via (Block.idleReport_frame _ _ _)); · rfl)
    | ((with_reducible apply Frame.via (Block.raise_frame _ _ _)); · rfl)
    | ((with_reducible apply Frame.via (Block.bump_frame _ _ _)); · rfl)
    | ((with_reducible apply Frame.via (Block.deliverAnswer_frame _ _ _ _ _ _)); · rfl)
    | ((with_reducible apply Frame.via (Block.put_frame _ _ _)); · rfl)
    | with_reducible exact Frame.snd (by assumption)
    | with_reducible refine Frame.pair2 (by assumption) ?_
    | with_reducible refine Frame.pair3 (by assumption) ?_
    | with_reducible refine Frame.pair4 (by assumption) ?_
    | (split <;> try extract_lets)
    | (dsimp +zetaDelta only; split <;> try extract_lets)

theorem doSlotReceive_frame x0 x1 x2 x3 x4 x5 x6 : Frame 949777 x6 (doSlotReceive x0 x1 x2 x3 x4 x5 x6) := by
  unfold doSlotReceive
  try extract_lets
  repeat' first
    | with_reducible assumption
    | with_reducible exact Frame.refl _ _
    | (with_reducible intro _; try extract_lets)
    | with_reducible apply Frame.ite
    | ((with_reducible apply Frame.via (Block.countSlot_frame _ _)); · rfl)
    | ((with_reducible apply Frame.via (Block.setHub_frame _ _ _)); · rfl)
    | ((with_reducible apply Frame.via (Block.noSlot_frame _ _)); · rfl)
    | ((with_reducible apply Frame.via (Block.setHubRec_frame _ _ _)); · rfl)
    | ((with_reducible apply Frame.via (Block.collide_frame _ _ _)); · rfl)
    | ((with_reducible apply Frame.via (Block.retryTag_frame _ _ _ _)); · rfl)
    | ((with_reducible apply Frame.via (Block.put_frame _ _ _)); · rfl)
    | ((with_reducible apply Frame.via (Block.setBit_frame _ _ _ _)); · rfl)
    | ((with_reducible apply Frame.via (Block.raise_frame _ _ _)); · rfl)
    | ((with_reducible apply Frame.via (Block.bump_frame _ _ _)); · rfl)
    | ((with_reducible apply Frame.via (Block.trainHub_frame _ _)); · rfl)
    | ((with_reducible apply Frame.via (Block.takeSlot_frame _ _ _ _ _)); · rfl)
    | with_reducible exact Frame.snd (by assumption)
    | with_reducible refine Frame.pair2 (by assumption) ?_
    | with_reducible refine Frame.pair3 (by assumption) ?_
    | with_reducible refine Frame.pair4 (by assumption) ?_
    | (split <;> try extract_lets)
    | (dsimp +zetaDelta only; split <;> try extract_lets)

theorem doQuarantineAutoRelease_frame x0 x1 x2 : Frame 425489 x2 (doQuarantineAutoRelease x0 x1 x2) := by
  unfold doQuarantineAutoRelease
  try extract_lets
  repeat' first
    | with_reducible assumption
    | with_reducible exact Frame.refl _ _
    | with_reducible apply Frame.ite
    | ((with_reducible apply Frame.via (Block.releaseHub_frame _ _)); · rfl)
    | (split <;> try extract_lets)

theorem doSenseSelect_frame x0 x1 x2 x3 x4 : Frame 1024 x4 (doSenseSelect x0 x1 x2 x3 x4) := by
  unfold doSenseSelect
  try extract_lets
  repeat' first
    | with_reducible assumption
    | with_reducible exact Frame.refl _ _
    | ((with_reducible apply Frame.via (Block.hubsTake_frame _ _ _)); · rfl)

theorem doTrainingComplete_frame x0 x1 x2 x3 x4 : Frame 425489 x4 (doTrainingComplete x0 x1 x2 x3 x4) := by
  unfold doTrainingComplete
  try extract_lets
  repeat' first
    | with_reducible assumption
    | with_reducible exact Frame.refl _ _
    | (with_reducible intro _; try extract_lets)
    | with_reducible apply Frame.ite
    | with_reducible apply Frame.each
    | ((with_reducible apply Frame.via (Block.setHubRec_frame _ _ _)); · rfl)
    | ((with_reducible apply Frame.via (Block.put_frame _ _ _)); · rfl)
    | ((with_reducible apply Frame.via (Block.setHub_frame _ _ _)); · rfl)
    | ((with_reducible apply Frame.via (Block.enterHub_frame _ _ _)); · rfl)
    | ((with_reducible apply Frame.via (Block.submit_frame _ _)); · rfl)
    | ((with_reducible apply Frame.via (Block.raise_frame _ _ _)); · rfl)
    | (split <;> try extract_lets)

theorem doReleaseSilent_frame x0 x1 x2 : Frame 1024 x2 (doReleaseSilent x0 x1 x2) := by
  unfold doReleaseSilent
  try extract_lets
  repeat' first
    | with_reducible assumption
    | with_reducible exact Frame.refl _ _
    | ((with_reducible apply Frame.via (Block.hubsTake_frame _ _ _)); · rfl)

theorem doKindWrite_frame x0 x1 x2 x3 : Frame 1025 x3 (doKindWrite x0 x1 x2 x3) := by
  unfold doKindWrite
  try extract_lets
  repeat' first
    | with_reducible assumption
    | with_reducible exact Frame.refl _ _
    | with_reducible apply Frame.ite
    | ((with_reducible apply Frame.via (Block.writeKind_frame _ _ _ _)); · rfl)
    | (split <;> try extract_lets)

theorem doHoldSilent_frame x0 x1 x2 : Frame 1024 x2 (doHoldSilent x0 x1 x2) := by
  unfold doHoldSilent
  try extract_lets
  repeat' first
    | with_reducible assumption
    | with_reducible exact Frame.refl _ _
    | ((with_reducible apply Frame.via (Block.hubsTake_frame _ _ _)); · rfl)

theorem doFwdCheckFail_frame x0 x1 x2 x3 x4 : Frame 1024 x4 (doFwdCheckFail x0 x1 x2 x3 x4) := by
  unfold doFwdCheckFail
  try extract_lets
  repeat' first
    | with_reducible assumption
    | with_reducible exact Frame.refl _ _
    | with_reducible apply Frame.ite
    | ((with_reducible apply Frame.via (Block.setTrunk_frame _ _ _)); · rfl)
    | ((with_reducible apply Frame.via (Block.setHub_frame _ _ _)); · rfl)
    | (split <;> try extract_lets)

theorem doWriteShadow_frame x0 x1 x2 x3 x4 : Frame 1024 x4 (doWriteShadow x0 x1 x2 x3 x4) := by
  unfold doWriteShadow
  try extract_lets
  repeat' first
    | with_reducible assumption
    | with_reducible exact Frame.refl _ _
    | ((with_reducible apply Frame.via (Block.hubsTake_frame _ _ _)); · rfl)

theorem doReadActive_frame x0 x1 x2 x3 x4 : Frame 1024 x4 (doReadActive x0 x1 x2 x3 x4) := by
  unfold doReadActive
  try extract_lets
  repeat' first
    | with_reducible assumption
    | with_reducible exact Frame.refl _ _
    | ((with_reducible apply Frame.via (Block.hubsTake_frame _ _ _)); · rfl)

theorem doTrainLimit_frame x0 x1 x2 x3 x4 x5 x6 : Frame 1024 x6 (doTrainLimit x0 x1 x2 x3 x4 x5 x6) := by
  unfold doTrainLimit
  try extract_lets
  repeat' first
    | with_reducible assumption
    | with_reducible exact Frame.refl _ _
    | ((with_reducible apply Frame.via (Block.hubsTake_frame _ _ _)); · rfl)

theorem doSenseRelease_frame x0 x1 : Frame 1024 x1 (doSenseRelease x0 x1) := by
  unfold doSenseRelease
  try extract_lets
  repeat' first
    | with_reducible assumption
    | with_reducible exact Frame.refl _ _
    | (with_reducible intro _; try extract_lets)
    | with_reducible apply Frame.ite
    | ((with_reducible apply Frame.via (Block.hubsTake_frame _ _ _)); · rfl)
    | with_reducible exact Frame.snd (by assumption)
    | with_reducible refine Frame.pair2 (by assumption) ?_
    | with_reducible refine Frame.pair3 (by assumption) ?_
    | with_reducible refine Frame.pair4 (by assumption) ?_
    | (split <;> try extract_lets)
    | (dsimp +zetaDelta only; split <;> try extract_lets)

theorem doTaintRecovery_frame x0 x1 x2 : Frame 425489 x2 (doTaintRecovery x0 x1 x2) := by
  unfold doTaintRecovery
  try extract_lets
  repeat' first
    | with_reducible assumption
    | with_reducible exact Frame.refl _ _
    | with_reducible apply Frame.ite
    | ((with_reducible apply Frame.via (Block.submit_frame _ _)); · rfl)
    | (split <;> try extract_lets)

theorem doReadShadow_frame x0 x1 x2 x3 x4 : Frame 1024 x4 (doReadShadow x0 x1 x2 x3 x4) := by
  unfold doReadShadow
  try extract_lets
  repeat' first
    | with_reducible assumption
    | with_reducible exact Frame.refl _ _
    | ((with_reducible apply Frame.via (Block.hubsTake_frame _ _ _)); · rfl)

theorem doCopyActiveToShadow_frame x0 x1 x2 x3 x4 : Frame 1024 x4 (doCopyActiveToShadow x0 x1 x2 x3 x4) := by
  unfold doCopyActiveToShadow
  try extract_lets
  repeat' first
    | with_reducible assumption
    | with_reducible exact Frame.refl _ _
    | ((with_reducible apply Frame.via (Block.hubsTake_frame _ _ _)); · rfl)

theorem doTrainFlight_frame x0 x1 x2 x3 : Frame 1024 x3 (doTrainFlight x0 x1 x2 x3) := by
  unfold doTrainFlight
  try extract_lets
  repeat' first
    | with_reducible assumption
    | with_reducible exact Frame.refl _ _
    | ((with_reducible apply Frame.via (Block.hubsTake_frame _ _ _)); · rfl)

theorem doHubRetrain_frame x0 x1 : Frame 425489 x1 (doHubRetrain x0 x1) := by
  unfold doHubRetrain
  try extract_lets
  repeat' first
    | with_reducible assumption
    | with_reducible exact Frame.refl _ _
    | with_reducible apply Frame.ite
    | ((with_reducible apply Frame.via (Block.writeHubCmd_frame _ _ _)); · rfl)
    | (split <;> try extract_lets)

end Sys2Proof.Machine
end

