-- ==== Sys2Proof/Laws/FrameWhorl.lean ====
section
/-! SUPPORT. What each function of Machine/Whorl.lean may change. -/

namespace Sys2Proof.Machine

theorem Block.forgetBusy_frame x0 x1 : Frame 1024 x0 (Block.forgetBusy x0 x1) := by
  unfold Block.forgetBusy
  try extract_lets
  repeat' first
    | with_reducible assumption
    | with_reducible exact Frame.refl _ _
    | (with_reducible intro _; try extract_lets)
    | with_reducible apply Frame.ite
    | with_reducible apply Frame.each
    | ((with_reducible apply Frame.via (Block.setTag_frame _ _ _ _)); · rfl)
    | with_reducible exact Frame.snd (by assumption)
    | with_reducible refine Frame.pair2 (by assumption) ?_
    | with_reducible refine Frame.pair3 (by assumption) ?_
    | with_reducible refine Frame.pair4 (by assumption) ?_
    | (split <;> try extract_lets)
    | (dsimp +zetaDelta only; split <;> try extract_lets)

theorem Block.maskReq_frame x0 x1 : Frame 154641 x0 (Block.maskReq x0 x1) := by
  unfold Block.maskReq
  try extract_lets
  repeat' first
    | with_reducible assumption
    | with_reducible exact Frame.refl _ _
    | ((with_reducible apply Frame.via (Block.settleSeals_frame _)); · rfl)
    | ((with_reducible apply Frame.via (Block.ownerGone_frame _ _)); · rfl)
    | ((with_reducible apply Frame.via (Block.forgetBusy_frame _ _)); · rfl)
    | ((with_reducible apply Frame.via (Block.dropQueues_frame _ _)); · rfl)

theorem Block.advanceIdx_frame x0 x1 x2 x3 x4 : Frame 1 x0 (Block.advanceIdx x0 x1 x2 x3 x4) := by
  unfold Block.advanceIdx
  try extract_lets
  repeat' first
    | with_reducible assumption
    | with_reducible exact Frame.refl _ _
    | ((with_reducible apply Frame.via (Block.put_frame _ _ _)); · rfl)

theorem Block.readRdata_frame x0 x1 : Frame 1 x0 (Block.readRdata x0 x1).2 := by
  unfold Block.readRdata
  try extract_lets
  repeat' first
    | with_reducible assumption
    | with_reducible exact Frame.refl _ _
    | with_reducible apply Frame.ite
    | ((with_reducible apply Frame.via (Block.advanceIdx_frame _ _ _ _ _)); · rfl)
    | (split <;> try extract_lets)
    | dsimp only

theorem Block.writeTdata_frame x0 x1 x2 : Frame 2049 x0 (Block.writeTdata x0 x1 x2) := by
  unfold Block.writeTdata
  try extract_lets
  repeat' first
    | with_reducible assumption
    | with_reducible exact Frame.refl _ _
    | (with_reducible intro _; try extract_lets)
    | with_reducible apply Frame.ite
    | ((with_reducible apply Frame.via (Block.put_frame _ _ _)); · rfl)
    | ((with_reducible apply Frame.via (Block.advanceIdx_frame _ _ _ _ _)); · rfl)
    | ((with_reducible apply Frame.put_whorl); · rfl)
    | (split <;> try extract_lets)

theorem Block.writeRdata_frame x0 x1 x2 : Frame 2049 x0 (Block.writeRdata x0 x1 x2) := by
  unfold Block.writeRdata
  try extract_lets
  repeat' first
    | with_reducible assumption
    | with_reducible exact Frame.refl _ _
    | (with_reducible intro _; try extract_lets)
    | with_reducible apply Frame.ite
    | ((with_reducible apply Frame.via (Block.put_frame _ _ _)); · rfl)
    | ((with_reducible apply Frame.via (Block.advanceIdx_frame _ _ _ _ _)); · rfl)
    | ((with_reducible apply Frame.put_whorl); · rfl)
    | (split <;> try extract_lets)

theorem Block.writeWhCtl_frame x0 x1 x2 : Frame 1 x0 (Block.writeWhCtl x0 x1 x2) := by
  unfold Block.writeWhCtl
  try extract_lets
  repeat' first
    | with_reducible assumption
    | with_reducible exact Frame.refl _ _
    | with_reducible apply Frame.ite
    | ((with_reducible apply Frame.via (Block.put_frame _ _ _)); · rfl)
    | (split <;> try extract_lets)

theorem Block.setAgain_frame x0 x1 x2 x3 : Frame 2048 x0 (Block.setAgain x0 x1 x2 x3) := by
  unfold Block.setAgain
  try extract_lets
  repeat' first
    | with_reducible assumption
    | with_reducible exact Frame.refl _ _
    | (with_reducible intro _; try extract_lets)
    | ((with_reducible apply Frame.put_whorl); · rfl)

theorem Block.writeWstat_frame x0 x1 x2 x3 : Frame 2049 x0 (Block.writeWstat x0 x1 x2 x3) := by
  unfold Block.writeWstat
  try extract_lets
  repeat' first
    | with_reducible assumption
    | with_reducible exact Frame.refl _ _
    | with_reducible apply Frame.ite
    | ((with_reducible apply Frame.via (Block.setAgain_frame _ _ _ _)); · rfl)
    | ((with_reducible apply Frame.via (Block.put_frame _ _ _)); · rfl)
    | (split <;> try extract_lets)

theorem Block.setWait_frame x0 x1 x2 x3 : Frame 2048 x0 (Block.setWait x0 x1 x2 x3) := by
  unfold Block.setWait
  try extract_lets
  repeat' first
    | with_reducible assumption
    | with_reducible exact Frame.refl _ _
    | (with_reducible intro _; try extract_lets)
    | ((with_reducible apply Frame.put_whorl); · rfl)

theorem Block.writeWatch_frame x0 x1 x2 x3 : Frame 2049 x0 (Block.writeWatch x0 x1 x2 x3) := by
  unfold Block.writeWatch
  try extract_lets
  repeat' first
    | with_reducible assumption
    | with_reducible exact Frame.refl _ _
    | with_reducible apply Frame.ite
    | ((with_reducible apply Frame.via (Block.writeFields_frame _ _ _)); · rfl)
    | ((with_reducible apply Frame.via (Block.setAgain_frame _ _ _ _)); · rfl)
    | ((with_reducible apply Frame.via (Block.setWait_frame _ _ _ _)); · rfl)
    | (split <;> try extract_lets)

theorem doWatchClear_frame x0 x1 x2 : Frame 2049 x2 (doWatchClear x0 x1 x2) := by
  unfold doWatchClear
  try extract_lets
  repeat' first
    | with_reducible assumption
    | with_reducible exact Frame.refl _ _
    | with_reducible apply Frame.ite
    | ((with_reducible apply Frame.via (Block.writeWstat_frame _ _ _ _)); · rfl)
    | (split <;> try extract_lets)

theorem Block.progress_frame x0 x1 : Frame 18433 x0 (Block.progress x0 x1) := by
  unfold Block.progress
  try extract_lets
  repeat' first
    | with_reducible assumption
    | with_reducible exact Frame.refl _ _
    | with_reducible apply Frame.ite
    | ((with_reducible apply Frame.via (Block.setRunning_frame _ _ _ _)); · rfl)
    | ((with_reducible apply Frame.via (Block.setRestoreProg_frame _ _ _)); · rfl)
    | ((with_reducible apply Frame.via (Block.bump_frame _ _ _)); · rfl)
    | with_reducible exact Frame.snd (by assumption)
    | with_reducible refine Frame.pair2 (by assumption) ?_
    | with_reducible refine Frame.pair3 (by assumption) ?_
    | with_reducible refine Frame.pair4 (by assumption) ?_
    | (split <;> try extract_lets)
    | (dsimp +zetaDelta only; split <;> try extract_lets)

theorem Block.issueTagged_frame x0 x1 x2 x3 : Frame 1024 x0 (Block.issueTagged x0 x1 x2 x3) := by
  unfold Block.issueTagged
  try extract_lets
  repeat' first
    | with_reducible assumption
    | with_reducible exact Frame.refl _ _
    | ((with_reducible apply Frame.via (Block.setTag_frame _ _ _ _)); · rfl)
    | ((with_reducible apply Frame.via (Block.send_frame _ _ _ _)); · rfl)

theorem Block.issuePosted_frame x0 x1 x2 : Frame 423441 x0 (Block.issuePosted x0 x1 x2) := by
  unfold Block.issuePosted
  try extract_lets
  repeat' first
    | with_reducible assumption
    | with_reducible exact Frame.refl _ _
    | with_reducible apply Frame.ite
    | ((with_reducible apply Frame.via (Block.send_frame _ _ _ _)); · rfl)
    | ((with_reducible apply Frame.via (Block.raise_frame _ _ _)); · rfl)
    | ((with_reducible apply Frame.via (Block.bump_frame _ _ _)); · rfl)
    | ((with_reducible apply Frame.via (Block.armGranted_frame _ _ _)); · rfl)
    | ((with_reducible apply Frame.via (Block.put_frame _ _ _)); · rfl)
    | ((with_reducible apply Frame.via (Block.settleSeals_frame _)); · rfl)
    | ((with_reducible apply Frame.via (Block.complete_frame _ _ _ _)); · rfl)
    | (split <;> try extract_lets)

theorem Block.grant_frame x0 x1 x2 x3 : Frame 425489 x0 (Block.grant x0 x1 x2 x3) := by
  unfold Block.grant
  try extract_lets
  repeat' first
    | with_reducible assumption
    | with_reducible exact Frame.refl _ _
    | with_reducible apply Frame.ite
    | ((with_reducible apply Frame.via (Block.endBurst_frame _ _ _)); · rfl)
    | ((with_reducible apply Frame.via (Block.progress_frame _ _)); · rfl)
    | ((with_reducible apply Frame.via (Block.setQueue_frame _ _ _ _)); · rfl)
    | ((with_reducible apply Frame.via (Block.issueTagged_frame _ _ _ _)); · rfl)
    | ((with_reducible apply Frame.via (Block.issuePosted_frame _ _ _)); · rfl)
    | ((with_reducible apply Frame.via (Block.settleHeads_frame _ _ _ _)); · rfl)
    | with_reducible exact Frame.snd (by assumption)
    | with_reducible refine Frame.pair2 (by assumption) ?_
    | with_reducible refine Frame.pair3 (by assumption) ?_
    | with_reducible refine Frame.pair4 (by assumption) ?_
    | (split <;> try extract_lets)
    | (dsimp +zetaDelta only; split <;> try extract_lets)

theorem Block.watch_frame x0 x1 x2 x3 x4 x5 : Frame 137233 x0 (Block.watch x0 x1 x2 x3 x4 x5) := by
  unfold Block.watch
  try extract_lets
  repeat' first
    | with_reducible assumption
    | with_reducible exact Frame.refl _ _
    | with_reducible apply Frame.ite
    | ((with_reducible apply Frame.via (Block.setWait_frame _ _ _ _)); · rfl)
    | ((with_reducible apply Frame.via (Block.put_frame _ _ _)); · rfl)
    | ((with_reducible apply Frame.via (Block.setAgain_frame _ _ _ _)); · rfl)
    | ((with_reducible apply Frame.via (Block.raise_frame _ _ _)); · rfl)
    | (split <;> try extract_lets)

theorem doSwap_frame x0 x1 : Frame 1 x1 (doSwap x0 x1) := by
  unfold doSwap
  try extract_lets
  repeat' first
    | with_reducible assumption
    | with_reducible exact Frame.refl _ _
    | with_reducible apply Frame.ite
    | ((with_reducible apply Frame.via (Block.put_frame _ _ _)); · rfl)
    | (split <;> try extract_lets)

theorem Block.clearIdle_frame x0 x1 : Frame 2048 x0 (Block.clearIdle x0 x1) := by
  unfold Block.clearIdle
  try extract_lets
  repeat' first
    | with_reducible assumption
    | with_reducible exact Frame.refl _ _
    | (with_reducible intro _; try extract_lets)
    | with_reducible apply Frame.ite
    | ((with_reducible apply Frame.put_whorl); · rfl)
    | (split <;> try extract_lets)

theorem Block.tableSwap_frame x0 x1 : Frame 135185 x0 (Block.tableSwap x0 x1) := by
  unfold Block.tableSwap
  try extract_lets
  repeat' first
    | with_reducible assumption
    | with_reducible exact Frame.refl _ _
    | with_reducible apply Frame.ite
    | ((with_reducible apply Frame.via (Block.raise_frame _ _ _)); · rfl)
    | ((with_reducible apply Frame.via (Block.put_frame _ _ _)); · rfl)
    | (split <;> try extract_lets)

theorem Block.readTdata_frame x0 x1 : Frame 1 x0 (Block.readTdata x0 x1).2 := by
  unfold Block.readTdata
  try extract_lets
  repeat' first
    | with_reducible assumption
    | with_reducible exact Frame.refl _ _
    | with_reducible apply Frame.ite
    | ((with_reducible apply Frame.via (Block.advanceIdx_frame _ _ _ _ _)); · rfl)
    | (split <;> try extract_lets)
    | dsimp only

theorem doWhRdataAccess_frame x0 x1 x2 : Frame 2049 x2 (doWhRdataAccess x0 x1 x2) := by
  unfold doWhRdataAccess
  try extract_lets
  repeat' first
    | with_reducible assumption
    | with_reducible exact Frame.refl _ _
    | with_reducible apply Frame.ite
    | ((with_reducible apply Frame.via (Block.writeRdata_frame _ _ _)); · rfl)
    | ((with_reducible apply Frame.via (Block.readRdata_frame _ _)); · rfl)
    | with_reducible exact Frame.snd (by assumption)
    | with_reducible refine Frame.pair2 (by assumption) ?_
    | with_reducible refine Frame.pair3 (by assumption) ?_
    | with_reducible refine Frame.pair4 (by assumption) ?_
    | (split <;> try extract_lets)
    | (dsimp +zetaDelta only; split <;> try extract_lets)

theorem Block.sendOwn_frame x0 x1 x2 x3 x4 : Frame 1024 x0 (Block.sendOwn x0 x1 x2 x3 x4) := by
  unfold Block.sendOwn
  try extract_lets
  repeat' first
    | with_reducible assumption
    | with_reducible exact Frame.refl _ _
    | with_reducible apply Frame.ite
    | ((with_reducible apply Frame.via (Block.setTrunk_frame _ _ _)); · rfl)
    | ((with_reducible apply Frame.via (Block.issueTagged_frame _ _ _ _)); · rfl)
    | ((with_reducible apply Frame.via (Block.send_frame _ _ _ _)); · rfl)
    | with_reducible exact Frame.snd (by assumption)
    | with_reducible refine Frame.pair2 (by assumption) ?_
    | with_reducible refine Frame.pair3 (by assumption) ?_
    | with_reducible refine Frame.pair4 (by assumption) ?_
    | (split <;> try extract_lets)
    | (dsimp +zetaDelta only; split <;> try extract_lets)

theorem Block.countWrap_frame x0 x1 : Frame 1 x0 (Block.countWrap x0 x1) := by
  unfold Block.countWrap
  try extract_lets
  repeat' first
    | with_reducible assumption
    | with_reducible exact Frame.refl _ _
    | ((with_reducible apply Frame.via (Block.setReg_frame _ _ _)); · rfl)

theorem Block.endPosition_frame x0 x1 x2 x3 : Frame 1 x0 (Block.endPosition x0 x1 x2 x3) := by
  unfold Block.endPosition
  try extract_lets
  repeat' first
    | with_reducible assumption
    | with_reducible exact Frame.refl _ _
    | (with_reducible intro _; try extract_lets)
    | with_reducible apply Frame.ite
    | with_reducible apply Frame.when
    | ((with_reducible apply Frame.via (Block.countWrap_frame _ _)); · rfl)
    | ((with_reducible apply Frame.via (Block.put_frame _ _ _)); · rfl)
    | (split <;> try extract_lets)

theorem Block.position_frame x0 x1 x2 x3 x4 : Frame 425489 x0 (Block.position x0 x1 x2 x3 x4) := by
  unfold Block.position
  try extract_lets
  repeat' first
    | with_reducible assumption
    | with_reducible exact Frame.refl _ _
    | (with_reducible intro _; try extract_lets)
    | with_reducible apply Frame.each
    | ((with_reducible apply Frame.via (Block.tableSwap_frame _ _)); · rfl)
    | ((with_reducible apply Frame.via (Block.sendOwn_frame _ _ _ _ _)); · rfl)
    | ((with_reducible apply Frame.via (Block.endPosition_frame _ _ _ _)); · rfl)
    | ((with_reducible apply Frame.via (Block.watch_frame _ _ _ _ _ _)); · rfl)
    | ((with_reducible apply Frame.via (Block.grant_frame _ _ _ _)); · rfl)
    | ((with_reducible apply Frame.via (Block.send_frame _ _ _ _)); · rfl)
    | with_reducible exact Frame.snd (by assumption)
    | with_reducible refine Frame.pair2 (by assumption) ?_
    | with_reducible refine Frame.pair3 (by assumption) ?_
    | with_reducible refine Frame.pair4 (by assumption) ?_
    | (split <;> try extract_lets)
    | (dsimp +zetaDelta only; split <;> try extract_lets)

theorem doWhorlDecide_frame x0 x1 x2 x3 : Frame 425489 x3 (doWhorlDecide x0 x1 x2 x3) := by
  unfold doWhorlDecide
  try extract_lets
  repeat' first
    | with_reducible assumption
    | with_reducible exact Frame.refl _ _
    | (with_reducible intro _; try extract_lets)
    | with_reducible apply Frame.ite
    | ((with_reducible apply Frame.via (Block.settleTrunk_frame _ _)); · rfl)
    | ((with_reducible apply Frame.via (Block.send_frame _ _ _ _)); · rfl)
    | ((with_reducible apply Frame.via (Block.position_frame _ _ _ _ _)); · rfl)
    | ((with_reducible apply Frame.via (Block.clearIdle_frame _ _)); · rfl)
    | (split <;> try extract_lets)

theorem doWhTdataAccess_frame x0 x1 x2 : Frame 2049 x2 (doWhTdataAccess x0 x1 x2) := by
  unfold doWhTdataAccess
  try extract_lets
  repeat' first
    | with_reducible assumption
    | with_reducible exact Frame.refl _ _
    | with_reducible apply Frame.ite
    | ((with_reducible apply Frame.via (Block.writeTdata_frame _ _ _)); · rfl)
    | ((with_reducible apply Frame.via (Block.readTdata_frame _ _)); · rfl)
    | with_reducible exact Frame.snd (by assumption)
    | with_reducible refine Frame.pair2 (by assumption) ?_
    | with_reducible refine Frame.pair3 (by assumption) ?_
    | with_reducible refine Frame.pair4 (by assumption) ?_
    | (split <;> try extract_lets)
    | (dsimp +zetaDelta only; split <;> try extract_lets)

theorem doTableSwap_frame x0 x1 : Frame 135185 x1 (doTableSwap x0 x1) := by
  unfold doTableSwap
  try extract_lets
  repeat' first
    | with_reducible assumption
    | with_reducible exact Frame.refl _ _
    | with_reducible apply Frame.ite
    | ((with_reducible apply Frame.via (Block.tableSwap_frame _ _)); · rfl)
    | (split <;> try extract_lets)

theorem doWhorlWithdraw_frame x0 x1 x2 : Frame 425489 x2 (doWhorlWithdraw x0 x1 x2) := by
  unfold doWhorlWithdraw
  try extract_lets
  repeat' first
    | with_reducible assumption
    | with_reducible exact Frame.refl _ _
    | (with_reducible intro _; try extract_lets)
    | with_reducible apply Frame.ite
    | ((with_reducible apply Frame.via (Block.settleTrunk_frame _ _)); · rfl)
    | ((with_reducible apply Frame.via (Block.clearIdle_frame _ _)); · rfl)
    | ((with_reducible apply Frame.via (Block.tableSwap_frame _ _)); · rfl)
    | ((with_reducible apply Frame.via (Block.position_frame _ _ _ _ _)); · rfl)
    | ((with_reducible apply Frame.via (Block.bump_frame _ _ _)); · rfl)
    | with_reducible exact Frame.snd (by assumption)
    | with_reducible refine Frame.pair2 (by assumption) ?_
    | with_reducible refine Frame.pair3 (by assumption) ?_
    | with_reducible refine Frame.pair4 (by assumption) ?_
    | (split <;> try extract_lets)
    | (dsimp +zetaDelta only; split <;> try extract_lets)

theorem doMaskAssert_frame x0 x1 : Frame 154641 x1 (doMaskAssert x0 x1) := by
  unfold doMaskAssert
  try extract_lets
  repeat' first
    | with_reducible assumption
    | with_reducible exact Frame.refl _ _
    | with_reducible apply Frame.ite
    | ((with_reducible apply Frame.via (Block.maskReq_frame _ _)); · rfl)
    | (split <;> try extract_lets)

end Sys2Proof.Machine
end

