-- ==== Sys2Proof/Laws/FrameFoxCore.lean ====
section
/-! SUPPORT. What each function of Machine/FoxCore.lean may change. -/

namespace Sys2Proof.Machine

theorem Block.checkFoxMig_frame x0 : Frame 20497 x0 (Block.checkFoxMig x0) := by
  unfold Block.checkFoxMig
  try extract_lets
  repeat' first
    | with_reducible assumption
    | with_reducible exact Frame.refl _ _
    | with_reducible apply Frame.ite
    | ((with_reducible apply Frame.via (Block.finishPacket_frame _ _ _ _ _)); · rfl)
    | ((with_reducible apply Frame.via (Block.put_frame _ _ _)); · rfl)
    | ((with_reducible apply Frame.put_fox); · rfl)
    | with_reducible exact Frame.snd (by assumption)
    | with_reducible refine Frame.pair2 (by assumption) ?_
    | with_reducible refine Frame.pair3 (by assumption) ?_
    | with_reducible refine Frame.pair4 (by assumption) ?_
    | (split <;> try extract_lets)
    | (dsimp +zetaDelta only; split <;> try extract_lets)

theorem Block.setFx_frame x0 x1 x2 : Frame 20497 x0 (Block.setFx x0 x1 x2) := by
  unfold Block.setFx
  try extract_lets
  repeat' first
    | with_reducible assumption
    | with_reducible exact Frame.refl _ _
    | with_reducible apply Frame.ite
    | ((with_reducible apply Frame.via (Block.setEngine_frame _ _ _)); · rfl)
    | ((with_reducible apply Frame.via (Block.checkFoxMig_frame _)); · rfl)
    | ((with_reducible apply Frame.via (Block.put_frame _ _ _)); · rfl)
    | (split <;> try extract_lets)

theorem Block.unhold_frame x0 x1 : Frame 4097 x0 (Block.unhold x0 x1) := by
  unfold Block.unhold
  try extract_lets
  repeat' first
    | with_reducible assumption
    | with_reducible exact Frame.refl _ _
    | ((with_reducible apply Frame.via (Block.setEngine_frame _ _ _)); · rfl)
    | ((with_reducible apply Frame.via (Block.put_frame _ _ _)); · rfl)

theorem Block.aheadDone_frame x0 x1 : Frame 4096 x0 (Block.aheadDone x0 x1) := by
  unfold Block.aheadDone
  try extract_lets
  repeat' first
    | with_reducible assumption
    | with_reducible exact Frame.refl _ _
    | (with_reducible intro _; try extract_lets)
    | with_reducible apply Frame.ite
    | with_reducible apply Frame.each
    | ((with_reducible apply Frame.via (Block.setEngine_frame _ _ _)); · rfl)
    | (split <;> try extract_lets)

theorem Block.offFx_frame x0 x1 x2 : Frame 154641 x0 (Block.offFx x0 x1 x2) := by
  unfold Block.offFx
  try extract_lets
  repeat' first
    | with_reducible assumption
    | with_reducible exact Frame.refl _ _
    | (with_reducible intro _; try extract_lets)
    | ((with_reducible apply Frame.via (Block.setFx_frame _ _ _)); · rfl)
    | ((with_reducible apply Frame.via (Block.unhold_frame _ _)); · rfl)
    | ((with_reducible apply Frame.via (Block.setEngine_frame _ _ _)); · rfl)
    | ((with_reducible apply Frame.via (Block.aheadDone_frame _ _)); · rfl)
    | ((with_reducible apply Frame.via (Block.maskReq_frame _ _)); · rfl)

theorem Block.faultFx_frame x0 x1 x2 : Frame 154641 x0 (Block.faultFx x0 x1 x2) := by
  unfold Block.faultFx
  try extract_lets
  repeat' first
    | with_reducible assumption
    | with_reducible exact Frame.refl _ _
    | ((with_reducible apply Frame.via (Block.put_frame _ _ _)); · rfl)
    | ((with_reducible apply Frame.via (Block.offFx_frame _ _ _)); · rfl)
    | ((with_reducible apply Frame.via (Block.raise_frame _ _ _)); · rfl)

theorem Block.issue_frame {m : Nat} {s0 : Block} (x0 : Block) (x1 : Nat) (x2 : Word) (x3 : List Nat) (x4 : Block → Block) (hm : subMask 154641 m = true) (h4 : (∀ t, Frame m s0 t → Frame m s0 (x4 t))) (h : Frame m s0 x0) : Frame m s0 (Block.issue x0 x1 x2 x3 x4) := by
  unfold Block.issue
  try extract_lets
  repeat' first
    | with_reducible assumption
    | (with_reducible intro _; try extract_lets)
    | with_reducible apply Frame.ite
    | ((with_reducible apply Frame.via (Block.setFx_frame _ _ _)); · exact sub_trans rfl hm)
    | ((with_reducible apply Frame.via (Block.faultFx_frame _ _ _)); · exact sub_trans rfl hm)
    | ((with_reducible apply Frame.via (Block.put_frame _ _ _)); · exact sub_trans rfl hm)
    | with_reducible apply h4
    | (split <;> try extract_lets)

theorem Block.setPc_frame x0 x1 x2 : Frame 1 x0 (Block.setPc x0 x1 x2) := by
  unfold Block.setPc
  try extract_lets
  repeat' first
    | with_reducible assumption
    | with_reducible exact Frame.refl _ _
    | ((with_reducible apply Frame.via (Block.put_frame _ _ _)); · rfl)

theorem Block.nextFx_frame x0 x1 : Frame 154641 x0 (Block.nextFx x0 x1) := by
  unfold Block.nextFx
  try extract_lets
  repeat' first
    | with_reducible assumption
    | with_reducible exact Frame.refl _ _
    | with_reducible apply Frame.ite
    | ((with_reducible apply Frame.via (Block.unhold_frame _ _)); · rfl)
    | ((with_reducible apply Frame.via (Block.setPc_frame _ _ _)); · rfl)
    | ((with_reducible apply Frame.via (Block.faultFx_frame _ _ _)); · rfl)
    | (split <;> try extract_lets)

theorem Block.setSx_frame x0 x1 x2 x3 : Frame 4096 x0 (Block.setSx x0 x1 x2 x3) := by
  unfold Block.setSx
  try extract_lets
  repeat' first
    | with_reducible assumption
    | with_reducible exact Frame.refl _ _
    | (with_reducible intro _; try extract_lets)
    | with_reducible apply Frame.ite
    | ((with_reducible apply Frame.via (Block.setEngine_frame _ _ _)); · rfl)
    | (split <;> try extract_lets)

theorem Block.result_frame x0 x1 x2 x3 : Frame 154641 x0 (Block.result x0 x1 x2 x3) := by
  unfold Block.result
  try extract_lets
  repeat' first
    | with_reducible assumption
    | with_reducible exact Frame.refl _ _
    | ((with_reducible apply Frame.via (Block.nextFx_frame _ _)); · rfl)
    | ((with_reducible apply Frame.via (Block.setSx_frame _ _ _ _)); · rfl)

theorem Block.jumpFx_frame {m : Nat} {s0 : Block} (x0 : Block) (x1 : Nat) (x2 : Int) (x3 : Block → Block) (hm : subMask 154641 m = true) (h3 : (∀ t, Frame m s0 t → Frame m s0 (x3 t))) (h : Frame m s0 x0) : Frame m s0 (Block.jumpFx x0 x1 x2 x3) := by
  unfold Block.jumpFx
  try extract_lets
  repeat' first
    | with_reducible assumption
    | with_reducible apply Frame.ite
    | refine Frame.via (Block.setPc_frame _ _ _) (sub_trans rfl hm) ?_
    | refine Frame.via (Block.faultFx_frame _ _ _) (sub_trans rfl hm) ?_
    | with_reducible apply h3
    | (split <;> try extract_lets)

theorem Block.fxStart_frame x0 x1 : Frame 20497 x0 (Block.fxStart x0 x1) := by
  unfold Block.fxStart
  try extract_lets
  repeat' first
    | with_reducible assumption
    | with_reducible exact Frame.refl _ _
    | with_reducible apply Frame.ite
    | ((with_reducible apply Frame.via (Block.put_frame _ _ _)); · rfl)
    | ((with_reducible apply Frame.via (Block.setPc_frame _ _ _)); · rfl)
    | ((with_reducible apply Frame.via (Block.setFx_frame _ _ _)); · rfl)
    | ((with_reducible apply Frame.via (Block.setEngine_frame _ _ _)); · rfl)
    | (split <;> try extract_lets)

theorem Block.fxStop_frame x0 x1 : Frame 154641 x0 (Block.fxStop x0 x1) := by
  unfold Block.fxStop
  try extract_lets
  repeat' first
    | with_reducible assumption
    | with_reducible exact Frame.refl _ _
    | with_reducible apply Frame.ite
    | ((with_reducible apply Frame.via (Block.offFx_frame _ _ _)); · rfl)
    | ((with_reducible apply Frame.via (Block.setEngine_frame _ _ _)); · rfl)
    | (split <;> try extract_lets)

theorem Block.fxStopDrain_frame x0 x1 : Frame 152593 x0 (Block.fxStopDrain x0 x1) := by
  unfold Block.fxStopDrain
  try extract_lets
  repeat' first
    | with_reducible assumption
    | with_reducible exact Frame.refl _ _
    | with_reducible apply Frame.ite
    | ((with_reducible apply Frame.via (Block.setFx_frame _ _ _)); · rfl)
    | ((with_reducible apply Frame.via (Block.unhold_frame _ _)); · rfl)
    | ((with_reducible apply Frame.via (Block.ownerGone_frame _ _)); · rfl)
    | ((with_reducible apply Frame.via (Block.setEngine_frame _ _ _)); · rfl)
    | (split <;> try extract_lets)

theorem Block.fxCommand_frame x0 x1 x2 : Frame 154641 x0 (Block.fxCommand x0 x1 x2) := by
  unfold Block.fxCommand
  try extract_lets
  repeat' first
    | with_reducible assumption
    | with_reducible exact Frame.refl _ _
    | ((with_reducible apply Frame.via (Block.fxStart_frame _ _)); · rfl)
    | ((with_reducible apply Frame.via (Block.fxStop_frame _ _)); · rfl)
    | ((with_reducible apply Frame.via (Block.fxStopDrain_frame _ _)); · rfl)
    | with_reducible exact Frame.snd (by assumption)
    | with_reducible refine Frame.pair2 (by assumption) ?_
    | with_reducible refine Frame.pair3 (by assumption) ?_
    | with_reducible refine Frame.pair4 (by assumption) ?_
    | (split <;> try extract_lets)
    | (dsimp +zetaDelta only; split <;> try extract_lets)

theorem Block.setVx_frame x0 x1 x2 x3 : Frame 4096 x0 (Block.setVx x0 x1 x2 x3) := by
  unfold Block.setVx
  try extract_lets
  repeat' first
    | with_reducible assumption
    | with_reducible exact Frame.refl _ _
    | (with_reducible intro _; try extract_lets)
    | ((with_reducible apply Frame.via (Block.setEngine_frame _ _ _)); · rfl)

theorem Block.setAx_frame x0 x1 x2 x3 : Frame 4096 x0 (Block.setAx x0 x1 x2 x3) := by
  unfold Block.setAx
  try extract_lets
  repeat' first
    | with_reducible assumption
    | with_reducible exact Frame.refl _ _
    | (with_reducible intro _; try extract_lets)
    | ((with_reducible apply Frame.via (Block.setEngine_frame _ _ _)); · rfl)

theorem Block.dbgWrite_frame x0 x1 x2 x3 : Frame 4096 x0 (Block.dbgWrite x0 x1 x2 x3) := by
  unfold Block.dbgWrite
  try extract_lets
  repeat' first
    | with_reducible assumption
    | with_reducible exact Frame.refl _ _
    | with_reducible apply Frame.ite
    | ((with_reducible apply Frame.via (Block.setSx_frame _ _ _ _)); · rfl)
    | ((with_reducible apply Frame.via (Block.setVx_frame _ _ _ _)); · rfl)
    | ((with_reducible apply Frame.via (Block.setAx_frame _ _ _ _)); · rfl)
    | (split <;> try extract_lets)

theorem Block.advanceDbg_frame x0 x1 : Frame 1 x0 (Block.advanceDbg x0 x1) := by
  unfold Block.advanceDbg
  try extract_lets
  repeat' first
    | with_reducible assumption
    | with_reducible exact Frame.refl _ _
    | with_reducible apply Frame.ite
    | ((with_reducible apply Frame.via (Block.put_frame _ _ _)); · rfl)
    | (split <;> try extract_lets)

theorem Block.writeDbg_frame x0 x1 x2 : Frame 4097 x0 (Block.writeDbg x0 x1 x2) := by
  unfold Block.writeDbg
  try extract_lets
  repeat' first
    | with_reducible assumption
    | with_reducible exact Frame.refl _ _
    | with_reducible apply Frame.ite
    | ((with_reducible apply Frame.via (Block.dbgWrite_frame _ _ _ _)); · rfl)
    | ((with_reducible apply Frame.via (Block.advanceDbg_frame _ _)); · rfl)
    | (split <;> try extract_lets)

theorem Block.writeQfring_frame x0 x1 x2 : Frame 1 x0 (Block.writeQfring x0 x1 x2) := by
  unfold Block.writeQfring
  try extract_lets
  repeat' first
    | with_reducible assumption
    | with_reducible exact Frame.refl _ _
    | (with_reducible intro _; try extract_lets)
    | with_reducible apply Frame.ite
    | ((with_reducible apply Frame.via (Block.put_frame _ _ _)); · rfl)
    | (split <;> try extract_lets)

theorem Block.writeQfrp_frame x0 x1 x2 : Frame 1 x0 (Block.writeQfrp x0 x1 x2) := by
  unfold Block.writeQfrp
  try extract_lets
  repeat' first
    | with_reducible assumption
    | with_reducible exact Frame.refl _ _
    | with_reducible apply Frame.ite
    | ((with_reducible apply Frame.via (Block.put_frame _ _ _)); · rfl)
    | (split <;> try extract_lets)

theorem Block.pushRing_frame x0 x1 x2 : Frame 65537 x0 (Block.pushRing x0 x1 x2) := by
  unfold Block.pushRing
  try extract_lets
  repeat' first
    | with_reducible assumption
    | with_reducible exact Frame.refl _ _
    | with_reducible apply Frame.ite
    | ((with_reducible apply Frame.via (Block.put_frame _ _ _)); · rfl)
    | ((with_reducible apply Frame.via (Block.bump_frame _ _ _)); · rfl)
    | ((with_reducible apply Frame.via (Block.memWrite_frame _ _ _)); · rfl)
    | with_reducible exact Frame.snd (by assumption)
    | with_reducible refine Frame.pair2 (by assumption) ?_
    | with_reducible refine Frame.pair3 (by assumption) ?_
    | with_reducible refine Frame.pair4 (by assumption) ?_
    | (split <;> try extract_lets)
    | (dsimp +zetaDelta only; split <;> try extract_lets)

theorem Block.setScratch_frame x0 x1 x2 x3 : Frame 4096 x0 (Block.setScratch x0 x1 x2 x3) := by
  unfold Block.setScratch
  try extract_lets
  repeat' first
    | with_reducible assumption
    | with_reducible exact Frame.refl _ _
    | (with_reducible intro _; try extract_lets)
    | ((with_reducible apply Frame.put_fox); · rfl)

theorem Block.setPm_frame x0 x1 x2 x3 : Frame 4096 x0 (Block.setPm x0 x1 x2 x3) := by
  unfold Block.setPm
  try extract_lets
  repeat' first
    | with_reducible assumption
    | with_reducible exact Frame.refl _ _
    | (with_reducible intro _; try extract_lets)
    | ((with_reducible apply Frame.put_fox); · rfl)

theorem Block.writeScr_frame x0 x1 x2 x3 : Frame 4097 x0 (Block.writeScr x0 x1 x2 x3) := by
  unfold Block.writeScr
  try extract_lets
  repeat' first
    | with_reducible assumption
    | with_reducible exact Frame.refl _ _
    | with_reducible apply Frame.ite
    | ((with_reducible apply Frame.via (Block.setScratch_frame _ _ _ _)); · rfl)
    | ((with_reducible apply Frame.via (Block.put_frame _ _ _)); · rfl)
    | (split <;> try extract_lets)

theorem Block.writePm_frame x0 x1 x2 x3 : Frame 4097 x0 (Block.writePm x0 x1 x2 x3) := by
  unfold Block.writePm
  try extract_lets
  repeat' first
    | with_reducible assumption
    | with_reducible exact Frame.refl _ _
    | with_reducible apply Frame.ite
    | ((with_reducible apply Frame.via (Block.put_frame _ _ _)); · rfl)
    | ((with_reducible apply Frame.via (Block.setPm_frame _ _ _ _)); · rfl)
    | (split <;> try extract_lets)

theorem Block.holdFx_frame x0 x1 : Frame 4097 x0 (Block.holdFx x0 x1) := by
  unfold Block.holdFx
  try extract_lets
  repeat' first
    | with_reducible assumption
    | with_reducible exact Frame.refl _ _
    | ((with_reducible apply Frame.via (Block.setEngine_frame _ _ _)); · rfl)
    | ((with_reducible apply Frame.via (Block.put_frame _ _ _)); · rfl)

theorem Block.readDbg_frame x0 x1 : Frame 1 x0 (Block.readDbg x0 x1).2 := by
  unfold Block.readDbg
  try extract_lets
  repeat' first
    | with_reducible assumption
    | with_reducible exact Frame.refl _ _
    | ((with_reducible apply Frame.via (Block.advanceDbg_frame _ _)); · rfl)
    | dsimp only

theorem doFxDbgDataAccess_frame x0 x1 x2 : Frame 4097 x2 (doFxDbgDataAccess x0 x1 x2) := by
  unfold doFxDbgDataAccess
  try extract_lets
  repeat' first
    | with_reducible assumption
    | with_reducible exact Frame.refl _ _
    | with_reducible apply Frame.ite
    | ((with_reducible apply Frame.via (Block.writeDbg_frame _ _ _)); · rfl)
    | ((with_reducible apply Frame.via (Block.readDbg_frame _ _)); · rfl)
    | with_reducible exact Frame.snd (by assumption)
    | with_reducible refine Frame.pair2 (by assumption) ?_
    | with_reducible refine Frame.pair3 (by assumption) ?_
    | with_reducible refine Frame.pair4 (by assumption) ?_
    | (split <;> try extract_lets)
    | (dsimp +zetaDelta only; split <;> try extract_lets)

theorem doFxStart_frame x0 x1 : Frame 154641 x1 (doFxStart x0 x1) := by
  unfold doFxStart
  try extract_lets
  repeat' first
    | with_reducible assumption
    | with_reducible exact Frame.refl _ _
    | (with_reducible intro _; try extract_lets)
    | with_reducible apply Frame.ite
    | with_reducible apply Frame.each
    | ((with_reducible apply Frame.via (Block.fxCommand_frame _ _ _)); · rfl)
    | (split <;> try extract_lets)

theorem doFxStopDrain_frame x0 x1 : Frame 154641 x1 (doFxStopDrain x0 x1) := by
  unfold doFxStopDrain
  try extract_lets
  repeat' first
    | with_reducible assumption
    | with_reducible exact Frame.refl _ _
    | (with_reducible intro _; try extract_lets)
    | with_reducible apply Frame.ite
    | with_reducible apply Frame.each
    | ((with_reducible apply Frame.via (Block.fxCommand_frame _ _ _)); · rfl)
    | (split <;> try extract_lets)

theorem doWriteBufferDrain_frame x0 x1 x2 : Frame 69632 x2 (doWriteBufferDrain x0 x1 x2) := by
  unfold doWriteBufferDrain
  try extract_lets
  repeat' first
    | with_reducible assumption
    | with_reducible exact Frame.refl _ _
    | (with_reducible intro _; try extract_lets)
    | with_reducible apply Frame.ite
    | ((with_reducible apply Frame.via (Block.setEngine_frame _ _ _)); · rfl)
    | ((with_reducible apply Frame.via (Block.memWrite_frame _ _ _)); · rfl)
    | with_reducible exact Frame.snd (by assumption)
    | with_reducible refine Frame.pair2 (by assumption) ?_
    | with_reducible refine Frame.pair3 (by assumption) ?_
    | with_reducible refine Frame.pair4 (by assumption) ?_
    | (split <;> try extract_lets)
    | (dsimp +zetaDelta only; split <;> try extract_lets)

theorem doNodeCompletion_frame x0 x1 : Frame 135185 x1 (doNodeCompletion x0 x1) := by
  unfold doNodeCompletion
  try extract_lets
  repeat' first
    | with_reducible assumption
    | with_reducible exact Frame.refl _ _
    | with_reducible apply Frame.ite
    | ((with_reducible apply Frame.via (Block.setSx_frame _ _ _ _)); · rfl)
    | ((with_reducible apply Frame.via (Block.setEngine_frame _ _ _)); · rfl)
    | ((with_reducible apply Frame.via (Block.bump_frame _ _ _)); · rfl)
    | ((with_reducible apply Frame.via (Block.raise_frame _ _ _)); · rfl)
    | ((with_reducible apply Frame.via (Block.put_frame _ _ _)); · rfl)
    | with_reducible exact Frame.snd (by assumption)
    | with_reducible refine Frame.pair2 (by assumption) ?_
    | with_reducible refine Frame.pair3 (by assumption) ?_
    | with_reducible refine Frame.pair4 (by assumption) ?_
    | (split <;> try extract_lets)
    | (dsimp +zetaDelta only; split <;> try extract_lets)

theorem doFoxMigrateSwitch_frame x0 : Frame 20497 x0 (doFoxMigrateSwitch x0) := by
  unfold doFoxMigrateSwitch
  try extract_lets
  repeat' first
    | with_reducible assumption
    | with_reducible exact Frame.refl _ _
    | with_reducible apply Frame.ite
    | ((with_reducible apply Frame.via (Block.put_frame _ _ _)); · rfl)
    | ((with_reducible apply Frame.via (Block.setFx_frame _ _ _)); · rfl)
    | ((with_reducible apply Frame.via (Block.unhold_frame _ _)); · rfl)
    | ((with_reducible apply Frame.via (Block.finishPacket_frame _ _ _ _ _)); · rfl)
    | with_reducible exact Frame.snd (by assumption)
    | with_reducible refine Frame.pair2 (by assumption) ?_
    | with_reducible refine Frame.pair3 (by assumption) ?_
    | with_reducible refine Frame.pair4 (by assumption) ?_
    | (split <;> try extract_lets)
    | (dsimp +zetaDelta only; split <;> try extract_lets)

theorem doRingEnable_frame x0 x1 x2 : Frame 1 x2 (doRingEnable x0 x1 x2) := by
  unfold doRingEnable
  try extract_lets
  repeat' first
    | with_reducible assumption
    | with_reducible exact Frame.refl _ _
    | with_reducible apply Frame.ite
    | ((with_reducible apply Frame.via (Block.writeQfring_frame _ _ _)); · rfl)
    | (split <;> try extract_lets)

theorem doFoxMigrateCopyDone_frame x0 : Frame 545809 x0 (doFoxMigrateCopyDone x0) := by
  unfold doFoxMigrateCopyDone
  try extract_lets
  repeat' first
    | with_reducible assumption
    | with_reducible exact Frame.refl _ _
    | (with_reducible intro _; try extract_lets)
    | with_reducible apply Frame.ite
    | with_reducible apply Frame.each
    | ((with_reducible apply Frame.via (Block.put_frame _ _ _)); · rfl)
    | ((with_reducible apply Frame.via (Block.setReg_frame _ _ _)); · rfl)
    | ((with_reducible apply Frame.via (Block.setPc_frame _ _ _)); · rfl)
    | ((with_reducible apply Frame.via (Block.putB_frame _ _ _)); · rfl)
    | ((with_reducible apply Frame.via (Block.setEngine_frame _ _ _)); · rfl)
    | ((with_reducible apply Frame.via (Block.setStep_frame _ _ _)); · rfl)
    | ((with_reducible apply Frame.via (Block.setFx_frame _ _ _)); · rfl)
    | ((with_reducible apply Frame.put_fox); · rfl)
    | ((with_reducible apply Frame.put_stock); · rfl)
    | with_reducible exact Frame.snd (by assumption)
    | with_reducible refine Frame.pair2 (by assumption) ?_
    | with_reducible refine Frame.pair3 (by assumption) ?_
    | with_reducible refine Frame.pair4 (by assumption) ?_
    | (split <;> try extract_lets)
    | (dsimp +zetaDelta only; split <;> try extract_lets)

theorem doFxStop_frame x0 x1 : Frame 154641 x1 (doFxStop x0 x1) := by
  unfold doFxStop
  try extract_lets
  repeat' first
    | with_reducible assumption
    | with_reducible exact Frame.refl _ _
    | (with_reducible intro _; try extract_lets)
    | with_reducible apply Frame.ite
    | with_reducible apply Frame.each
    | ((with_reducible apply Frame.via (Block.fxCommand_frame _ _ _)); · rfl)
    | (split <;> try extract_lets)

theorem doFxDrainComplete_frame x0 x1 : Frame 154641 x1 (doFxDrainComplete x0 x1) := by
  unfold doFxDrainComplete
  try extract_lets
  repeat' first
    | with_reducible assumption
    | with_reducible exact Frame.refl _ _
    | with_reducible apply Frame.ite
    | ((with_reducible apply Frame.via (Block.offFx_frame _ _ _)); · rfl)
    | (split <;> try extract_lets)

end Sys2Proof.Machine
end

