-- ==== Sys2Proof/Laws/FrameHoardStore.lean ====
section
/-! SUPPORT. What each function of Machine/HoardStore.lean may change. -/

namespace Sys2Proof.Machine

theorem Block.setHoard_frame x0 x1 : Frame 262144 x0 (Block.setHoard x0 x1) := by
  unfold Block.setHoard
  try extract_lets
  repeat' first
    | with_reducible assumption
    | with_reducible exact Frame.refl _ _
    | ((with_reducible apply Frame.put_hoard); · rfl)

theorem Block.setWear_frame x0 x1 : Frame 262144 x0 (Block.setWear x0 x1) := by
  unfold Block.setWear
  try extract_lets
  repeat' first
    | with_reducible assumption
    | with_reducible exact Frame.refl _ _
    | ((with_reducible apply Frame.via (Block.setHoard_frame _ _)); · rfl)

theorem Block.showWear_frame x0 : Frame 1 x0 (Block.showWear x0) := by
  unfold Block.showWear
  try extract_lets
  repeat' first
    | with_reducible assumption
    | with_reducible exact Frame.refl _ _
    | (with_reducible intro _; try extract_lets)
    | with_reducible apply Frame.foldl
    | with_reducible apply Frame.foldlFst
    | with_reducible apply Frame.foldlSnd
    | ((with_reducible apply Frame.via (Block.put_frame _ _ _)); · rfl)
    | dsimp only

theorem Block.readWear_frame x0 : Frame 262145 x0 (Block.readWear x0) := by
  unfold Block.readWear
  try extract_lets
  repeat' first
    | with_reducible assumption
    | with_reducible exact Frame.refl _ _
    | (with_reducible intro _; try extract_lets)
    | with_reducible apply Frame.foldl
    | with_reducible apply Frame.foldlFst
    | with_reducible apply Frame.foldlSnd
    | ((with_reducible apply Frame.via (Block.setWear_frame _ _)); · rfl)
    | ((with_reducible apply Frame.via (Block.setHoard_frame _ _)); · rfl)
    | ((with_reducible apply Frame.via (Block.showWear_frame _)); · rfl)
    | dsimp only

theorem Block.life_frame x0 x1 x2 : Frame 262144 x0 (Block.life x0 x1 x2) := by
  unfold Block.life
  try extract_lets
  repeat' first
    | with_reducible assumption
    | with_reducible exact Frame.refl _ _
    | (with_reducible intro _; try extract_lets)
    | ((with_reducible apply Frame.via (Block.setWear_frame _ _)); · rfl)

theorem Block.showAges_frame x0 : Frame 1 x0 (Block.showAges x0) := by
  unfold Block.showAges
  try extract_lets
  repeat' first
    | with_reducible assumption
    | with_reducible exact Frame.refl _ _
    | (with_reducible intro _; try extract_lets)
    | with_reducible apply Frame.foldl
    | with_reducible apply Frame.foldlFst
    | with_reducible apply Frame.foldlSnd
    | ((with_reducible apply Frame.via (Block.put_frame _ _ _)); · rfl)
    | dsimp only

theorem Block.showDays_frame x0 : Frame 1 x0 (Block.showDays x0) := by
  unfold Block.showDays
  try extract_lets
  repeat' first
    | with_reducible assumption
    | with_reducible exact Frame.refl _ _
    | ((with_reducible apply Frame.via (Block.put_frame _ _ _)); · rfl)

theorem Block.setMacro_frame x0 x1 x2 : Frame 262144 x0 (Block.setMacro x0 x1 x2) := by
  unfold Block.setMacro
  try extract_lets
  repeat' first
    | with_reducible assumption
    | with_reducible exact Frame.refl _ _
    | (with_reducible intro _; try extract_lets)
    | ((with_reducible apply Frame.via (Block.setHoard_frame _ _)); · rfl)

theorem Block.cutMacro_frame x0 x1 : Frame 262152 x0 (Block.cutMacro x0 x1) := by
  unfold Block.cutMacro
  try extract_lets
  repeat' first
    | with_reducible assumption
    | with_reducible exact Frame.refl _ _
    | (with_reducible intro _; try extract_lets)
    | with_reducible apply Frame.ite
    | ((with_reducible apply Frame.via (Block.setMacro_frame _ _ _)); · rfl)
    | ((with_reducible apply Frame.via (Block.draw_frame _)); · rfl)
    | ((with_reducible apply Frame.via (Block.setHoard_frame _ _)); · rfl)
    | with_reducible exact Frame.snd (by assumption)
    | with_reducible refine Frame.pair2 (by assumption) ?_
    | with_reducible refine Frame.pair3 (by assumption) ?_
    | with_reducible refine Frame.pair4 (by assumption) ?_
    | (split <;> try extract_lets)
    | (dsimp +zetaDelta only; split <;> try extract_lets)

theorem Block.cutHoard_frame x0 : Frame 262152 x0 (Block.cutHoard x0) := by
  unfold Block.cutHoard
  try extract_lets
  repeat' first
    | with_reducible assumption
    | with_reducible exact Frame.refl _ _
    | (with_reducible intro _; try extract_lets)
    | with_reducible apply Frame.each
    | ((with_reducible apply Frame.via (Block.cutMacro_frame _ _)); · rfl)

theorem Block.retireRow_frame x0 x1 : Frame 397329 x0 (Block.retireRow x0 x1) := by
  unfold Block.retireRow
  try extract_lets
  repeat' first
    | with_reducible assumption
    | with_reducible exact Frame.refl _ _
    | (with_reducible intro _; try extract_lets)
    | with_reducible apply Frame.ite
    | ((with_reducible apply Frame.via (Block.setHoard_frame _ _)); · rfl)
    | ((with_reducible apply Frame.via (Block.raise_frame _ _ _)); · rfl)
    | ((with_reducible apply Frame.via (Block.put_frame _ _ _)); · rfl)
    | ((with_reducible apply Frame.via (Block.showWear_frame _)); · rfl)
    | (split <;> try extract_lets)

theorem Block.readyRow_frame x0 x1 : Frame 397329 x0 (Block.readyRow x0 x1) := by
  unfold Block.readyRow
  try extract_lets
  repeat' first
    | with_reducible assumption
    | with_reducible exact Frame.refl _ _
    | with_reducible apply Frame.ite
    | ((with_reducible apply Frame.via (Block.retireRow_frame _ _)); · rfl)
    | (split <;> try extract_lets)

theorem Block.rewrote_frame x0 x1 : Frame 262144 x0 (Block.rewrote x0 x1) := by
  unfold Block.rewrote
  try extract_lets
  repeat' first
    | with_reducible assumption
    | with_reducible exact Frame.refl _ _
    | (with_reducible intro _; try extract_lets)
    | with_reducible apply Frame.ite
    | ((with_reducible apply Frame.via (Block.setHoard_frame _ _)); · rfl)
    | (split <;> try extract_lets)

theorem Block.writeRow_frame x0 x1 x2 : Frame 397329 x0 (Block.writeRow x0 x1 x2) := by
  unfold Block.writeRow
  try extract_lets
  repeat' first
    | with_reducible assumption
    | with_reducible exact Frame.refl _ _
    | (with_reducible intro _; try extract_lets)
    | with_reducible apply Frame.ite
    | ((with_reducible apply Frame.via (Block.readyRow_frame _ _)); · rfl)
    | ((with_reducible apply Frame.via (Block.setHoard_frame _ _)); · rfl)
    | ((with_reducible apply Frame.via (Block.life_frame _ _ _)); · rfl)
    | ((with_reducible apply Frame.via (Block.showWear_frame _)); · rfl)
    | ((with_reducible apply Frame.via (Block.rewrote_frame _ _)); · rfl)
    | (split <;> try extract_lets)

theorem Block.hWriteFuel_frame x0 x1 x2 x3 : Frame 397329 x1 (Block.hWriteFuel x0 x1 x2 x3) := by
  induction x0 generalizing x1 x2 x3 with
  | zero =>
    unfold Block.hWriteFuel
    try extract_lets
    repeat' first
      | with_reducible assumption
      | with_reducible exact Frame.refl _ _
      | with_reducible apply Frame.ite
      | ((with_reducible apply Frame.via (Block.writeRow_frame _ _ _)); · rfl)
      | with_reducible exact Frame.snd (by assumption)
      | with_reducible refine Frame.pair2 (by assumption) ?_
      | with_reducible refine Frame.pair3 (by assumption) ?_
      | with_reducible refine Frame.pair4 (by assumption) ?_
      | (split <;> try extract_lets)
      | (dsimp +zetaDelta only; split <;> try extract_lets)
  | succ n ih =>
    unfold Block.hWriteFuel
    try extract_lets
    repeat' first
      | ((with_reducible apply Frame.via (ih _ _ _)); · rfl)
      | with_reducible assumption
      | with_reducible exact Frame.refl _ _
      | with_reducible apply Frame.ite
      | ((with_reducible apply Frame.via (Block.writeRow_frame _ _ _)); · rfl)
      | with_reducible exact Frame.snd (by assumption)
      | with_reducible refine Frame.pair2 (by assumption) ?_
      | with_reducible refine Frame.pair3 (by assumption) ?_
      | with_reducible refine Frame.pair4 (by assumption) ?_
      | (split <;> try extract_lets)
      | (dsimp +zetaDelta only; split <;> try extract_lets)


theorem Block.hWrite_frame x0 x1 x2 : Frame 397329 x0 (Block.hWrite x0 x1 x2) := by
  unfold Block.hWrite
  try extract_lets
  repeat' first
    | with_reducible assumption
    | with_reducible exact Frame.refl _ _
    | ((with_reducible apply Frame.via (Block.hWriteFuel_frame _ _ _ _)); · rfl)

theorem Block.copyHalf_frame x0 : Frame 397329 x0 (Block.copyHalf x0) := by
  unfold Block.copyHalf
  try extract_lets
  repeat' first
    | with_reducible assumption
    | with_reducible exact Frame.refl _ _
    | (with_reducible intro _; try extract_lets)
    | with_reducible apply Frame.ite
    | with_reducible apply Frame.foldl
    | with_reducible apply Frame.foldlFst
    | with_reducible apply Frame.foldlSnd
    | ((with_reducible apply Frame.via (Block.hWrite_frame _ _ _)); · rfl)
    | with_reducible exact Frame.snd (by assumption)
    | with_reducible refine Frame.pair2 (by assumption) ?_
    | with_reducible refine Frame.pair3 (by assumption) ?_
    | with_reducible refine Frame.pair4 (by assumption) ?_
    | (split <;> try extract_lets)
    | (dsimp +zetaDelta only; split <;> try extract_lets)
    | dsimp only

theorem Block.writeItem_frame x0 x1 x2 : Frame 397329 x0 (Block.writeItem x0 x1 x2).2 := by
  unfold Block.writeItem
  try extract_lets
  repeat' first
    | with_reducible assumption
    | with_reducible exact Frame.refl _ _
    | with_reducible apply Frame.ite
    | ((with_reducible apply Frame.via (Block.copyHalf_frame _)); · rfl)
    | ((with_reducible apply Frame.via (Block.hWrite_frame _ _ _)); · rfl)
    | ((with_reducible apply Frame.via (Block.setHoard_frame _ _)); · rfl)
    | with_reducible exact Frame.snd (by assumption)
    | with_reducible refine Frame.pair2 (by assumption) ?_
    | with_reducible refine Frame.pair3 (by assumption) ?_
    | with_reducible refine Frame.pair4 (by assumption) ?_
    | (split <;> try extract_lets)
    | (dsimp +zetaDelta only; split <;> try extract_lets)
    | dsimp only

theorem Block.applyItem_frame x0 x1 : Frame 17 x0 (Block.applyItem x0 x1) := by
  unfold Block.applyItem
  try extract_lets
  repeat' first
    | with_reducible assumption
    | with_reducible exact Frame.refl _ _
    | (with_reducible intro _; try extract_lets)
    | with_reducible apply Frame.each
    | ((with_reducible apply Frame.via (Block.writeFields_frame _ _ _)); · rfl)
    | ((with_reducible apply Frame.via (Block.put_frame _ _ _)); · rfl)
    | ((with_reducible apply Frame.via (Block.writeEvClass_frame _ _ _)); · rfl)
    | with_reducible exact Frame.snd (by assumption)
    | with_reducible refine Frame.pair2 (by assumption) ?_
    | with_reducible refine Frame.pair3 (by assumption) ?_
    | with_reducible refine Frame.pair4 (by assumption) ?_
    | (split <;> try extract_lets)
    | (dsimp +zetaDelta only; split <;> try extract_lets)

theorem doMacroWrite_frame x0 x1 x2 x3 x4 : Frame 397329 x4 (doMacroWrite x0 x1 x2 x3 x4) := by
  unfold doMacroWrite
  try extract_lets
  repeat' first
    | with_reducible assumption
    | with_reducible exact Frame.refl _ _
    | with_reducible apply Frame.ite
    | ((with_reducible apply Frame.via (Block.writeRow_frame _ _ _)); · rfl)
    | ((with_reducible apply Frame.via (Block.setMacro_frame _ _ _)); · rfl)
    | (split <;> try extract_lets)

theorem Block.refresh_frame x0 x1 : Frame 397329 x0 (Block.refresh x0 x1) := by
  unfold Block.refresh
  try extract_lets
  repeat' first
    | with_reducible assumption
    | with_reducible exact Frame.refl _ _
    | (with_reducible intro _; try extract_lets)
    | with_reducible apply Frame.ite
    | with_reducible apply Frame.each
    | ((with_reducible apply Frame.via (Block.raise_frame _ _ _)); · rfl)
    | ((with_reducible apply Frame.via (Block.setHoard_frame _ _)); · rfl)
    | ((with_reducible apply Frame.via (Block.writeRow_frame _ _ _)); · rfl)
    | (split <;> try extract_lets)

theorem Block.configRefused_frame x0 : Frame 135185 x0 (Block.configRefused x0) := by
  unfold Block.configRefused
  try extract_lets
  repeat' first
    | with_reducible assumption
    | with_reducible exact Frame.refl _ _
    | ((with_reducible apply Frame.via (Block.raise_frame _ _ _)); · rfl)

theorem doMacroStatus_frame x0 x1 : Frame 262144 x1 (doMacroStatus x0 x1) := by
  unfold doMacroStatus
  try extract_lets
  repeat' first
    | with_reducible assumption
    | with_reducible exact Frame.refl _ _
    | with_reducible apply Frame.ite
    | ((with_reducible apply Frame.via (Block.setMacro_frame _ _ _)); · rfl)
    | with_reducible exact Frame.snd (by assumption)
    | with_reducible refine Frame.pair2 (by assumption) ?_
    | with_reducible refine Frame.pair3 (by assumption) ?_
    | with_reducible refine Frame.pair4 (by assumption) ?_
    | (split <;> try extract_lets)
    | (dsimp +zetaDelta only; split <;> try extract_lets)

theorem doMacroRead_frame x0 x1 x2 x3 x4 x5 : Frame 397329 x5 (doMacroRead x0 x1 x2 x3 x4 x5) := by
  unfold doMacroRead
  try extract_lets
  repeat' first
    | with_reducible assumption
    | with_reducible exact Frame.refl _ _
    | (with_reducible intro _; try extract_lets)
    | with_reducible apply Frame.ite
    | with_reducible apply Frame.foldl
    | with_reducible apply Frame.foldlFst
    | with_reducible apply Frame.foldlSnd
    | ((with_reducible apply Frame.via (Block.setHoard_frame _ _)); · rfl)
    | ((with_reducible apply Frame.via (Block.setMacro_frame _ _ _)); · rfl)
    | ((with_reducible apply Frame.via (Block.bump_frame _ _ _)); · rfl)
    | ((with_reducible apply Frame.via (Block.raise_frame _ _ _)); · rfl)
    | (split <;> try extract_lets)
    | dsimp only

theorem doConfigItemWrite_frame x0 x1 x2 : Frame 397329 x2 (doConfigItemWrite x0 x1 x2) := by
  unfold doConfigItemWrite
  try extract_lets
  repeat' first
    | with_reducible assumption
    | with_reducible exact Frame.refl _ _
    | with_reducible apply Frame.ite
    | ((with_reducible apply Frame.via (Block.configRefused_frame _)); · rfl)
    | ((with_reducible apply Frame.via (Block.applyItem_frame _ _)); · rfl)
    | ((with_reducible apply Frame.via (Block.writeItem_frame _ _ _)); · rfl)
    | (split <;> try extract_lets)

theorem doWearForecast_frame x0 : Frame 397329 x0 (doWearForecast x0) := by
  unfold doWearForecast
  try extract_lets
  repeat' first
    | with_reducible assumption
    | with_reducible exact Frame.refl _ _
    | (with_reducible intro _; try extract_lets)
    | with_reducible apply Frame.ite
    | ((with_reducible apply Frame.via (Block.raise_frame _ _ _)); · rfl)
    | ((with_reducible apply Frame.via (Block.showDays_frame _)); · rfl)
    | ((with_reducible apply Frame.via (Block.setHoard_frame _ _)); · rfl)
    | with_reducible exact Frame.snd (by assumption)
    | with_reducible refine Frame.pair2 (by assumption) ?_
    | with_reducible refine Frame.pair3 (by assumption) ?_
    | with_reducible refine Frame.pair4 (by assumption) ?_
    | (split <;> try extract_lets)
    | (dsimp +zetaDelta only; split <;> try extract_lets)

theorem doMacroReset_frame x0 x1 : Frame 262152 x1 (doMacroReset x0 x1) := by
  unfold doMacroReset
  try extract_lets
  repeat' first
    | with_reducible assumption
    | with_reducible exact Frame.refl _ _
    | with_reducible apply Frame.ite
    | ((with_reducible apply Frame.via (Block.cutMacro_frame _ _)); · rfl)
    | (split <;> try extract_lets)

theorem Block.flush_frame x0 : Frame 397329 x0 (Block.flush x0) := by
  unfold Block.flush
  try extract_lets
  repeat' first
    | with_reducible assumption
    | with_reducible exact Frame.refl _ _
    | (with_reducible intro _; try extract_lets)
    | with_reducible apply Frame.ite
    | ((with_reducible apply Frame.via (Block.hWrite_frame _ _ _)); · rfl)
    | ((with_reducible apply Frame.via (Block.setHoard_frame _ _)); · rfl)
    | (split <;> try extract_lets)

theorem doMacroIdent_frame x0 x1 : Frame 262152 x1 (doMacroIdent x0 x1) := by
  unfold doMacroIdent
  try extract_lets
  repeat' first
    | with_reducible assumption
    | with_reducible exact Frame.refl _ _
    | (with_reducible intro _; try extract_lets)
    | with_reducible apply Frame.ite
    | ((with_reducible apply Frame.via (Block.drawN_frame _ _)); · rfl)
    | ((with_reducible apply Frame.via (Block.setMacro_frame _ _ _)); · rfl)
    | with_reducible exact Frame.snd (by assumption)
    | with_reducible refine Frame.pair2 (by assumption) ?_
    | with_reducible refine Frame.pair3 (by assumption) ?_
    | with_reducible refine Frame.pair4 (by assumption) ?_
    | (split <;> try extract_lets)
    | (dsimp +zetaDelta only; split <;> try extract_lets)

theorem doWearFlush_frame x0 : Frame 397329 x0 (doWearFlush x0) := by
  unfold doWearFlush
  try extract_lets
  repeat' first
    | with_reducible assumption
    | with_reducible exact Frame.refl _ _
    | with_reducible apply Frame.ite
    | ((with_reducible apply Frame.via (Block.flush_frame _)); · rfl)
    | (split <;> try extract_lets)

theorem doRetentionUpdate_frame x0 : Frame 397337 x0 (doRetentionUpdate x0) := by
  unfold doRetentionUpdate
  try extract_lets
  repeat' first
    | with_reducible assumption
    | with_reducible exact Frame.refl _ _
    | (with_reducible intro _; try extract_lets)
    | with_reducible apply Frame.ite
    | with_reducible apply Frame.each
    | with_reducible apply Frame.foldl
    | with_reducible apply Frame.foldlFst
    | with_reducible apply Frame.foldlSnd
    | ((with_reducible apply Frame.via (Block.draw_frame _)); · rfl)
    | ((with_reducible apply Frame.via (Block.setHoard_frame _ _)); · rfl)
    | ((with_reducible apply Frame.via (Block.setWear_frame _ _)); · rfl)
    | ((with_reducible apply Frame.via (Block.raise_frame _ _ _)); · rfl)
    | ((with_reducible apply Frame.via (Block.put_frame _ _ _)); · rfl)
    | ((with_reducible apply Frame.via (Block.refresh_frame _ _)); · rfl)
    | ((with_reducible apply Frame.via (Block.showAges_frame _)); · rfl)
    | with_reducible exact Frame.snd (by assumption)
    | with_reducible refine Frame.pair2 (by assumption) ?_
    | with_reducible refine Frame.pair3 (by assumption) ?_
    | with_reducible refine Frame.pair4 (by assumption) ?_
    | (split <;> try extract_lets)
    | (dsimp +zetaDelta only; split <;> try extract_lets)
    | dsimp only

end Sys2Proof.Machine
end

