-- ==== Sys2Proof/Laws/FrameDen.lean ====
section
/-! SUPPORT. What each function of Machine/Den.lean may change. -/

namespace Sys2Proof.Machine

theorem Block.orphanPackets_frame x0 : Frame 263169 x0 (Block.orphanPackets x0) := by
  unfold Block.orphanPackets
  try extract_lets
  repeat' first
    | with_reducible assumption
    | with_reducible exact Frame.refl _ _
    | (with_reducible intro _; try extract_lets)
    | ((with_reducible apply Frame.via (Block.setHoard_frame _ _)); · rfl)
    | ((with_reducible apply Frame.via (Block.put_frame _ _ _)); · rfl)
    | ((with_reducible apply Frame.put_sett); · rfl)

theorem Block.timeoutTaken_frame x0 : Frame 279569 x0 (Block.timeoutTaken x0) := by
  unfold Block.timeoutTaken
  try extract_lets
  repeat' first
    | with_reducible assumption
    | with_reducible exact Frame.refl _ _
    | (with_reducible intro _; try extract_lets)
    | with_reducible apply Frame.each
    | ((with_reducible apply Frame.via (Block.orphanPackets_frame _)); · rfl)
    | ((with_reducible apply Frame.via (Block.finish_frame _ _ _ _ _ _ _)); · rfl)

theorem Block.bearStop_frame x0 : Frame 416785 x0 (Block.bearStop x0) := by
  unfold Block.bearStop
  try extract_lets
  repeat' first
    | with_reducible assumption
    | with_reducible exact Frame.refl _ _
    | ((with_reducible apply Frame.via (Block.put_frame _ _ _)); · rfl)
    | ((with_reducible apply Frame.via (Block.maskReq_frame _ _)); · rfl)
    | ((with_reducible apply Frame.via (Block.timeoutTaken_frame _)); · rfl)

theorem Block.bearStart_frame x0 x1 : Frame 33 x0 (Block.bearStart x0 x1) := by
  unfold Block.bearStart
  try extract_lets
  repeat' first
    | with_reducible assumption
    | with_reducible exact Frame.refl _ _
    | with_reducible apply Frame.ite
    | ((with_reducible apply Frame.via (Block.put_frame _ _ _)); · rfl)
    | ((with_reducible apply Frame.put_den); · rfl)
    | (split <;> try extract_lets)

theorem Block.bearRestart_frame x0 x1 : Frame 416817 x0 (Block.bearRestart x0 x1) := by
  unfold Block.bearRestart
  try extract_lets
  repeat' first
    | with_reducible assumption
    | with_reducible exact Frame.refl _ _
    | with_reducible apply Frame.ite
    | ((with_reducible apply Frame.via (Block.bump_frame _ _ _)); · rfl)
    | ((with_reducible apply Frame.via (Block.bearStop_frame _)); · rfl)
    | ((with_reducible apply Frame.via (Block.put_frame _ _ _)); · rfl)
    | ((with_reducible apply Frame.via (Block.bearStart_frame _ _)); · rfl)
    | (split <;> try extract_lets)

theorem doWdtExpire_frame x0 : Frame 416817 x0 (doWdtExpire x0) := by
  unfold doWdtExpire
  try extract_lets
  repeat' first
    | with_reducible assumption
    | with_reducible exact Frame.refl _ _
    | with_reducible apply Frame.ite
    | ((with_reducible apply Frame.via (Block.bearRestart_frame _ _)); · rfl)
    | ((with_reducible apply Frame.via (Block.raise_frame _ _ _)); · rfl)
    | (split <;> try extract_lets)

theorem Block.fwRaise_frame x0 x1 x2 : Frame 135193 x0 (Block.fwRaise x0 x1 x2) := by
  unfold Block.fwRaise
  try extract_lets
  repeat' first
    | with_reducible assumption
    | with_reducible exact Frame.refl _ _
    | (with_reducible intro _; try extract_lets)
    | with_reducible apply Frame.each
    | ((with_reducible apply Frame.via (Block.drawN_frame _ _)); · rfl)
    | ((with_reducible apply Frame.via (Block.setReg_frame _ _ _)); · rfl)
    | ((with_reducible apply Frame.via (Block.raiseWith_frame _ _ _ _)); · rfl)
    | with_reducible exact Frame.snd (by assumption)
    | with_reducible refine Frame.pair2 (by assumption) ?_
    | with_reducible refine Frame.pair3 (by assumption) ?_
    | with_reducible refine Frame.pair4 (by assumption) ?_
    | (split <;> try extract_lets)
    | (dsimp +zetaDelta only; split <;> try extract_lets)

theorem doWdtKick_frame x0 x1 x2 : Frame 32 x2 (doWdtKick x0 x1 x2) := by
  unfold doWdtKick
  try extract_lets
  repeat' first
    | with_reducible assumption
    | with_reducible exact Frame.refl _ _
    | with_reducible apply Frame.ite
    | ((with_reducible apply Frame.put_den); · rfl)
    | (split <;> try extract_lets)

theorem Block.writeFwraise_frame x0 x1 x2 : Frame 135185 x0 (Block.writeFwraise x0 x1 x2) := by
  unfold Block.writeFwraise
  try extract_lets
  repeat' first
    | with_reducible assumption
    | with_reducible exact Frame.refl _ _
    | (with_reducible intro _; try extract_lets)
    | with_reducible apply Frame.ite
    | ((with_reducible apply Frame.via (Block.raiseWith_frame _ _ _ _)); · rfl)
    | ((with_reducible apply Frame.via (Block.put_frame _ _ _)); · rfl)
    | (split <;> try extract_lets)

theorem Block.writeEvBudget_frame x0 x1 x2 : Frame 1 x0 (Block.writeEvBudget x0 x1 x2) := by
  unfold Block.writeEvBudget
  try extract_lets
  repeat' first
    | with_reducible assumption
    | with_reducible exact Frame.refl _ _
    | with_reducible apply Frame.ite
    | ((with_reducible apply Frame.via (Block.setReg_frame _ _ _)); · rfl)
    | ((with_reducible apply Frame.via (Block.put_frame _ _ _)); · rfl)
    | (split <;> try extract_lets)

theorem doEvPendClear_frame x0 x1 x2 x3 x4 : Frame 1 x4 (doEvPendClear x0 x1 x2 x3 x4) := by
  unfold doEvPendClear
  try extract_lets
  repeat' first
    | with_reducible assumption
    | with_reducible exact Frame.refl _ _
    | with_reducible apply Frame.ite
    | ((with_reducible apply Frame.via (Block.writeFields_frame _ _ _)); · rfl)
    | (split <;> try extract_lets)

theorem Block.setFill_frame x0 x1 : Frame 1 x0 (Block.setFill x0 x1) := by
  unfold Block.setFill
  try extract_lets
  repeat' first
    | with_reducible assumption
    | with_reducible exact Frame.refl _ _
    | ((with_reducible apply Frame.via (Block.putB_frame _ _ _)); · rfl)
    | ((with_reducible apply Frame.via (Block.put_frame _ _ _)); · rfl)

theorem Block.publish_frame x0 x1 : Frame 135225 x0 (Block.publish x0 x1) := by
  unfold Block.publish
  try extract_lets
  repeat' first
    | with_reducible assumption
    | with_reducible exact Frame.refl _ _
    | with_reducible apply Frame.ite
    | ((with_reducible apply Frame.via (Block.put_frame _ _ _)); · rfl)
    | ((with_reducible apply Frame.via (Block.fwRaise_frame _ _ _)); · rfl)
    | ((with_reducible apply Frame.via (Block.offerQf_frame _ _)); · rfl)
    | ((with_reducible apply Frame.put_den); · rfl)
    | (split <;> try extract_lets)

theorem Block.withFollowUps_frame x0 x1 : Frame 135185 x0 (Block.withFollowUps x0 x1) := by
  unfold Block.withFollowUps
  try extract_lets
  repeat' first
    | with_reducible assumption
    | with_reducible exact Frame.refl _ _
    | (with_reducible intro _; try extract_lets)
    | ((with_reducible apply Frame.via (followUps_frame _ _)); · rfl)
    | ((with_reducible apply Frame.via (Block.deliverAll_frame _ _ _)); · rfl)
    | with_reducible exact Frame.snd (by assumption)
    | with_reducible refine Frame.pair2 (by assumption) ?_
    | with_reducible refine Frame.pair3 (by assumption) ?_
    | with_reducible refine Frame.pair4 (by assumption) ?_
    | (split <;> try extract_lets)
    | (dsimp +zetaDelta only; split <;> try extract_lets)

theorem Block.sensorInvalid_frame x0 x1 : Frame 135185 x0 (Block.sensorInvalid x0 x1) := by
  unfold Block.sensorInvalid
  try extract_lets
  repeat' first
    | with_reducible assumption
    | with_reducible exact Frame.refl _ _
    | ((with_reducible apply Frame.via (Block.raise_frame _ _ _)); · rfl)
    | ((with_reducible apply Frame.via (Block.put_frame _ _ _)); · rfl)

theorem Block.takeTherm_frame x0 x1 x2 : Frame 135225 x0 (Block.takeTherm x0 x1 x2) := by
  unfold Block.takeTherm
  try extract_lets
  repeat' first
    | with_reducible assumption
    | with_reducible exact Frame.refl _ _
    | (with_reducible intro _; try extract_lets)
    | with_reducible apply Frame.ite
    | ((with_reducible apply Frame.via (Block.draw_frame _)); · rfl)
    | ((with_reducible apply Frame.via (Block.put_frame _ _ _)); · rfl)
    | ((with_reducible apply Frame.via (Block.putB_frame _ _ _)); · rfl)
    | ((with_reducible apply Frame.via (Block.sensorInvalid_frame _ _)); · rfl)
    | ((with_reducible apply Frame.via (Block.raise_frame _ _ _)); · rfl)
    | ((with_reducible apply Frame.put_den); · rfl)
    | with_reducible exact Frame.snd (by assumption)
    | with_reducible refine Frame.pair2 (by assumption) ?_
    | with_reducible refine Frame.pair3 (by assumption) ?_
    | with_reducible refine Frame.pair4 (by assumption) ?_
    | (split <;> try extract_lets)
    | (dsimp +zetaDelta only; split <;> try extract_lets)

theorem Block.writeFf_frame x0 x1 x2 : Frame 397329 x0 (Block.writeFf x0 x1 x2) := by
  unfold Block.writeFf
  try extract_lets
  repeat' first
    | with_reducible assumption
    | with_reducible exact Frame.refl _ _
    | with_reducible apply Frame.ite
    | ((with_reducible apply Frame.via (Block.setFill_frame _ _)); · rfl)
    | ((with_reducible apply Frame.via (Block.hWrite_frame _ _ _)); · rfl)
    | ((with_reducible apply Frame.via (Block.raise_frame _ _ _)); · rfl)
    | (split <;> try extract_lets)

theorem Block.readEvCnt_frame x0 x1 : Frame 1 x0 (Block.readEvCnt x0 x1).2 := by
  unfold Block.readEvCnt
  try extract_lets
  repeat' first
    | with_reducible assumption
    | with_reducible exact Frame.refl _ _
    | (with_reducible intro _; try extract_lets)
    | with_reducible apply Frame.ite
    | ((with_reducible apply Frame.via (Block.put_frame _ _ _)); · rfl)
    | (split <;> try extract_lets)
    | dsimp only

theorem Block.writeTrail_frame x0 x1 : Frame 397329 x0 (Block.writeTrail x0 x1) := by
  unfold Block.writeTrail
  try extract_lets
  repeat' first
    | with_reducible assumption
    | with_reducible exact Frame.refl _ _
    | ((with_reducible apply Frame.via (Block.hWrite_frame _ _ _)); · rfl)
    | ((with_reducible apply Frame.via (Block.life_frame _ _ _)); · rfl)
    | ((with_reducible apply Frame.via (Block.setReg_frame _ _ _)); · rfl)
    | ((with_reducible apply Frame.put_ev); · rfl)

theorem Block.plySummaries_frame x0 : Frame 131089 x0 (Block.plySummaries x0) := by
  unfold Block.plySummaries
  try extract_lets
  repeat' first
    | with_reducible assumption
    | with_reducible exact Frame.refl _ _
    | (with_reducible intro _; try extract_lets)
    | with_reducible apply Frame.ite
    | with_reducible apply Frame.each
    | ((with_reducible apply Frame.via (Block.offerEvt_frame _ _)); · rfl)
    | ((with_reducible apply Frame.put_ev); · rfl)
    | (split <;> try extract_lets)

theorem Block.summary_frame x0 : Frame 17 x0 (Block.summary x0) := by
  unfold Block.summary
  try extract_lets
  repeat' first
    | with_reducible assumption
    | with_reducible exact Frame.refl _ _
    | (with_reducible intro _; try extract_lets)
    | with_reducible apply Frame.ite
    | with_reducible apply Frame.foldl
    | with_reducible apply Frame.foldlFst
    | with_reducible apply Frame.foldlSnd
    | ((with_reducible apply Frame.via (Block.stage_frame _ _)); · rfl)
    | ((with_reducible apply Frame.put_ev); · rfl)
    | with_reducible exact Frame.snd (by assumption)
    | with_reducible refine Frame.pair2 (by assumption) ?_
    | with_reducible refine Frame.pair3 (by assumption) ?_
    | with_reducible refine Frame.pair4 (by assumption) ?_
    | (split <;> try extract_lets)
    | (dsimp +zetaDelta only; split <;> try extract_lets)
    | dsimp only

theorem Block.shedCounts_frame x0 : Frame 17 x0 (Block.shedCounts x0) := by
  unfold Block.shedCounts
  try extract_lets
  repeat' first
    | with_reducible assumption
    | with_reducible exact Frame.refl _ _
    | (with_reducible intro _; try extract_lets)
    | with_reducible apply Frame.foldl
    | with_reducible apply Frame.foldlFst
    | with_reducible apply Frame.foldlSnd
    | ((with_reducible apply Frame.via (Block.bump_frame _ _ _)); · rfl)
    | ((with_reducible apply Frame.via (Block.addLost_frame _ _)); · rfl)
    | ((with_reducible apply Frame.put_ev); · rfl)
    | dsimp only

theorem doIntervalEnd_frame x0 : Frame 135185 x0 (doIntervalEnd x0) := by
  unfold doIntervalEnd
  try extract_lets
  repeat' first
    | with_reducible assumption
    | with_reducible exact Frame.refl _ _
    | with_reducible apply Frame.ite
    | ((with_reducible apply Frame.via (Block.withFollowUps_frame _ _)); · rfl)
    | ((with_reducible apply Frame.via (Block.showTrail_frame _)); · rfl)
    | ((with_reducible apply Frame.via (Block.plySummaries_frame _)); · rfl)
    | ((with_reducible apply Frame.via (Block.summary_frame _)); · rfl)
    | ((with_reducible apply Frame.via (Block.shedCounts_frame _)); · rfl)
    | ((with_reducible apply Frame.put_ev); · rfl)
    | (split <;> try extract_lets)

theorem doEventRaise_frame x0 x1 x2 : Frame 135185 x2 (doEventRaise x0 x1 x2) := by
  unfold doEventRaise
  try extract_lets
  repeat' first
    | with_reducible assumption
    | with_reducible exact Frame.refl _ _
    | with_reducible apply Frame.ite
    | ((with_reducible apply Frame.via (Block.raise_frame _ _ _)); · rfl)
    | (split <;> try extract_lets)

theorem Block.unstage_frame x0 : Frame 17 x0 (Block.unstage x0) := by
  unfold Block.unstage
  try extract_lets
  repeat' first
    | with_reducible assumption
    | with_reducible exact Frame.refl _ _
    | ((with_reducible apply Frame.via (Block.showTrail_frame _)); · rfl)
    | ((with_reducible apply Frame.put_ev); · rfl)

theorem doEvFwraise_frame x0 x1 x2 : Frame 135185 x2 (doEvFwraise x0 x1 x2) := by
  unfold doEvFwraise
  try extract_lets
  repeat' first
    | with_reducible assumption
    | with_reducible exact Frame.refl _ _
    | ((with_reducible apply Frame.via (Block.writeFwraise_frame _ _ _)); · rfl)

theorem doTrailScan_frame x0 : Frame 397369 x0 (doTrailScan x0) := by
  unfold doTrailScan
  try extract_lets
  repeat' first
    | with_reducible assumption
    | with_reducible exact Frame.refl _ _
    | (with_reducible intro _; try extract_lets)
    | with_reducible apply Frame.ite
    | ((with_reducible apply Frame.via (Block.setFill_frame _ _)); · rfl)
    | ((with_reducible apply Frame.via (Block.draw_frame _)); · rfl)
    | ((with_reducible apply Frame.via (Block.writeTrail_frame _ _)); · rfl)
    | ((with_reducible apply Frame.put_ev); · rfl)
    | ((with_reducible apply Frame.put_den); · rfl)
    | with_reducible exact Frame.snd (by assumption)
    | with_reducible refine Frame.pair2 (by assumption) ?_
    | with_reducible refine Frame.pair3 (by assumption) ?_
    | with_reducible refine Frame.pair4 (by assumption) ?_
    | (split <;> try extract_lets)
    | (dsimp +zetaDelta only; split <;> try extract_lets)

theorem doBearRestart_frame x0 x1 : Frame 416817 x1 (doBearRestart x0 x1) := by
  unfold doBearRestart
  try extract_lets
  repeat' first
    | with_reducible assumption
    | with_reducible exact Frame.refl _ _
    | with_reducible apply Frame.ite
    | ((with_reducible apply Frame.via (Block.bearRestart_frame _ _)); · rfl)
    | ((with_reducible apply Frame.via (Block.raise_frame _ _ _)); · rfl)
    | with_reducible exact Frame.snd (by assumption)
    | with_reducible refine Frame.pair2 (by assumption) ?_
    | with_reducible refine Frame.pair3 (by assumption) ?_
    | with_reducible refine Frame.pair4 (by assumption) ?_
    | (split <;> try extract_lets)
    | (dsimp +zetaDelta only; split <;> try extract_lets)

theorem Block.tempWord_frame x0 x1 : Frame 8 x0 (Block.tempWord x0 x1).2 := by
  unfold Block.tempWord
  try extract_lets
  repeat' first
    | with_reducible assumption
    | with_reducible exact Frame.refl _ _
    | (with_reducible intro _; try extract_lets)
    | with_reducible apply Frame.ite
    | ((with_reducible apply Frame.via (Block.draw_frame _)); · rfl)
    | with_reducible exact Frame.snd (by assumption)
    | with_reducible refine Frame.pair2 (by assumption) ?_
    | with_reducible refine Frame.pair3 (by assumption) ?_
    | with_reducible refine Frame.pair4 (by assumption) ?_
    | (split <;> try extract_lets)
    | (dsimp +zetaDelta only; split <;> try extract_lets)
    | dsimp only

theorem doTempRd_frame x0 x1 x2 x3 : Frame 154649 x3 (doTempRd x0 x1 x2 x3) := by
  unfold doTempRd
  try extract_lets
  repeat' first
    | with_reducible assumption
    | with_reducible exact Frame.refl _ _
    | (with_reducible intro _; try extract_lets)
    | ((with_reducible apply Block.issue_frame); · rfl)
    | ((with_reducible apply Frame.via (Block.tempWord_frame _ _)); · rfl)
    | ((with_reducible apply Frame.via (Block.result_frame _ _ _ _)); · rfl)
    | with_reducible exact Frame.snd (by assumption)
    | with_reducible refine Frame.pair2 (by assumption) ?_
    | with_reducible refine Frame.pair3 (by assumption) ?_
    | with_reducible refine Frame.pair4 (by assumption) ?_
    | (split <;> try extract_lets)
    | (dsimp +zetaDelta only; split <;> try extract_lets)

theorem doTrailWrite_frame x0 : Frame 397329 x0 (doTrailWrite x0) := by
  unfold doTrailWrite
  try extract_lets
  repeat' first
    | with_reducible assumption
    | with_reducible exact Frame.refl _ _
    | with_reducible apply Frame.ite
    | ((with_reducible apply Frame.via (Block.writeFf_frame _ _ _)); · rfl)
    | ((with_reducible apply Frame.via (Block.unstage_frame _)); · rfl)
    | ((with_reducible apply Frame.via (Block.writeTrail_frame _ _)); · rfl)
    | with_reducible exact Frame.snd (by assumption)
    | with_reducible refine Frame.pair2 (by assumption) ?_
    | with_reducible refine Frame.pair3 (by assumption) ?_
    | with_reducible refine Frame.pair4 (by assumption) ?_
    | (split <;> try extract_lets)
    | (dsimp +zetaDelta only; split <;> try extract_lets)

theorem doEvCntRead_frame x0 x1 : Frame 1 x1 (doEvCntRead x0 x1) := by
  unfold doEvCntRead
  try extract_lets
  repeat' first
    | with_reducible assumption
    | with_reducible exact Frame.refl _ _
    | ((with_reducible apply Frame.via (Block.readEvCnt_frame _ _)); · rfl)

theorem doEvBudgetWrite_frame x0 x1 x2 : Frame 1 x2 (doEvBudgetWrite x0 x1 x2) := by
  unfold doEvBudgetWrite
  try extract_lets
  repeat' first
    | with_reducible assumption
    | with_reducible exact Frame.refl _ _
    | with_reducible apply Frame.ite
    | ((with_reducible apply Frame.via (Block.writeEvBudget_frame _ _ _)); · rfl)
    | (split <;> try extract_lets)

theorem Block.updateTj_frame x0 : Frame 33 x0 (Block.updateTj x0) := by
  unfold Block.updateTj
  try extract_lets
  repeat' first
    | with_reducible assumption
    | with_reducible exact Frame.refl _ _
    | (with_reducible intro _; try extract_lets)
    | with_reducible apply Frame.foldl
    | with_reducible apply Frame.foldlFst
    | with_reducible apply Frame.foldlSnd
    | ((with_reducible apply Frame.via (Block.put_frame _ _ _)); · rfl)
    | ((with_reducible apply Frame.put_den); · rfl)
    | with_reducible exact Frame.snd (by assumption)
    | with_reducible refine Frame.pair2 (by assumption) ?_
    | with_reducible refine Frame.pair3 (by assumption) ?_
    | with_reducible refine Frame.pair4 (by assumption) ?_
    | (split <;> try extract_lets)
    | (dsimp +zetaDelta only; split <;> try extract_lets)
    | dsimp only

theorem doSensorSample_frame x0 x1 : Frame 135225 x1 (doSensorSample x0 x1) := by
  unfold doSensorSample
  try extract_lets
  repeat' first
    | with_reducible assumption
    | with_reducible exact Frame.refl _ _
    | (with_reducible intro _; try extract_lets)
    | with_reducible apply Frame.ite
    | with_reducible apply Frame.each
    | ((with_reducible apply Frame.via (Block.updateTj_frame _)); · rfl)
    | ((with_reducible apply Frame.via (Block.takeTherm_frame _ _ _)); · rfl)
    | ((with_reducible apply Frame.put_den); · rfl)
    | (split <;> try extract_lets)

theorem doSensorScan_frame x0 x1 : Frame 135217 x1 (doSensorScan x0 x1) := by
  unfold doSensorScan
  try extract_lets
  repeat' first
    | with_reducible assumption
    | with_reducible exact Frame.refl _ _
    | (with_reducible intro _; try extract_lets)
    | with_reducible apply Frame.ite
    | with_reducible apply Frame.each
    | ((with_reducible apply Frame.via (Block.sensorInvalid_frame _ _)); · rfl)
    | ((with_reducible apply Frame.put_den); · rfl)
    | (split <;> try extract_lets)

end Sys2Proof.Machine
end

