-- ==== Sys2Proof/Laws/FrameFilter.lean ====
section
/-! SUPPORT. What each function of Machine/Filter.lean may change. -/

namespace Sys2Proof.Machine

theorem Block.advanceTap_frame x0 x1 : Frame 1 x0 (Block.advanceTap x0 x1) := by
  unfold Block.advanceTap
  try extract_lets
  repeat' first
    | with_reducible assumption
    | with_reducible exact Frame.refl _ _
    | ((with_reducible apply Frame.via (Block.put_frame _ _ _)); · rfl)

theorem Block.setDc_frame x0 x1 x2 x3 x4 : Frame 512 x0 (Block.setDc x0 x1 x2 x3 x4) := by
  unfold Block.setDc
  try extract_lets
  repeat' first
    | with_reducible assumption
    | with_reducible exact Frame.refl _ _
    | (with_reducible intro _; try extract_lets)
    | with_reducible apply Frame.ite
    | ((with_reducible apply Frame.put_acq); · rfl)
    | with_reducible exact Frame.snd (by assumption)
    | with_reducible refine Frame.pair2 (by assumption) ?_
    | with_reducible refine Frame.pair3 (by assumption) ?_
    | with_reducible refine Frame.pair4 (by assumption) ?_
    | (split <;> try extract_lets)
    | (dsimp +zetaDelta only; split <;> try extract_lets)

theorem Block.writeDcVal_frame x0 x1 x2 : Frame 512 x0 (Block.writeDcVal x0 x1 x2) := by
  unfold Block.writeDcVal
  try extract_lets
  repeat' first
    | with_reducible assumption
    | with_reducible exact Frame.refl _ _
    | (with_reducible intro _; try extract_lets)
    | ((with_reducible apply Frame.via (Block.setDc_frame _ _ _ _ _)); · rfl)
    | ((with_reducible apply Frame.put_acq); · rfl)

theorem Block.setCoef_frame x0 x1 x2 : Frame 513 x0 (Block.setCoef x0 x1 x2) := by
  unfold Block.setCoef
  try extract_lets
  repeat' first
    | with_reducible assumption
    | with_reducible exact Frame.refl _ _
    | (with_reducible intro _; try extract_lets)
    | with_reducible apply Frame.ite
    | ((with_reducible apply Frame.via (Block.put_frame _ _ _)); · rfl)
    | ((with_reducible apply Frame.put_acq); · rfl)
    | (split <;> try extract_lets)

theorem Block.writeCoefData_frame x0 x1 x2 : Frame 513 x0 (Block.writeCoefData x0 x1 x2) := by
  unfold Block.writeCoefData
  try extract_lets
  repeat' first
    | with_reducible assumption
    | with_reducible exact Frame.refl _ _
    | ((with_reducible apply Frame.via (Block.advanceTap_frame _ _)); · rfl)
    | ((with_reducible apply Frame.via (Block.setCoef_frame _ _ _)); · rfl)

theorem Block.putResult_frame x0 x1 x2 x3 x4 x5 x6 x7 : Frame 200721 x0 (Block.putResult x0 x1 x2 x3 x4 x5 x6 x7) := by
  unfold Block.putResult
  try extract_lets
  repeat' first
    | with_reducible assumption
    | with_reducible exact Frame.refl _ _
    | with_reducible apply Frame.ite
    | ((with_reducible apply Frame.via (Block.noteRef_frame _ _ _)); · rfl)
    | ((with_reducible apply Frame.via (Block.deliverRec_frame _ _ _ _ _)); · rfl)
    | (split <;> try extract_lets)

theorem Block.afterResult_frame x0 x1 : Frame 152081 x0 (Block.afterResult x0 x1) := by
  unfold Block.afterResult
  try extract_lets
  repeat' first
    | with_reducible assumption
    | with_reducible exact Frame.refl _ _
    | with_reducible apply Frame.ite
    | ((with_reducible apply Frame.via (Block.setSp_frame _ _ _)); · rfl)
    | ((with_reducible apply Frame.via (Block.endAct_frame _ _)); · rfl)
    | ((with_reducible apply Frame.via (Block.endUrgent_frame _ _)); · rfl)
    | ((with_reducible apply Frame.via (Block.endSeqRun_frame _ _ _ _)); · rfl)
    | with_reducible exact Frame.snd (by assumption)
    | with_reducible refine Frame.pair2 (by assumption) ?_
    | with_reducible refine Frame.pair3 (by assumption) ?_
    | with_reducible refine Frame.pair4 (by assumption) ?_
    | (split <;> try extract_lets)
    | (dsimp +zetaDelta only; split <;> try extract_lets)

theorem doSwiftResult_frame x0 x1 x2 : Frame 217625 x2 (doSwiftResult x0 x1 x2) := by
  unfold doSwiftResult
  try extract_lets
  repeat' first
    | with_reducible assumption
    | with_reducible exact Frame.refl _ _
    | (with_reducible intro _; try extract_lets)
    | with_reducible apply Frame.ite
    | with_reducible apply Frame.each
    | ((with_reducible apply Frame.via (Block.drawN_frame _ _)); · rfl)
    | ((with_reducible apply Frame.via (Block.noteChain_frame _ _ _)); · rfl)
    | ((with_reducible apply Frame.via (Block.putResult_frame _ _ _ _ _ _ _ _)); · rfl)
    | ((with_reducible apply Frame.via (Block.setAct_frame _ _ _)); · rfl)
    | ((with_reducible apply Frame.via (Block.afterResult_frame _ _)); · rfl)
    | with_reducible exact Frame.snd (by assumption)
    | with_reducible refine Frame.pair2 (by assumption) ?_
    | with_reducible refine Frame.pair3 (by assumption) ?_
    | with_reducible refine Frame.pair4 (by assumption) ?_
    | (split <;> try extract_lets)
    | (dsimp +zetaDelta only; split <;> try extract_lets)

theorem Block.dcBlock_frame x0 x1 x2 x3 x4 x5 : Frame 520 x0 (Block.dcBlock x0 x1 x2 x3 x4 x5).2 := by
  unfold Block.dcBlock
  try extract_lets
  repeat' first
    | with_reducible assumption
    | with_reducible exact Frame.refl _ _
    | with_reducible apply Frame.ite
    | ((with_reducible apply Frame.via (Block.drawN_frame _ _)); · rfl)
    | ((with_reducible apply Frame.via (Block.setDc_frame _ _ _ _ _)); · rfl)
    | with_reducible exact Frame.snd (by assumption)
    | with_reducible refine Frame.pair2 (by assumption) ?_
    | with_reducible refine Frame.pair3 (by assumption) ?_
    | with_reducible refine Frame.pair4 (by assumption) ?_
    | (split <;> try extract_lets)
    | (dsimp +zetaDelta only; split <;> try extract_lets)
    | dsimp only

theorem Block.release_frame x0 x1 x2 x3 : Frame 217617 x0 (Block.release x0 x1 x2 x3) := by
  unfold Block.release
  try extract_lets
  repeat' first
    | with_reducible assumption
    | with_reducible exact Frame.refl _ _
    | (with_reducible intro _; try extract_lets)
    | with_reducible apply Frame.ite
    | ((with_reducible apply Frame.via (Block.afterResult_frame _ _)); · rfl)
    | ((with_reducible apply Frame.via (Block.putResult_frame _ _ _ _ _ _ _ _)); · rfl)
    | with_reducible exact Frame.snd (by assumption)
    | with_reducible refine Frame.pair2 (by assumption) ?_
    | with_reducible refine Frame.pair3 (by assumption) ?_
    | with_reducible refine Frame.pair4 (by assumption) ?_
    | (split <;> try extract_lets)
    | (dsimp +zetaDelta only; split <;> try extract_lets)

theorem doFineResult_frame x0 x1 x2 : Frame 217625 x2 (doFineResult x0 x1 x2) := by
  unfold doFineResult
  try extract_lets
  repeat' first
    | with_reducible assumption
    | with_reducible exact Frame.refl _ _
    | (with_reducible intro _; try extract_lets)
    | with_reducible apply Frame.ite
    | with_reducible apply Frame.each
    | ((with_reducible apply Frame.via (Block.drawN_frame _ _)); · rfl)
    | ((with_reducible apply Frame.via (Block.dcBlock_frame _ _ _ _ _ _)); · rfl)
    | ((with_reducible apply Frame.via (Block.noteChain_frame _ _ _)); · rfl)
    | ((with_reducible apply Frame.via (Block.release_frame _ _ _ _)); · rfl)
    | ((with_reducible apply Frame.via (Block.setAct_frame _ _ _)); · rfl)
    | with_reducible exact Frame.snd (by assumption)
    | with_reducible refine Frame.pair2 (by assumption) ?_
    | with_reducible refine Frame.pair3 (by assumption) ?_
    | with_reducible refine Frame.pair4 (by assumption) ?_
    | (split <;> try extract_lets)
    | (dsimp +zetaDelta only; split <;> try extract_lets)

theorem Block.readCoefData_frame x0 x1 : Frame 1 x0 (Block.readCoefData x0 x1).2 := by
  unfold Block.readCoefData
  try extract_lets
  repeat' first
    | with_reducible assumption
    | with_reducible exact Frame.refl _ _
    | ((with_reducible apply Frame.via (Block.advanceTap_frame _ _)); · rfl)
    | dsimp only

theorem Block.readDcVal_frame x0 x1 : Frame 8 x0 (Block.readDcVal x0 x1).2 := by
  unfold Block.readDcVal
  try extract_lets
  repeat' first
    | with_reducible assumption
    | with_reducible exact Frame.refl _ _
    | ((with_reducible apply Frame.via (Block.draw_frame _)); · rfl)
    | with_reducible exact Frame.snd (by assumption)
    | with_reducible refine Frame.pair2 (by assumption) ?_
    | with_reducible refine Frame.pair3 (by assumption) ?_
    | with_reducible refine Frame.pair4 (by assumption) ?_
    | (split <;> try extract_lets)
    | (dsimp +zetaDelta only; split <;> try extract_lets)
    | dsimp only

theorem doFiltCoefDataAccess_frame x0 x1 x2 : Frame 513 x2 (doFiltCoefDataAccess x0 x1 x2) := by
  unfold doFiltCoefDataAccess
  try extract_lets
  repeat' first
    | with_reducible assumption
    | with_reducible exact Frame.refl _ _
    | with_reducible apply Frame.ite
    | ((with_reducible apply Frame.via (Block.writeCoefData_frame _ _ _)); · rfl)
    | ((with_reducible apply Frame.via (Block.readCoefData_frame _ _)); · rfl)
    | with_reducible exact Frame.snd (by assumption)
    | with_reducible refine Frame.pair2 (by assumption) ?_
    | with_reducible refine Frame.pair3 (by assumption) ?_
    | with_reducible refine Frame.pair4 (by assumption) ?_
    | (split <;> try extract_lets)
    | (dsimp +zetaDelta only; split <;> try extract_lets)

end Sys2Proof.Machine
end

