-- ==== Sys2Proof/Laws/FrameDomains.lean ====
section
/-! SUPPORT. What each function of Machine/Domains.lean may change. -/

namespace Sys2Proof.Machine

theorem Block.memPut_frame x0 x1 x2 : Frame 65536 x0 (Block.memPut x0 x1 x2) := by
  exact Frame.put_mem rfl (fun h => Memory.wf_fill _ _ h) (Frame.refl _ _)

theorem Block.putTable_frame x0 x1 x2 x3 : Frame 589824 x0 (Block.putTable x0 x1 x2 x3) := by
  unfold Block.putTable
  try extract_lets
  repeat' first
    | with_reducible assumption
    | with_reducible exact Frame.refl _ _
    | (with_reducible intro _; try extract_lets)
    | ((with_reducible apply Frame.via (Block.memPut_frame _ _ _)); · rfl)
    | ((with_reducible apply Frame.put_stock); · rfl)

end Sys2Proof.Machine
end

