-- ==== Sys2Proof/Laws/FrameHoard.lean ====
section
/-! SUPPORT. What each function of Machine/Hoard.lean may change. -/

namespace Sys2Proof.Machine

theorem Block.checkFail_frame x0 x1 : Frame 397329 x0 (Block.checkFail x0 x1) := by
  unfold Block.checkFail
  try extract_lets
  repeat' first
    | with_reducible assumption
    | with_reducible exact Frame.refl _ _
    | ((with_reducible apply Frame.via (Block.life_frame _ _ _)); · rfl)
    | ((with_reducible apply Frame.via (Block.raise_frame _ _ _)); · rfl)
    | ((with_reducible apply Frame.via (Block.put_frame _ _ _)); · rfl)

theorem Block.showImages_frame x0 : Frame 1 x0 (Block.showImages x0) := by
  unfold Block.showImages
  try extract_lets
  repeat' first
    | with_reducible assumption
    | with_reducible exact Frame.refl _ _
    | with_reducible apply Frame.ite
    | ((with_reducible apply Frame.via (Block.setReg_frame _ _ _)); · rfl)
    | ((with_reducible apply Frame.via (Block.put_frame _ _ _)); · rfl)
    | ((with_reducible apply Frame.via (Block.putB_frame _ _ _)); · rfl)
    | (split <;> try extract_lets)

theorem Block.torn_frame x0 : Frame 135185 x0 (Block.torn x0) := by
  unfold Block.torn
  try extract_lets
  repeat' first
    | with_reducible assumption
    | with_reducible exact Frame.refl _ _
    | ((with_reducible apply Frame.via (Block.raise_frame _ _ _)); · rfl)
    | ((with_reducible apply Frame.via (Block.put_frame _ _ _)); · rfl)

theorem Block.readHoard_frame x0 : Frame 397329 x0 (Block.readHoard x0) := by
  unfold Block.readHoard
  try extract_lets
  repeat' first
    | with_reducible assumption
    | with_reducible exact Frame.refl _ _
    | (with_reducible intro _; try extract_lets)
    | with_reducible apply Frame.ite
    | with_reducible apply Frame.each
    | with_reducible apply Frame.foldl
    | with_reducible apply Frame.foldlFst
    | with_reducible apply Frame.foldlSnd
    | ((with_reducible apply Frame.via (Block.checkFail_frame _ _)); · rfl)
    | ((with_reducible apply Frame.via (Block.showImages_frame _)); · rfl)
    | ((with_reducible apply Frame.via (Block.setHoard_frame _ _)); · rfl)
    | ((with_reducible apply Frame.via (Block.setPair_frame _ _ _ _)); · rfl)
    | ((with_reducible apply Frame.via (Block.showAges_frame _)); · rfl)
    | ((with_reducible apply Frame.via (Block.showWear_frame _)); · rfl)
    | ((with_reducible apply Frame.via (Block.put_frame _ _ _)); · rfl)
    | ((with_reducible apply Frame.via (Block.putB_frame _ _ _)); · rfl)
    | ((with_reducible apply Frame.via (Block.showDays_frame _)); · rfl)
    | ((with_reducible apply Frame.via (Block.torn_frame _)); · rfl)
    | with_reducible exact Frame.snd (by assumption)
    | with_reducible refine Frame.pair2 (by assumption) ?_
    | with_reducible refine Frame.pair3 (by assumption) ?_
    | with_reducible refine Frame.pair4 (by assumption) ?_
    | (split <;> try extract_lets)
    | (dsimp +zetaDelta only; split <;> try extract_lets)
    | dsimp only

theorem Block.noteDefer_frame x0 : Frame 397329 x0 (Block.noteDefer x0) := by
  unfold Block.noteDefer
  try extract_lets
  repeat' first
    | with_reducible assumption
    | with_reducible exact Frame.refl _ _
    | with_reducible apply Frame.ite
    | ((with_reducible apply Frame.via (Block.raise_frame _ _ _)); · rfl)
    | ((with_reducible apply Frame.via (Block.put_frame _ _ _)); · rfl)
    | ((with_reducible apply Frame.via (Block.setHoard_frame _ _)); · rfl)
    | (split <;> try extract_lets)

theorem doWriteDefer_frame x0 : Frame 397329 x0 (doWriteDefer x0) := by
  unfold doWriteDefer
  try extract_lets
  repeat' first
    | with_reducible assumption
    | with_reducible exact Frame.refl _ _
    | with_reducible apply Frame.ite
    | ((with_reducible apply Frame.via (Block.noteDefer_frame _)); · rfl)
    | (split <;> try extract_lets)

theorem Block.beginCommit_frame x0 x1 x2 : Frame 397329 x0 (Block.beginCommit x0 x1 x2) := by
  unfold Block.beginCommit
  try extract_lets
  repeat' first
    | with_reducible assumption
    | with_reducible exact Frame.refl _ _
    | with_reducible apply Frame.ite
    | ((with_reducible apply Frame.via (Block.setHoard_frame _ _)); · rfl)
    | ((with_reducible apply Frame.via (Block.hWrite_frame _ _ _)); · rfl)
    | ((with_reducible apply Frame.via (Block.put_frame _ _ _)); · rfl)
    | ((with_reducible apply Frame.via (Block.showImages_frame _)); · rfl)
    | (split <;> try extract_lets)

theorem Block.restartCommit_frame x0 : Frame 397329 x0 (Block.restartCommit x0) := by
  unfold Block.restartCommit
  try extract_lets
  repeat' first
    | with_reducible assumption
    | with_reducible exact Frame.refl _ _
    | ((with_reducible apply Frame.via (Block.beginCommit_frame _ _ _)); · rfl)
    | with_reducible exact Frame.snd (by assumption)
    | with_reducible refine Frame.pair2 (by assumption) ?_
    | with_reducible refine Frame.pair3 (by assumption) ?_
    | with_reducible refine Frame.pair4 (by assumption) ?_
    | (split <;> try extract_lets)
    | (dsimp +zetaDelta only; split <;> try extract_lets)

theorem Block.writeRecord_frame x0 x1 x2 x3 x4 x5 x6 : Frame 397329 x0 (Block.writeRecord x0 x1 x2 x3 x4 x5 x6) := by
  unfold Block.writeRecord
  try extract_lets
  repeat' first
    | with_reducible assumption
    | with_reducible exact Frame.refl _ _
    | ((with_reducible apply Frame.via (Block.hWrite_frame _ _ _)); · rfl)
    | ((with_reducible apply Frame.via (Block.setHoard_frame _ _)); · rfl)
    | ((with_reducible apply Frame.via (Block.setPair_frame _ _ _ _)); · rfl)

theorem Block.reportSources_frame x0 x1 x2 : Frame 397329 x0 (Block.reportSources x0 x1 x2).2 := by
  unfold Block.reportSources
  try extract_lets
  repeat' first
    | with_reducible assumption
    | with_reducible exact Frame.refl _ _
    | (with_reducible intro _; try extract_lets)
    | with_reducible apply Frame.ite
    | with_reducible apply Frame.foldl
    | with_reducible apply Frame.foldlFst
    | with_reducible apply Frame.foldlSnd
    | ((with_reducible apply Frame.via (Block.checkFail_frame _ _)); · rfl)
    | ((with_reducible apply Frame.via (Block.raise_frame _ _ _)); · rfl)
    | ((with_reducible apply Frame.via (Block.put_frame _ _ _)); · rfl)
    | with_reducible exact Frame.snd (by assumption)
    | with_reducible refine Frame.pair2 (by assumption) ?_
    | with_reducible refine Frame.pair3 (by assumption) ?_
    | with_reducible refine Frame.pair4 (by assumption) ?_
    | (split <;> try extract_lets)
    | (dsimp +zetaDelta only; split <;> try extract_lets)
    | dsimp only

theorem Block.buildTable_frame x0 x1 x2 x3 : Frame 589824 x0 (Block.buildTable x0 x1 x2 x3) := by
  unfold Block.buildTable
  try extract_lets
  repeat' first
    | with_reducible assumption
    | with_reducible exact Frame.refl _ _
    | (with_reducible intro _; try extract_lets)
    | with_reducible apply Frame.ite
    | ((with_reducible apply Frame.via (Block.putTable_frame _ _ _ _)); · rfl)
    | with_reducible exact Frame.snd (by assumption)
    | with_reducible refine Frame.pair2 (by assumption) ?_
    | with_reducible refine Frame.pair3 (by assumption) ?_
    | with_reducible refine Frame.pair4 (by assumption) ?_
    | (split <;> try extract_lets)
    | (dsimp +zetaDelta only; split <;> try extract_lets)

theorem Block.queueRecord_frame x0 x1 : Frame 262144 x0 (Block.queueRecord x0 x1) := by
  unfold Block.queueRecord
  try extract_lets
  repeat' first
    | with_reducible assumption
    | with_reducible exact Frame.refl _ _
    | ((with_reducible apply Frame.via (Block.setHoard_frame _ _)); · rfl)

theorem Block.restoreWrites_frame x0 x1 x2 : Frame 425489 x0 (Block.restoreWrites x0 x1 x2) := by
  unfold Block.restoreWrites
  try extract_lets
  repeat' first
    | with_reducible assumption
    | with_reducible exact Frame.refl _ _
    | (with_reducible intro _; try extract_lets)
    | with_reducible apply Frame.each
    | ((with_reducible apply Frame.via (Block.submit_frame _ _)); · rfl)

theorem Block.restoreStep_frame x0 x1 x2 x3 x4 : Frame 425489 x0 (Block.restoreStep x0 x1 x2 x3 x4) := by
  unfold Block.restoreStep
  try extract_lets
  repeat' first
    | with_reducible assumption
    | with_reducible exact Frame.refl _ _
    | (with_reducible intro _; try extract_lets)
    | with_reducible apply Frame.ite
    | with_reducible apply Frame.each
    | ((with_reducible apply Frame.via (Block.openStep_frame _ _ _ _ _ _ _)); · rfl)
    | ((with_reducible apply Frame.via (Block.setStep_frame _ _ _)); · rfl)
    | ((with_reducible apply Frame.via (Block.submit_frame _ _)); · rfl)
    | ((with_reducible apply Frame.via (Block.sealStep_frame _ _ _ _)); · rfl)
    | ((with_reducible apply Frame.put_sett); · rfl)
    | (split <;> try extract_lets)

theorem Block.beginRestoring_frame x0 : Frame 135185 x0 (Block.beginRestoring x0) := by
  unfold Block.beginRestoring
  try extract_lets
  repeat' first
    | with_reducible assumption
    | with_reducible exact Frame.refl _ _
    | (with_reducible intro _; try extract_lets)
    | with_reducible apply Frame.ite
    | ((with_reducible apply Frame.via (Block.raise_frame _ _ _)); · rfl)
    | ((with_reducible apply Frame.via (Block.put_frame _ _ _)); · rfl)
    | (split <;> try extract_lets)

theorem Block.restoreHubs_frame x0 x1 x2 x3 x4 : Frame 425489 x0 (Block.restoreHubs x0 x1 x2 x3 x4).2 := by
  unfold Block.restoreHubs
  try extract_lets
  repeat' first
    | with_reducible assumption
    | with_reducible exact Frame.refl _ _
    | (with_reducible intro _; try extract_lets)
    | with_reducible apply Frame.ite
    | with_reducible apply Frame.each
    | ((with_reducible apply Frame.via (Block.reportSources_frame _ _ _)); · rfl)
    | ((with_reducible apply Frame.via (Block.setHubRec_frame _ _ _)); · rfl)
    | ((with_reducible apply Frame.via (Block.restoreWrites_frame _ _ _)); · rfl)
    | ((with_reducible apply Frame.via (Block.restoreStep_frame _ _ _ _ _)); · rfl)
    | ((with_reducible apply Frame.via (Block.beginRestoring_frame _)); · rfl)
    | with_reducible exact Frame.snd (by assumption)
    | with_reducible refine Frame.pair2 (by assumption) ?_
    | with_reducible refine Frame.pair3 (by assumption) ?_
    | with_reducible refine Frame.pair4 (by assumption) ?_
    | (split <;> try extract_lets)
    | (dsimp +zetaDelta only; split <;> try extract_lets)
    | dsimp only

theorem Block.readTable_frame x0 x1 : Frame 725017 x0 (Block.readTable x0 x1).2 := by
  unfold Block.readTable
  try extract_lets
  repeat' first
    | with_reducible assumption
    | with_reducible exact Frame.refl _ _
    | (with_reducible intro _; try extract_lets)
    | with_reducible apply Frame.ite
    | ((with_reducible apply Frame.via (Block.memRead_frame _ _ _ _)); · rfl)
    | ((with_reducible apply Frame.via (Block.buildTable_frame _ _ _ _)); · rfl)
    | with_reducible exact Frame.snd (by assumption)
    | with_reducible refine Frame.pair2 (by assumption) ?_
    | with_reducible refine Frame.pair3 (by assumption) ?_
    | with_reducible refine Frame.pair4 (by assumption) ?_
    | (split <;> try extract_lets)
    | (dsimp +zetaDelta only; split <;> try extract_lets)
    | dsimp only

theorem Block.commitTold_frame x0 x1 x2 x3 : Frame 16401 x0 (Block.commitTold x0 x1 x2 x3) := by
  unfold Block.commitTold
  try extract_lets
  repeat' first
    | with_reducible assumption
    | with_reducible exact Frame.refl _ _
    | (with_reducible intro _; try extract_lets)
    | with_reducible apply Frame.ite
    | ((with_reducible apply Frame.via (Block.finishPacket_frame _ _ _ _ _)); · rfl)
    | ((with_reducible apply Frame.via (Block.put_frame _ _ _)); · rfl)
    | with_reducible exact Frame.snd (by assumption)
    | with_reducible refine Frame.pair2 (by assumption) ?_
    | with_reducible refine Frame.pair3 (by assumption) ?_
    | with_reducible refine Frame.pair4 (by assumption) ?_
    | (split <;> try extract_lets)
    | (dsimp +zetaDelta only; split <;> try extract_lets)

theorem Block.abandonCommit_frame x0 x1 x2 : Frame 413713 x0 (Block.abandonCommit x0 x1 x2) := by
  unfold Block.abandonCommit
  try extract_lets
  repeat' first
    | with_reducible assumption
    | with_reducible exact Frame.refl _ _
    | ((with_reducible apply Frame.via (Block.setHoard_frame _ _)); · rfl)
    | ((with_reducible apply Frame.via (Block.put_frame _ _ _)); · rfl)
    | ((with_reducible apply Frame.via (Block.commitTold_frame _ _ _ _)); · rfl)
    | ((with_reducible apply Frame.via (Block.raise_frame _ _ _)); · rfl)

theorem doCommitBegin_frame x0 : Frame 413713 x0 (doCommitBegin x0) := by
  unfold doCommitBegin
  try extract_lets
  repeat' first
    | with_reducible assumption
    | with_reducible exact Frame.refl _ _
    | with_reducible apply Frame.ite
    | ((with_reducible apply Frame.via (Block.abandonCommit_frame _ _ _)); · rfl)
    | ((with_reducible apply Frame.via (Block.beginCommit_frame _ _ _)); · rfl)
    | with_reducible exact Frame.snd (by assumption)
    | with_reducible refine Frame.pair2 (by assumption) ?_
    | with_reducible refine Frame.pair3 (by assumption) ?_
    | with_reducible refine Frame.pair4 (by assumption) ?_
    | (split <;> try extract_lets)
    | (dsimp +zetaDelta only; split <;> try extract_lets)

theorem Block.buildTables_frame x0 x1 : Frame 589824 x0 (Block.buildTables x0 x1) := by
  unfold Block.buildTables
  try extract_lets
  repeat' first
    | with_reducible assumption
    | with_reducible exact Frame.refl _ _
    | (with_reducible intro _; try extract_lets)
    | with_reducible apply Frame.each
    | ((with_reducible apply Frame.via (Block.buildTable_frame _ _ _ _)); · rfl)

theorem Block.recordTold_frame x0 x1 x2 x3 : Frame 16401 x0 (Block.recordTold x0 x1 x2 x3) := by
  unfold Block.recordTold
  try extract_lets
  repeat' first
    | with_reducible assumption
    | with_reducible exact Frame.refl _ _
    | with_reducible apply Frame.ite
    | ((with_reducible apply Frame.via (Block.finishPacket_frame _ _ _ _ _)); · rfl)
    | with_reducible exact Frame.snd (by assumption)
    | with_reducible refine Frame.pair2 (by assumption) ?_
    | with_reducible refine Frame.pair3 (by assumption) ?_
    | with_reducible refine Frame.pair4 (by assumption) ?_
    | (split <;> try extract_lets)
    | (dsimp +zetaDelta only; split <;> try extract_lets)

theorem Block.ownTorn_frame x0 : Frame 135185 x0 (Block.ownTorn x0) := by
  unfold Block.ownTorn
  try extract_lets
  repeat' first
    | with_reducible assumption
    | with_reducible exact Frame.refl _ _
    | with_reducible apply Frame.ite
    | ((with_reducible apply Frame.via (Block.torn_frame _)); · rfl)
    | (split <;> try extract_lets)

theorem doRestore_frame x0 : Frame 1015313 x0 (doRestore x0) := by
  unfold doRestore
  try extract_lets
  repeat' first
    | with_reducible assumption
    | with_reducible exact Frame.refl _ _
    | with_reducible apply Frame.ite
    | ((with_reducible apply Frame.via (Block.buildTables_frame _ _)); · rfl)
    | ((with_reducible apply Frame.via (Block.restoreHubs_frame _ _ _ _ _)); · rfl)
    | ((with_reducible apply Frame.via (Block.ownTorn_frame _)); · rfl)
    | (split <;> try extract_lets)

theorem Block.retireSegment_frame x0 x1 x2 : Frame 397329 x0 (Block.retireSegment x0 x1 x2) := by
  unfold Block.retireSegment
  try extract_lets
  repeat' first
    | with_reducible assumption
    | with_reducible exact Frame.refl _ _
    | (with_reducible intro _; try extract_lets)
    | with_reducible apply Frame.ite
    | with_reducible apply Frame.each
    | ((with_reducible apply Frame.via (Block.retireRow_frame _ _)); · rfl)
    | (split <;> try extract_lets)

theorem Block.markDirty_frame x0 x1 : Frame 262144 x0 (Block.markDirty x0 x1) := by
  unfold Block.markDirty
  try extract_lets
  repeat' first
    | with_reducible assumption
    | with_reducible exact Frame.refl _ _
    | with_reducible apply Frame.ite
    | ((with_reducible apply Frame.via (Block.setHoard_frame _ _)); · rfl)
    | (split <;> try extract_lets)

theorem Block.appendRecord_frame x0 x1 x2 x3 x4 x5 : Frame 397329 x0 (Block.appendRecord x0 x1 x2 x3 x4 x5) := by
  unfold Block.appendRecord
  try extract_lets
  repeat' first
    | with_reducible assumption
    | with_reducible exact Frame.refl _ _
    | with_reducible apply Frame.ite
    | ((with_reducible apply Frame.via (Block.writeRecord_frame _ _ _ _ _ _ _)); · rfl)
    | (split <;> try extract_lets)

theorem Block.writeDirty_frame x0 : Frame 397329 x0 (Block.writeDirty x0) := by
  unfold Block.writeDirty
  try extract_lets
  repeat' first
    | with_reducible assumption
    | with_reducible exact Frame.refl _ _
    | (with_reducible intro _; try extract_lets)
    | with_reducible apply Frame.ite
    | with_reducible apply Frame.foldl
    | with_reducible apply Frame.foldlFst
    | with_reducible apply Frame.foldlSnd
    | ((with_reducible apply Frame.via (Block.appendRecord_frame _ _ _ _ _ _)); · rfl)
    | (split <;> try extract_lets)
    | dsimp only

theorem doJournalAppend_frame x0 : Frame 938001 x0 (doJournalAppend x0) := by
  unfold doJournalAppend
  try extract_lets
  repeat' first
    | with_reducible assumption
    | with_reducible exact Frame.refl _ _
    | with_reducible apply Frame.ite
    | ((with_reducible apply Frame.via (Block.setHoard_frame _ _)); · rfl)
    | ((with_reducible apply Frame.via (Block.markDirty_frame _ _)); · rfl)
    | ((with_reducible apply Frame.via (Block.noteDefer_frame _)); · rfl)
    | ((with_reducible apply Frame.via (Block.recordTold_frame _ _ _ _)); · rfl)
    | ((with_reducible apply Frame.via (Block.put_frame _ _ _)); · rfl)
    | ((with_reducible apply Frame.via (Block.writeDirty_frame _)); · rfl)
    | ((with_reducible apply Frame.via (Block.raise_frame _ _ _)); · rfl)
    | ((with_reducible apply Frame.via (Block.appendRecord_frame _ _ _ _ _ _)); · rfl)
    | ((with_reducible apply Frame.via (Block.setDom_frame _ _ _)); · rfl)
    | with_reducible exact Frame.snd (by assumption)
    | with_reducible refine Frame.pair2 (by assumption) ?_
    | with_reducible refine Frame.pair3 (by assumption) ?_
    | with_reducible refine Frame.pair4 (by assumption) ?_
    | (split <;> try extract_lets)
    | (dsimp +zetaDelta only; split <;> try extract_lets)

theorem Block.newInterval_frame x0 x1 : Frame 262145 x0 (Block.newInterval x0 x1) := by
  unfold Block.newInterval
  try extract_lets
  repeat' first
    | with_reducible assumption
    | with_reducible exact Frame.refl _ _
    | (with_reducible intro _; try extract_lets)
    | with_reducible apply Frame.ite
    | with_reducible apply Frame.foldl
    | with_reducible apply Frame.foldlFst
    | with_reducible apply Frame.foldlSnd
    | ((with_reducible apply Frame.via (Block.setHoard_frame _ _)); · rfl)
    | ((with_reducible apply Frame.via (Block.showImages_frame _)); · rfl)
    | ((with_reducible apply Frame.via (Block.put_frame _ _ _)); · rfl)
    | (split <;> try extract_lets)
    | dsimp only

theorem Block.noteImage_frame x0 x1 x2 : Frame 524288 x0 (Block.noteImage x0 x1 x2) := by
  unfold Block.noteImage
  try extract_lets
  repeat' first
    | with_reducible assumption
    | with_reducible exact Frame.refl _ _
    | (with_reducible intro _; try extract_lets)
    | with_reducible apply Frame.ite
    | with_reducible apply Frame.each
    | ((with_reducible apply Frame.via (Block.setDom_frame _ _ _)); · rfl)
    | (split <;> try extract_lets)

theorem doCommitDone_frame x0 x1 x2 : Frame 1003537 x2 (doCommitDone x0 x1 x2) := by
  unfold doCommitDone
  try extract_lets
  repeat' first
    | with_reducible assumption
    | with_reducible exact Frame.refl _ _
    | (with_reducible intro _; try extract_lets)
    | with_reducible apply Frame.ite
    | with_reducible apply Frame.each
    | ((with_reducible apply Frame.via (Block.abandonCommit_frame _ _ _)); · rfl)
    | ((with_reducible apply Frame.via (Block.retireSegment_frame _ _ _)); · rfl)
    | ((with_reducible apply Frame.via (Block.buildTables_frame _ _)); · rfl)
    | ((with_reducible apply Frame.via (Block.hWrite_frame _ _ _)); · rfl)
    | ((with_reducible apply Frame.via (Block.life_frame _ _ _)); · rfl)
    | ((with_reducible apply Frame.via (Block.flush_frame _)); · rfl)
    | ((with_reducible apply Frame.via (Block.newInterval_frame _ _)); · rfl)
    | ((with_reducible apply Frame.via (Block.noteImage_frame _ _ _)); · rfl)
    | ((with_reducible apply Frame.via (Block.writeItem_frame _ _ _)); · rfl)
    | ((with_reducible apply Frame.via (Block.configRefused_frame _)); · rfl)
    | ((with_reducible apply Frame.via (Block.commitTold_frame _ _ _ _)); · rfl)
    | ((with_reducible apply Frame.via (Block.raise_frame _ _ _)); · rfl)
    | with_reducible exact Frame.snd (by assumption)
    | with_reducible refine Frame.pair2 (by assumption) ?_
    | with_reducible refine Frame.pair3 (by assumption) ?_
    | with_reducible refine Frame.pair4 (by assumption) ?_
    | (split <;> try extract_lets)
    | (dsimp +zetaDelta only; split <;> try extract_lets)

theorem doWriteResume_frame x0 : Frame 987161 x0 (doWriteResume x0) := by
  unfold doWriteResume
  try extract_lets
  repeat' first
    | with_reducible assumption
    | with_reducible exact Frame.refl _ _
    | (with_reducible intro _; try extract_lets)
    | with_reducible apply Frame.ite
    | with_reducible apply Frame.each
    | ((with_reducible apply Frame.via (Block.raise_frame _ _ _)); · rfl)
    | ((with_reducible apply Frame.via (Block.put_frame _ _ _)); · rfl)
    | ((with_reducible apply Frame.via (Block.setHoard_frame _ _)); · rfl)
    | ((with_reducible apply Frame.via (Block.readTable_frame _ _)); · rfl)
    | ((with_reducible apply Frame.via (Block.queueRecord_frame _ _)); · rfl)
    | ((with_reducible apply Frame.via (Block.restartCommit_frame _)); · rfl)
    | with_reducible exact Frame.snd (by assumption)
    | with_reducible refine Frame.pair2 (by assumption) ?_
    | with_reducible refine Frame.pair3 (by assumption) ?_
    | with_reducible refine Frame.pair4 (by assumption) ?_
    | (split <;> try extract_lets)
    | (dsimp +zetaDelta only; split <;> try extract_lets)

theorem doPartnerRestore_frame x0 x1 : Frame 425489 x1 (doPartnerRestore x0 x1) := by
  unfold doPartnerRestore
  try extract_lets
  repeat' first
    | with_reducible assumption
    | with_reducible exact Frame.refl _ _
    | (with_reducible intro _; try extract_lets)
    | with_reducible apply Frame.ite
    | ((with_reducible apply Frame.via (Block.life_frame _ _ _)); · rfl)
    | ((with_reducible apply Frame.via (Block.restoreHubs_frame _ _ _ _ _)); · rfl)
    | ((with_reducible apply Frame.via (Block.ownTorn_frame _)); · rfl)
    | (split <;> try extract_lets)

end Sys2Proof.Machine
end

