-- ==== Sys2Proof/Laws/FrameOwl.lean ====
section
/-! SUPPORT. What each function of Machine/Owl.lean may change. -/

namespace Sys2Proof.Machine

theorem Block.owlRefresh_frame x0 : Frame 8193 x0 (Block.owlRefresh x0) := by
  unfold Block.owlRefresh
  try extract_lets
  repeat' first
    | with_reducible assumption
    | with_reducible exact Frame.refl _ _
    | (with_reducible intro _; try extract_lets)
    | with_reducible apply Frame.ite
    | with_reducible apply Frame.each
    | ((with_reducible apply Frame.via (Block.suspend_frame _ _ _)); · rfl)
    | (split <;> try extract_lets)

theorem Block.owlUp_frame x0 x1 : Frame 8193 x0 (Block.owlUp x0 x1) := by
  unfold Block.owlUp
  try extract_lets
  repeat' first
    | with_reducible assumption
    | with_reducible exact Frame.refl _ _
    | (with_reducible intro _; try extract_lets)
    | with_reducible apply Frame.each
    | ((with_reducible apply Frame.via (Block.suspend_frame _ _ _)); · rfl)

theorem Block.dropGuards_frame x0 x1 : Frame 9217 x0 (Block.dropGuards x0 x1) := by
  unfold Block.dropGuards
  try extract_lets
  repeat' first
    | with_reducible assumption
    | with_reducible exact Frame.refl _ _
    | (with_reducible intro _; try extract_lets)
    | with_reducible apply Frame.ite
    | with_reducible apply Frame.each
    | ((with_reducible apply Frame.via (Block.bump_frame _ _ _)); · rfl)
    | ((with_reducible apply Frame.via (Block.setQueue_frame _ _ _ _)); · rfl)
    | ((with_reducible apply Frame.via (Block.setOwlWin_frame _ _ _)); · rfl)
    | (split <;> try extract_lets)

theorem Block.owlDown_frame x0 x1 : Frame 9217 x0 (Block.owlDown x0 x1) := by
  unfold Block.owlDown
  try extract_lets
  repeat' first
    | with_reducible assumption
    | with_reducible exact Frame.refl _ _
    | (with_reducible intro _; try extract_lets)
    | with_reducible apply Frame.each
    | ((with_reducible apply Frame.via (Block.dropGuards_frame _ _)); · rfl)
    | ((with_reducible apply Frame.via (Block.suspend_frame _ _ _)); · rfl)

theorem Block.armGuard_frame x0 x1 x2 : Frame 1 x0 (Block.armGuard x0 x1 x2) := by
  unfold Block.armGuard
  try extract_lets
  repeat' first
    | with_reducible assumption
    | with_reducible exact Frame.refl _ _
    | ((with_reducible apply Frame.via (Block.setBit_frame _ _ _ _)); · rfl)

theorem Block.queueGuard_frame x0 x1 : Frame 425489 x0 (Block.queueGuard x0 x1) := by
  unfold Block.queueGuard
  try extract_lets
  repeat' first
    | with_reducible assumption
    | with_reducible exact Frame.refl _ _
    | ((with_reducible apply Frame.via (Block.setBit_frame _ _ _ _)); · rfl)
    | ((with_reducible apply Frame.via (Block.setOwlWin_frame _ _ _)); · rfl)
    | ((with_reducible apply Frame.via (Block.submit_frame _ _)); · rfl)

theorem Block.trip_frame x0 x1 : Frame 425489 x0 (Block.trip x0 x1) := by
  unfold Block.trip
  try extract_lets
  repeat' first
    | with_reducible assumption
    | with_reducible exact Frame.refl _ _
    | with_reducible apply Frame.ite
    | ((with_reducible apply Frame.via (Block.setBit_frame _ _ _ _)); · rfl)
    | ((with_reducible apply Frame.via (Block.setOwlWin_frame _ _ _)); · rfl)
    | ((with_reducible apply Frame.via (Block.raise_frame _ _ _)); · rfl)
    | ((with_reducible apply Frame.via (Block.trigger_frame _ _)); · rfl)
    | ((with_reducible apply Frame.via (Block.raiseUrgent_frame _ _)); · rfl)
    | ((with_reducible apply Frame.via (Block.queueGuard_frame _ _)); · rfl)
    | (split <;> try extract_lets)

theorem Block.clearLatch_frame x0 x1 x2 : Frame 425489 x0 (Block.clearLatch x0 x1 x2) := by
  unfold Block.clearLatch
  try extract_lets
  repeat' first
    | with_reducible assumption
    | with_reducible exact Frame.refl _ _
    | with_reducible apply Frame.ite
    | ((with_reducible apply Frame.via (Block.setBit_frame _ _ _ _)); · rfl)
    | ((with_reducible apply Frame.via (Block.trip_frame _ _)); · rfl)
    | ((with_reducible apply Frame.via (Block.setOwlWin_frame _ _ _)); · rfl)
    | with_reducible exact Frame.snd (by assumption)
    | with_reducible refine Frame.pair2 (by assumption) ?_
    | with_reducible refine Frame.pair3 (by assumption) ?_
    | with_reducible refine Frame.pair4 (by assumption) ?_
    | (split <;> try extract_lets)
    | (dsimp +zetaDelta only; split <;> try extract_lets)

theorem Block.clearPeriodic_frame x0 x1 : Frame 425489 x0 (Block.clearPeriodic x0 x1) := by
  unfold Block.clearPeriodic
  try extract_lets
  repeat' first
    | with_reducible assumption
    | with_reducible exact Frame.refl _ _
    | (with_reducible intro _; try extract_lets)
    | with_reducible apply Frame.each
    | ((with_reducible apply Frame.via (Block.clearLatch_frame _ _ _)); · rfl)

theorem Block.beginCheck_frame x0 x1 x2 x3 x4 : Frame 8193 x0 (Block.beginCheck x0 x1 x2 x3 x4) := by
  unfold Block.beginCheck
  try extract_lets
  repeat' first
    | with_reducible assumption
    | with_reducible exact Frame.refl _ _
    | ((with_reducible apply Frame.via (Block.setOwlWin_frame _ _ _)); · rfl)
    | ((with_reducible apply Frame.via (Block.put_frame _ _ _)); · rfl)
    | ((with_reducible apply Frame.via (Block.setReg_frame _ _ _)); · rfl)
    | ((with_reducible apply Frame.put_owl); · rfl)

theorem Block.requestCheck_frame x0 x1 : Frame 8193 x0 (Block.requestCheck x0 x1) := by
  unfold Block.requestCheck
  try extract_lets
  repeat' first
    | with_reducible assumption
    | with_reducible exact Frame.refl _ _
    | with_reducible apply Frame.ite
    | ((with_reducible apply Frame.via (Block.put_frame _ _ _)); · rfl)
    | ((with_reducible apply Frame.via (Block.beginCheck_frame _ _ _ _ _)); · rfl)
    | ((with_reducible apply Frame.put_owl); · rfl)
    | with_reducible exact Frame.snd (by assumption)
    | with_reducible refine Frame.pair2 (by assumption) ?_
    | with_reducible refine Frame.pair3 (by assumption) ?_
    | with_reducible refine Frame.pair4 (by assumption) ?_
    | (split <;> try extract_lets)
    | (dsimp +zetaDelta only; split <;> try extract_lets)

theorem Block.writeScreq_frame x0 x1 : Frame 8193 x0 (Block.writeScreq x0 x1) := by
  unfold Block.writeScreq
  try extract_lets
  repeat' first
    | with_reducible assumption
    | with_reducible exact Frame.refl _ _
    | with_reducible apply Frame.ite
    | ((with_reducible apply Frame.via (Block.writeFields_frame _ _ _)); · rfl)
    | ((with_reducible apply Frame.via (Block.requestCheck_frame _ _)); · rfl)
    | (split <;> try extract_lets)

theorem Block.writeScauto_frame x0 x1 : Frame 8193 x0 (Block.writeScauto x0 x1) := by
  unfold Block.writeScauto
  try extract_lets
  repeat' first
    | with_reducible assumption
    | with_reducible exact Frame.refl _ _
    | with_reducible apply Frame.ite
    | ((with_reducible apply Frame.via (Block.writeFields_frame _ _ _)); · rfl)
    | ((with_reducible apply Frame.put_owl); · rfl)
    | (split <;> try extract_lets)

theorem Block.writeWcnt_frame x0 x1 x2 : Frame 8192 x0 (Block.writeWcnt x0 x1 x2) := by
  unfold Block.writeWcnt
  try extract_lets
  repeat' first
    | with_reducible assumption
    | with_reducible exact Frame.refl _ _
    | ((with_reducible apply Frame.via (Block.setOwlWin_frame _ _ _)); · rfl)

theorem Block.writeGcmd_frame x0 x1 : Frame 1 x0 (Block.writeGcmd x0 x1) := by
  unfold Block.writeGcmd
  try extract_lets
  repeat' first
    | with_reducible assumption
    | with_reducible exact Frame.refl _ _
    | ((with_reducible apply Frame.via (Block.armGuard_frame _ _ _)); · rfl)
    | with_reducible exact Frame.snd (by assumption)
    | with_reducible refine Frame.pair2 (by assumption) ?_
    | with_reducible refine Frame.pair3 (by assumption) ?_
    | with_reducible refine Frame.pair4 (by assumption) ?_
    | (split <;> try extract_lets)
    | (dsimp +zetaDelta only; split <;> try extract_lets)

theorem Block.writeLatch_frame x0 x1 x2 : Frame 425489 x0 (Block.writeLatch x0 x1 x2) := by
  unfold Block.writeLatch
  try extract_lets
  repeat' first
    | with_reducible assumption
    | with_reducible exact Frame.refl _ _
    | (with_reducible intro _; try extract_lets)
    | with_reducible apply Frame.each
    | ((with_reducible apply Frame.via (Block.clearLatch_frame _ _ _)); · rfl)

theorem Block.writeWcfg_frame x0 x1 x2 : Frame 8193 x0 (Block.writeWcfg x0 x1 x2) := by
  unfold Block.writeWcfg
  try extract_lets
  repeat' first
    | with_reducible assumption
    | with_reducible exact Frame.refl _ _
    | with_reducible apply Frame.ite
    | ((with_reducible apply Frame.via (Block.put_frame _ _ _)); · rfl)
    | ((with_reducible apply Frame.via (Block.writeFields_frame _ _ _)); · rfl)
    | ((with_reducible apply Frame.via (Block.suspend_frame _ _ _)); · rfl)
    | ((with_reducible apply Frame.via (Block.setBit_frame _ _ _ _)); · rfl)
    | ((with_reducible apply Frame.via (Block.setOwlWin_frame _ _ _)); · rfl)
    | (split <;> try extract_lets)

theorem Block.writeWthr_frame x0 x1 x2 : Frame 8193 x0 (Block.writeWthr x0 x1 x2) := by
  unfold Block.writeWthr
  try extract_lets
  repeat' first
    | with_reducible assumption
    | with_reducible exact Frame.refl _ _
    | with_reducible apply Frame.ite
    | ((with_reducible apply Frame.via (Block.put_frame _ _ _)); · rfl)
    | ((with_reducible apply Frame.via (Block.writeFields_frame _ _ _)); · rfl)
    | ((with_reducible apply Frame.via (Block.suspend_frame _ _ _)); · rfl)
    | ((with_reducible apply Frame.via (Block.setBit_frame _ _ _ _)); · rfl)
    | (split <;> try extract_lets)

theorem Block.visitWindow_frame x0 x1 : Frame 8193 x0 (Block.visitWindow x0 x1) := by
  unfold Block.visitWindow
  try extract_lets
  repeat' first
    | with_reducible assumption
    | with_reducible exact Frame.refl _ _
    | ((with_reducible apply Frame.via (Block.beginCheck_frame _ _ _ _ _)); · rfl)
    | ((with_reducible apply Frame.put_owl); · rfl)
    | with_reducible exact Frame.snd (by assumption)
    | with_reducible refine Frame.pair2 (by assumption) ?_
    | with_reducible refine Frame.pair3 (by assumption) ?_
    | with_reducible refine Frame.pair4 (by assumption) ?_
    | (split <;> try extract_lets)
    | (dsimp +zetaDelta only; split <;> try extract_lets)

theorem Block.beginVisit_frame x0 : Frame 8193 x0 (Block.beginVisit x0) := by
  unfold Block.beginVisit
  try extract_lets
  repeat' first
    | with_reducible assumption
    | with_reducible exact Frame.refl _ _
    | ((with_reducible apply Frame.via (Block.visitWindow_frame _ _)); · rfl)
    | ((with_reducible apply Frame.via (Block.put_frame _ _ _)); · rfl)
    | ((with_reducible apply Frame.put_owl); · rfl)
    | with_reducible exact Frame.snd (by assumption)
    | with_reducible refine Frame.pair2 (by assumption) ?_
    | with_reducible refine Frame.pair3 (by assumption) ?_
    | with_reducible refine Frame.pair4 (by assumption) ?_
    | (split <;> try extract_lets)
    | (dsimp +zetaDelta only; split <;> try extract_lets)

theorem doOwlArm_frame x0 x1 : Frame 1 x1 (doOwlArm x0 x1) := by
  unfold doOwlArm
  try extract_lets
  repeat' first
    | with_reducible assumption
    | with_reducible exact Frame.refl _ _
    | with_reducible apply Frame.ite
    | ((with_reducible apply Frame.via (Block.armGuard_frame _ _ _)); · rfl)
    | (split <;> try extract_lets)

theorem Block.setClass_frame x0 x1 x2 : Frame 8193 x0 (Block.setClass x0 x1 x2) := by
  unfold Block.setClass
  try extract_lets
  repeat' first
    | with_reducible assumption
    | with_reducible exact Frame.refl _ _
    | with_reducible apply Frame.ite
    | ((with_reducible apply Frame.via (Block.setOwlWin_frame _ _ _)); · rfl)
    | ((with_reducible apply Frame.via (Block.setBit_frame _ _ _ _)); · rfl)
    | (split <;> try extract_lets)

theorem doSuspendEnd_frame x0 x1 x2 : Frame 8193 x2 (doSuspendEnd x0 x1 x2) := by
  unfold doSuspendEnd
  try extract_lets
  repeat' first
    | with_reducible assumption
    | with_reducible exact Frame.refl _ _
    | with_reducible apply Frame.ite
    | ((with_reducible apply Frame.via (Block.setBit_frame _ _ _ _)); · rfl)
    | ((with_reducible apply Frame.via (Block.setClass_frame _ _ _)); · rfl)
    | (split <;> try extract_lets)

theorem Block.checkSampled_frame x0 x1 : Frame 8192 x0 (Block.checkSampled x0 x1) := by
  unfold Block.checkSampled
  try extract_lets
  repeat' first
    | with_reducible assumption
    | with_reducible exact Frame.refl _ _
    | ((with_reducible apply Frame.put_owl); · rfl)

theorem doSelfCheckTie_frame x0 x1 : Frame 8193 x1 (doSelfCheckTie x0 x1) := by
  unfold doSelfCheckTie
  try extract_lets
  repeat' first
    | with_reducible assumption
    | with_reducible exact Frame.refl _ _
    | with_reducible apply Frame.ite
    | ((with_reducible apply Frame.via (Block.checkSampled_frame _ _)); · rfl)
    | ((with_reducible apply Frame.via (Block.put_frame _ _ _)); · rfl)
    | with_reducible exact Frame.snd (by assumption)
    | with_reducible refine Frame.pair2 (by assumption) ?_
    | with_reducible refine Frame.pair3 (by assumption) ?_
    | with_reducible refine Frame.pair4 (by assumption) ?_
    | (split <;> try extract_lets)
    | (dsimp +zetaDelta only; split <;> try extract_lets)

theorem doWindowDecision_frame x0 x1 : Frame 425489 x1 (doWindowDecision x0 x1) := by
  unfold doWindowDecision
  try extract_lets
  repeat' first
    | with_reducible assumption
    | with_reducible exact Frame.refl _ _
    | (with_reducible intro _; try extract_lets)
    | with_reducible apply Frame.ite
    | with_reducible apply Frame.each
    | ((with_reducible apply Frame.via (Block.trip_frame _ _)); · rfl)
    | (split <;> try extract_lets)

theorem Block.judgeTie_frame x0 x1 : Frame 8193 x0 (Block.judgeTie x0 x1) := by
  unfold Block.judgeTie
  try extract_lets
  repeat' first
    | with_reducible assumption
    | with_reducible exact Frame.refl _ _
    | with_reducible apply Frame.ite
    | ((with_reducible apply Frame.via (Block.put_frame _ _ _)); · rfl)
    | ((with_reducible apply Frame.via (Block.setOwlWin_frame _ _ _)); · rfl)
    | with_reducible exact Frame.snd (by assumption)
    | with_reducible refine Frame.pair2 (by assumption) ?_
    | with_reducible refine Frame.pair3 (by assumption) ?_
    | with_reducible refine Frame.pair4 (by assumption) ?_
    | (split <;> try extract_lets)
    | (dsimp +zetaDelta only; split <;> try extract_lets)

theorem Block.afterCheck_frame x0 x1 : Frame 8193 x0 (Block.afterCheck x0 x1) := by
  unfold Block.afterCheck
  try extract_lets
  repeat' first
    | with_reducible assumption
    | with_reducible exact Frame.refl _ _
    | with_reducible apply Frame.ite
    | ((with_reducible apply Frame.via (Block.beginCheck_frame _ _ _ _ _)); · rfl)
    | ((with_reducible apply Frame.via (Block.beginVisit_frame _)); · rfl)
    | ((with_reducible apply Frame.put_owl); · rfl)
    | with_reducible exact Frame.snd (by assumption)
    | with_reducible refine Frame.pair2 (by assumption) ?_
    | with_reducible refine Frame.pair3 (by assumption) ?_
    | with_reducible refine Frame.pair4 (by assumption) ?_
    | (split <;> try extract_lets)
    | (dsimp +zetaDelta only; split <;> try extract_lets)

theorem doSelfCheckEnd_frame x0 : Frame 8193 x0 (doSelfCheckEnd x0) := by
  unfold doSelfCheckEnd
  try extract_lets
  repeat' first
    | with_reducible assumption
    | with_reducible exact Frame.refl _ _
    | with_reducible apply Frame.ite
    | ((with_reducible apply Frame.via (Block.put_frame _ _ _)); · rfl)
    | ((with_reducible apply Frame.via (Block.judgeTie_frame _ _)); · rfl)
    | ((with_reducible apply Frame.via (Block.setOwlWin_frame _ _ _)); · rfl)
    | ((with_reducible apply Frame.via (Block.afterCheck_frame _ _)); · rfl)
    | ((with_reducible apply Frame.put_owl); · rfl)
    | with_reducible exact Frame.snd (by assumption)
    | with_reducible refine Frame.pair2 (by assumption) ?_
    | with_reducible refine Frame.pair3 (by assumption) ?_
    | with_reducible refine Frame.pair4 (by assumption) ?_
    | (split <;> try extract_lets)
    | (dsimp +zetaDelta only; split <;> try extract_lets)

theorem doWThrWrite_frame x0 x1 x2 : Frame 8193 x2 (doWThrWrite x0 x1 x2) := by
  unfold doWThrWrite
  try extract_lets
  repeat' first
    | with_reducible assumption
    | with_reducible exact Frame.refl _ _
    | with_reducible apply Frame.ite
    | ((with_reducible apply Frame.via (Block.writeWthr_frame _ _ _)); · rfl)
    | (split <;> try extract_lets)

theorem doAutoVisit_frame x0 : Frame 8193 x0 (doAutoVisit x0) := by
  unfold doAutoVisit
  try extract_lets
  repeat' first
    | with_reducible assumption
    | with_reducible exact Frame.refl _ _
    | with_reducible apply Frame.ite
    | ((with_reducible apply Frame.via (Block.beginVisit_frame _)); · rfl)
    | ((with_reducible apply Frame.put_owl); · rfl)
    | (split <;> try extract_lets)

theorem doLatchClear_frame x0 x1 x2 : Frame 425489 x2 (doLatchClear x0 x1 x2) := by
  unfold doLatchClear
  try extract_lets
  repeat' first
    | with_reducible assumption
    | with_reducible exact Frame.refl _ _
    | with_reducible apply Frame.ite
    | ((with_reducible apply Frame.via (Block.writeLatch_frame _ _ _)); · rfl)
    | (split <;> try extract_lets)

theorem doWindowClassChange_frame x0 x1 x2 : Frame 8193 x2 (doWindowClassChange x0 x1 x2) := by
  unfold doWindowClassChange
  try extract_lets
  repeat' first
    | with_reducible assumption
    | with_reducible exact Frame.refl _ _
    | with_reducible apply Frame.ite
    | ((with_reducible apply Frame.via (Block.setClass_frame _ _ _)); · rfl)
    | (split <;> try extract_lets)

theorem doSelfCheckSwap_frame x0 x1 x2 : Frame 8193 x2 (doSelfCheckSwap x0 x1 x2) := by
  unfold doSelfCheckSwap
  try extract_lets
  repeat' first
    | with_reducible assumption
    | with_reducible exact Frame.refl _ _
    | with_reducible apply Frame.ite
    | ((with_reducible apply Frame.via (Block.checkSampled_frame _ _)); · rfl)
    | ((with_reducible apply Frame.via (Block.put_frame _ _ _)); · rfl)
    | with_reducible exact Frame.snd (by assumption)
    | with_reducible refine Frame.pair2 (by assumption) ?_
    | with_reducible refine Frame.pair3 (by assumption) ?_
    | with_reducible refine Frame.pair4 (by assumption) ?_
    | (split <;> try extract_lets)
    | (dsimp +zetaDelta only; split <;> try extract_lets)

theorem doWCfgWrite_frame x0 x1 x2 : Frame 8193 x2 (doWCfgWrite x0 x1 x2) := by
  unfold doWCfgWrite
  try extract_lets
  repeat' first
    | with_reducible assumption
    | with_reducible exact Frame.refl _ _
    | with_reducible apply Frame.ite
    | ((with_reducible apply Frame.via (Block.writeWcfg_frame _ _ _)); · rfl)
    | (split <;> try extract_lets)

theorem doOwlDisarm_frame x0 x1 : Frame 1 x1 (doOwlDisarm x0 x1) := by
  unfold doOwlDisarm
  try extract_lets
  repeat' first
    | with_reducible assumption
    | with_reducible exact Frame.refl _ _
    | with_reducible apply Frame.ite
    | ((with_reducible apply Frame.via (Block.armGuard_frame _ _ _)); · rfl)
    | (split <;> try extract_lets)

end Sys2Proof.Machine
end

