-- ==== Sys2Proof/Laws/FrameFoxScalar.lean ====
section
/-! SUPPORT. What each function of Machine/FoxScalar.lean may change. -/

namespace Sys2Proof.Machine

theorem Block.scalarOp_frame x0 x1 x2 x3 x4 x5 x6 : Frame 154641 x0 (Block.scalarOp x0 x1 x2 x3 x4 x5 x6) := by
  unfold Block.scalarOp
  try extract_lets
  repeat' first
    | with_reducible assumption
    | with_reducible exact Frame.refl _ _
    | (with_reducible intro _; try extract_lets)
    | ((with_reducible apply Block.issue_frame); · rfl)
    | ((with_reducible apply Frame.via (Block.result_frame _ _ _ _)); · rfl)

theorem Block.branch_frame x0 x1 x2 x3 x4 x5 x6 : Frame 154641 x0 (Block.branch x0 x1 x2 x3 x4 x5 x6) := by
  unfold Block.branch
  try extract_lets
  repeat' first
    | with_reducible assumption
    | with_reducible exact Frame.refl _ _
    | (with_reducible intro _; try extract_lets)
    | with_reducible apply Frame.ite
    | with_reducible apply Frame.idf
    | ((with_reducible apply Block.issue_frame); · rfl)
    | ((with_reducible apply Block.jumpFx_frame); · rfl)
    | ((with_reducible apply Frame.via (Block.nextFx_frame _ _)); · rfl)
    | (split <;> try extract_lets)

theorem Block.scratchWrite_frame x0 x1 x2 x3 : Frame 4096 x0 (Block.scratchWrite x0 x1 x2 x3) := by
  induction x3 generalizing x0 x1 x2 with
  | nil =>
    unfold Block.scratchWrite
    try extract_lets
    repeat' first
      | with_reducible assumption
      | with_reducible exact Frame.refl _ _
      | ((with_reducible apply Frame.via (Block.setScratch_frame _ _ _ _)); · rfl)
      | with_reducible exact Frame.snd (by assumption)
      | with_reducible refine Frame.pair2 (by assumption) ?_
      | with_reducible refine Frame.pair3 (by assumption) ?_
      | with_reducible refine Frame.pair4 (by assumption) ?_
      | (split <;> try extract_lets)
      | (dsimp +zetaDelta only; split <;> try extract_lets)
  | cons b t ih =>
    unfold Block.scratchWrite
    try extract_lets
    repeat' first
      | ((with_reducible apply Frame.via (ih _ _ _)); · rfl)
      | with_reducible assumption
      | with_reducible exact Frame.refl _ _
      | ((with_reducible apply Frame.via (Block.setScratch_frame _ _ _ _)); · rfl)
      | with_reducible exact Frame.snd (by assumption)
      | with_reducible refine Frame.pair2 (by assumption) ?_
      | with_reducible refine Frame.pair3 (by assumption) ?_
      | with_reducible refine Frame.pair4 (by assumption) ?_
      | (split <;> try extract_lets)
      | (dsimp +zetaDelta only; split <;> try extract_lets)


theorem Block.store_frame x0 x1 x2 x3 x4 : Frame 220177 x0 (Block.store x0 x1 x2 x3 x4) := by
  unfold Block.store
  try extract_lets
  repeat' first
    | with_reducible assumption
    | with_reducible exact Frame.refl _ _
    | with_reducible apply Frame.ite
    | ((with_reducible apply Frame.via (Block.faultFx_frame _ _ _)); · rfl)
    | ((with_reducible apply Frame.via (Block.nextFx_frame _ _)); · rfl)
    | ((with_reducible apply Frame.via (Block.scratchWrite_frame _ _ _ _)); · rfl)
    | ((with_reducible apply Frame.via (Block.memWrite_frame _ _ _)); · rfl)
    | ((with_reducible apply Frame.via (Block.setEngine_frame _ _ _)); · rfl)
    | with_reducible exact Frame.snd (by assumption)
    | with_reducible refine Frame.pair2 (by assumption) ?_
    | with_reducible refine Frame.pair3 (by assumption) ?_
    | with_reducible refine Frame.pair4 (by assumption) ?_
    | (split <;> try extract_lets)
    | (dsimp +zetaDelta only; split <;> try extract_lets)

theorem Block.scalarStore_frame x0 x1 x2 x3 x4 x5 x6 : Frame 220177 x0 (Block.scalarStore x0 x1 x2 x3 x4 x5 x6) := by
  unfold Block.scalarStore
  try extract_lets
  repeat' first
    | with_reducible assumption
    | with_reducible exact Frame.refl _ _
    | (with_reducible intro _; try extract_lets)
    | ((with_reducible apply Block.issue_frame); · rfl)
    | ((with_reducible apply Frame.via (Block.store_frame _ _ _ _ _)); · rfl)

theorem doStore16_frame x0 x1 x2 x3 x4 : Frame 220177 x4 (doStore16 x0 x1 x2 x3 x4) := by
  unfold doStore16
  try extract_lets
  repeat' first
    | with_reducible assumption
    | with_reducible exact Frame.refl _ _
    | ((with_reducible apply Frame.via (Block.scalarStore_frame _ _ _ _ _ _ _)); · rfl)

theorem Block.scratchLoad_frame {m : Nat} {s0 : Block} (x0 : Block) (x1 : Nat) (x2 : Nat) (x3 : Nat) (x4 : Block → List Byte → Block) (hm : subMask 154641 m = true) (h4 : (∀ t y0, Frame m s0 t → Frame m s0 (x4 t y0))) (h : Frame m s0 x0) : Frame m s0 (Block.scratchLoad x0 x1 x2 x3 x4) := by
  unfold Block.scratchLoad
  try extract_lets
  repeat' first
    | with_reducible assumption
    | (with_reducible intro _; try extract_lets)
    | with_reducible apply Frame.ite
    | ((with_reducible apply Frame.via (Block.faultFx_frame _ _ _)); · exact sub_trans rfl hm)
    | ((with_reducible apply Frame.via (Block.put_frame _ _ _)); · exact sub_trans rfl hm)
    | with_reducible apply h4
    | (split <;> try extract_lets)

theorem Block.loadFrom_frame x0 x1 x2 x3 x4 : Frame 135193 x0 (Block.loadFrom x0 x1 x2 x3 x4).2.2 := by
  induction x4 generalizing x0 x1 x2 x3 with
  | zero =>
    unfold Block.loadFrom
    try extract_lets
    repeat' first
      | with_reducible assumption
      | with_reducible exact Frame.refl _ _
      | (with_reducible intro _; try extract_lets)
      | with_reducible apply Frame.ite
      | with_reducible apply Frame.when
      | ((with_reducible apply Frame.via (Block.memReadFrom_frame _ _ _ _ _)); · rfl)
      | ((with_reducible apply Frame.via (Block.put_frame _ _ _)); · rfl)
      | with_reducible exact Frame.snd (by assumption)
      | with_reducible refine Frame.pair2 (by assumption) ?_
      | with_reducible refine Frame.pair3 (by assumption) ?_
      | with_reducible refine Frame.pair4 (by assumption) ?_
      | (split <;> try extract_lets)
      | (dsimp +zetaDelta only; split <;> try extract_lets)
      | dsimp only
  | succ n ih =>
    unfold Block.loadFrom
    try extract_lets
    repeat' first
      | ((with_reducible apply Frame.via (ih _ _ _ _)); · rfl)
      | with_reducible assumption
      | with_reducible exact Frame.refl _ _
      | (with_reducible intro _; try extract_lets)
      | with_reducible apply Frame.ite
      | with_reducible apply Frame.when
      | ((with_reducible apply Frame.via (Block.memReadFrom_frame _ _ _ _ _)); · rfl)
      | ((with_reducible apply Frame.via (Block.put_frame _ _ _)); · rfl)
      | with_reducible exact Frame.snd (by assumption)
      | with_reducible refine Frame.pair2 (by assumption) ?_
      | with_reducible refine Frame.pair3 (by assumption) ?_
      | with_reducible refine Frame.pair4 (by assumption) ?_
      | (split <;> try extract_lets)
      | (dsimp +zetaDelta only; split <;> try extract_lets)
      | dsimp only


theorem Block.loadBytes_frame x0 x1 x2 x3 : Frame 135193 x0 (Block.loadBytes x0 x1 x2 x3).2.2 := by
  unfold Block.loadBytes
  try extract_lets
  repeat' first
    | with_reducible assumption
    | with_reducible exact Frame.refl _ _
    | ((with_reducible apply Frame.via (Block.loadFrom_frame _ _ _ _ _)); · rfl)
    | dsimp only

theorem Block.load_frame {m : Nat} {s0 : Block} (x0 : Block) (x1 : Nat) (x2 : Nat) (x3 : Nat) (x4 : BitVec 18) (x5 : Block → List Byte → Block) (hm : subMask 154649 m = true) (h5 : (∀ t y0, Frame m s0 t → Frame m s0 (x5 t y0))) (h : Frame m s0 x0) : Frame m s0 (Block.load x0 x1 x2 x3 x4 x5) := by
  unfold Block.load
  try extract_lets
  repeat' first
    | with_reducible assumption
    | with_reducible apply Frame.ite
    | refine Frame.via (Block.faultFx_frame _ _ _) (sub_trans rfl hm) ?_
    | ((with_reducible apply Block.scratchLoad_frame); · exact sub_trans rfl hm)
    | refine Frame.via (Block.loadBytes_frame _ _ _ _) (sub_trans rfl hm) ?_
    | refine Frame.via (Block.setEngine_frame _ _ _) (sub_trans rfl hm) ?_
    | with_reducible apply h5
    | with_reducible exact Frame.snd (by assumption)
    | with_reducible refine Frame.pair2 (by assumption) ?_
    | with_reducible refine Frame.pair3 (by assumption) ?_
    | with_reducible refine Frame.pair4 (by assumption) ?_
    | (split <;> try extract_lets)
    | (dsimp +zetaDelta only; split <;> try extract_lets)

theorem Block.scalarLoad_frame x0 x1 x2 x3 x4 x5 x6 x7 : Frame 154649 x0 (Block.scalarLoad x0 x1 x2 x3 x4 x5 x6 x7) := by
  unfold Block.scalarLoad
  try extract_lets
  repeat' first
    | with_reducible assumption
    | with_reducible exact Frame.refl _ _
    | (with_reducible intro _; try extract_lets)
    | ((with_reducible apply Block.issue_frame); · rfl)
    | ((with_reducible apply Block.load_frame); · rfl)
    | ((with_reducible apply Frame.via (Block.result_frame _ _ _ _)); · rfl)

theorem doLoad16u_frame x0 x1 x2 x3 x4 : Frame 154649 x4 (doLoad16u x0 x1 x2 x3 x4) := by
  unfold doLoad16u
  try extract_lets
  repeat' first
    | with_reducible assumption
    | with_reducible exact Frame.refl _ _
    | (with_reducible intro _; try extract_lets)
    | with_reducible apply Frame.idf
    | ((with_reducible apply Frame.via (Block.scalarLoad_frame _ _ _ _ _ _ _ _)); · rfl)

theorem doMax_frame x0 x1 x2 x3 x4 : Frame 154641 x4 (doMax x0 x1 x2 x3 x4) := by
  unfold doMax
  try extract_lets
  repeat' first
    | with_reducible assumption
    | with_reducible exact Frame.refl _ _
    | (with_reducible intro _; try extract_lets)
    | with_reducible apply Frame.ite
    | ((with_reducible apply Frame.via (Block.scalarOp_frame _ _ _ _ _ _ _)); · rfl)
    | (split <;> try extract_lets)

theorem doShr_frame x0 x1 x2 x3 x4 : Frame 154641 x4 (doShr x0 x1 x2 x3 x4) := by
  unfold doShr
  try extract_lets
  repeat' first
    | with_reducible assumption
    | with_reducible exact Frame.refl _ _
    | (with_reducible intro _; try extract_lets)
    | ((with_reducible apply Frame.via (Block.scalarOp_frame _ _ _ _ _ _ _)); · rfl)

theorem doSar_frame x0 x1 x2 x3 x4 : Frame 154641 x4 (doSar x0 x1 x2 x3 x4) := by
  unfold doSar
  try extract_lets
  repeat' first
    | with_reducible assumption
    | with_reducible exact Frame.refl _ _
    | (with_reducible intro _; try extract_lets)
    | ((with_reducible apply Frame.via (Block.scalarOp_frame _ _ _ _ _ _ _)); · rfl)

theorem doAdd_frame x0 x1 x2 x3 x4 : Frame 154641 x4 (doAdd x0 x1 x2 x3 x4) := by
  unfold doAdd
  try extract_lets
  repeat' first
    | with_reducible assumption
    | with_reducible exact Frame.refl _ _
    | (with_reducible intro _; try extract_lets)
    | ((with_reducible apply Frame.via (Block.scalarOp_frame _ _ _ _ _ _ _)); · rfl)

theorem doIfeq_frame x0 x1 x2 x3 x4 : Frame 154641 x4 (doIfeq x0 x1 x2 x3 x4) := by
  unfold doIfeq
  try extract_lets
  repeat' first
    | with_reducible assumption
    | with_reducible exact Frame.refl _ _
    | (with_reducible intro _; try extract_lets)
    | ((with_reducible apply Frame.via (Block.branch_frame _ _ _ _ _ _ _)); · rfl)

theorem Block.immOp_frame x0 x1 x2 x3 x4 x5 x6 : Frame 154641 x0 (Block.immOp x0 x1 x2 x3 x4 x5 x6) := by
  unfold Block.immOp
  try extract_lets
  repeat' first
    | with_reducible assumption
    | with_reducible exact Frame.refl _ _
    | (with_reducible intro _; try extract_lets)
    | ((with_reducible apply Block.issue_frame); · rfl)
    | ((with_reducible apply Frame.via (Block.result_frame _ _ _ _)); · rfl)

theorem doXork_frame x0 x1 x2 x3 x4 : Frame 154641 x4 (doXork x0 x1 x2 x3 x4) := by
  unfold doXork
  try extract_lets
  repeat' first
    | with_reducible assumption
    | with_reducible exact Frame.refl _ _
    | (with_reducible intro _; try extract_lets)
    | ((with_reducible apply Frame.via (Block.immOp_frame _ _ _ _ _ _ _)); · rfl)

theorem doLtu_frame x0 x1 x2 x3 x4 : Frame 154641 x4 (doLtu x0 x1 x2 x3 x4) := by
  unfold doLtu
  try extract_lets
  repeat' first
    | with_reducible assumption
    | with_reducible exact Frame.refl _ _
    | (with_reducible intro _; try extract_lets)
    | ((with_reducible apply Frame.via (Block.scalarOp_frame _ _ _ _ _ _ _)); · rfl)

theorem doStore8_frame x0 x1 x2 x3 x4 : Frame 220177 x4 (doStore8 x0 x1 x2 x3 x4) := by
  unfold doStore8
  try extract_lets
  repeat' first
    | with_reducible assumption
    | with_reducible exact Frame.refl _ _
    | ((with_reducible apply Frame.via (Block.scalarStore_frame _ _ _ _ _ _ _)); · rfl)

theorem doHighk_frame x0 x1 x2 x3 : Frame 154641 x3 (doHighk x0 x1 x2 x3) := by
  unfold doHighk
  try extract_lets
  repeat' first
    | with_reducible assumption
    | with_reducible exact Frame.refl _ _
    | (with_reducible intro _; try extract_lets)
    | ((with_reducible apply Block.issue_frame); · rfl)
    | ((with_reducible apply Frame.via (Block.result_frame _ _ _ _)); · rfl)

theorem doLoad8u_frame x0 x1 x2 x3 x4 : Frame 154649 x4 (doLoad8u x0 x1 x2 x3 x4) := by
  unfold doLoad8u
  try extract_lets
  repeat' first
    | with_reducible assumption
    | with_reducible exact Frame.refl _ _
    | (with_reducible intro _; try extract_lets)
    | with_reducible apply Frame.idf
    | ((with_reducible apply Frame.via (Block.scalarLoad_frame _ _ _ _ _ _ _ _)); · rfl)

theorem doMin_frame x0 x1 x2 x3 x4 : Frame 154641 x4 (doMin x0 x1 x2 x3 x4) := by
  unfold doMin
  try extract_lets
  repeat' first
    | with_reducible assumption
    | with_reducible exact Frame.refl _ _
    | (with_reducible intro _; try extract_lets)
    | with_reducible apply Frame.ite
    | ((with_reducible apply Frame.via (Block.scalarOp_frame _ _ _ _ _ _ _)); · rfl)
    | (split <;> try extract_lets)

theorem doCall_frame x0 x1 x2 x3 : Frame 154641 x3 (doCall x0 x1 x2 x3) := by
  unfold doCall
  try extract_lets
  repeat' first
    | with_reducible assumption
    | with_reducible exact Frame.refl _ _
    | (with_reducible intro _; try extract_lets)
    | ((with_reducible apply Block.issue_frame); · rfl)
    | ((with_reducible apply Block.jumpFx_frame); · rfl)
    | ((with_reducible apply Frame.via (Block.setSx_frame _ _ _ _)); · rfl)

theorem doXor_frame x0 x1 x2 x3 x4 : Frame 154641 x4 (doXor x0 x1 x2 x3 x4) := by
  unfold doXor
  try extract_lets
  repeat' first
    | with_reducible assumption
    | with_reducible exact Frame.refl _ _
    | (with_reducible intro _; try extract_lets)
    | ((with_reducible apply Frame.via (Block.scalarOp_frame _ _ _ _ _ _ _)); · rfl)

theorem doVload_frame x0 x1 x2 x3 x4 : Frame 154649 x4 (doVload x0 x1 x2 x3 x4) := by
  unfold doVload
  try extract_lets
  repeat' first
    | with_reducible assumption
    | with_reducible exact Frame.refl _ _
    | (with_reducible intro _; try extract_lets)
    | ((with_reducible apply Block.issue_frame); · rfl)
    | ((with_reducible apply Block.load_frame); · rfl)
    | ((with_reducible apply Frame.via (Block.nextFx_frame _ _)); · rfl)
    | ((with_reducible apply Frame.via (Block.setVx_frame _ _ _ _)); · rfl)

theorem doOr_frame x0 x1 x2 x3 x4 : Frame 154641 x4 (doOr x0 x1 x2 x3 x4) := by
  unfold doOr
  try extract_lets
  repeat' first
    | with_reducible assumption
    | with_reducible exact Frame.refl _ _
    | (with_reducible intro _; try extract_lets)
    | ((with_reducible apply Frame.via (Block.scalarOp_frame _ _ _ _ _ _ _)); · rfl)

theorem doShl_frame x0 x1 x2 x3 x4 : Frame 154641 x4 (doShl x0 x1 x2 x3 x4) := by
  unfold doShl
  try extract_lets
  repeat' first
    | with_reducible assumption
    | with_reducible exact Frame.refl _ _
    | (with_reducible intro _; try extract_lets)
    | ((with_reducible apply Frame.via (Block.scalarOp_frame _ _ _ _ _ _ _)); · rfl)

theorem doAnd_frame x0 x1 x2 x3 x4 : Frame 154641 x4 (doAnd x0 x1 x2 x3 x4) := by
  unfold doAnd
  try extract_lets
  repeat' first
    | with_reducible assumption
    | with_reducible exact Frame.refl _ _
    | (with_reducible intro _; try extract_lets)
    | ((with_reducible apply Frame.via (Block.scalarOp_frame _ _ _ _ _ _ _)); · rfl)

theorem doVstore_frame x0 x1 x2 x3 x4 : Frame 220177 x4 (doVstore x0 x1 x2 x3 x4) := by
  unfold doVstore
  try extract_lets
  repeat' first
    | with_reducible assumption
    | with_reducible exact Frame.refl _ _
    | (with_reducible intro _; try extract_lets)
    | ((with_reducible apply Block.issue_frame); · rfl)
    | ((with_reducible apply Frame.via (Block.store_frame _ _ _ _ _)); · rfl)

theorem doLoad32_frame x0 x1 x2 x3 x4 : Frame 154649 x4 (doLoad32 x0 x1 x2 x3 x4) := by
  unfold doLoad32
  try extract_lets
  repeat' first
    | with_reducible assumption
    | with_reducible exact Frame.refl _ _
    | (with_reducible intro _; try extract_lets)
    | with_reducible apply Frame.idf
    | ((with_reducible apply Frame.via (Block.scalarLoad_frame _ _ _ _ _ _ _ _)); · rfl)

theorem doCallr_frame x0 x1 x2 x3 x4 : Frame 154641 x4 (doCallr x0 x1 x2 x3 x4) := by
  unfold doCallr
  try extract_lets
  repeat' first
    | with_reducible assumption
    | with_reducible exact Frame.refl _ _
    | (with_reducible intro _; try extract_lets)
    | with_reducible apply Frame.ite
    | ((with_reducible apply Block.issue_frame); · rfl)
    | ((with_reducible apply Block.jumpFx_frame); · rfl)
    | ((with_reducible apply Frame.via (Block.setSx_frame _ _ _ _)); · rfl)
    | (split <;> try extract_lets)

theorem doLt_frame x0 x1 x2 x3 x4 : Frame 154641 x4 (doLt x0 x1 x2 x3 x4) := by
  unfold doLt
  try extract_lets
  repeat' first
    | with_reducible assumption
    | with_reducible exact Frame.refl _ _
    | (with_reducible intro _; try extract_lets)
    | ((with_reducible apply Frame.via (Block.scalarOp_frame _ _ _ _ _ _ _)); · rfl)

theorem doAddk_frame x0 x1 x2 x3 x4 : Frame 154641 x4 (doAddk x0 x1 x2 x3 x4) := by
  unfold doAddk
  try extract_lets
  repeat' first
    | with_reducible assumption
    | with_reducible exact Frame.refl _ _
    | (with_reducible intro _; try extract_lets)
    | ((with_reducible apply Frame.via (Block.immOp_frame _ _ _ _ _ _ _)); · rfl)

theorem doDiv_frame x0 x1 x2 x3 x4 : Frame 154641 x4 (doDiv x0 x1 x2 x3 x4) := by
  unfold doDiv
  try extract_lets
  repeat' first
    | with_reducible assumption
    | with_reducible exact Frame.refl _ _
    | (with_reducible intro _; try extract_lets)
    | with_reducible apply Frame.ite
    | ((with_reducible apply Frame.via (Block.scalarOp_frame _ _ _ _ _ _ _)); · rfl)
    | (split <;> try extract_lets)

theorem doIfhs_frame x0 x1 x2 x3 x4 : Frame 154641 x4 (doIfhs x0 x1 x2 x3 x4) := by
  unfold doIfhs
  try extract_lets
  repeat' first
    | with_reducible assumption
    | with_reducible exact Frame.refl _ _
    | (with_reducible intro _; try extract_lets)
    | ((with_reducible apply Frame.via (Block.branch_frame _ _ _ _ _ _ _)); · rfl)

theorem doMul_frame x0 x1 x2 x3 x4 : Frame 154641 x4 (doMul x0 x1 x2 x3 x4) := by
  unfold doMul
  try extract_lets
  repeat' first
    | with_reducible assumption
    | with_reducible exact Frame.refl _ _
    | (with_reducible intro _; try extract_lets)
    | ((with_reducible apply Frame.via (Block.scalarOp_frame _ _ _ _ _ _ _)); · rfl)

theorem doLtk_frame x0 x1 x2 x3 x4 : Frame 154641 x4 (doLtk x0 x1 x2 x3 x4) := by
  unfold doLtk
  try extract_lets
  repeat' first
    | with_reducible assumption
    | with_reducible exact Frame.refl _ _
    | (with_reducible intro _; try extract_lets)
    | ((with_reducible apply Frame.via (Block.immOp_frame _ _ _ _ _ _ _)); · rfl)

theorem doLoad16s_frame x0 x1 x2 x3 x4 : Frame 154649 x4 (doLoad16s x0 x1 x2 x3 x4) := by
  unfold doLoad16s
  try extract_lets
  repeat' first
    | with_reducible assumption
    | with_reducible exact Frame.refl _ _
    | (with_reducible intro _; try extract_lets)
    | ((with_reducible apply Frame.via (Block.scalarLoad_frame _ _ _ _ _ _ _ _)); · rfl)

theorem doLoad8s_frame x0 x1 x2 x3 x4 : Frame 154649 x4 (doLoad8s x0 x1 x2 x3 x4) := by
  unfold doLoad8s
  try extract_lets
  repeat' first
    | with_reducible assumption
    | with_reducible exact Frame.refl _ _
    | (with_reducible intro _; try extract_lets)
    | ((with_reducible apply Frame.via (Block.scalarLoad_frame _ _ _ _ _ _ _ _)); · rfl)

theorem doIfge_frame x0 x1 x2 x3 x4 : Frame 154641 x4 (doIfge x0 x1 x2 x3 x4) := by
  unfold doIfge
  try extract_lets
  repeat' first
    | with_reducible assumption
    | with_reducible exact Frame.refl _ _
    | (with_reducible intro _; try extract_lets)
    | ((with_reducible apply Frame.via (Block.branch_frame _ _ _ _ _ _ _)); · rfl)

theorem doIflt_frame x0 x1 x2 x3 x4 : Frame 154641 x4 (doIflt x0 x1 x2 x3 x4) := by
  unfold doIflt
  try extract_lets
  repeat' first
    | with_reducible assumption
    | with_reducible exact Frame.refl _ _
    | (with_reducible intro _; try extract_lets)
    | ((with_reducible apply Frame.via (Block.branch_frame _ _ _ _ _ _ _)); · rfl)

theorem doIfne_frame x0 x1 x2 x3 x4 : Frame 154641 x4 (doIfne x0 x1 x2 x3 x4) := by
  unfold doIfne
  try extract_lets
  repeat' first
    | with_reducible assumption
    | with_reducible exact Frame.refl _ _
    | (with_reducible intro _; try extract_lets)
    | ((with_reducible apply Frame.via (Block.branch_frame _ _ _ _ _ _ _)); · rfl)

theorem doOrk_frame x0 x1 x2 x3 x4 : Frame 154641 x4 (doOrk x0 x1 x2 x3 x4) := by
  unfold doOrk
  try extract_lets
  repeat' first
    | with_reducible assumption
    | with_reducible exact Frame.refl _ _
    | (with_reducible intro _; try extract_lets)
    | ((with_reducible apply Frame.via (Block.immOp_frame _ _ _ _ _ _ _)); · rfl)

theorem doIflo_frame x0 x1 x2 x3 x4 : Frame 154641 x4 (doIflo x0 x1 x2 x3 x4) := by
  unfold doIflo
  try extract_lets
  repeat' first
    | with_reducible assumption
    | with_reducible exact Frame.refl _ _
    | (with_reducible intro _; try extract_lets)
    | ((with_reducible apply Frame.via (Block.branch_frame _ _ _ _ _ _ _)); · rfl)

theorem doAndk_frame x0 x1 x2 x3 x4 : Frame 154641 x4 (doAndk x0 x1 x2 x3 x4) := by
  unfold doAndk
  try extract_lets
  repeat' first
    | with_reducible assumption
    | with_reducible exact Frame.refl _ _
    | (with_reducible intro _; try extract_lets)
    | ((with_reducible apply Frame.via (Block.immOp_frame _ _ _ _ _ _ _)); · rfl)

theorem doSub_frame x0 x1 x2 x3 x4 : Frame 154641 x4 (doSub x0 x1 x2 x3 x4) := by
  unfold doSub
  try extract_lets
  repeat' first
    | with_reducible assumption
    | with_reducible exact Frame.refl _ _
    | (with_reducible intro _; try extract_lets)
    | ((with_reducible apply Frame.via (Block.scalarOp_frame _ _ _ _ _ _ _)); · rfl)

theorem doShiftk_frame x0 x1 x2 x3 x4 : Frame 154641 x4 (doShiftk x0 x1 x2 x3 x4) := by
  unfold doShiftk
  try extract_lets
  repeat' first
    | with_reducible assumption
    | with_reducible exact Frame.refl _ _
    | (with_reducible intro _; try extract_lets)
    | ((with_reducible apply Frame.via (Block.immOp_frame _ _ _ _ _ _ _)); · rfl)
    | with_reducible exact Frame.snd (by assumption)
    | with_reducible refine Frame.pair2 (by assumption) ?_
    | with_reducible refine Frame.pair3 (by assumption) ?_
    | with_reducible refine Frame.pair4 (by assumption) ?_
    | (split <;> try extract_lets)
    | (dsimp +zetaDelta only; split <;> try extract_lets)

theorem doStore32_frame x0 x1 x2 x3 x4 : Frame 220177 x4 (doStore32 x0 x1 x2 x3 x4) := by
  unfold doStore32
  try extract_lets
  repeat' first
    | with_reducible assumption
    | with_reducible exact Frame.refl _ _
    | ((with_reducible apply Frame.via (Block.scalarStore_frame _ _ _ _ _ _ _)); · rfl)

theorem doMulhs_frame x0 x1 x2 x3 x4 : Frame 154641 x4 (doMulhs x0 x1 x2 x3 x4) := by
  unfold doMulhs
  try extract_lets
  repeat' first
    | with_reducible assumption
    | with_reducible exact Frame.refl _ _
    | (with_reducible intro _; try extract_lets)
    | ((with_reducible apply Frame.via (Block.scalarOp_frame _ _ _ _ _ _ _)); · rfl)

end Sys2Proof.Machine
end

