-- ==== Sys2Proof/Laws/FrameTime.lean ====
section
/-! SUPPORT. What each function of Machine/Time.lean may change. -/

namespace Sys2Proof.Machine

theorem Block.takePacket_frame x0 x1 x2 x3 x4 : Frame 135185 x0 (Block.takePacket x0 x1 x2 x3 x4).2 := by
  unfold Block.takePacket
  try extract_lets
  repeat' first
    | with_reducible assumption
    | with_reducible exact Frame.refl _ _
    | (with_reducible intro _; try extract_lets)
    | with_reducible apply Frame.ite
    | with_reducible apply Frame.when
    | ((with_reducible apply Frame.via (Block.raise_frame _ _ _)); · rfl)
    | ((with_reducible apply Frame.via (Block.bump_frame _ _ _)); · rfl)
    | ((with_reducible apply Frame.put_ply); · rfl)
    | with_reducible exact Frame.snd (by assumption)
    | with_reducible refine Frame.pair2 (by assumption) ?_
    | with_reducible refine Frame.pair3 (by assumption) ?_
    | with_reducible refine Frame.pair4 (by assumption) ?_
    | (split <;> try extract_lets)
    | (dsimp +zetaDelta only; split <;> try extract_lets)
    | dsimp only

theorem Block.snap_frame x0 : Frame 1 x0 (Block.snap x0) := by
  unfold Block.snap
  try extract_lets
  repeat' first
    | with_reducible assumption
    | with_reducible exact Frame.refl _ _
    | (with_reducible intro _; try extract_lets)
    | with_reducible apply Frame.each
    | ((with_reducible apply Frame.via (Block.setReg_frame _ _ _)); · rfl)
    | ((with_reducible apply Frame.via (Block.setPair_frame _ _ _ _)); · rfl)

theorem Block.writeTbCtl_frame x0 x1 : Frame 1 x0 (Block.writeTbCtl x0 x1) := by
  unfold Block.writeTbCtl
  try extract_lets
  repeat' first
    | with_reducible assumption
    | with_reducible exact Frame.refl _ _
    | with_reducible apply Frame.ite
    | ((with_reducible apply Frame.via (Block.snap_frame _)); · rfl)
    | (split <;> try extract_lets)

theorem Block.setMains_frame x0 x1 : Frame 256 x0 (Block.setMains x0 x1) := by
  unfold Block.setMains
  try extract_lets
  repeat' first
    | with_reducible assumption
    | with_reducible exact Frame.refl _ _
    | ((with_reducible apply Frame.put_time); · rfl)

theorem Block.slewFrom_frame x0 x1 x2 : Frame 256 x0 (Block.slewFrom x0 x1 x2) := by
  unfold Block.slewFrom
  try extract_lets
  repeat' first
    | with_reducible assumption
    | with_reducible exact Frame.refl _ _
    | ((with_reducible apply Frame.via (Block.setMains_frame _ _)); · rfl)

theorem Block.setFreq_frame x0 x1 : Frame 256 x0 (Block.setFreq x0 x1) := by
  unfold Block.setFreq
  try extract_lets
  repeat' first
    | with_reducible assumption
    | with_reducible exact Frame.refl _ _
    | ((with_reducible apply Frame.via (Block.slewFrom_frame _ _ _)); · rfl)

theorem Block.writeMainsCtl_frame x0 x1 : Frame 257 x0 (Block.writeMainsCtl x0 x1) := by
  unfold Block.writeMainsCtl
  try extract_lets
  repeat' first
    | with_reducible assumption
    | with_reducible exact Frame.refl _ _
    | with_reducible apply Frame.ite
    | ((with_reducible apply Frame.via (Block.writeFields_frame _ _ _)); · rfl)
    | ((with_reducible apply Frame.via (Block.setFreq_frame _ _)); · rfl)
    | (split <;> try extract_lets)

theorem Block.setLate_frame x0 x1 x2 : Frame 256 x0 (Block.setLate x0 x1 x2) := by
  unfold Block.setLate
  try extract_lets
  repeat' first
    | with_reducible assumption
    | with_reducible exact Frame.refl _ _
    | (with_reducible intro _; try extract_lets)
    | ((with_reducible apply Frame.put_time); · rfl)

theorem Block.markLate_frame x0 x1 x2 x3 : Frame 256 x0 (Block.markLate x0 x1 x2 x3) := by
  unfold Block.markLate
  try extract_lets
  repeat' first
    | with_reducible assumption
    | with_reducible exact Frame.refl _ _
    | (with_reducible intro _; try extract_lets)
    | with_reducible apply Frame.ite
    | with_reducible apply Frame.each
    | ((with_reducible apply Frame.via (Block.setLate_frame _ _ _)); · rfl)
    | (split <;> try extract_lets)

theorem Block.writePhaseOfs_frame x0 x1 : Frame 257 x0 (Block.writePhaseOfs x0 x1) := by
  unfold Block.writePhaseOfs
  try extract_lets
  repeat' first
    | with_reducible assumption
    | with_reducible exact Frame.refl _ _
    | ((with_reducible apply Frame.via (Block.writeFields_frame _ _ _)); · rfl)
    | ((with_reducible apply Frame.via (Block.markLate_frame _ _ _ _)); · rfl)

theorem Block.setLine_frame x0 x1 x2 : Frame 256 x0 (Block.setLine x0 x1 x2) := by
  unfold Block.setLine
  try extract_lets
  repeat' first
    | with_reducible assumption
    | with_reducible exact Frame.refl _ _
    | (with_reducible intro _; try extract_lets)
    | ((with_reducible apply Frame.put_time); · rfl)

theorem Block.notePast_frame x0 x1 : Frame 256 x0 (Block.notePast x0 x1) := by
  unfold Block.notePast
  try extract_lets
  repeat' first
    | with_reducible assumption
    | with_reducible exact Frame.refl _ _
    | (with_reducible intro _; try extract_lets)
    | ((with_reducible apply Frame.via (Block.setLine_frame _ _ _)); · rfl)

theorem Block.enterLine_frame x0 x1 x2 : Frame 135441 x0 (Block.enterLine x0 x1 x2) := by
  unfold Block.enterLine
  try extract_lets
  repeat' first
    | with_reducible assumption
    | with_reducible exact Frame.refl _ _
    | (with_reducible intro _; try extract_lets)
    | with_reducible apply Frame.ite
    | with_reducible apply Frame.each
    | with_reducible apply Frame.when
    | ((with_reducible apply Frame.via (Block.put_frame _ _ _)); · rfl)
    | ((with_reducible apply Frame.via (Block.notePast_frame _ _)); · rfl)
    | ((with_reducible apply Frame.via (Block.setLate_frame _ _ _)); · rfl)
    | ((with_reducible apply Frame.via (Block.setLine_frame _ _ _)); · rfl)
    | ((with_reducible apply Frame.via (Block.raise_frame _ _ _)); · rfl)
    | (split <;> try extract_lets)

theorem Block.writeLineCtl_frame x0 x1 x2 : Frame 135441 x0 (Block.writeLineCtl x0 x1 x2) := by
  unfold Block.writeLineCtl
  try extract_lets
  repeat' first
    | with_reducible assumption
    | with_reducible exact Frame.refl _ _
    | with_reducible apply Frame.ite
    | ((with_reducible apply Frame.via (Block.writeFields_frame _ _ _)); · rfl)
    | ((with_reducible apply Frame.via (Block.setLine_frame _ _ _)); · rfl)
    | ((with_reducible apply Frame.via (Block.enterLine_frame _ _ _)); · rfl)
    | (split <;> try extract_lets)

theorem Block.setPeriod_frame x0 x1 x2 : Frame 1 x0 (Block.setPeriod x0 x1 x2) := by
  unfold Block.setPeriod
  try extract_lets
  repeat' first
    | with_reducible assumption
    | with_reducible exact Frame.refl _ _
    | ((with_reducible apply Frame.via (Block.put_frame _ _ _)); · rfl)
    | ((with_reducible apply Frame.via (Block.setReg_frame _ _ _)); · rfl)

theorem Block.setLineCount_frame x0 x1 x2 x3 x4 : Frame 256 x0 (Block.setLineCount x0 x1 x2 x3 x4) := by
  unfold Block.setLineCount
  try extract_lets
  repeat' first
    | with_reducible assumption
    | with_reducible exact Frame.refl _ _
    | (with_reducible intro _; try extract_lets)
    | with_reducible apply Frame.when
    | ((with_reducible apply Frame.via (Block.setLine_frame _ _ _)); · rfl)
    | ((with_reducible apply Frame.via (Block.markLate_frame _ _ _ _)); · rfl)

theorem Block.setWindows_frame x0 x1 x2 : Frame 1 x0 (Block.setWindows x0 x1 x2) := by
  unfold Block.setWindows
  try extract_lets
  repeat' first
    | with_reducible assumption
    | with_reducible exact Frame.refl _ _
    | (with_reducible intro _; try extract_lets)
    | with_reducible apply Frame.each
    | ((with_reducible apply Frame.via (Block.setReg_frame _ _ _)); · rfl)

theorem Block.qwFault_frame x0 x1 x2 : Frame 135441 x0 (Block.qwFault x0 x1 x2) := by
  unfold Block.qwFault
  try extract_lets
  repeat' first
    | with_reducible assumption
    | with_reducible exact Frame.refl _ _
    | with_reducible apply Frame.ite
    | ((with_reducible apply Frame.via (Block.setLine_frame _ _ _)); · rfl)
    | ((with_reducible apply Frame.via (Block.raise_frame _ _ _)); · rfl)
    | ((with_reducible apply Frame.via (Block.bump_frame _ _ _)); · rfl)
    | ((with_reducible apply Frame.via (Block.put_frame _ _ _)); · rfl)
    | (split <;> try extract_lets)

theorem Block.beginSuperframe_frame x0 x1 x2 x3 : Frame 135441 x0 (Block.beginSuperframe x0 x1 x2 x3) := by
  unfold Block.beginSuperframe
  try extract_lets
  repeat' first
    | with_reducible assumption
    | with_reducible exact Frame.refl _ _
    | (with_reducible intro _; try extract_lets)
    | with_reducible apply Frame.ite
    | ((with_reducible apply Frame.via (Block.notePast_frame _ _)); · rfl)
    | ((with_reducible apply Frame.via (Block.setLine_frame _ _ _)); · rfl)
    | ((with_reducible apply Frame.via (Block.put_frame _ _ _)); · rfl)
    | ((with_reducible apply Frame.via (Block.setWindows_frame _ _ _)); · rfl)
    | ((with_reducible apply Frame.via (Block.qwFault_frame _ _ _)); · rfl)
    | with_reducible exact Frame.snd (by assumption)
    | with_reducible refine Frame.pair2 (by assumption) ?_
    | with_reducible refine Frame.pair3 (by assumption) ?_
    | with_reducible refine Frame.pair4 (by assumption) ?_
    | (split <;> try extract_lets)
    | (dsimp +zetaDelta only; split <;> try extract_lets)

theorem Block.marker_frame x0 x1 x2 x3 : Frame 135441 x0 (Block.marker x0 x1 x2 x3) := by
  unfold Block.marker
  try extract_lets
  repeat' first
    | with_reducible assumption
    | with_reducible exact Frame.refl _ _
    | (with_reducible intro _; try extract_lets)
    | with_reducible apply Frame.ite
    | with_reducible apply Frame.when
    | ((with_reducible apply Frame.via (Block.setPeriod_frame _ _ _)); · rfl)
    | ((with_reducible apply Frame.via (Block.setLineCount_frame _ _ _ _ _)); · rfl)
    | ((with_reducible apply Frame.via (Block.setLine_frame _ _ _)); · rfl)
    | ((with_reducible apply Frame.via (Block.put_frame _ _ _)); · rfl)
    | ((with_reducible apply Frame.via (Block.raise_frame _ _ _)); · rfl)
    | ((with_reducible apply Frame.via (Block.bump_frame _ _ _)); · rfl)
    | ((with_reducible apply Frame.via (Block.beginSuperframe_frame _ _ _ _)); · rfl)
    | ((with_reducible apply Frame.via (Block.enterLine_frame _ _ _)); · rfl)
    | (split <;> try extract_lets)

theorem Block.enterMains_frame x0 x1 : Frame 1 x0 (Block.enterMains x0 x1) := by
  unfold Block.enterMains
  try extract_lets
  repeat' first
    | with_reducible assumption
    | with_reducible exact Frame.refl _ _
    | (with_reducible intro _; try extract_lets)
    | with_reducible apply Frame.when
    | ((with_reducible apply Frame.via (Block.put_frame _ _ _)); · rfl)

theorem Block.mainsRef_frame x0 x1 x2 x3 x4 : Frame 265 x0 (Block.mainsRef x0 x1 x2 x3 x4) := by
  unfold Block.mainsRef
  try extract_lets
  repeat' first
    | with_reducible assumption
    | with_reducible exact Frame.refl _ _
    | with_reducible apply Frame.ite
    | ((with_reducible apply Frame.via (Block.draw_frame _)); · rfl)
    | ((with_reducible apply Frame.via (Block.put_frame _ _ _)); · rfl)
    | ((with_reducible apply Frame.via (Block.slewFrom_frame _ _ _)); · rfl)
    | ((with_reducible apply Frame.via (Block.setMains_frame _ _)); · rfl)
    | ((with_reducible apply Frame.via (Block.enterMains_frame _ _)); · rfl)
    | with_reducible exact Frame.snd (by assumption)
    | with_reducible refine Frame.pair2 (by assumption) ?_
    | with_reducible refine Frame.pair3 (by assumption) ?_
    | with_reducible refine Frame.pair4 (by assumption) ?_
    | (split <;> try extract_lets)
    | (dsimp +zetaDelta only; split <;> try extract_lets)

theorem Block.trackTone_frame x0 x1 : Frame 265 x0 (Block.trackTone x0 x1) := by
  unfold Block.trackTone
  try extract_lets
  repeat' first
    | with_reducible assumption
    | with_reducible exact Frame.refl _ _
    | with_reducible apply Frame.ite
    | ((with_reducible apply Frame.via (Block.setMains_frame _ _)); · rfl)
    | ((with_reducible apply Frame.via (Block.mainsRef_frame _ _ _ _ _)); · rfl)
    | ((with_reducible apply Frame.via (Block.put_frame _ _ _)); · rfl)
    | (split <;> try extract_lets)

theorem Block.takeBest_frame x0 : Frame 265 x0 (Block.takeBest x0) := by
  unfold Block.takeBest
  try extract_lets
  repeat' first
    | with_reducible assumption
    | with_reducible exact Frame.refl _ _
    | with_reducible apply Frame.ite
    | ((with_reducible apply Frame.via (Block.trackTone_frame _ _)); · rfl)
    | ((with_reducible apply Frame.via (Block.setMains_frame _ _)); · rfl)
    | with_reducible exact Frame.snd (by assumption)
    | with_reducible refine Frame.pair2 (by assumption) ?_
    | with_reducible refine Frame.pair3 (by assumption) ?_
    | with_reducible refine Frame.pair4 (by assumption) ?_
    | (split <;> try extract_lets)
    | (dsimp +zetaDelta only; split <;> try extract_lets)

theorem Block.usableTone_frame x0 x1 : Frame 265 x0 (Block.usableTone x0 x1) := by
  unfold Block.usableTone
  try extract_lets
  repeat' first
    | with_reducible assumption
    | with_reducible exact Frame.refl _ _
    | with_reducible apply Frame.ite
    | ((with_reducible apply Frame.via (Block.takeBest_frame _)); · rfl)
    | ((with_reducible apply Frame.via (Block.setMains_frame _ _)); · rfl)
    | ((with_reducible apply Frame.via (Block.trackTone_frame _ _)); · rfl)
    | with_reducible exact Frame.snd (by assumption)
    | with_reducible refine Frame.pair2 (by assumption) ?_
    | with_reducible refine Frame.pair3 (by assumption) ?_
    | with_reducible refine Frame.pair4 (by assumption) ?_
    | (split <;> try extract_lets)
    | (dsimp +zetaDelta only; split <;> try extract_lets)

theorem Block.mainsOff_frame x0 : Frame 257 x0 (Block.mainsOff x0) := by
  unfold Block.mainsOff
  try extract_lets
  repeat' first
    | with_reducible assumption
    | with_reducible exact Frame.refl _ _
    | ((with_reducible apply Frame.via (Block.setMains_frame _ _)); · rfl)
    | ((with_reducible apply Frame.via (Block.put_frame _ _ _)); · rfl)
    | ((with_reducible apply Frame.via (Block.enterMains_frame _ _)); · rfl)
    | ((with_reducible apply Frame.via (Block.setFreq_frame _ _)); · rfl)

theorem Block.halfShift_frame x0 : Frame 135441 x0 (Block.halfShift x0) := by
  unfold Block.halfShift
  try extract_lets
  repeat' first
    | with_reducible assumption
    | with_reducible exact Frame.refl _ _
    | (with_reducible intro _; try extract_lets)
    | ((with_reducible apply Frame.via (Block.setMains_frame _ _)); · rfl)
    | ((with_reducible apply Frame.via (Block.markLate_frame _ _ _ _)); · rfl)
    | ((with_reducible apply Frame.via (Block.raise_frame _ _ _)); · rfl)
    | ((with_reducible apply Frame.via (Block.put_frame _ _ _)); · rfl)

theorem Block.halfTest_frame x0 : Frame 135441 x0 (Block.halfTest x0) := by
  unfold Block.halfTest
  try extract_lets
  repeat' first
    | with_reducible assumption
    | with_reducible exact Frame.refl _ _
    | with_reducible apply Frame.ite
    | ((with_reducible apply Frame.via (Block.setMains_frame _ _)); · rfl)
    | ((with_reducible apply Frame.via (Block.put_frame _ _ _)); · rfl)
    | ((with_reducible apply Frame.via (Block.halfShift_frame _)); · rfl)
    | (split <;> try extract_lets)

theorem Block.usableEdge_frame x0 x1 : Frame 135449 x0 (Block.usableEdge x0 x1) := by
  unfold Block.usableEdge
  try extract_lets
  repeat' first
    | with_reducible assumption
    | with_reducible exact Frame.refl _ _
    | with_reducible apply Frame.ite
    | ((with_reducible apply Frame.via (Block.setMains_frame _ _)); · rfl)
    | ((with_reducible apply Frame.via (Block.mainsRef_frame _ _ _ _ _)); · rfl)
    | ((with_reducible apply Frame.via (Block.mainsOff_frame _)); · rfl)
    | ((with_reducible apply Frame.via (Block.put_frame _ _ _)); · rfl)
    | ((with_reducible apply Frame.via (Block.halfTest_frame _)); · rfl)
    | with_reducible exact Frame.snd (by assumption)
    | with_reducible refine Frame.pair2 (by assumption) ?_
    | with_reducible refine Frame.pair3 (by assumption) ?_
    | with_reducible refine Frame.pair4 (by assumption) ?_
    | (split <;> try extract_lets)
    | (dsimp +zetaDelta only; split <;> try extract_lets)

theorem Block.mainsOutOfRange_frame x0 : Frame 135441 x0 (Block.mainsOutOfRange x0) := by
  unfold Block.mainsOutOfRange
  try extract_lets
  repeat' first
    | with_reducible assumption
    | with_reducible exact Frame.refl _ _
    | with_reducible apply Frame.ite
    | ((with_reducible apply Frame.via (Block.raise_frame _ _ _)); · rfl)
    | ((with_reducible apply Frame.via (Block.put_frame _ _ _)); · rfl)
    | ((with_reducible apply Frame.via (Block.setMains_frame _ _)); · rfl)
    | (split <;> try extract_lets)

theorem Block.badEdge_frame x0 : Frame 135441 x0 (Block.badEdge x0) := by
  unfold Block.badEdge
  try extract_lets
  repeat' first
    | with_reducible assumption
    | with_reducible exact Frame.refl _ _
    | with_reducible apply Frame.ite
    | ((with_reducible apply Frame.via (Block.mainsOff_frame _)); · rfl)
    | ((with_reducible apply Frame.via (Block.mainsOutOfRange_frame _)); · rfl)
    | ((with_reducible apply Frame.via (Block.setMains_frame _ _)); · rfl)
    | with_reducible exact Frame.snd (by assumption)
    | with_reducible refine Frame.pair2 (by assumption) ?_
    | with_reducible refine Frame.pair3 (by assumption) ?_
    | with_reducible refine Frame.pair4 (by assumption) ?_
    | (split <;> try extract_lets)
    | (dsimp +zetaDelta only; split <;> try extract_lets)

theorem doLineCtlWrite_frame x0 x1 x2 : Frame 135441 x2 (doLineCtlWrite x0 x1 x2) := by
  unfold doLineCtlWrite
  try extract_lets
  repeat' first
    | with_reducible assumption
    | with_reducible exact Frame.refl _ _
    | with_reducible apply Frame.ite
    | ((with_reducible apply Frame.via (Block.writeLineCtl_frame _ _ _)); · rfl)
    | (split <;> try extract_lets)

theorem Block.missMarker_frame x0 x1 : Frame 135441 x0 (Block.missMarker x0 x1) := by
  unfold Block.missMarker
  try extract_lets
  repeat' first
    | with_reducible assumption
    | with_reducible exact Frame.refl _ _
    | with_reducible apply Frame.ite
    | ((with_reducible apply Frame.via (Block.bump_frame _ _ _)); · rfl)
    | ((with_reducible apply Frame.via (Block.setLine_frame _ _ _)); · rfl)
    | ((with_reducible apply Frame.via (Block.enterLine_frame _ _ _)); · rfl)
    | ((with_reducible apply Frame.via (Block.beginSuperframe_frame _ _ _ _)); · rfl)
    | (split <;> try extract_lets)

theorem doMarkerMissing_frame x0 x1 : Frame 135441 x1 (doMarkerMissing x0 x1) := by
  unfold doMarkerMissing
  try extract_lets
  repeat' first
    | with_reducible assumption
    | with_reducible exact Frame.refl _ _
    | with_reducible apply Frame.ite
    | ((with_reducible apply Frame.via (Block.missMarker_frame _ _)); · rfl)
    | (split <;> try extract_lets)

theorem Block.toneReport_frame x0 x1 x2 : Frame 135449 x0 (Block.toneReport x0 x1 x2) := by
  unfold Block.toneReport
  try extract_lets
  repeat' first
    | with_reducible assumption
    | with_reducible exact Frame.refl _ _
    | (with_reducible intro _; try extract_lets)
    | with_reducible apply Frame.ite
    | with_reducible apply Frame.when
    | ((with_reducible apply Frame.via (Block.mainsOff_frame _)); · rfl)
    | ((with_reducible apply Frame.via (Block.setMains_frame _ _)); · rfl)
    | ((with_reducible apply Frame.via (Block.usableTone_frame _ _)); · rfl)
    | ((with_reducible apply Frame.via (Block.mainsOutOfRange_frame _)); · rfl)
    | with_reducible exact Frame.snd (by assumption)
    | with_reducible refine Frame.pair2 (by assumption) ?_
    | with_reducible refine Frame.pair3 (by assumption) ?_
    | with_reducible refine Frame.pair4 (by assumption) ?_
    | (split <;> try extract_lets)
    | (dsimp +zetaDelta only; split <;> try extract_lets)

theorem doMainsPhaseOfsWrite_frame x0 x1 : Frame 257 x1 (doMainsPhaseOfsWrite x0 x1) := by
  unfold doMainsPhaseOfsWrite
  try extract_lets
  repeat' first
    | with_reducible assumption
    | with_reducible exact Frame.refl _ _
    | with_reducible apply Frame.ite
    | ((with_reducible apply Frame.via (Block.writePhaseOfs_frame _ _)); · rfl)
    | (split <;> try extract_lets)

theorem Block.tick_frame x0 : Frame 261 x0 (Block.tick x0) := by
  unfold Block.tick
  try extract_lets
  repeat' first
    | with_reducible assumption
    | with_reducible exact Frame.refl _ _
    | (with_reducible intro _; try extract_lets)
    | with_reducible apply Frame.ite
    | with_reducible apply Frame.when
    | ((with_reducible apply Frame.via (Block.put_frame _ _ _)); · rfl)
    | ((with_reducible apply Frame.via (Block.markLate_frame _ _ _ _)); · rfl)
    | ((with_reducible apply Frame.put_localCount); · rfl)
    | (split <;> try extract_lets)

theorem Block.qwDiscard_frame x0 x1 : Frame 1 x0 (Block.qwDiscard x0 x1) := by
  unfold Block.qwDiscard
  try extract_lets
  repeat' first
    | with_reducible assumption
    | with_reducible exact Frame.refl _ _
    | ((with_reducible apply Frame.via (Block.put_frame _ _ _)); · rfl)

theorem Block.takeTable_frame x0 x1 x2 x3 : Frame 135441 x0 (Block.takeTable x0 x1 x2 x3) := by
  unfold Block.takeTable
  try extract_lets
  repeat' first
    | with_reducible assumption
    | with_reducible exact Frame.refl _ _
    | (with_reducible intro _; try extract_lets)
    | with_reducible apply Frame.ite
    | ((with_reducible apply Frame.via (Block.qwDiscard_frame _ _)); · rfl)
    | ((with_reducible apply Frame.via (Block.qwFault_frame _ _ _)); · rfl)
    | ((with_reducible apply Frame.via (Block.setLine_frame _ _ _)); · rfl)
    | (split <;> try extract_lets)

theorem doMainsEdge_frame x0 : Frame 135449 x0 (doMainsEdge x0) := by
  unfold doMainsEdge
  try extract_lets
  repeat' first
    | with_reducible assumption
    | with_reducible exact Frame.refl _ _
    | with_reducible apply Frame.ite
    | ((with_reducible apply Frame.via (Block.takeBest_frame _)); · rfl)
    | ((with_reducible apply Frame.via (Block.setMains_frame _ _)); · rfl)
    | ((with_reducible apply Frame.via (Block.mainsOff_frame _)); · rfl)
    | ((with_reducible apply Frame.via (Block.usableEdge_frame _ _)); · rfl)
    | ((with_reducible apply Frame.via (Block.badEdge_frame _)); · rfl)
    | with_reducible exact Frame.snd (by assumption)
    | with_reducible refine Frame.pair2 (by assumption) ?_
    | with_reducible refine Frame.pair3 (by assumption) ?_
    | with_reducible refine Frame.pair4 (by assumption) ?_
    | (split <;> try extract_lets)
    | (dsimp +zetaDelta only; split <;> try extract_lets)

theorem doQwPacket_frame x0 x1 x2 : Frame 135441 x2 (doQwPacket x0 x1 x2) := by
  unfold doQwPacket
  try extract_lets
  repeat' first
    | with_reducible assumption
    | with_reducible exact Frame.refl _ _
    | ((with_reducible apply Frame.via (Block.takePacket_frame _ _ _ _ _)); · rfl)
    | ((with_reducible apply Frame.via (Block.takeTable_frame _ _ _ _)); · rfl)
    | with_reducible exact Frame.snd (by assumption)
    | with_reducible refine Frame.pair2 (by assumption) ?_
    | with_reducible refine Frame.pair3 (by assumption) ?_
    | with_reducible refine Frame.pair4 (by assumption) ?_
    | (split <;> try extract_lets)
    | (dsimp +zetaDelta only; split <;> try extract_lets)

theorem Block.missCycle_frame x0 : Frame 135441 x0 (Block.missCycle x0) := by
  unfold Block.missCycle
  try extract_lets
  repeat' first
    | with_reducible assumption
    | with_reducible exact Frame.refl _ _
    | with_reducible apply Frame.ite
    | ((with_reducible apply Frame.via (Block.setMains_frame _ _)); · rfl)
    | ((with_reducible apply Frame.via (Block.raise_frame _ _ _)); · rfl)
    | ((with_reducible apply Frame.via (Block.put_frame _ _ _)); · rfl)
    | ((with_reducible apply Frame.via (Block.enterMains_frame _ _)); · rfl)
    | ((with_reducible apply Frame.via (Block.slewFrom_frame _ _ _)); · rfl)
    | (split <;> try extract_lets)

theorem doSnap_frame x0 : Frame 1 x0 (doSnap x0) := by
  unfold doSnap
  try extract_lets
  repeat' first
    | with_reducible assumption
    | with_reducible exact Frame.refl _ _
    | with_reducible apply Frame.ite
    | ((with_reducible apply Frame.via (Block.snap_frame _)); · rfl)
    | (split <;> try extract_lets)

theorem doMainsCycleMissing_frame x0 : Frame 135449 x0 (doMainsCycleMissing x0) := by
  unfold doMainsCycleMissing
  try extract_lets
  repeat' first
    | with_reducible assumption
    | with_reducible exact Frame.refl _ _
    | with_reducible apply Frame.ite
    | ((with_reducible apply Frame.via (Block.mainsOff_frame _)); · rfl)
    | ((with_reducible apply Frame.via (Block.takeBest_frame _)); · rfl)
    | ((with_reducible apply Frame.via (Block.missCycle_frame _)); · rfl)
    | (split <;> try extract_lets)

theorem doLineBlock_frame x0 x1 : Frame 135441 x1 (doLineBlock x0 x1) := by
  unfold doLineBlock
  try extract_lets
  repeat' first
    | with_reducible assumption
    | with_reducible exact Frame.refl _ _
    | with_reducible apply Frame.ite
    | ((with_reducible apply Frame.via (Block.marker_frame _ _ _ _)); · rfl)
    | ((with_reducible apply Frame.via (Block.raise_frame _ _ _)); · rfl)
    | ((with_reducible apply Frame.via (Block.bump_frame _ _ _)); · rfl)
    | (split <;> try extract_lets)

theorem doTonePacket_frame x0 x1 x2 : Frame 135449 x2 (doTonePacket x0 x1 x2) := by
  unfold doTonePacket
  try extract_lets
  repeat' first
    | with_reducible assumption
    | with_reducible exact Frame.refl _ _
    | (with_reducible intro _; try extract_lets)
    | ((with_reducible apply Frame.via (Block.takePacket_frame _ _ _ _ _)); · rfl)
    | ((with_reducible apply Frame.via (Block.toneReport_frame _ _ _)); · rfl)
    | with_reducible exact Frame.snd (by assumption)
    | with_reducible refine Frame.pair2 (by assumption) ?_
    | with_reducible refine Frame.pair3 (by assumption) ?_
    | with_reducible refine Frame.pair4 (by assumption) ?_
    | (split <;> try extract_lets)
    | (dsimp +zetaDelta only; split <;> try extract_lets)

theorem doMainsCtlWrite_frame x0 x1 : Frame 257 x1 (doMainsCtlWrite x0 x1) := by
  unfold doMainsCtlWrite
  try extract_lets
  repeat' first
    | with_reducible assumption
    | with_reducible exact Frame.refl _ _
    | with_reducible apply Frame.ite
    | ((with_reducible apply Frame.via (Block.writeMainsCtl_frame _ _)); · rfl)
    | (split <;> try extract_lets)

end Sys2Proof.Machine
end

