-- ==== Sys2Proof/Laws/FramePly.lean ====
section
/-! SUPPORT. What each function of Machine/Ply.lean may change. -/

namespace Sys2Proof.Machine

theorem Block.setStream_frame x0 x1 x2 : Frame 131072 x0 (Block.setStream x0 x1 x2) := by
  unfold Block.setStream
  try extract_lets
  repeat' first
    | with_reducible assumption
    | with_reducible exact Frame.refl _ _
    | (with_reducible intro _; try extract_lets)
    | ((with_reducible apply Frame.put_ply); · rfl)

theorem Block.setSlotOf_frame x0 x1 x2 x3 : Frame 131072 x0 (Block.setSlotOf x0 x1 x2 x3) := by
  unfold Block.setSlotOf
  try extract_lets
  repeat' first
    | with_reducible assumption
    | with_reducible exact Frame.refl _ _
    | (with_reducible intro _; try extract_lets)
    | ((with_reducible apply Frame.via (Block.setStream_frame _ _ _)); · rfl)

theorem Block.discardOpen_frame x0 x1 : Frame 135185 x0 (Block.discardOpen x0 x1) := by
  unfold Block.discardOpen
  try extract_lets
  repeat' first
    | with_reducible assumption
    | with_reducible exact Frame.refl _ _
    | with_reducible apply Frame.ite
    | ((with_reducible apply Frame.via (Block.bump_frame _ _ _)); · rfl)
    | ((with_reducible apply Frame.via (Block.setSlotOf_frame _ _ _ _)); · rfl)
    | ((with_reducible apply Frame.via (Block.raise_frame _ _ _)); · rfl)
    | ((with_reducible apply Frame.via (Block.put_frame _ _ _)); · rfl)
    | with_reducible exact Frame.snd (by assumption)
    | with_reducible refine Frame.pair2 (by assumption) ?_
    | with_reducible refine Frame.pair3 (by assumption) ?_
    | with_reducible refine Frame.pair4 (by assumption) ?_
    | (split <;> try extract_lets)
    | (dsimp +zetaDelta only; split <;> try extract_lets)

theorem Block.statDrop_frame x0 x1 : Frame 135185 x0 (Block.statDrop x0 x1) := by
  unfold Block.statDrop
  try extract_lets
  repeat' first
    | with_reducible assumption
    | with_reducible exact Frame.refl _ _
    | ((with_reducible apply Frame.via (Block.raise_frame _ _ _)); · rfl)
    | ((with_reducible apply Frame.via (Block.bump_frame _ _ _)); · rfl)

theorem Block.showReady_frame x0 x1 : Frame 1 x0 (Block.showReady x0 x1) := by
  unfold Block.showReady
  try extract_lets
  repeat' first
    | with_reducible assumption
    | with_reducible exact Frame.refl _ _
    | (with_reducible intro _; try extract_lets)
    | ((with_reducible apply Frame.via (Block.put_frame _ _ _)); · rfl)
    | with_reducible exact Frame.snd (by assumption)
    | with_reducible refine Frame.pair2 (by assumption) ?_
    | with_reducible refine Frame.pair3 (by assumption) ?_
    | with_reducible refine Frame.pair4 (by assumption) ?_
    | (split <;> try extract_lets)
    | (dsimp +zetaDelta only; split <;> try extract_lets)

theorem Block.openIn_frame x0 x1 x2 : Frame 135185 x0 (Block.openIn x0 x1 x2) := by
  unfold Block.openIn
  try extract_lets
  repeat' first
    | with_reducible assumption
    | with_reducible exact Frame.refl _ _
    | (with_reducible intro _; try extract_lets)
    | ((with_reducible apply Frame.via (Block.setSlotOf_frame _ _ _ _)); · rfl)
    | ((with_reducible apply Frame.via (Block.statDrop_frame _ _)); · rfl)
    | ((with_reducible apply Frame.via (Block.showReady_frame _ _)); · rfl)
    | with_reducible exact Frame.snd (by assumption)
    | with_reducible refine Frame.pair2 (by assumption) ?_
    | with_reducible refine Frame.pair3 (by assumption) ?_
    | with_reducible refine Frame.pair4 (by assumption) ?_
    | (split <;> try extract_lets)
    | (dsimp +zetaDelta only; split <;> try extract_lets)

theorem Block.acceptPart_frame x0 x1 x2 x3 x4 x5 x6 x7 : Frame 200721 x0 (Block.acceptPart x0 x1 x2 x3 x4 x5 x6 x7) := by
  unfold Block.acceptPart
  try extract_lets
  repeat' first
    | with_reducible assumption
    | with_reducible exact Frame.refl _ _
    | with_reducible apply Frame.ite
    | ((with_reducible apply Frame.via (Block.discardOpen_frame _ _)); · rfl)
    | ((with_reducible apply Frame.via (Block.memWrite_frame _ _ _)); · rfl)
    | ((with_reducible apply Frame.via (Block.setSlotOf_frame _ _ _ _)); · rfl)
    | ((with_reducible apply Frame.via (Block.setStream_frame _ _ _)); · rfl)
    | ((with_reducible apply Frame.via (Block.showReady_frame _ _)); · rfl)
    | ((with_reducible apply Frame.via (Block.put_frame _ _ _)); · rfl)
    | (split <;> try extract_lets)

theorem doStatPacket_frame x0 x1 x2 : Frame 200721 x2 (doStatPacket x0 x1 x2) := by
  unfold doStatPacket
  try extract_lets
  repeat' first
    | with_reducible assumption
    | with_reducible exact Frame.refl _ _
    | (with_reducible intro _; try extract_lets)
    | with_reducible apply Frame.ite
    | ((with_reducible apply Frame.via (Block.takePacket_frame _ _ _ _ _)); · rfl)
    | ((with_reducible apply Frame.via (Block.discardOpen_frame _ _)); · rfl)
    | ((with_reducible apply Frame.via (Block.openIn_frame _ _ _)); · rfl)
    | ((with_reducible apply Frame.via (Block.acceptPart_frame _ _ _ _ _ _ _ _)); · rfl)
    | with_reducible exact Frame.snd (by assumption)
    | with_reducible refine Frame.pair2 (by assumption) ?_
    | with_reducible refine Frame.pair3 (by assumption) ?_
    | with_reducible refine Frame.pair4 (by assumption) ?_
    | (split <;> try extract_lets)
    | (dsimp +zetaDelta only; split <;> try extract_lets)

theorem Block.dropOut_frame x0 : Frame 135185 x0 (Block.dropOut x0) := by
  unfold Block.dropOut
  try extract_lets
  repeat' first
    | with_reducible assumption
    | with_reducible exact Frame.refl _ _
    | with_reducible apply Frame.ite
    | ((with_reducible apply Frame.via (Block.plyDrop_frame _ _ _)); · rfl)
    | ((with_reducible apply Frame.via (Block.bump_frame _ _ _)); · rfl)
    | ((with_reducible apply Frame.put_ply); · rfl)
    | (split <;> try extract_lets)

theorem Block.leaveLink_frame x0 x1 x2 : Frame 135185 x0 (Block.leaveLink x0 x1 x2) := by
  unfold Block.leaveLink
  try extract_lets
  repeat' first
    | with_reducible assumption
    | with_reducible exact Frame.refl _ _
    | (with_reducible intro _; try extract_lets)
    | with_reducible apply Frame.ite
    | with_reducible apply Frame.each
    | ((with_reducible apply Frame.via (Block.put_frame _ _ _)); · rfl)
    | ((with_reducible apply Frame.via (Block.discardOpen_frame _ _)); · rfl)
    | ((with_reducible apply Frame.via (Block.dropOut_frame _)); · rfl)
    | (split <;> try extract_lets)

theorem Block.trainLink_frame x0 x1 x2 : Frame 135185 x0 (Block.trainLink x0 x1 x2) := by
  unfold Block.trainLink
  try extract_lets
  repeat' first
    | with_reducible assumption
    | with_reducible exact Frame.refl _ _
    | (with_reducible intro _; try extract_lets)
    | with_reducible apply Frame.ite
    | with_reducible apply Frame.when
    | ((with_reducible apply Frame.via (Block.bump_frame _ _ _)); · rfl)
    | ((with_reducible apply Frame.via (Block.leaveLink_frame _ _ _)); · rfl)
    | (split <;> try extract_lets)

theorem Block.plyPower_frame x0 x1 x2 : Frame 135185 x0 (Block.plyPower x0 x1 x2) := by
  unfold Block.plyPower
  try extract_lets
  repeat' first
    | with_reducible assumption
    | with_reducible exact Frame.refl _ _
    | (with_reducible intro _; try extract_lets)
    | with_reducible apply Frame.ite
    | with_reducible apply Frame.each
    | ((with_reducible apply Frame.via (Block.trainLink_frame _ _ _)); · rfl)
    | ((with_reducible apply Frame.via (Block.leaveLink_frame _ _ _)); · rfl)
    | ((with_reducible apply Frame.via (Block.put_frame _ _ _)); · rfl)
    | (split <;> try extract_lets)

theorem Block.writePlyCtl_frame x0 x1 : Frame 135185 x0 (Block.writePlyCtl x0 x1) := by
  unfold Block.writePlyCtl
  try extract_lets
  repeat' first
    | with_reducible assumption
    | with_reducible exact Frame.refl _ _
    | (with_reducible intro _; try extract_lets)
    | with_reducible apply Frame.ite
    | with_reducible apply Frame.each
    | ((with_reducible apply Frame.via (Block.writeFields_frame _ _ _)); · rfl)
    | ((with_reducible apply Frame.via (Block.trainLink_frame _ _ _)); · rfl)
    | ((with_reducible apply Frame.via (Block.leaveLink_frame _ _ _)); · rfl)
    | ((with_reducible apply Frame.put_ply); · rfl)
    | (split <;> try extract_lets)

theorem Block.writePlyStatus_frame x0 x1 : Frame 131073 x0 (Block.writePlyStatus x0 x1) := by
  unfold Block.writePlyStatus
  try extract_lets
  repeat' first
    | with_reducible assumption
    | with_reducible exact Frame.refl _ _
    | with_reducible apply Frame.ite
    | ((with_reducible apply Frame.via (Block.writeFields_frame _ _ _)); · rfl)
    | ((with_reducible apply Frame.put_ply); · rfl)
    | (split <;> try extract_lets)

theorem Block.plyReset_frame x0 : Frame 135185 x0 (Block.plyReset x0) := by
  unfold Block.plyReset
  try extract_lets
  repeat' first
    | with_reducible assumption
    | with_reducible exact Frame.refl _ _
    | (with_reducible intro _; try extract_lets)
    | with_reducible apply Frame.ite
    | with_reducible apply Frame.each
    | ((with_reducible apply Frame.via (Block.leaveLink_frame _ _ _)); · rfl)
    | ((with_reducible apply Frame.via (Block.warmReset_frame _ _ _ _)); · rfl)
    | ((with_reducible apply Frame.via (Block.showReady_frame _ _)); · rfl)
    | ((with_reducible apply Frame.via (Block.put_frame _ _ _)); · rfl)
    | ((with_reducible apply Frame.via (Block.trainLink_frame _ _ _)); · rfl)
    | ((with_reducible apply Frame.put_ply); · rfl)
    | (split <;> try extract_lets)

theorem Block.writePlyStream_frame x0 x1 x2 : Frame 135185 x0 (Block.writePlyStream x0 x1 x2) := by
  unfold Block.writePlyStream
  try extract_lets
  repeat' first
    | with_reducible assumption
    | with_reducible exact Frame.refl _ _
    | with_reducible apply Frame.ite
    | ((with_reducible apply Frame.via (Block.put_frame _ _ _)); · rfl)
    | ((with_reducible apply Frame.via (Block.setStream_frame _ _ _)); · rfl)
    | ((with_reducible apply Frame.via (Block.discardOpen_frame _ _)); · rfl)
    | (split <;> try extract_lets)

theorem Block.laneErrors_frame x0 x1 x2 : Frame 135185 x0 (Block.laneErrors x0 x1 x2) := by
  unfold Block.laneErrors
  try extract_lets
  repeat' first
    | with_reducible assumption
    | with_reducible exact Frame.refl _ _
    | (with_reducible intro _; try extract_lets)
    | with_reducible apply Frame.ite
    | ((with_reducible apply Frame.via (Block.put_frame _ _ _)); · rfl)
    | ((with_reducible apply Frame.via (Block.raise_frame _ _ _)); · rfl)
    | ((with_reducible apply Frame.put_ply); · rfl)
    | (split <;> try extract_lets)

theorem doStatPull_frame x0 x1 x2 x3 x4 x5 x6 : Frame 154649 x6 (doStatPull x0 x1 x2 x3 x4 x5 x6) := by
  unfold doStatPull
  try extract_lets
  repeat' first
    | with_reducible assumption
    | with_reducible exact Frame.refl _ _
    | (with_reducible intro _; try extract_lets)
    | with_reducible apply Frame.ite
    | with_reducible apply Frame.when
    | ((with_reducible apply Block.issue_frame); · rfl)
    | ((with_reducible apply Frame.via (Block.faultFx_frame _ _ _)); · rfl)
    | ((with_reducible apply Frame.via (Block.result_frame _ _ _ _)); · rfl)
    | ((with_reducible apply Frame.via (Block.holdFx_frame _ _)); · rfl)
    | ((with_reducible apply Frame.via (Block.memRead_frame _ _ _ _)); · rfl)
    | ((with_reducible apply Frame.via (Block.put_frame _ _ _)); · rfl)
    | ((with_reducible apply Frame.via (Block.showReady_frame _ _)); · rfl)
    | ((with_reducible apply Frame.via (Block.setSlotOf_frame _ _ _ _)); · rfl)
    | ((with_reducible apply Frame.via (Block.scratchWrite_frame _ _ _ _)); · rfl)
    | with_reducible exact Frame.snd (by assumption)
    | with_reducible refine Frame.pair2 (by assumption) ?_
    | with_reducible refine Frame.pair3 (by assumption) ?_
    | with_reducible refine Frame.pair4 (by assumption) ?_
    | (split <;> try extract_lets)
    | (dsimp +zetaDelta only; split <;> try extract_lets)

theorem doLaneDown_frame x0 x1 x2 x3 : Frame 135185 x3 (doLaneDown x0 x1 x2 x3) := by
  unfold doLaneDown
  try extract_lets
  repeat' first
    | with_reducible assumption
    | with_reducible exact Frame.refl _ _
    | with_reducible apply Frame.ite
    | ((with_reducible apply Frame.via (Block.laneErrors_frame _ _ _)); · rfl)
    | ((with_reducible apply Frame.via (Block.raise_frame _ _ _)); · rfl)
    | ((with_reducible apply Frame.via (Block.put_frame _ _ _)); · rfl)
    | ((with_reducible apply Frame.via (Block.trainLink_frame _ _ _)); · rfl)
    | (split <;> try extract_lets)

theorem doStreamEnable_frame x0 x1 x2 : Frame 135185 x2 (doStreamEnable x0 x1 x2) := by
  unfold doStreamEnable
  try extract_lets
  repeat' first
    | with_reducible assumption
    | with_reducible exact Frame.refl _ _
    | with_reducible apply Frame.ite
    | ((with_reducible apply Frame.via (Block.writePlyStream_frame _ _ _)); · rfl)
    | (split <;> try extract_lets)

theorem doLinkTrain_frame x0 x1 x2 x3 : Frame 135185 x3 (doLinkTrain x0 x1 x2 x3) := by
  unfold doLinkTrain
  try extract_lets
  repeat' first
    | with_reducible assumption
    | with_reducible exact Frame.refl _ _
    | (with_reducible intro _; try extract_lets)
    | with_reducible apply Frame.ite
    | with_reducible apply Frame.each
    | ((with_reducible apply Frame.via (Block.put_frame _ _ _)); · rfl)
    | ((with_reducible apply Frame.via (Block.raise_frame _ _ _)); · rfl)
    | ((with_reducible apply Frame.put_ply); · rfl)
    | with_reducible exact Frame.snd (by assumption)
    | with_reducible refine Frame.pair2 (by assumption) ?_
    | with_reducible refine Frame.pair3 (by assumption) ?_
    | with_reducible refine Frame.pair4 (by assumption) ?_
    | (split <;> try extract_lets)
    | (dsimp +zetaDelta only; split <;> try extract_lets)

theorem doOutboundSend_frame x0 x1 : Frame 131072 x1 (doOutboundSend x0 x1) := by
  unfold doOutboundSend
  try extract_lets
  repeat' first
    | with_reducible assumption
    | with_reducible exact Frame.refl _ _
    | with_reducible apply Frame.ite
    | ((with_reducible apply Frame.put_ply); · rfl)
    | with_reducible exact Frame.snd (by assumption)
    | with_reducible refine Frame.pair2 (by assumption) ?_
    | with_reducible refine Frame.pair3 (by assumption) ?_
    | with_reducible refine Frame.pair4 (by assumption) ?_
    | (split <;> try extract_lets)
    | (dsimp +zetaDelta only; split <;> try extract_lets)

theorem doLaneLock_frame x0 x1 x2 : Frame 135185 x2 (doLaneLock x0 x1 x2) := by
  unfold doLaneLock
  try extract_lets
  repeat' first
    | with_reducible assumption
    | with_reducible exact Frame.refl _ _
    | with_reducible apply Frame.ite
    | ((with_reducible apply Frame.via (Block.laneErrors_frame _ _ _)); · rfl)
    | ((with_reducible apply Frame.via (Block.raise_frame _ _ _)); · rfl)
    | ((with_reducible apply Frame.via (Block.put_frame _ _ _)); · rfl)
    | (split <;> try extract_lets)

theorem doPlyRetrain_frame x0 x1 : Frame 135185 x1 (doPlyRetrain x0 x1) := by
  unfold doPlyRetrain
  try extract_lets
  repeat' first
    | with_reducible assumption
    | with_reducible exact Frame.refl _ _
    | with_reducible apply Frame.ite
    | ((with_reducible apply Frame.via (Block.writePlyCtl_frame _ _)); · rfl)
    | (split <;> try extract_lets)

end Sys2Proof.Machine
end

