-- ==== Sys2Proof/Laws/FramePower.lean ====
section
/-! SUPPORT. What each function of Machine/Power.lean may change. -/

namespace Sys2Proof.Machine

theorem Block.unitDown_frame x0 x1 : Frame 143889 x0 (Block.unitDown x0 x1) := by
  unfold Block.unitDown
  try extract_lets
  repeat' first
    | with_reducible assumption
    | with_reducible exact Frame.refl _ _
    | (with_reducible intro _; try extract_lets)
    | with_reducible apply Frame.ite
    | with_reducible apply Frame.each
    | ((with_reducible apply Frame.via (Block.abortAct_frame _ _ _)); · rfl)
    | ((with_reducible apply Frame.via (Block.setNco_frame _ _ _)); · rfl)
    | ((with_reducible apply Frame.via (Block.updateRef_frame _ _)); · rfl)
    | (split <;> try extract_lets)

theorem Block.unitReturn_frame x0 x1 : Frame 513 x0 (Block.unitReturn x0 x1) := by
  unfold Block.unitReturn
  try extract_lets
  repeat' first
    | with_reducible assumption
    | with_reducible exact Frame.refl _ _
    | (with_reducible intro _; try extract_lets)
    | with_reducible apply Frame.ite
    | with_reducible apply Frame.each
    | ((with_reducible apply Frame.via (Block.restartNco_frame _ _)); · rfl)
    | ((with_reducible apply Frame.via (Block.unitWait_frame _ _)); · rfl)
    | (split <;> try extract_lets)

theorem Block.followUnits_frame x0 x1 : Frame 143889 x0 (Block.followUnits x0 x1) := by
  unfold Block.followUnits
  try extract_lets
  repeat' first
    | with_reducible assumption
    | with_reducible exact Frame.refl _ _
    | (with_reducible intro _; try extract_lets)
    | with_reducible apply Frame.ite
    | with_reducible apply Frame.each
    | ((with_reducible apply Frame.via (Block.unitDown_frame _ _)); · rfl)
    | ((with_reducible apply Frame.via (Block.unitReturn_frame _ _)); · rfl)
    | (split <;> try extract_lets)

theorem Block.followSources_frame x0 : Frame 8705 x0 (Block.followSources x0) := by
  unfold Block.followSources
  try extract_lets
  repeat' first
    | with_reducible assumption
    | with_reducible exact Frame.refl _ _
    | (with_reducible intro _; try extract_lets)
    | with_reducible apply Frame.ite
    | with_reducible apply Frame.each
    | ((with_reducible apply Frame.via (Block.setAct_frame _ _ _)); · rfl)
    | ((with_reducible apply Frame.via (Block.owlRefresh_frame _)); · rfl)
    | with_reducible exact Frame.snd (by assumption)
    | with_reducible refine Frame.pair2 (by assumption) ?_
    | with_reducible refine Frame.pair3 (by assumption) ?_
    | with_reducible refine Frame.pair4 (by assumption) ?_
    | (split <;> try extract_lets)
    | (dsimp +zetaDelta only; split <;> try extract_lets)

theorem Block.loadBank_frame x0 x1 x2 : Frame 2048 x0 (Block.loadBank x0 x1 x2) := by
  unfold Block.loadBank
  try extract_lets
  repeat' first
    | with_reducible assumption
    | with_reducible exact Frame.refl _ _
    | (with_reducible intro _; try extract_lets)
    | with_reducible apply Frame.ite
    | ((with_reducible apply Frame.put_whorl); · rfl)
    | (split <;> try extract_lets)

theorem Block.trunkReturn_frame x0 x1 : Frame 3137 x0 (Block.trunkReturn x0 x1) := by
  unfold Block.trunkReturn
  try extract_lets
  repeat' first
    | with_reducible assumption
    | with_reducible exact Frame.refl _ _
    | (with_reducible intro _; try extract_lets)
    | with_reducible apply Frame.ite
    | with_reducible apply Frame.each
    | ((with_reducible apply Frame.via (Block.loadBank_frame _ _ _)); · rfl)
    | ((with_reducible apply Frame.via (Block.startTrunk_frame _ _)); · rfl)
    | ((with_reducible apply Frame.via (Block.setBit_frame _ _ _ _)); · rfl)
    | ((with_reducible apply Frame.put_power); · rfl)
    | (split <;> try extract_lets)

theorem Block.trunkDown_frame x0 x1 : Frame 425553 x0 (Block.trunkDown x0 x1) := by
  unfold Block.trunkDown
  try extract_lets
  repeat' first
    | with_reducible assumption
    | with_reducible exact Frame.refl _ _
    | (with_reducible intro _; try extract_lets)
    | ((with_reducible apply Frame.via (Block.setBit_frame _ _ _ _)); · rfl)
    | ((with_reducible apply Frame.via (Block.stopTrunk_frame _ _)); · rfl)
    | ((with_reducible apply Frame.put_power); · rfl)
    | ((with_reducible apply Frame.put_whorl); · rfl)

theorem Block.dropFoxMig_frame x0 x1 : Frame 20497 x0 (Block.dropFoxMig x0 x1) := by
  unfold Block.dropFoxMig
  try extract_lets
  repeat' first
    | with_reducible assumption
    | with_reducible exact Frame.refl _ _
    | with_reducible apply Frame.ite
    | ((with_reducible apply Frame.via (Block.finishPacket_frame _ _ _ _ _)); · rfl)
    | ((with_reducible apply Frame.via (Block.put_frame _ _ _)); · rfl)
    | ((with_reducible apply Frame.put_fox); · rfl)
    | with_reducible exact Frame.snd (by assumption)
    | with_reducible refine Frame.pair2 (by assumption) ?_
    | with_reducible refine Frame.pair3 (by assumption) ?_
    | with_reducible refine Frame.pair4 (by assumption) ?_
    | (split <;> try extract_lets)
    | (dsimp +zetaDelta only; split <;> try extract_lets)

theorem Block.foxReset_frame x0 x1 x2 : Frame 154641 x0 (Block.foxReset x0 x1 x2) := by
  unfold Block.foxReset
  try extract_lets
  repeat' first
    | with_reducible assumption
    | with_reducible exact Frame.refl _ _
    | (with_reducible intro _; try extract_lets)
    | with_reducible apply Frame.ite
    | ((with_reducible apply Frame.filter_regs); · rfl)
    | ((with_reducible apply Frame.via (Block.aheadDone_frame _ _)); · rfl)
    | ((with_reducible apply Frame.via (Block.maskReq_frame _ _)); · rfl)
    | ((with_reducible apply Frame.via (Block.dropFoxMig_frame _ _)); · rfl)
    | ((with_reducible apply Frame.via (Block.setEngine_frame _ _ _)); · rfl)
    | ((with_reducible apply Frame.via (Block.setReg_frame _ _ _)); · rfl)
    | ((with_reducible apply Frame.via (Block.setPc_frame _ _ _)); · rfl)
    | ((with_reducible apply Frame.put_fox); · rfl)
    | (split <;> try extract_lets)

theorem Block.domainFollows_frame x0 x1 x2 x3 : Frame 425553 x0 (Block.domainFollows x0 x1 x2 x3) := by
  unfold Block.domainFollows
  try extract_lets
  repeat' first
    | with_reducible assumption
    | with_reducible exact Frame.refl _ _
    | (with_reducible intro _; try extract_lets)
    | with_reducible apply Frame.ite
    | with_reducible apply Frame.each
    | ((with_reducible apply Frame.via (Block.plyPower_frame _ _ _)); · rfl)
    | ((with_reducible apply Frame.via (Block.refBegins_frame _ _)); · rfl)
    | ((with_reducible apply Frame.via (Block.refFall_frame _ _ _)); · rfl)
    | ((with_reducible apply Frame.via (Block.followUnits_frame _ _)); · rfl)
    | ((with_reducible apply Frame.via (Block.followSources_frame _)); · rfl)
    | ((with_reducible apply Frame.via (Block.owlUp_frame _ _)); · rfl)
    | ((with_reducible apply Frame.via (Block.owlDown_frame _ _)); · rfl)
    | ((with_reducible apply Frame.via (Block.trunkReturn_frame _ _)); · rfl)
    | ((with_reducible apply Frame.via (Block.trunkDown_frame _ _)); · rfl)
    | ((with_reducible apply Frame.via (Block.foxReset_frame _ _ _)); · rfl)
    | (split <;> try extract_lets)

theorem Block.switchDomain_frame x0 x1 x2 x3 : Frame 425553 x0 (Block.switchDomain x0 x1 x2 x3) := by
  unfold Block.switchDomain
  try extract_lets
  repeat' first
    | with_reducible assumption
    | with_reducible exact Frame.refl _ _
    | (with_reducible intro _; try extract_lets)
    | with_reducible apply Frame.ite
    | with_reducible apply Frame.when
    | ((with_reducible apply Frame.via (Block.setDomain_frame _ _ _)); · rfl)
    | ((with_reducible apply Frame.via (Block.put_frame _ _ _)); · rfl)
    | ((with_reducible apply Frame.via (Block.domainFollows_frame _ _ _ _)); · rfl)
    | ((with_reducible apply Frame.via (Block.raise_frame _ _ _)); · rfl)
    | (split <;> try extract_lets)

theorem Block.writePwrOff_frame x0 x1 x2 : Frame 425553 x0 (Block.writePwrOff x0 x1 x2) := by
  unfold Block.writePwrOff
  try extract_lets
  repeat' first
    | with_reducible assumption
    | with_reducible exact Frame.refl _ _
    | (with_reducible intro _; try extract_lets)
    | with_reducible apply Frame.ite
    | with_reducible apply Frame.each
    | ((with_reducible apply Frame.via (Block.writeFields_frame _ _ _)); · rfl)
    | ((with_reducible apply Frame.via (Block.switchDomain_frame _ _ _ _)); · rfl)
    | (split <;> try extract_lets)

theorem doPwrOffWrite_frame x0 x1 x2 : Frame 425553 x2 (doPwrOffWrite x0 x1 x2) := by
  unfold doPwrOffWrite
  try extract_lets
  repeat' first
    | with_reducible assumption
    | with_reducible exact Frame.refl _ _
    | with_reducible apply Frame.ite
    | ((with_reducible apply Frame.via (Block.writePwrOff_frame _ _ _)); · rfl)
    | (split <;> try extract_lets)

theorem Block.portsReset_frame x0 : Frame 32785 x0 (Block.portsReset x0) := by
  unfold Block.portsReset
  try extract_lets
  repeat' first
    | with_reducible assumption
    | with_reducible exact Frame.refl _ _
    | (with_reducible intro _; try extract_lets)
    | ((with_reducible apply Frame.via (Block.warmReset_frame _ _ _ _)); · rfl)
    | ((with_reducible apply Frame.put_ev); · rfl)
    | ((with_reducible apply Frame.put_ports); · rfl)

theorem Block.interpReset_frame x0 : Frame 1465361 x0 (Block.interpReset x0) := by
  unfold Block.interpReset
  try extract_lets
  repeat' first
    | with_reducible assumption
    | with_reducible exact Frame.refl _ _
    | (with_reducible intro _; try extract_lets)
    | ((with_reducible apply Frame.via (Block.maskReq_frame _ _)); · rfl)
    | ((with_reducible apply Frame.via (Block.orphanPackets_frame _)); · rfl)
    | ((with_reducible apply Frame.via (Block.putB_frame _ _ _)); · rfl)
    | ((with_reducible apply Frame.via (Block.warmReset_frame _ _ _ _)); · rfl)
    | ((with_reducible apply Frame.put_cmd); · rfl)
    | ((with_reducible apply Frame.put_update); · rfl)

theorem Block.resetFront_frame x0 : Frame 8705 x0 (Block.resetFront x0) := by
  unfold Block.resetFront
  try extract_lets
  repeat' first
    | with_reducible assumption
    | with_reducible exact Frame.refl _ _
    | (with_reducible intro _; try extract_lets)
    | with_reducible apply Frame.ite
    | with_reducible apply Frame.each
    | ((with_reducible apply Frame.via (Block.setAct_frame _ _ _)); · rfl)
    | ((with_reducible apply Frame.via (Block.endCheck_frame _ _)); · rfl)
    | ((with_reducible apply Frame.via (Block.warmReset_frame _ _ _ _)); · rfl)
    | ((with_reducible apply Frame.via (Block.logReg_frame _ _)); · rfl)
    | with_reducible exact Frame.snd (by assumption)
    | with_reducible refine Frame.pair2 (by assumption) ?_
    | with_reducible refine Frame.pair3 (by assumption) ?_
    | with_reducible refine Frame.pair4 (by assumption) ?_
    | (split <;> try extract_lets)
    | (dsimp +zetaDelta only; split <;> try extract_lets)

theorem Block.treated_frame x0 x1 x2 : Frame 135185 x0 (Block.treated x0 x1 x2) := by
  unfold Block.treated
  try extract_lets
  repeat' first
    | with_reducible assumption
    | with_reducible exact Frame.refl _ _
    | with_reducible apply Frame.ite
    | ((with_reducible apply Frame.via (Block.raise_frame _ _ _)); · rfl)
    | ((with_reducible apply Frame.via (Block.put_frame _ _ _)); · rfl)
    | (split <;> try extract_lets)

theorem Block.followClock_frame x0 x1 : Frame 143889 x0 (Block.followClock x0 x1) := by
  unfold Block.followClock
  try extract_lets
  repeat' first
    | with_reducible assumption
    | with_reducible exact Frame.refl _ _
    | (with_reducible intro _; try extract_lets)
    | with_reducible apply Frame.each
    | ((with_reducible apply Frame.via (Block.followUnits_frame _ _)); · rfl)
    | ((with_reducible apply Frame.via (Block.treated_frame _ _ _)); · rfl)

theorem Block.restartEntries_frame x0 x1 x2 : Frame 143889 x0 (Block.restartEntries x0 x1 x2) := by
  unfold Block.restartEntries
  try extract_lets
  repeat' first
    | with_reducible assumption
    | with_reducible exact Frame.refl _ _
    | (with_reducible intro _; try extract_lets)
    | with_reducible apply Frame.ite
    | with_reducible apply Frame.each
    | ((with_reducible apply Frame.via (Block.endAct_frame _ _)); · rfl)
    | ((with_reducible apply Frame.via (Block.abortAct_frame _ _ _)); · rfl)
    | ((with_reducible apply Frame.via (Block.setSp_frame _ _ _)); · rfl)
    | with_reducible exact Frame.snd (by assumption)
    | with_reducible refine Frame.pair2 (by assumption) ?_
    | with_reducible refine Frame.pair3 (by assumption) ?_
    | with_reducible refine Frame.pair4 (by assumption) ?_
    | (split <;> try extract_lets)
    | (dsimp +zetaDelta only; split <;> try extract_lets)

theorem Block.resetRefs_frame x0 : Frame 8705 x0 (Block.resetRefs x0) := by
  unfold Block.resetRefs
  try extract_lets
  repeat' first
    | with_reducible assumption
    | with_reducible exact Frame.refl _ _
    | (with_reducible intro _; try extract_lets)
    | with_reducible apply Frame.ite
    | with_reducible apply Frame.each
    | ((with_reducible apply Frame.via (Block.setBit_frame _ _ _ _)); · rfl)
    | ((with_reducible apply Frame.via (Block.warmReset_frame _ _ _ _)); · rfl)
    | ((with_reducible apply Frame.via (Block.owlNoRef_frame _)); · rfl)
    | ((with_reducible apply Frame.via (Block.refBegins_frame _ _)); · rfl)
    | ((with_reducible apply Frame.via (Block.putB_frame _ _ _)); · rfl)
    | ((with_reducible apply Frame.via (Block.updateRef_frame _ _)); · rfl)
    | ((with_reducible apply Frame.via (Block.markSwitch_frame _ _)); · rfl)
    | (split <;> try extract_lets)

theorem Block.resetSpindles_frame x0 : Frame 163345 x0 (Block.resetSpindles x0) := by
  unfold Block.resetSpindles
  try extract_lets
  repeat' first
    | with_reducible assumption
    | with_reducible exact Frame.refl _ _
    | (with_reducible intro _; try extract_lets)
    | with_reducible apply Frame.ite
    | with_reducible apply Frame.each
    | ((with_reducible apply Frame.via (Block.abortAct_frame _ _ _)); · rfl)
    | ((with_reducible apply Frame.via (Block.cancelMig_frame _ _)); · rfl)
    | ((with_reducible apply Frame.via (Block.setSp_frame _ _ _)); · rfl)
    | ((with_reducible apply Frame.via (Block.unstall_frame _ _)); · rfl)
    | ((with_reducible apply Frame.via (Block.enterStopped_frame _ _)); · rfl)
    | ((with_reducible apply Frame.via (Block.setReg_frame _ _ _)); · rfl)
    | ((with_reducible apply Frame.via (Block.put_frame _ _ _)); · rfl)
    | ((with_reducible apply Frame.via (Block.warmReset_frame _ _ _ _)); · rfl)
    | ((with_reducible apply Frame.via (Block.maskReq_frame _ _)); · rfl)
    | ((with_reducible apply Frame.put_acq); · rfl)
    | with_reducible exact Frame.snd (by assumption)
    | with_reducible refine Frame.pair2 (by assumption) ?_
    | with_reducible refine Frame.pair3 (by assumption) ?_
    | with_reducible refine Frame.pair4 (by assumption) ?_
    | (split <;> try extract_lets)
    | (dsimp +zetaDelta only; split <;> try extract_lets)

theorem Block.resetSett_frame x0 : Frame 425489 x0 (Block.resetSett x0) := by
  unfold Block.resetSett
  try extract_lets
  repeat' first
    | with_reducible assumption
    | with_reducible exact Frame.refl _ _
    | (with_reducible intro _; try extract_lets)
    | with_reducible apply Frame.each
    | ((with_reducible apply Frame.via (Block.stopTrunk_frame _ _)); · rfl)
    | ((with_reducible apply Frame.via (Block.cancelStep_frame _ _ _)); · rfl)
    | ((with_reducible apply Frame.via (Block.warmReset_frame _ _ _ _)); · rfl)
    | ((with_reducible apply Frame.put_sett); · rfl)

theorem Block.resetWhorl_frame x0 : Frame 2049 x0 (Block.resetWhorl x0) := by
  unfold Block.resetWhorl
  try extract_lets
  repeat' first
    | with_reducible assumption
    | with_reducible exact Frame.refl _ _
    | (with_reducible intro _; try extract_lets)
    | ((with_reducible apply Frame.via (Block.warmReset_frame _ _ _ _)); · rfl)
    | ((with_reducible apply Frame.put_whorl); · rfl)

theorem Block.resetOwl_frame x0 : Frame 162833 x0 (Block.resetOwl x0) := by
  unfold Block.resetOwl
  try extract_lets
  repeat' first
    | with_reducible assumption
    | with_reducible exact Frame.refl _ _
    | (with_reducible intro _; try extract_lets)
    | ((with_reducible apply Frame.via (Block.maskReq_frame _ _)); · rfl)
    | ((with_reducible apply Frame.via (Block.owlRefresh_frame _)); · rfl)
    | ((with_reducible apply Frame.via (Block.warmReset_frame _ _ _ _)); · rfl)
    | ((with_reducible apply Frame.put_owl); · rfl)

theorem Block.resetHoard_frame x0 : Frame 262153 x0 (Block.resetHoard x0) := by
  unfold Block.resetHoard
  try extract_lets
  repeat' first
    | with_reducible assumption
    | with_reducible exact Frame.refl _ _
    | (with_reducible intro _; try extract_lets)
    | ((with_reducible apply Frame.via (Block.warmReset_frame _ _ _ _)); · rfl)
    | ((with_reducible apply Frame.via (Block.cutHoard_frame _)); · rfl)

theorem Block.releaseHeld_frame x0 : Frame 20497 x0 (Block.releaseHeld x0) := by
  unfold Block.releaseHeld
  try extract_lets
  repeat' first
    | with_reducible assumption
    | with_reducible exact Frame.refl _ _
    | (with_reducible intro _; try extract_lets)
    | with_reducible apply Frame.ite
    | with_reducible apply Frame.each
    | ((with_reducible apply Frame.via (Block.put_frame _ _ _)); · rfl)
    | ((with_reducible apply Frame.via (Block.setFx_frame _ _ _)); · rfl)
    | ((with_reducible apply Frame.via (Block.setEngine_frame _ _ _)); · rfl)
    | (split <;> try extract_lets)

theorem Block.resetDen_frame x0 : Frame 416881 x0 (Block.resetDen x0) := by
  unfold Block.resetDen
  try extract_lets
  repeat' first
    | with_reducible assumption
    | with_reducible exact Frame.refl _ _
    | (with_reducible intro _; try extract_lets)
    | with_reducible apply Frame.ite
    | with_reducible apply Frame.when
    | ((with_reducible apply Frame.via (Block.bearStop_frame _)); · rfl)
    | ((with_reducible apply Frame.via (Block.put_frame _ _ _)); · rfl)
    | ((with_reducible apply Frame.via (Block.warmReset_frame _ _ _ _)); · rfl)
    | ((with_reducible apply Frame.via (Block.bearRestart_frame _ _)); · rfl)
    | ((with_reducible apply Frame.via (Block.releaseHeld_frame _)); · rfl)
    | ((with_reducible apply Frame.put_den); · rfl)
    | ((with_reducible apply Frame.put_power); · rfl)
    | (split <;> try extract_lets)

theorem Block.resetSubsystem_frame x0 x1 : Frame 1506937 x0 (Block.resetSubsystem x0 x1) := by
  unfold Block.resetSubsystem
  try extract_lets
  repeat' first
    | with_reducible assumption
    | with_reducible exact Frame.refl _ _
    | (with_reducible intro _; try extract_lets)
    | with_reducible apply Frame.ite
    | with_reducible apply Frame.each
    | ((with_reducible apply Frame.via (Block.portsReset_frame _)); · rfl)
    | ((with_reducible apply Frame.via (Block.interpReset_frame _)); · rfl)
    | ((with_reducible apply Frame.via (Block.resetFront_frame _)); · rfl)
    | ((with_reducible apply Frame.via (Block.followClock_frame _ _)); · rfl)
    | ((with_reducible apply Frame.via (Block.warmReset_frame _ _ _ _)); · rfl)
    | ((with_reducible apply Frame.via (Block.restartEntries_frame _ _ _)); · rfl)
    | ((with_reducible apply Frame.via (Block.restartNco_frame _ _)); · rfl)
    | ((with_reducible apply Frame.via (Block.resetRefs_frame _)); · rfl)
    | ((with_reducible apply Frame.via (Block.resetSpindles_frame _)); · rfl)
    | ((with_reducible apply Frame.via (Block.resetSett_frame _)); · rfl)
    | ((with_reducible apply Frame.via (Block.resetWhorl_frame _)); · rfl)
    | ((with_reducible apply Frame.via (Block.foxReset_frame _ _ _)); · rfl)
    | ((with_reducible apply Frame.via (Block.resetOwl_frame _)); · rfl)
    | ((with_reducible apply Frame.via (Block.plyReset_frame _)); · rfl)
    | ((with_reducible apply Frame.via (Block.resetHoard_frame _)); · rfl)
    | ((with_reducible apply Frame.via (Block.resetDen_frame _)); · rfl)
    | ((with_reducible apply Frame.put_acq); · rfl)
    | with_reducible exact Frame.snd (by assumption)
    | with_reducible refine Frame.pair2 (by assumption) ?_
    | with_reducible refine Frame.pair3 (by assumption) ?_
    | with_reducible refine Frame.pair4 (by assumption) ?_
    | (split <;> try extract_lets)
    | (dsimp +zetaDelta only; split <;> try extract_lets)

theorem Block.writeSsReset_frame x0 x1 : Frame 1506937 x0 (Block.writeSsReset x0 x1) := by
  unfold Block.writeSsReset
  try extract_lets
  repeat' first
    | with_reducible assumption
    | with_reducible exact Frame.refl _ _
    | (with_reducible intro _; try extract_lets)
    | with_reducible apply Frame.ite
    | with_reducible apply Frame.each
    | ((with_reducible apply Frame.via (Block.setBit_frame _ _ _ _)); · rfl)
    | ((with_reducible apply Frame.via (Block.resetSubsystem_frame _ _)); · rfl)
    | ((with_reducible apply Frame.put_power); · rfl)
    | (split <;> try extract_lets)

theorem Block.honour_frame x0 : Frame 1498225 x0 (Block.honour x0) := by
  unfold Block.honour
  try extract_lets
  repeat' first
    | with_reducible assumption
    | with_reducible exact Frame.refl _ _
    | with_reducible apply Frame.ite
    | ((with_reducible apply Frame.via (Block.put_frame _ _ _)); · rfl)
    | ((with_reducible apply Frame.via (Block.setPair_frame _ _ _ _)); · rfl)
    | ((with_reducible apply Frame.via (Block.bump_frame _ _ _)); · rfl)
    | ((with_reducible apply Frame.via (Block.portsReset_frame _)); · rfl)
    | ((with_reducible apply Frame.via (Block.raise_frame _ _ _)); · rfl)
    | ((with_reducible apply Frame.via (Block.bearStop_frame _)); · rfl)
    | ((with_reducible apply Frame.via (Block.interpReset_frame _)); · rfl)
    | ((with_reducible apply Frame.put_den); · rfl)
    | ((with_reducible apply Frame.put_power); · rfl)
    | (split <;> try extract_lets)

theorem Block.powerUp_frame x0 x1 : Frame 425585 x0 (Block.powerUp x0 x1) := by
  unfold Block.powerUp
  try extract_lets
  repeat' first
    | with_reducible assumption
    | with_reducible exact Frame.refl _ _
    | (with_reducible intro _; try extract_lets)
    | with_reducible apply Frame.ite
    | with_reducible apply Frame.each
    | ((with_reducible apply Frame.via (Block.put_frame _ _ _)); · rfl)
    | ((with_reducible apply Frame.via (Block.refBegins_frame _ _)); · rfl)
    | ((with_reducible apply Frame.via (Block.switchDomain_frame _ _ _ _)); · rfl)
    | ((with_reducible apply Frame.via (Block.bearStart_frame _ _)); · rfl)
    | ((with_reducible apply Frame.put_den); · rfl)
    | (split <;> try extract_lets)

theorem doPowerGood_frame x0 : Frame 1506929 x0 (doPowerGood x0) := by
  unfold doPowerGood
  try extract_lets
  repeat' first
    | with_reducible assumption
    | with_reducible exact Frame.refl _ _
    | with_reducible apply Frame.ite
    | ((with_reducible apply Frame.via (Block.raise_frame _ _ _)); · rfl)
    | ((with_reducible apply Frame.via (Block.honour_frame _)); · rfl)
    | ((with_reducible apply Frame.via (Block.powerUp_frame _ _)); · rfl)
    | ((with_reducible apply Frame.put_power); · rfl)
    | (split <;> try extract_lets)

theorem Block.coreLost_frame x0 : Frame 2097151 x0 (Block.coreLost x0) := by
  exact Frame.all (fun h => Bank.wf_filter _ _ h) (fun _ => rfl)

theorem doColdReset_frame x0 : Frame 2097151 x0 (doColdReset x0) := by
  exact Frame.all (fun _ => rfl) (fun _ => rfl)

theorem Block.endLow_frame x0 : Frame 1025 x0 (Block.endLow x0) := by
  unfold Block.endLow
  try extract_lets
  repeat' first
    | with_reducible assumption
    | with_reducible exact Frame.refl _ _
    | ((with_reducible apply Frame.via (Block.put_frame _ _ _)); · rfl)
    | ((with_reducible apply Frame.via (Block.creditSteps_frame _ _)); · rfl)

theorem Block.bearRelease_frame x0 x1 : Frame 33 x0 (Block.bearRelease x0 x1) := by
  unfold Block.bearRelease
  try extract_lets
  repeat' first
    | with_reducible assumption
    | with_reducible exact Frame.refl _ _
    | with_reducible apply Frame.ite
    | ((with_reducible apply Frame.via (Block.bearStart_frame _ _)); · rfl)
    | ((with_reducible apply Frame.put_den); · rfl)
    | with_reducible exact Frame.snd (by assumption)
    | with_reducible refine Frame.pair2 (by assumption) ?_
    | with_reducible refine Frame.pair3 (by assumption) ?_
    | with_reducible refine Frame.pair4 (by assumption) ?_
    | (split <;> try extract_lets)
    | (dsimp +zetaDelta only; split <;> try extract_lets)

theorem doRstRelease_frame x0 : Frame 1121 x0 (doRstRelease x0) := by
  unfold doRstRelease
  try extract_lets
  repeat' first
    | with_reducible assumption
    | with_reducible exact Frame.refl _ _
    | with_reducible apply Frame.ite
    | ((with_reducible apply Frame.via (Block.put_frame _ _ _)); · rfl)
    | ((with_reducible apply Frame.via (Block.endLow_frame _)); · rfl)
    | ((with_reducible apply Frame.via (Block.bearRelease_frame _ _)); · rfl)
    | ((with_reducible apply Frame.put_power); · rfl)
    | (split <;> try extract_lets)

theorem doStuckReset_frame x0 : Frame 136305 x0 (doStuckReset x0) := by
  unfold doStuckReset
  try extract_lets
  repeat' first
    | with_reducible assumption
    | with_reducible exact Frame.refl _ _
    | with_reducible apply Frame.ite
    | ((with_reducible apply Frame.via (Block.endLow_frame _)); · rfl)
    | ((with_reducible apply Frame.via (Block.put_frame _ _ _)); · rfl)
    | ((with_reducible apply Frame.via (Block.raise_frame _ _ _)); · rfl)
    | ((with_reducible apply Frame.via (Block.bump_frame _ _ _)); · rfl)
    | ((with_reducible apply Frame.via (Block.bearRelease_frame _ _)); · rfl)
    | ((with_reducible apply Frame.put_den); · rfl)
    | ((with_reducible apply Frame.put_power); · rfl)
    | (split <;> try extract_lets)

theorem Block.whorlBack_frame x0 : Frame 2049 x0 (Block.whorlBack x0) := by
  unfold Block.whorlBack
  try extract_lets
  repeat' first
    | with_reducible assumption
    | with_reducible exact Frame.refl _ _
    | (with_reducible intro _; try extract_lets)
    | ((with_reducible apply Frame.via (Block.put_frame _ _ _)); · rfl)
    | ((with_reducible apply Frame.put_whorl); · rfl)

theorem doAonSensorSample_frame x0 x1 x2 : Frame 135281 x2 (doAonSensorSample x0 x1 x2) := by
  unfold doAonSensorSample
  try extract_lets
  repeat' first
    | with_reducible assumption
    | with_reducible exact Frame.refl _ _
    | with_reducible apply Frame.ite
    | ((with_reducible apply Frame.via (Block.putB_frame _ _ _)); · rfl)
    | ((with_reducible apply Frame.via (Block.put_frame _ _ _)); · rfl)
    | ((with_reducible apply Frame.via (Block.raise_frame _ _ _)); · rfl)
    | ((with_reducible apply Frame.put_den); · rfl)
    | ((with_reducible apply Frame.put_power); · rfl)
    | (split <;> try extract_lets)

theorem doSubsystemResetComplete_frame x0 x1 : Frame 400465 x1 (doSubsystemResetComplete x0 x1) := by
  unfold doSubsystemResetComplete
  try extract_lets
  repeat' first
    | with_reducible assumption
    | with_reducible exact Frame.refl _ _
    | (with_reducible intro _; try extract_lets)
    | with_reducible apply Frame.ite
    | with_reducible apply Frame.each
    | ((with_reducible apply Frame.via (Block.setBit_frame _ _ _ _)); · rfl)
    | ((with_reducible apply Frame.via (Block.startTrunk_frame _ _)); · rfl)
    | ((with_reducible apply Frame.via (Block.whorlBack_frame _)); · rfl)
    | ((with_reducible apply Frame.via (Block.restartCommit_frame _)); · rfl)
    | ((with_reducible apply Frame.via (Block.readHoard_frame _)); · rfl)
    | ((with_reducible apply Frame.put_power); · rfl)
    | with_reducible exact Frame.snd (by assumption)
    | with_reducible refine Frame.pair2 (by assumption) ?_
    | with_reducible refine Frame.pair3 (by assumption) ?_
    | with_reducible refine Frame.pair4 (by assumption) ?_
    | (split <;> try extract_lets)
    | (dsimp +zetaDelta only; split <;> try extract_lets)

theorem Block.showCauses_frame x0 : Frame 1 x0 (Block.showCauses x0) := by
  unfold Block.showCauses
  try extract_lets
  repeat' first
    | with_reducible assumption
    | with_reducible exact Frame.refl _ _
    | ((with_reducible apply Frame.via (Block.putB_frame _ _ _)); · rfl)

theorem Block.countPeak_frame x0 x1 : Frame 65 x0 (Block.countPeak x0 x1) := by
  unfold Block.countPeak
  try extract_lets
  repeat' first
    | with_reducible assumption
    | with_reducible exact Frame.refl _ _
    | (with_reducible intro _; try extract_lets)
    | ((with_reducible apply Frame.via (Block.putB_frame _ _ _)); · rfl)
    | ((with_reducible apply Frame.via (Block.put_frame _ _ _)); · rfl)
    | ((with_reducible apply Frame.put_power); · rfl)

theorem doSupplyRecovered_frame x0 x1 x2 : Frame 143953 x2 (doSupplyRecovered x0 x1 x2) := by
  unfold doSupplyRecovered
  try extract_lets
  repeat' first
    | with_reducible assumption
    | with_reducible exact Frame.refl _ _
    | (with_reducible intro _; try extract_lets)
    | with_reducible apply Frame.ite
    | ((with_reducible apply Frame.via (Block.put_frame _ _ _)); · rfl)
    | ((with_reducible apply Frame.via (Block.treated_frame _ _ _)); · rfl)
    | ((with_reducible apply Frame.via (Block.plyPower_frame _ _ _)); · rfl)
    | ((with_reducible apply Frame.via (Block.followSources_frame _)); · rfl)
    | ((with_reducible apply Frame.put_power); · rfl)
    | ((with_reducible apply Frame.put_acq); · rfl)
    | (split <;> try extract_lets)

theorem Block.loseCore_frame x0 : Frame 2097151 x0 (Block.loseCore x0) := by
  unfold Block.loseCore
  try extract_lets
  repeat' first
    | with_reducible assumption
    | with_reducible exact Frame.refl _ _
    | with_reducible apply Frame.ite
    | ((with_reducible apply Frame.via (Block.cutHoard_frame _)); · rfl)
    | ((with_reducible apply Frame.via (Block.slewFrom_frame _ _ _)); · rfl)
    | ((with_reducible apply Frame.via (Block.put_frame _ _ _)); · rfl)
    | ((with_reducible apply Frame.via (Block.coreLost_frame _)); · rfl)
    | (split <;> try extract_lets)

theorem doCoreLoss_frame x0 : Frame 2097151 x0 (doCoreLoss x0) := by
  unfold doCoreLoss
  try extract_lets
  repeat' first
    | with_reducible assumption
    | with_reducible exact Frame.refl _ _
    | (with_reducible intro _; try extract_lets)
    | with_reducible apply Frame.ite
    | with_reducible apply Frame.each
    | ((with_reducible apply Frame.via (Block.loseCore_frame _)); · rfl)
    | ((with_reducible apply Frame.via (Block.setDomain_frame _ _ _)); · rfl)
    | ((with_reducible apply Frame.via (Block.put_frame _ _ _)); · rfl)
    | ((with_reducible apply Frame.via (Block.setPair_frame _ _ _ _)); · rfl)
    | ((with_reducible apply Frame.via (Block.bump_frame _ _ _)); · rfl)
    | ((with_reducible apply Frame.via (Block.raise_frame _ _ _)); · rfl)
    | ((with_reducible apply Frame.put_power); · rfl)
    | with_reducible exact Frame.snd (by assumption)
    | with_reducible refine Frame.pair2 (by assumption) ?_
    | with_reducible refine Frame.pair3 (by assumption) ?_
    | with_reducible refine Frame.pair4 (by assumption) ?_
    | (split <;> try extract_lets)
    | (dsimp +zetaDelta only; split <;> try extract_lets)

theorem doClockFaultEnd_frame x0 x1 : Frame 143953 x1 (doClockFaultEnd x0 x1) := by
  unfold doClockFaultEnd
  try extract_lets
  repeat' first
    | with_reducible assumption
    | with_reducible exact Frame.refl _ _
    | (with_reducible intro _; try extract_lets)
    | with_reducible apply Frame.ite
    | ((with_reducible apply Frame.via (Block.put_frame _ _ _)); · rfl)
    | ((with_reducible apply Frame.via (Block.followClock_frame _ _)); · rfl)
    | ((with_reducible apply Frame.put_power); · rfl)
    | (split <;> try extract_lets)

theorem doClockFault_frame x0 x1 : Frame 143953 x1 (doClockFault x0 x1) := by
  unfold doClockFault
  try extract_lets
  repeat' first
    | with_reducible assumption
    | with_reducible exact Frame.refl _ _
    | (with_reducible intro _; try extract_lets)
    | with_reducible apply Frame.ite
    | with_reducible apply Frame.when
    | ((with_reducible apply Frame.via (Block.raise_frame _ _ _)); · rfl)
    | ((with_reducible apply Frame.via (Block.put_frame _ _ _)); · rfl)
    | ((with_reducible apply Frame.via (Block.followClock_frame _ _)); · rfl)
    | ((with_reducible apply Frame.put_power); · rfl)
    | (split <;> try extract_lets)

theorem doSupplyExcursion_frame x0 x1 x2 x3 : Frame 143953 x3 (doSupplyExcursion x0 x1 x2 x3) := by
  unfold doSupplyExcursion
  try extract_lets
  repeat' first
    | with_reducible assumption
    | with_reducible exact Frame.refl _ _
    | (with_reducible intro _; try extract_lets)
    | with_reducible apply Frame.ite
    | ((with_reducible apply Frame.via (Block.put_frame _ _ _)); · rfl)
    | ((with_reducible apply Frame.via (Block.raise_frame _ _ _)); · rfl)
    | ((with_reducible apply Frame.via (Block.treated_frame _ _ _)); · rfl)
    | ((with_reducible apply Frame.via (Block.plyPower_frame _ _ _)); · rfl)
    | ((with_reducible apply Frame.via (Block.followSources_frame _)); · rfl)
    | ((with_reducible apply Frame.via (Block.refFall_frame _ _ _)); · rfl)
    | ((with_reducible apply Frame.put_power); · rfl)
    | (split <;> try extract_lets)

theorem doRstHigh10ms_frame x0 : Frame 1 x0 (doRstHigh10ms x0) := by
  unfold doRstHigh10ms
  try extract_lets
  repeat' first
    | with_reducible assumption
    | with_reducible exact Frame.refl _ _
    | with_reducible apply Frame.ite
    | ((with_reducible apply Frame.via (Block.put_frame _ _ _)); · rfl)
    | (split <;> try extract_lets)

theorem Block.enterMode_frame x0 x1 : Frame 151569 x0 (Block.enterMode x0 x1) := by
  unfold Block.enterMode
  try extract_lets
  repeat' first
    | with_reducible assumption
    | with_reducible exact Frame.refl _ _
    | (with_reducible intro _; try extract_lets)
    | with_reducible apply Frame.ite
    | with_reducible apply Frame.when
    | ((with_reducible apply Frame.via (Block.put_frame _ _ _)); · rfl)
    | ((with_reducible apply Frame.via (Block.raise_frame _ _ _)); · rfl)
    | ((with_reducible apply Frame.via (Block.bump_frame _ _ _)); · rfl)
    | ((with_reducible apply Frame.via (Block.releaseHeld_frame _)); · rfl)
    | with_reducible exact Frame.snd (by assumption)
    | with_reducible refine Frame.pair2 (by assumption) ?_
    | with_reducible refine Frame.pair3 (by assumption) ?_
    | with_reducible refine Frame.pair4 (by assumption) ?_
    | (split <;> try extract_lets)
    | (dsimp +zetaDelta only; split <;> try extract_lets)

theorem doCoreReturn_frame x0 : Frame 425585 x0 (doCoreReturn x0) := by
  unfold doCoreReturn
  try extract_lets
  repeat' first
    | with_reducible assumption
    | with_reducible exact Frame.refl _ _
    | (with_reducible intro _; try extract_lets)
    | with_reducible apply Frame.ite
    | ((with_reducible apply Frame.via (Block.put_frame _ _ _)); · rfl)
    | ((with_reducible apply Frame.via (Block.powerUp_frame _ _)); · rfl)
    | ((with_reducible apply Frame.via (Block.raise_frame _ _ _)); · rfl)
    | ((with_reducible apply Frame.via (Block.enterMains_frame _ _)); · rfl)
    | ((with_reducible apply Frame.via (Block.enterMode_frame _ _)); · rfl)
    | ((with_reducible apply Frame.put_power); · rfl)
    | with_reducible exact Frame.snd (by assumption)
    | with_reducible refine Frame.pair2 (by assumption) ?_
    | with_reducible refine Frame.pair3 (by assumption) ?_
    | with_reducible refine Frame.pair4 (by assumption) ?_
    | (split <;> try extract_lets)
    | (dsimp +zetaDelta only; split <;> try extract_lets)

theorem doGovernorEvaluate_frame x0 x1 x2 : Frame 151641 x2 (doGovernorEvaluate x0 x1 x2) := by
  unfold doGovernorEvaluate
  try extract_lets
  repeat' first
    | with_reducible assumption
    | with_reducible exact Frame.refl _ _
    | with_reducible apply Frame.ite
    | ((with_reducible apply Frame.via (Block.draw_frame _)); · rfl)
    | ((with_reducible apply Frame.via (Block.put_frame _ _ _)); · rfl)
    | ((with_reducible apply Frame.via (Block.countPeak_frame _ _)); · rfl)
    | ((with_reducible apply Frame.via (Block.showCauses_frame _)); · rfl)
    | ((with_reducible apply Frame.via (Block.enterMode_frame _ _)); · rfl)
    | ((with_reducible apply Frame.put_power); · rfl)
    | with_reducible exact Frame.snd (by assumption)
    | with_reducible refine Frame.pair2 (by assumption) ?_
    | with_reducible refine Frame.pair3 (by assumption) ?_
    | with_reducible refine Frame.pair4 (by assumption) ?_
    | (split <;> try extract_lets)
    | (dsimp +zetaDelta only; split <;> try extract_lets)

theorem doRstHonouredLow_frame x0 : Frame 1498225 x0 (doRstHonouredLow x0) := by
  unfold doRstHonouredLow
  try extract_lets
  repeat' first
    | with_reducible assumption
    | with_reducible exact Frame.refl _ _
    | with_reducible apply Frame.ite
    | ((with_reducible apply Frame.via (Block.put_frame _ _ _)); · rfl)
    | ((with_reducible apply Frame.via (Block.honour_frame _)); · rfl)
    | ((with_reducible apply Frame.via (Block.raise_frame _ _ _)); · rfl)
    | ((with_reducible apply Frame.put_power); · rfl)
    | (split <;> try extract_lets)

theorem doSsReset_frame x0 x1 : Frame 1506937 x1 (doSsReset x0 x1) := by
  unfold doSsReset
  try extract_lets
  repeat' first
    | with_reducible assumption
    | with_reducible exact Frame.refl _ _
    | with_reducible apply Frame.ite
    | ((with_reducible apply Frame.via (Block.writeSsReset_frame _ _)); · rfl)
    | (split <;> try extract_lets)

end Sys2Proof.Machine
end

