-- ==== Sys2Proof/Laws/FrameSchedule.lean ====
section
/-! SUPPORT. What each function of Machine/Schedule.lean may change. -/

namespace Sys2Proof.Machine

theorem Block.schAdvance_frame x0 x1 x2 : Frame 1 x0 (Block.schAdvance x0 x1 x2) := by
  unfold Block.schAdvance
  try extract_lets
  repeat' first
    | with_reducible assumption
    | with_reducible exact Frame.refl _ _
    | with_reducible apply Frame.ite
    | ((with_reducible apply Frame.via (Block.put_frame _ _ _)); · rfl)
    | ((with_reducible apply Frame.via (Block.setPair_frame _ _ _ _)); · rfl)
    | (split <;> try extract_lets)

theorem Block.schAction_frame x0 x1 x2 : Frame 161297 x0 (Block.schAction x0 x1 x2) := by
  unfold Block.schAction
  try extract_lets
  repeat' first
    | with_reducible assumption
    | with_reducible exact Frame.refl _ _
    | ((with_reducible apply Frame.via (Block.trigger_frame _ _)); · rfl)
    | ((with_reducible apply Frame.via (Block.raiseUrgent_frame _ _)); · rfl)
    | ((with_reducible apply Frame.via (Block.put_frame _ _ _)); · rfl)
    | ((with_reducible apply Frame.via (Block.setBit_frame _ _ _ _)); · rfl)
    | ((with_reducible apply Frame.via (Block.snap_frame _)); · rfl)
    | with_reducible exact Frame.snd (by assumption)
    | with_reducible refine Frame.pair2 (by assumption) ?_
    | with_reducible refine Frame.pair3 (by assumption) ?_
    | with_reducible refine Frame.pair4 (by assumption) ?_
    | (split <;> try extract_lets)
    | (dsimp +zetaDelta only; split <;> try extract_lets)

theorem Block.schFire_frame x0 x1 : Frame 425489 x0 (Block.schFire x0 x1) := by
  unfold Block.schFire
  try extract_lets
  repeat' first
    | with_reducible assumption
    | with_reducible exact Frame.refl _ _
    | ((with_reducible apply Frame.via (Block.bump_frame _ _ _)); · rfl)
    | ((with_reducible apply Frame.via (Block.clearPeriodic_frame _ _)); · rfl)
    | ((with_reducible apply Frame.via (Block.schAction_frame _ _ _)); · rfl)

theorem Block.fireEntry_frame x0 x1 : Frame 425745 x0 (Block.fireEntry x0 x1) := by
  unfold Block.fireEntry
  try extract_lets
  repeat' first
    | with_reducible assumption
    | with_reducible exact Frame.refl _ _
    | (with_reducible intro _; try extract_lets)
    | with_reducible apply Frame.ite
    | ((with_reducible apply Frame.via (Block.schAdvance_frame _ _ _)); · rfl)
    | ((with_reducible apply Frame.via (Block.schFire_frame _ _)); · rfl)
    | ((with_reducible apply Frame.via (Block.setLate_frame _ _ _)); · rfl)
    | ((with_reducible apply Frame.via (Block.bump_frame _ _ _)); · rfl)
    | ((with_reducible apply Frame.via (Block.raise_frame _ _ _)); · rfl)
    | ((with_reducible apply Frame.via (Block.put_frame _ _ _)); · rfl)
    | (split <;> try extract_lets)

theorem Block.writeSchCtl_frame x0 x1 x2 : Frame 425745 x0 (Block.writeSchCtl x0 x1 x2) := by
  unfold Block.writeSchCtl
  try extract_lets
  repeat' first
    | with_reducible assumption
    | with_reducible exact Frame.refl _ _
    | with_reducible apply Frame.ite
    | ((with_reducible apply Frame.via (Block.writeFields_frame _ _ _)); · rfl)
    | ((with_reducible apply Frame.via (Block.fireEntry_frame _ _)); · rfl)
    | ((with_reducible apply Frame.via (Block.put_frame _ _ _)); · rfl)
    | ((with_reducible apply Frame.via (Block.setLate_frame _ _ _)); · rfl)
    | (split <;> try extract_lets)

theorem Block.writeSchTime_frame x0 x1 x2 x3 : Frame 1 x0 (Block.writeSchTime x0 x1 x2 x3) := by
  unfold Block.writeSchTime
  try extract_lets
  repeat' first
    | with_reducible assumption
    | with_reducible exact Frame.refl _ _
    | with_reducible apply Frame.ite
    | ((with_reducible apply Frame.via (Block.put_frame _ _ _)); · rfl)
    | ((with_reducible apply Frame.via (Block.setReg_frame _ _ _)); · rfl)
    | (split <;> try extract_lets)

theorem doSchedFire_frame x0 x1 : Frame 425745 x1 (doSchedFire x0 x1) := by
  unfold doSchedFire
  try extract_lets
  repeat' first
    | with_reducible assumption
    | with_reducible exact Frame.refl _ _
    | (with_reducible intro _; try extract_lets)
    | with_reducible apply Frame.each
    | with_reducible apply Frame.when
    | ((with_reducible apply Frame.via (Block.setLate_frame _ _ _)); · rfl)
    | ((with_reducible apply Frame.via (Block.fireEntry_frame _ _)); · rfl)

theorem doSchTimeWrite_frame x0 x1 x2 x3 : Frame 1 x3 (doSchTimeWrite x0 x1 x2 x3) := by
  unfold doSchTimeWrite
  try extract_lets
  repeat' first
    | with_reducible assumption
    | with_reducible exact Frame.refl _ _
    | with_reducible apply Frame.ite
    | ((with_reducible apply Frame.via (Block.writeSchTime_frame _ _ _ _)); · rfl)
    | (split <;> try extract_lets)

theorem doSchCtlWrite_frame x0 x1 x2 : Frame 425745 x2 (doSchCtlWrite x0 x1 x2) := by
  unfold doSchCtlWrite
  try extract_lets
  repeat' first
    | with_reducible assumption
    | with_reducible exact Frame.refl _ _
    | with_reducible apply Frame.ite
    | ((with_reducible apply Frame.via (Block.writeSchCtl_frame _ _ _)); · rfl)
    | (split <;> try extract_lets)

end Sys2Proof.Machine
end

