-- ==== Sys2Proof/Laws/FrameRegBus.lean ====
section
/-! SUPPORT. What each function of Machine/RegBus.lean may change. -/

namespace Sys2Proof.Machine

theorem Block.writePort_frame x0 x1 x2 x3 x4 : Frame 1 x0 (Block.writePort x0 x1 x2 x3 x4) := by
  unfold Block.writePort
  try extract_lets
  repeat' first
    | with_reducible assumption
    | with_reducible exact Frame.refl _ _
    | with_reducible apply Frame.ite
    | ((with_reducible apply Frame.via (Block.setReg_frame _ _ _)); · rfl)
    | with_reducible exact Frame.snd (by assumption)
    | with_reducible refine Frame.pair2 (by assumption) ?_
    | with_reducible refine Frame.pair3 (by assumption) ?_
    | with_reducible refine Frame.pair4 (by assumption) ?_
    | (split <;> try extract_lets)
    | (dsimp +zetaDelta only; split <;> try extract_lets)

theorem Block.writeSkein_frame x0 x1 x2 x3 : Frame 1 x0 (Block.writeSkein x0 x1 x2 x3) := by
  unfold Block.writeSkein
  try extract_lets
  repeat' first
    | with_reducible assumption
    | with_reducible exact Frame.refl _ _
    | with_reducible apply Frame.ite
    | ((with_reducible apply Frame.via (Block.writePort_frame _ _ _ _ _)); · rfl)
    | ((with_reducible apply Frame.via (Block.writeFields_frame _ _ _)); · rfl)
    | (split <;> try extract_lets)

theorem Block.writeFront_frame x0 x1 x2 x3 : Frame 8705 x0 (Block.writeFront x0 x1 x2 x3) := by
  unfold Block.writeFront
  try extract_lets
  repeat' first
    | with_reducible assumption
    | with_reducible exact Frame.refl _ _
    | with_reducible apply Frame.ite
    | ((with_reducible apply Frame.via (Block.writeRefCtl_frame _ _)); · rfl)
    | ((with_reducible apply Frame.via (Block.writeNcoLoad_frame _ _)); · rfl)
    | ((with_reducible apply Frame.via (Block.writeCoefData_frame _ _ _)); · rfl)
    | ((with_reducible apply Frame.via (Block.writeDcVal_frame _ _ _)); · rfl)
    | ((with_reducible apply Frame.via (Block.writeXbPin_frame _ _ _)); · rfl)
    | ((with_reducible apply Frame.via (Block.writeRefSel_frame _ _ _)); · rfl)
    | ((with_reducible apply Frame.via (Block.writeFineQclk_frame _ _ _)); · rfl)
    | ((with_reducible apply Frame.via (Block.writeFineCalreq_frame _ _ _)); · rfl)
    | ((with_reducible apply Frame.via (Block.writeSwiftCalreq_frame _ _ _)); · rfl)
    | ((with_reducible apply Frame.via (Block.writeNcoFreq_frame _ _ _)); · rfl)
    | ((with_reducible apply Frame.via (Block.writeNcoPhase_frame _ _ _)); · rfl)
    | ((with_reducible apply Frame.via (Block.writeLogged_frame _ _ _)); · rfl)
    | ((with_reducible apply Frame.via (Block.writeFields_frame _ _ _)); · rfl)
    | with_reducible exact Frame.snd (by assumption)
    | with_reducible refine Frame.pair2 (by assumption) ?_
    | with_reducible refine Frame.pair3 (by assumption) ?_
    | with_reducible refine Frame.pair4 (by assumption) ?_
    | (split <;> try extract_lets)
    | (dsimp +zetaDelta only; split <;> try extract_lets)

theorem Block.writeFlow_frame x0 x1 x2 x3 : Frame 425745 x0 (Block.writeFlow x0 x1 x2 x3) := by
  unfold Block.writeFlow
  try extract_lets
  repeat' first
    | with_reducible assumption
    | with_reducible exact Frame.refl _ _
    | with_reducible apply Frame.ite
    | ((with_reducible apply Frame.via (Block.writeSeqIdx_frame _ _ _)); · rfl)
    | ((with_reducible apply Frame.via (Block.writeSeqData_frame _ _ _)); · rfl)
    | ((with_reducible apply Frame.via (Block.writeSpUrgent_frame _ _)); · rfl)
    | ((with_reducible apply Frame.via (Block.writeTgFire_frame _ _)); · rfl)
    | ((with_reducible apply Frame.via (Block.writeTbCtl_frame _ _)); · rfl)
    | ((with_reducible apply Frame.via (Block.writeMainsCtl_frame _ _)); · rfl)
    | ((with_reducible apply Frame.via (Block.writePhaseOfs_frame _ _)); · rfl)
    | ((with_reducible apply Frame.via (Block.spCommand_frame _ _ _)); · rfl)
    | ((with_reducible apply Frame.via (Block.writeSpCfg_frame _ _ _)); · rfl)
    | ((with_reducible apply Frame.via (Block.writeLineCtl_frame _ _ _)); · rfl)
    | ((with_reducible apply Frame.via (Block.writeSchCtl_frame _ _ _)); · rfl)
    | ((with_reducible apply Frame.via (Block.writeFifoBase_frame _ _ _)); · rfl)
    | ((with_reducible apply Frame.via (Block.writeFifoCfg_frame _ _ _)); · rfl)
    | ((with_reducible apply Frame.via (Block.writeFifoRp_frame _ _ _)); · rfl)
    | ((with_reducible apply Frame.via (Block.writeFifoWm_frame _ _ _)); · rfl)
    | ((with_reducible apply Frame.via (Block.writeFifoStat_frame _ _ _)); · rfl)
    | ((with_reducible apply Frame.via (Block.writeSchTime_frame _ _ _ _)); · rfl)
    | ((with_reducible apply Frame.via (Block.writeFields_frame _ _ _)); · rfl)
    | with_reducible exact Frame.snd (by assumption)
    | with_reducible refine Frame.pair2 (by assumption) ?_
    | with_reducible refine Frame.pair3 (by assumption) ?_
    | with_reducible refine Frame.pair4 (by assumption) ?_
    | (split <;> try extract_lets)
    | (dsimp +zetaDelta only; split <;> try extract_lets)

theorem Block.writeNet_frame x0 x1 x2 x3 : Frame 425489 x0 (Block.writeNet x0 x1 x2 x3) := by
  unfold Block.writeNet
  try extract_lets
  repeat' first
    | with_reducible assumption
    | with_reducible exact Frame.refl _ _
    | (with_reducible intro _; try extract_lets)
    | with_reducible apply Frame.ite
    | ((with_reducible apply Frame.via (Block.writeSettCtl_frame _ _)); · rfl)
    | ((with_reducible apply Frame.via (Block.writeKind_frame _ _ _ _)); · rfl)
    | ((with_reducible apply Frame.via (Block.writeKmap_frame _ _ _)); · rfl)
    | ((with_reducible apply Frame.via (Block.writeHubCmd_frame _ _ _)); · rfl)
    | ((with_reducible apply Frame.via (Block.writeTdata_frame _ _ _)); · rfl)
    | ((with_reducible apply Frame.via (Block.writeRdata_frame _ _ _)); · rfl)
    | ((with_reducible apply Frame.via (Block.writeStepCtl_frame _ _ _ _)); · rfl)
    | ((with_reducible apply Frame.via (Block.writeWhCtl_frame _ _ _)); · rfl)
    | ((with_reducible apply Frame.via (Block.writeWstat_frame _ _ _ _)); · rfl)
    | ((with_reducible apply Frame.via (Block.writeWatch_frame _ _ _ _)); · rfl)
    | ((with_reducible apply Frame.via (Block.writeFields_frame _ _ _)); · rfl)
    | with_reducible exact Frame.snd (by assumption)
    | with_reducible refine Frame.pair2 (by assumption) ?_
    | with_reducible refine Frame.pair3 (by assumption) ?_
    | with_reducible refine Frame.pair4 (by assumption) ?_
    | (split <;> try extract_lets)
    | (dsimp +zetaDelta only; split <;> try extract_lets)

theorem Block.writeEvsel_frame x0 x1 x2 x3 : Frame 4097 x0 (Block.writeEvsel x0 x1 x2 x3) := by
  unfold Block.writeEvsel
  try extract_lets
  repeat' first
    | with_reducible assumption
    | with_reducible exact Frame.refl _ _
    | ((with_reducible apply Frame.via (Block.setEngine_frame _ _ _)); · rfl)
    | ((with_reducible apply Frame.via (Block.writeFields_frame _ _ _)); · rfl)

theorem Block.writeFoxOwl_frame x0 x1 x2 x3 : Frame 425489 x0 (Block.writeFoxOwl x0 x1 x2 x3) := by
  unfold Block.writeFoxOwl
  try extract_lets
  repeat' first
    | with_reducible assumption
    | with_reducible exact Frame.refl _ _
    | (with_reducible intro _; try extract_lets)
    | with_reducible apply Frame.ite
    | with_reducible apply Frame.each
    | ((with_reducible apply Frame.via (Block.fxCommand_frame _ _ _)); · rfl)
    | ((with_reducible apply Frame.via (Block.writeDbg_frame _ _ _)); · rfl)
    | ((with_reducible apply Frame.via (Block.writeScreq_frame _ _)); · rfl)
    | ((with_reducible apply Frame.via (Block.writeScauto_frame _ _)); · rfl)
    | ((with_reducible apply Frame.via (Block.writeWcnt_frame _ _ _)); · rfl)
    | ((with_reducible apply Frame.via (Block.setOwlWin_frame _ _ _)); · rfl)
    | ((with_reducible apply Frame.via (Block.writeGcmd_frame _ _)); · rfl)
    | ((with_reducible apply Frame.via (Block.writeQfring_frame _ _ _)); · rfl)
    | ((with_reducible apply Frame.via (Block.writeQfrp_frame _ _ _)); · rfl)
    | ((with_reducible apply Frame.via (Block.writeLatch_frame _ _ _)); · rfl)
    | ((with_reducible apply Frame.via (Block.writeWcfg_frame _ _ _)); · rfl)
    | ((with_reducible apply Frame.via (Block.writeWthr_frame _ _ _)); · rfl)
    | ((with_reducible apply Frame.via (Block.writeEvsel_frame _ _ _ _)); · rfl)
    | ((with_reducible apply Frame.via (Block.writeFields_frame _ _ _)); · rfl)
    | with_reducible exact Frame.snd (by assumption)
    | with_reducible refine Frame.pair2 (by assumption) ?_
    | with_reducible refine Frame.pair3 (by assumption) ?_
    | with_reducible refine Frame.pair4 (by assumption) ?_
    | (split <;> try extract_lets)
    | (dsimp +zetaDelta only; split <;> try extract_lets)

theorem Block.writeSystem_frame x0 x1 x2 x3 : Frame 1506937 x0 (Block.writeSystem x0 x1 x2 x3) := by
  unfold Block.writeSystem
  try extract_lets
  repeat' first
    | with_reducible assumption
    | with_reducible exact Frame.refl _ _
    | with_reducible apply Frame.ite
    | ((with_reducible apply Frame.via (Block.writePlyCtl_frame _ _)); · rfl)
    | ((with_reducible apply Frame.via (Block.writePlyStatus_frame _ _)); · rfl)
    | ((with_reducible apply Frame.via (doWdtKick_frame _ _ _)); · rfl)
    | ((with_reducible apply Frame.via (Block.writeFwraise_frame _ _ _)); · rfl)
    | ((with_reducible apply Frame.via (Block.writePwrOff_frame _ _ _)); · rfl)
    | ((with_reducible apply Frame.via (Block.writeSsReset_frame _ _)); · rfl)
    | ((with_reducible apply Frame.via (Block.writePlyStream_frame _ _ _)); · rfl)
    | ((with_reducible apply Frame.via (Block.writeEvBudget_frame _ _ _)); · rfl)
    | ((with_reducible apply Frame.via (doEvPendClear_frame _ _ _ _ _)); · rfl)
    | ((with_reducible apply Frame.via (Block.writeEvClass_frame _ _ _)); · rfl)
    | ((with_reducible apply Frame.via (Block.writeFields_frame _ _ _)); · rfl)
    | with_reducible exact Frame.snd (by assumption)
    | with_reducible refine Frame.pair2 (by assumption) ?_
    | with_reducible refine Frame.pair3 (by assumption) ?_
    | with_reducible refine Frame.pair4 (by assumption) ?_
    | (split <;> try extract_lets)
    | (dsimp +zetaDelta only; split <;> try extract_lets)

theorem Block.writeReg_frame x0 x1 x2 x3 : Frame 1507193 x0 (Block.writeReg x0 x1 x2 x3) := by
  unfold Block.writeReg
  try extract_lets
  repeat' first
    | with_reducible assumption
    | with_reducible exact Frame.refl _ _
    | with_reducible apply Frame.ite
    | ((with_reducible apply Frame.via (Block.writeFields_frame _ _ _)); · rfl)
    | ((with_reducible apply Frame.via (Block.writeSkein_frame _ _ _ _)); · rfl)
    | ((with_reducible apply Frame.via (Block.writeFront_frame _ _ _ _)); · rfl)
    | ((with_reducible apply Frame.via (Block.writeFlow_frame _ _ _ _)); · rfl)
    | ((with_reducible apply Frame.via (Block.writeNet_frame _ _ _ _)); · rfl)
    | ((with_reducible apply Frame.via (Block.writeFoxOwl_frame _ _ _ _)); · rfl)
    | ((with_reducible apply Frame.via (Block.writeSystem_frame _ _ _ _)); · rfl)
    | with_reducible exact Frame.snd (by assumption)
    | with_reducible refine Frame.pair2 (by assumption) ?_
    | with_reducible refine Frame.pair3 (by assumption) ?_
    | with_reducible refine Frame.pair4 (by assumption) ?_
    | (split <;> try extract_lets)
    | (dsimp +zetaDelta only; split <;> try extract_lets)

theorem Block.setPort_frame x0 x1 x2 : Frame 32768 x0 (Block.setPort x0 x1 x2) := by
  unfold Block.setPort
  try extract_lets
  repeat' first
    | with_reducible assumption
    | with_reducible exact Frame.refl _ _
    | (with_reducible intro _; try extract_lets)
    | ((with_reducible apply Frame.put_ports); · rfl)

theorem doRegisterWrite_frame x0 x1 x2 x3 : Frame 1507193 x3 (doRegisterWrite x0 x1 x2 x3) := by
  unfold doRegisterWrite
  try extract_lets
  repeat' first
    | with_reducible assumption
    | with_reducible exact Frame.refl _ _
    | with_reducible apply Frame.ite
    | ((with_reducible apply Frame.via (Block.writeReg_frame _ _ _ _)); · rfl)
    | (split <;> try extract_lets)

theorem Block.readReg_frame x0 x1 x2 : Frame 523 x0 (Block.readReg x0 x1 x2).2 := by
  unfold Block.readReg
  try extract_lets
  repeat' first
    | with_reducible assumption
    | with_reducible exact Frame.refl _ _
    | (with_reducible intro _; try extract_lets)
    | with_reducible apply Frame.ite
    | ((with_reducible apply Frame.via (Block.readSeqData_frame _ _)); · rfl)
    | ((with_reducible apply Frame.via (Block.readCoefData_frame _ _)); · rfl)
    | ((with_reducible apply Frame.via (Block.readDcVal_frame _ _)); · rfl)
    | ((with_reducible apply Frame.via (Block.readKmap_frame _ _)); · rfl)
    | ((with_reducible apply Frame.via (Block.readTdata_frame _ _)); · rfl)
    | ((with_reducible apply Frame.via (Block.readRdata_frame _ _)); · rfl)
    | ((with_reducible apply Frame.via (Block.readDbg_frame _ _)); · rfl)
    | ((with_reducible apply Frame.via (Block.readEvCnt_frame _ _)); · rfl)
    | ((with_reducible apply Frame.put_hiCap); · rfl)
    | (split <;> try extract_lets)
    | dsimp only

theorem doReadLoCapture_frame x0 x1 x2 : Frame 523 x2 (doReadLoCapture x0 x1 x2) := by
  unfold doReadLoCapture
  try extract_lets
  repeat' first
    | with_reducible assumption
    | with_reducible exact Frame.refl _ _
    | with_reducible apply Frame.ite
    | ((with_reducible apply Frame.via (Block.readReg_frame _ _ _)); · rfl)
    | (split <;> try extract_lets)

end Sys2Proof.Machine
end

