-- ==== Sys2Proof/Laws/FrameBoot.lean ====
section
/-! SUPPORT. What each function of Machine/Boot.lean may change. -/

namespace Sys2Proof.Machine

theorem Block.startStore_frame x0 x1 : Frame 786433 x0 (Block.startStore x0 x1) := by
  unfold Block.startStore
  try extract_lets
  repeat' first
    | with_reducible assumption
    | with_reducible exact Frame.refl _ _
    | (with_reducible intro _; try extract_lets)
    | with_reducible apply Frame.ite
    | with_reducible apply Frame.when
    | ((with_reducible apply Frame.via (Block.readWear_frame _)); · rfl)
    | ((with_reducible apply Frame.via (Block.life_frame _ _ _)); · rfl)
    | ((with_reducible apply Frame.via (Block.setHoard_frame _ _)); · rfl)
    | ((with_reducible apply Frame.put_stock); · rfl)
    | (split <;> try extract_lets)

theorem Block.loadKinds_frame x0 : Frame 1024 x0 (Block.loadKinds x0) := by
  unfold Block.loadKinds
  try extract_lets
  repeat' first
    | with_reducible assumption
    | with_reducible exact Frame.refl _ _
    | (with_reducible intro _; try extract_lets)
    | with_reducible apply Frame.foldl
    | with_reducible apply Frame.foldlFst
    | with_reducible apply Frame.foldlSnd
    | ((with_reducible apply Frame.put_sett); · rfl)
    | dsimp only

theorem Block.startPower_frame x0 x1 : Frame 425553 x0 (Block.startPower x0 x1) := by
  unfold Block.startPower
  try extract_lets
  repeat' first
    | with_reducible assumption
    | with_reducible exact Frame.refl _ _
    | with_reducible apply Frame.ite
    | ((with_reducible apply Frame.via (Block.writePwrOff_frame _ _ _)); · rfl)
    | with_reducible exact Frame.snd (by assumption)
    | with_reducible refine Frame.pair2 (by assumption) ?_
    | with_reducible refine Frame.pair3 (by assumption) ?_
    | with_reducible refine Frame.pair4 (by assumption) ?_
    | (split <;> try extract_lets)
    | (dsimp +zetaDelta only; split <;> try extract_lets)

theorem Block.loadCoefs_frame x0 : Frame 513 x0 (Block.loadCoefs x0) := by
  unfold Block.loadCoefs
  try extract_lets
  repeat' first
    | with_reducible assumption
    | with_reducible exact Frame.refl _ _
    | (with_reducible intro _; try extract_lets)
    | with_reducible apply Frame.each
    | ((with_reducible apply Frame.via (Block.writeLogged_frame _ _ _)); · rfl)
    | with_reducible exact Frame.snd (by assumption)
    | with_reducible refine Frame.pair2 (by assumption) ?_
    | with_reducible refine Frame.pair3 (by assumption) ?_
    | with_reducible refine Frame.pair4 (by assumption) ?_
    | (split <;> try extract_lets)
    | (dsimp +zetaDelta only; split <;> try extract_lets)

theorem Block.loadGuards_frame x0 : Frame 1 x0 (Block.loadGuards x0) := by
  unfold Block.loadGuards
  try extract_lets
  repeat' first
    | with_reducible assumption
    | with_reducible exact Frame.refl _ _
    | (with_reducible intro _; try extract_lets)
    | with_reducible apply Frame.each
    | ((with_reducible apply Frame.via (Block.armGuard_frame _ _ _)); · rfl)
    | with_reducible exact Frame.snd (by assumption)
    | with_reducible refine Frame.pair2 (by assumption) ?_
    | with_reducible refine Frame.pair3 (by assumption) ?_
    | with_reducible refine Frame.pair4 (by assumption) ?_
    | (split <;> try extract_lets)
    | (dsimp +zetaDelta only; split <;> try extract_lets)

theorem Block.loadKey_frame x0 x1 x2 : Frame 1507193 x0 (Block.loadKey x0 x1 x2) := by
  unfold Block.loadKey
  try extract_lets
  repeat' first
    | with_reducible assumption
    | with_reducible exact Frame.refl _ _
    | with_reducible apply Frame.ite
    | ((with_reducible apply Frame.via (Block.writeReg_frame _ _ _ _)); · rfl)
    | ((with_reducible apply Frame.via (Block.commitEntry_frame _ _ _ _)); · rfl)
    | ((with_reducible apply Frame.via (Block.setCoef_frame _ _ _)); · rfl)
    | ((with_reducible apply Frame.via (Block.loadBank_frame _ _ _)); · rfl)
    | ((with_reducible apply Frame.via (Block.setOwlWin_frame _ _ _)); · rfl)
    | (split <;> try extract_lets)

theorem Block.loadRegisters_frame x0 : Frame 1507193 x0 (Block.loadRegisters x0) := by
  unfold Block.loadRegisters
  try extract_lets
  repeat' first
    | with_reducible assumption
    | with_reducible exact Frame.refl _ _
    | (with_reducible intro _; try extract_lets)
    | with_reducible apply Frame.ite
    | with_reducible apply Frame.each
    | ((with_reducible apply Frame.via (Block.loadKey_frame _ _ _)); · rfl)
    | (split <;> try extract_lets)

theorem Block.armStored_frame x0 x1 x2 : Frame 425745 x0 (Block.armStored x0 x1 x2) := by
  unfold Block.armStored
  try extract_lets
  repeat' first
    | with_reducible assumption
    | with_reducible exact Frame.refl _ _
    | (with_reducible intro _; try extract_lets)
    | with_reducible apply Frame.ite
    | ((with_reducible apply Frame.via (Block.setReg_frame _ _ _)); · rfl)
    | ((with_reducible apply Frame.via (Block.setPair_frame _ _ _ _)); · rfl)
    | ((with_reducible apply Frame.via (Block.writeSchCtl_frame _ _ _)); · rfl)
    | with_reducible exact Frame.snd (by assumption)
    | with_reducible refine Frame.pair2 (by assumption) ?_
    | with_reducible refine Frame.pair3 (by assumption) ?_
    | with_reducible refine Frame.pair4 (by assumption) ?_
    | (split <;> try extract_lets)
    | (dsimp +zetaDelta only; split <;> try extract_lets)

theorem Block.startFully_frame x0 x1 : Frame 2031481 x0 (Block.startFully x0 x1) := by
  unfold Block.startFully
  try extract_lets
  repeat' first
    | with_reducible assumption
    | with_reducible exact Frame.refl _ _
    | (with_reducible intro _; try extract_lets)
    | with_reducible apply Frame.each
    | with_reducible apply Frame.when
    | ((with_reducible apply Frame.via (Block.startStore_frame _ _)); · rfl)
    | ((with_reducible apply Frame.via (Block.loadKinds_frame _)); · rfl)
    | ((with_reducible apply Frame.via (Block.startPower_frame _ _)); · rfl)
    | ((with_reducible apply Frame.via (Block.loadCoefs_frame _)); · rfl)
    | ((with_reducible apply Frame.via (Block.readHoard_frame _)); · rfl)
    | ((with_reducible apply Frame.via (Block.loadGuards_frame _)); · rfl)
    | ((with_reducible apply Frame.via (Block.loadRegisters_frame _)); · rfl)
    | ((with_reducible apply Frame.via (Block.armStored_frame _ _ _)); · rfl)
    | ((with_reducible apply Frame.put_stock); · rfl)

theorem Block.writeBoot_frame x0 x1 : Frame 397329 x0 (Block.writeBoot x0 x1) := by
  unfold Block.writeBoot
  try extract_lets
  repeat' first
    | with_reducible assumption
    | with_reducible exact Frame.refl _ _
    | ((with_reducible apply Frame.via (Block.writeItem_frame _ _ _)); · rfl)

theorem Block.fallBack_frame x0 x1 : Frame 397329 x0 (Block.fallBack x0 x1) := by
  unfold Block.fallBack
  try extract_lets
  repeat' first
    | with_reducible assumption
    | with_reducible exact Frame.refl _ _
    | ((with_reducible apply Frame.via (Block.writeBoot_frame _ _)); · rfl)
    | ((with_reducible apply Frame.via (Block.raise_frame _ _ _)); · rfl)
    | ((with_reducible apply Frame.via (Block.put_frame _ _ _)); · rfl)

theorem Block.trySlots_frame x0 : Frame 397329 x0 (Block.trySlots x0).2 := by
  unfold Block.trySlots
  try extract_lets
  repeat' first
    | with_reducible assumption
    | with_reducible exact Frame.refl _ _
    | with_reducible apply Frame.ite
    | ((with_reducible apply Frame.via (Block.fallBack_frame _ _)); · rfl)
    | (split <;> try extract_lets)
    | dsimp only

theorem Block.tryStored_frame x0 : Frame 397329 x0 (Block.tryStored x0).2.2 := by
  exact Frame.snd2 (Block.trySlots_frame x0)

theorem Block.tryTrial_frame x0 x1 : Frame 397329 x0 (Block.tryTrial x0 x1).2.2 := by
  unfold Block.tryTrial
  split
  · exact Frame.snd2 (Frame.refl _ _)
  · exact Block.tryStored_frame x0

theorem Block.selectSlot_frame x0 : Frame 397329 x0 (Block.selectSlot x0).2.2 := by
  unfold Block.selectSlot
  try extract_lets
  repeat' first
    | with_reducible assumption
    | with_reducible exact Frame.refl _ _
    | with_reducible apply Frame.ite
    | ((with_reducible apply Frame.via (Block.tryTrial_frame _ _)); · rfl)
    | ((with_reducible apply Frame.via (Block.writeBoot_frame _ _)); · rfl)
    | ((with_reducible apply Frame.via (Block.tryStored_frame _)); · rfl)
    | ((with_reducible apply Frame.via (Block.raise_frame _ _ _)); · rfl)
    | ((with_reducible apply Frame.via (Block.put_frame _ _ _)); · rfl)
    | (split <;> try extract_lets)
    | dsimp only

theorem Block.showBoot_frame x0 x1 x2 : Frame 1 x0 (Block.showBoot x0 x1 x2) := by
  unfold Block.showBoot
  try extract_lets
  repeat' first
    | with_reducible assumption
    | with_reducible exact Frame.refl _ _
    | ((with_reducible apply Frame.via (Block.putB_frame _ _ _)); · rfl)
    | ((with_reducible apply Frame.via (Block.put_frame _ _ _)); · rfl)

theorem Block.loadPorts_frame x0 : Frame 1 x0 (Block.loadPorts x0) := by
  unfold Block.loadPorts
  try extract_lets
  repeat' first
    | with_reducible assumption
    | with_reducible exact Frame.refl _ _
    | (with_reducible intro _; try extract_lets)
    | with_reducible apply Frame.each
    | ((with_reducible apply Frame.via (Block.writePort_frame _ _ _ _ _)); · rfl)
    | with_reducible exact Frame.snd (by assumption)
    | with_reducible refine Frame.pair2 (by assumption) ?_
    | with_reducible refine Frame.pair3 (by assumption) ?_
    | with_reducible refine Frame.pair4 (by assumption) ?_
    | (split <;> try extract_lets)
    | (dsimp +zetaDelta only; split <;> try extract_lets)

theorem Block.factoryEnables_frame x0 x1 x2 : Frame 1 x0 (Block.factoryEnables x0 x1 x2) := by
  unfold Block.factoryEnables
  try extract_lets
  repeat' first
    | with_reducible assumption
    | with_reducible exact Frame.refl _ _
    | (with_reducible intro _; try extract_lets)
    | with_reducible apply Frame.each
    | ((with_reducible apply Frame.via (Block.setReg_frame _ _ _)); · rfl)

theorem Block.loadItems_frame x0 : Frame 17 x0 (Block.loadItems x0) := by
  unfold Block.loadItems
  try extract_lets
  repeat' first
    | with_reducible assumption
    | with_reducible exact Frame.refl _ _
    | (with_reducible intro _; try extract_lets)
    | with_reducible apply Frame.each
    | ((with_reducible apply Frame.via (Block.factoryEnables_frame _ _ _)); · rfl)
    | ((with_reducible apply Frame.via (Block.applyItem_frame _ _)); · rfl)
    | ((with_reducible apply Frame.via (Block.put_frame _ _ _)); · rfl)

theorem Block.startUp_frame x0 x1 : Frame 2031481 x0 (Block.startUp x0 x1) := by
  unfold Block.startUp
  try extract_lets
  repeat' first
    | with_reducible assumption
    | with_reducible exact Frame.refl _ _
    | (with_reducible intro _; try extract_lets)
    | with_reducible apply Frame.when
    | ((with_reducible apply Frame.via (Block.fwRaise_frame _ _ _)); · rfl)
    | ((with_reducible apply Frame.via (Block.loadPorts_frame _)); · rfl)
    | ((with_reducible apply Frame.via (Block.loadItems_frame _)); · rfl)
    | ((with_reducible apply Frame.via (Block.startFully_frame _ _)); · rfl)

theorem Block.loadAlways_frame x0 : Frame 17 x0 (Block.loadAlways x0) := by
  unfold Block.loadAlways
  try extract_lets
  repeat' first
    | with_reducible assumption
    | with_reducible exact Frame.refl _ _
    | ((with_reducible apply Frame.via (Block.put_frame _ _ _)); · rfl)
    | ((with_reducible apply Frame.via (Block.applyItem_frame _ _)); · rfl)

theorem Block.firmwareRuns_frame x0 x1 x2 : Frame 2031481 x0 (Block.firmwareRuns x0 x1 x2) := by
  unfold Block.firmwareRuns
  try extract_lets
  repeat' first
    | with_reducible assumption
    | with_reducible exact Frame.refl _ _
    | (with_reducible intro _; try extract_lets)
    | with_reducible apply Frame.ite
    | with_reducible apply Frame.each
    | ((with_reducible apply Frame.via (Block.put_frame _ _ _)); · rfl)
    | ((with_reducible apply Frame.via (Block.fwRaise_frame _ _ _)); · rfl)
    | ((with_reducible apply Frame.via (Block.startUp_frame _ _)); · rfl)
    | ((with_reducible apply Frame.via (Block.loadAlways_frame _)); · rfl)
    | ((with_reducible apply Frame.via (Block.applyItem_frame _ _)); · rfl)
    | ((with_reducible apply Frame.via (Block.trunkReturn_frame _ _)); · rfl)
    | ((with_reducible apply Frame.via (Block.life_frame _ _ _)); · rfl)
    | ((with_reducible apply Frame.via (Block.finishPacket_frame _ _ _ _ _)); · rfl)
    | ((with_reducible apply Frame.via (Block.restartCommit_frame _)); · rfl)
    | ((with_reducible apply Frame.put_den); · rfl)
    | with_reducible exact Frame.snd (by assumption)
    | with_reducible refine Frame.pair2 (by assumption) ?_
    | with_reducible refine Frame.pair3 (by assumption) ?_
    | with_reducible refine Frame.pair4 (by assumption) ?_
    | (split <;> try extract_lets)
    | (dsimp +zetaDelta only; split <;> try extract_lets)

theorem doBootSelect_frame x0 : Frame 2031481 x0 (doBootSelect x0) := by
  unfold doBootSelect
  try extract_lets
  repeat' first
    | with_reducible assumption
    | with_reducible exact Frame.refl _ _
    | with_reducible apply Frame.ite
    | ((with_reducible apply Frame.via (Block.selectSlot_frame _)); · rfl)
    | ((with_reducible apply Frame.via (Block.raise_frame _ _ _)); · rfl)
    | ((with_reducible apply Frame.via (Block.showBoot_frame _ _ _)); · rfl)
    | ((with_reducible apply Frame.via (Block.firmwareRuns_frame _ _ _)); · rfl)
    | ((with_reducible apply Frame.put_den); · rfl)
    | with_reducible exact Frame.snd (by assumption)
    | with_reducible refine Frame.pair2 (by assumption) ?_
    | with_reducible refine Frame.pair3 (by assumption) ?_
    | with_reducible refine Frame.pair4 (by assumption) ?_
    | (split <;> try extract_lets)
    | (dsimp +zetaDelta only; split <;> try extract_lets)

theorem Block.answerActivate_frame x0 x1 : Frame 16433 x0 (Block.answerActivate x0 x1) := by
  unfold Block.answerActivate
  try extract_lets
  repeat' first
    | with_reducible assumption
    | with_reducible exact Frame.refl _ _
    | ((with_reducible apply Frame.via (Block.finishPacket_frame _ _ _ _ _)); · rfl)
    | ((with_reducible apply Frame.put_den); · rfl)
    | with_reducible exact Frame.snd (by assumption)
    | with_reducible refine Frame.pair2 (by assumption) ?_
    | with_reducible refine Frame.pair3 (by assumption) ?_
    | with_reducible refine Frame.pair4 (by assumption) ?_
    | (split <;> try extract_lets)
    | (dsimp +zetaDelta only; split <;> try extract_lets)

theorem doFwConfirm_frame x0 : Frame 413753 x0 (doFwConfirm x0) := by
  unfold doFwConfirm
  try extract_lets
  repeat' first
    | with_reducible assumption
    | with_reducible exact Frame.refl _ _
    | with_reducible apply Frame.ite
    | ((with_reducible apply Frame.via (Block.showBoot_frame _ _ _)); · rfl)
    | ((with_reducible apply Frame.via (Block.writeBoot_frame _ _)); · rfl)
    | ((with_reducible apply Frame.via (Block.answerActivate_frame _ _)); · rfl)
    | ((with_reducible apply Frame.via (Block.fwRaise_frame _ _ _)); · rfl)
    | ((with_reducible apply Frame.put_den); · rfl)
    | (split <;> try extract_lets)

end Sys2Proof.Machine
end

