-- ==== Sys2Proof/Laws/FrameFoxNodes.lean ====
section
/-! SUPPORT. What each function of Machine/FoxNodes.lean may change. -/

namespace Sys2Proof.Machine

theorem doNop_frame x0 x1 : Frame 154641 x1 (doNop x0 x1) := by
  unfold doNop
  try extract_lets
  repeat' first
    | with_reducible assumption
    | with_reducible exact Frame.refl _ _
    | (with_reducible intro _; try extract_lets)
    | ((with_reducible apply Block.issue_frame); · rfl)
    | ((with_reducible apply Frame.via (Block.nextFx_frame _ _)); · rfl)

theorem Block.handover_frame x0 x1 : Frame 4097 x0 (Block.handover x0 x1) := by
  unfold Block.handover
  try extract_lets
  repeat' first
    | with_reducible assumption
    | with_reducible exact Frame.refl _ _
    | ((with_reducible apply Frame.via (Block.setPc_frame _ _ _)); · rfl)
    | ((with_reducible apply Frame.via (Block.put_frame _ _ _)); · rfl)
    | ((with_reducible apply Frame.via (Block.unhold_frame _ _)); · rfl)
    | ((with_reducible apply Frame.via (Block.setEngine_frame _ _ _)); · rfl)

theorem Block.waitFx_frame {m : Nat} {s0 : Block} (x0 : Block) (x1 : Nat) (x2 : Word) (x3 : List Nat) (x4 : Block → Block) (hm : subMask 154641 m = true) (h4 : (∀ t, Frame m s0 t → Frame m s0 (x4 t))) (h : Frame m s0 x0) : Frame m s0 (Block.waitFx x0 x1 x2 x3 x4) := by
  unfold Block.waitFx
  try extract_lets
  repeat' first
    | with_reducible assumption
    | (with_reducible intro _; try extract_lets)
    | with_reducible apply Frame.ite
    | ((with_reducible apply Block.issue_frame); · exact sub_trans rfl hm)
    | refine Frame.via (Block.handover_frame _ _) (sub_trans rfl hm) ?_
    | with_reducible apply h4
    | (split <;> try extract_lets)

theorem doWaitTimeout_frame x0 x1 : Frame 154641 x1 (doWaitTimeout x0 x1) := by
  unfold doWaitTimeout
  try extract_lets
  repeat' first
    | with_reducible assumption
    | with_reducible exact Frame.refl _ _
    | (with_reducible intro _; try extract_lets)
    | with_reducible apply Frame.ite
    | ((with_reducible apply Block.waitFx_frame); · rfl)
    | ((with_reducible apply Frame.via (Block.result_frame _ _ _ _)); · rfl)
    | with_reducible exact Frame.snd (by assumption)
    | with_reducible refine Frame.pair2 (by assumption) ?_
    | with_reducible refine Frame.pair3 (by assumption) ?_
    | with_reducible refine Frame.pair4 (by assumption) ?_
    | (split <;> try extract_lets)
    | (dsimp +zetaDelta only; split <;> try extract_lets)

theorem Block.fxSubmit_frame x0 x1 x2 x3 x4 x5 : Frame 425489 x0 (Block.fxSubmit x0 x1 x2 x3 x4 x5) := by
  unfold Block.fxSubmit
  try extract_lets
  repeat' first
    | with_reducible assumption
    | with_reducible exact Frame.refl _ _
    | ((with_reducible apply Frame.via (Block.submit_frame _ _)); · rfl)

theorem Block.nodeWriteV_frame x0 x1 x2 x3 x4 x5 x6 x7 : Frame 425489 x0 (Block.nodeWriteV x0 x1 x2 x3 x4 x5 x6 x7) := by
  unfold Block.nodeWriteV
  try extract_lets
  repeat' first
    | with_reducible assumption
    | with_reducible exact Frame.refl _ _
    | (with_reducible intro _; try extract_lets)
    | with_reducible apply Frame.ite
    | with_reducible apply Frame.each
    | ((with_reducible apply Block.issue_frame); · rfl)
    | ((with_reducible apply Frame.via (Block.nextFx_frame _ _)); · rfl)
    | ((with_reducible apply Frame.via (Block.fxSubmit_frame _ _ _ _ _ _)); · rfl)
    | ((with_reducible apply Frame.via (Block.holdFx_frame _ _)); · rfl)
    | (split <;> try extract_lets)

theorem doNodeIncv_frame x0 x1 x2 x3 x4 x5 : Frame 425489 x5 (doNodeIncv x0 x1 x2 x3 x4 x5) := by
  unfold doNodeIncv
  try extract_lets
  repeat' first
    | with_reducible assumption
    | with_reducible exact Frame.refl _ _
    | ((with_reducible apply Frame.via (Block.nodeWriteV_frame _ _ _ _ _ _ _ _)); · rfl)

theorem doSync_frame x0 x1 : Frame 154641 x1 (doSync x0 x1) := by
  unfold doSync
  try extract_lets
  repeat' first
    | with_reducible assumption
    | with_reducible exact Frame.refl _ _
    | (with_reducible intro _; try extract_lets)
    | with_reducible apply Frame.ite
    | ((with_reducible apply Block.issue_frame); · rfl)
    | ((with_reducible apply Frame.via (Block.nextFx_frame _ _)); · rfl)
    | ((with_reducible apply Frame.via (Block.holdFx_frame _ _)); · rfl)
    | (split <;> try extract_lets)

theorem doNodeWrv_frame x0 x1 x2 x3 x4 x5 : Frame 425489 x5 (doNodeWrv x0 x1 x2 x3 x4 x5) := by
  unfold doNodeWrv
  try extract_lets
  repeat' first
    | with_reducible assumption
    | with_reducible exact Frame.refl _ _
    | ((with_reducible apply Frame.via (Block.nodeWriteV_frame _ _ _ _ _ _ _ _)); · rfl)

theorem Block.nodeWrite_frame x0 x1 x2 x3 x4 x5 : Frame 425489 x0 (Block.nodeWrite x0 x1 x2 x3 x4 x5) := by
  unfold Block.nodeWrite
  try extract_lets
  repeat' first
    | with_reducible assumption
    | with_reducible exact Frame.refl _ _
    | (with_reducible intro _; try extract_lets)
    | with_reducible apply Frame.ite
    | ((with_reducible apply Block.issue_frame); · rfl)
    | ((with_reducible apply Frame.via (Block.nextFx_frame _ _)); · rfl)
    | ((with_reducible apply Frame.via (Block.fxSubmit_frame _ _ _ _ _ _)); · rfl)
    | ((with_reducible apply Frame.via (Block.holdFx_frame _ _)); · rfl)
    | (split <;> try extract_lets)

theorem doNodeWr_frame x0 x1 x2 x3 : Frame 425489 x3 (doNodeWr x0 x1 x2 x3) := by
  unfold doNodeWr
  try extract_lets
  repeat' first
    | with_reducible assumption
    | with_reducible exact Frame.refl _ _
    | ((with_reducible apply Frame.via (Block.nodeWrite_frame _ _ _ _ _ _)); · rfl)

theorem Block.holdWait_frame x0 x1 : Frame 4097 x0 (Block.holdWait x0 x1) := by
  unfold Block.holdWait
  try extract_lets
  repeat' first
    | with_reducible assumption
    | with_reducible exact Frame.refl _ _
    | with_reducible apply Frame.ite
    | ((with_reducible apply Frame.via (Block.handover_frame _ _)); · rfl)
    | ((with_reducible apply Frame.via (Block.holdFx_frame _ _)); · rfl)
    | (split <;> try extract_lets)

theorem doWaitLine_frame x0 x1 x2 x3 x4 : Frame 154641 x4 (doWaitLine x0 x1 x2 x3 x4) := by
  unfold doWaitLine
  try extract_lets
  repeat' first
    | with_reducible assumption
    | with_reducible exact Frame.refl _ _
    | (with_reducible intro _; try extract_lets)
    | with_reducible apply Frame.ite
    | ((with_reducible apply Block.waitFx_frame); · rfl)
    | ((with_reducible apply Frame.via (Block.result_frame _ _ _ _)); · rfl)
    | ((with_reducible apply Frame.via (Block.holdWait_frame _ _)); · rfl)
    | with_reducible exact Frame.snd (by assumption)
    | with_reducible refine Frame.pair2 (by assumption) ?_
    | with_reducible refine Frame.pair3 (by assumption) ?_
    | with_reducible refine Frame.pair4 (by assumption) ?_
    | (split <;> try extract_lets)
    | (dsimp +zetaDelta only; split <;> try extract_lets)

theorem Block.nodePend_frame x0 x1 x2 x3 x4 : Frame 425489 x0 (Block.nodePend x0 x1 x2 x3 x4) := by
  unfold Block.nodePend
  try extract_lets
  repeat' first
    | with_reducible assumption
    | with_reducible exact Frame.refl _ _
    | with_reducible apply Frame.ite
    | ((with_reducible apply Frame.via (Block.setEngine_frame _ _ _)); · rfl)
    | ((with_reducible apply Frame.via (Block.nextFx_frame _ _)); · rfl)
    | ((with_reducible apply Frame.via (Block.fxSubmit_frame _ _ _ _ _ _)); · rfl)
    | (split <;> try extract_lets)

theorem doHalt_frame x0 x1 : Frame 154641 x1 (doHalt x0 x1) := by
  unfold doHalt
  try extract_lets
  repeat' first
    | with_reducible assumption
    | with_reducible exact Frame.refl _ _
    | (with_reducible intro _; try extract_lets)
    | with_reducible apply Frame.ite
    | ((with_reducible apply Block.issue_frame); · rfl)
    | ((with_reducible apply Frame.via (Block.offFx_frame _ _ _)); · rfl)
    | ((with_reducible apply Frame.via (Block.setPc_frame _ _ _)); · rfl)
    | ((with_reducible apply Frame.via (Block.raise_frame _ _ _)); · rfl)
    | ((with_reducible apply Frame.via (Block.put_frame _ _ _)); · rfl)
    | ((with_reducible apply Frame.via (Block.setEngine_frame _ _ _)); · rfl)
    | ((with_reducible apply Frame.via (Block.holdFx_frame _ _)); · rfl)
    | (split <;> try extract_lets)

theorem doStepArmOpen_frame x0 x1 x2 x3 x4 x5 : Frame 154641 x5 (doStepArmOpen x0 x1 x2 x3 x4 x5) := by
  unfold doStepArmOpen
  try extract_lets
  repeat' first
    | with_reducible assumption
    | with_reducible exact Frame.refl _ _
    | (with_reducible intro _; try extract_lets)
    | with_reducible apply Frame.ite
    | ((with_reducible apply Block.issue_frame); · rfl)
    | ((with_reducible apply Frame.via (Block.holdFx_frame _ _)); · rfl)
    | ((with_reducible apply Frame.via (Block.result_frame _ _ _ _)); · rfl)
    | ((with_reducible apply Frame.via (Block.openStep_frame _ _ _ _ _ _ _)); · rfl)
    | with_reducible exact Frame.snd (by assumption)
    | with_reducible refine Frame.pair2 (by assumption) ?_
    | with_reducible refine Frame.pair3 (by assumption) ?_
    | with_reducible refine Frame.pair4 (by assumption) ?_
    | (split <;> try extract_lets)
    | (dsimp +zetaDelta only; split <;> try extract_lets)

theorem doWaitSignal_frame x0 x1 x2 x3 : Frame 154641 x3 (doWaitSignal x0 x1 x2 x3) := by
  unfold doWaitSignal
  try extract_lets
  repeat' first
    | with_reducible assumption
    | with_reducible exact Frame.refl _ _
    | (with_reducible intro _; try extract_lets)
    | with_reducible apply Frame.ite
    | ((with_reducible apply Block.waitFx_frame); · rfl)
    | ((with_reducible apply Frame.via (Block.result_frame _ _ _ _)); · rfl)
    | ((with_reducible apply Frame.via (Block.put_frame _ _ _)); · rfl)
    | ((with_reducible apply Frame.via (Block.holdWait_frame _ _)); · rfl)
    | (split <;> try extract_lets)

theorem Block.waitInstant_frame x0 x1 x2 x3 x4 x5 x6 : Frame 154641 x0 (Block.waitInstant x0 x1 x2 x3 x4 x5 x6) := by
  unfold Block.waitInstant
  try extract_lets
  repeat' first
    | with_reducible assumption
    | with_reducible exact Frame.refl _ _
    | (with_reducible intro _; try extract_lets)
    | with_reducible apply Frame.ite
    | ((with_reducible apply Block.waitFx_frame); · rfl)
    | ((with_reducible apply Frame.via (Block.result_frame _ _ _ _)); · rfl)
    | ((with_reducible apply Frame.via (Block.holdWait_frame _ _)); · rfl)
    | (split <;> try extract_lets)

theorem doNodeFence_frame x0 x1 x2 : Frame 154641 x2 (doNodeFence x0 x1 x2) := by
  unfold doNodeFence
  try extract_lets
  repeat' first
    | with_reducible assumption
    | with_reducible exact Frame.refl _ _
    | (with_reducible intro _; try extract_lets)
    | with_reducible apply Frame.ite
    | ((with_reducible apply Block.issue_frame); · rfl)
    | ((with_reducible apply Frame.via (Block.result_frame _ _ _ _)); · rfl)
    | ((with_reducible apply Frame.via (Block.setEngine_frame _ _ _)); · rfl)
    | ((with_reducible apply Frame.via (Block.holdFx_frame _ _)); · rfl)
    | with_reducible exact Frame.snd (by assumption)
    | with_reducible refine Frame.pair2 (by assumption) ?_
    | with_reducible refine Frame.pair3 (by assumption) ?_
    | with_reducible refine Frame.pair4 (by assumption) ?_
    | (split <;> try extract_lets)
    | (dsimp +zetaDelta only; split <;> try extract_lets)

theorem doWaitLocal_frame x0 x1 x2 x3 x4 : Frame 154641 x4 (doWaitLocal x0 x1 x2 x3 x4) := by
  unfold doWaitLocal
  try extract_lets
  repeat' first
    | with_reducible assumption
    | with_reducible exact Frame.refl _ _
    | (with_reducible intro _; try extract_lets)
    | ((with_reducible apply Frame.via (Block.waitInstant_frame _ _ _ _ _ _ _)); · rfl)

theorem doWaitEvent_frame x0 x1 x2 x3 x4 : Frame 154641 x4 (doWaitEvent x0 x1 x2 x3 x4) := by
  unfold doWaitEvent
  try extract_lets
  repeat' first
    | with_reducible assumption
    | with_reducible exact Frame.refl _ _
    | (with_reducible intro _; try extract_lets)
    | with_reducible apply Frame.ite
    | ((with_reducible apply Block.waitFx_frame); · rfl)
    | ((with_reducible apply Frame.via (Block.holdWait_frame _ _)); · rfl)
    | ((with_reducible apply Frame.via (Block.result_frame _ _ _ _)); · rfl)
    | ((with_reducible apply Frame.via (Block.setEngine_frame _ _ _)); · rfl)
    | (split <;> try extract_lets)

theorem doStepArmSeal_frame x0 x1 x2 x3 : Frame 154641 x3 (doStepArmSeal x0 x1 x2 x3) := by
  unfold doStepArmSeal
  try extract_lets
  repeat' first
    | with_reducible assumption
    | with_reducible exact Frame.refl _ _
    | (with_reducible intro _; try extract_lets)
    | with_reducible apply Frame.ite
    | ((with_reducible apply Block.issue_frame); · rfl)
    | ((with_reducible apply Frame.via (Block.result_frame _ _ _ _)); · rfl)
    | ((with_reducible apply Frame.via (Block.holdFx_frame _ _)); · rfl)
    | ((with_reducible apply Frame.via (Block.sealNow_frame _ _)); · rfl)
    | with_reducible exact Frame.snd (by assumption)
    | with_reducible refine Frame.pair2 (by assumption) ?_
    | with_reducible refine Frame.pair3 (by assumption) ?_
    | with_reducible refine Frame.pair4 (by assumption) ?_
    | (split <;> try extract_lets)
    | (dsimp +zetaDelta only; split <;> try extract_lets)

theorem doStepArmStatus_frame x0 x1 x2 x3 : Frame 154641 x3 (doStepArmStatus x0 x1 x2 x3) := by
  unfold doStepArmStatus
  try extract_lets
  repeat' first
    | with_reducible assumption
    | with_reducible exact Frame.refl _ _
    | (with_reducible intro _; try extract_lets)
    | ((with_reducible apply Block.issue_frame); · rfl)
    | ((with_reducible apply Frame.via (Block.result_frame _ _ _ _)); · rfl)

theorem doStepArmCancel_frame x0 x1 x2 x3 : Frame 154641 x3 (doStepArmCancel x0 x1 x2 x3) := by
  unfold doStepArmCancel
  try extract_lets
  repeat' first
    | with_reducible assumption
    | with_reducible exact Frame.refl _ _
    | (with_reducible intro _; try extract_lets)
    | with_reducible apply Frame.ite
    | ((with_reducible apply Block.issue_frame); · rfl)
    | ((with_reducible apply Frame.via (Block.result_frame _ _ _ _)); · rfl)
    | ((with_reducible apply Frame.via (Block.cancelStep_frame _ _ _)); · rfl)
    | (split <;> try extract_lets)

theorem doGets_frame x0 x1 x2 x3 : Frame 154641 x3 (doGets x0 x1 x2 x3) := by
  unfold doGets
  try extract_lets
  repeat' first
    | with_reducible assumption
    | with_reducible exact Frame.refl _ _
    | (with_reducible intro _; try extract_lets)
    | with_reducible apply Frame.ite
    | ((with_reducible apply Block.issue_frame); · rfl)
    | ((with_reducible apply Frame.via (Block.setEngine_frame _ _ _)); · rfl)
    | ((with_reducible apply Frame.via (Block.result_frame _ _ _ _)); · rfl)
    | (split <;> try extract_lets)

theorem doNodeRd_frame x0 x1 x2 x3 x4 : Frame 425489 x4 (doNodeRd x0 x1 x2 x3 x4) := by
  unfold doNodeRd
  try extract_lets
  repeat' first
    | with_reducible assumption
    | with_reducible exact Frame.refl _ _
    | (with_reducible intro _; try extract_lets)
    | with_reducible apply Frame.ite
    | ((with_reducible apply Block.issue_frame); · rfl)
    | ((with_reducible apply Frame.via (Block.nodePend_frame _ _ _ _ _)); · rfl)
    | ((with_reducible apply Frame.via (Block.holdFx_frame _ _)); · rfl)
    | (split <;> try extract_lets)

theorem doNodeSense_frame x0 x1 x2 x3 x4 : Frame 425489 x4 (doNodeSense x0 x1 x2 x3 x4) := by
  unfold doNodeSense
  try extract_lets
  repeat' first
    | with_reducible assumption
    | with_reducible exact Frame.refl _ _
    | (with_reducible intro _; try extract_lets)
    | with_reducible apply Frame.ite
    | ((with_reducible apply Block.issue_frame); · rfl)
    | ((with_reducible apply Frame.via (Block.nodePend_frame _ _ _ _ _)); · rfl)
    | ((with_reducible apply Frame.via (Block.holdFx_frame _ _)); · rfl)
    | (split <;> try extract_lets)

theorem doStepArmArm_frame x0 x1 x2 x3 x4 : Frame 425489 x4 (doStepArmArm x0 x1 x2 x3 x4) := by
  unfold doStepArmArm
  try extract_lets
  repeat' first
    | with_reducible assumption
    | with_reducible exact Frame.refl _ _
    | (with_reducible intro _; try extract_lets)
    | with_reducible apply Frame.ite
    | ((with_reducible apply Block.issue_frame); · rfl)
    | ((with_reducible apply Frame.via (Block.result_frame _ _ _ _)); · rfl)
    | ((with_reducible apply Frame.via (Block.submit_frame _ _)); · rfl)
    | ((with_reducible apply Frame.via (Block.holdFx_frame _ _)); · rfl)
    | (split <;> try extract_lets)

theorem doWaitMains_frame x0 x1 x2 x3 x4 : Frame 154641 x4 (doWaitMains x0 x1 x2 x3 x4) := by
  unfold doWaitMains
  try extract_lets
  repeat' first
    | with_reducible assumption
    | with_reducible exact Frame.refl _ _
    | (with_reducible intro _; try extract_lets)
    | ((with_reducible apply Frame.via (Block.waitInstant_frame _ _ _ _ _ _ _)); · rfl)

theorem doQfPut_frame x0 x1 x2 x3 x4 : Frame 744465 x4 (doQfPut x0 x1 x2 x3 x4) := by
  unfold doQfPut
  try extract_lets
  repeat' first
    | with_reducible assumption
    | with_reducible exact Frame.refl _ _
    | (with_reducible intro _; try extract_lets)
    | with_reducible apply Frame.ite
    | ((with_reducible apply Block.issue_frame); · rfl)
    | ((with_reducible apply Frame.via (Block.faultFx_frame _ _ _)); · rfl)
    | ((with_reducible apply Frame.via (Block.setDom_frame _ _ _)); · rfl)
    | ((with_reducible apply Frame.via (Block.pushRing_frame _ _ _)); · rfl)
    | ((with_reducible apply Frame.via (Block.offerQf_frame _ _)); · rfl)
    | ((with_reducible apply Frame.via (Block.nextFx_frame _ _)); · rfl)
    | ((with_reducible apply Frame.via (Block.raise_frame _ _ _)); · rfl)
    | (split <;> try extract_lets)

theorem doNodeInc_frame x0 x1 x2 x3 : Frame 425489 x3 (doNodeInc x0 x1 x2 x3) := by
  unfold doNodeInc
  try extract_lets
  repeat' first
    | with_reducible assumption
    | with_reducible exact Frame.refl _ _
    | ((with_reducible apply Frame.via (Block.nodeWrite_frame _ _ _ _ _ _)); · rfl)

end Sys2Proof.Machine
end

