-- ==== Sys2Proof/Laws/FrameFoxVector.lean ====
section
/-! SUPPORT. What each function of Machine/FoxVector.lean may change. -/

namespace Sys2Proof.Machine

theorem Block.vectorOp_frame x0 x1 x2 x3 x4 x5 x6 : Frame 154641 x0 (Block.vectorOp x0 x1 x2 x3 x4 x5 x6) := by
  unfold Block.vectorOp
  try extract_lets
  repeat' first
    | with_reducible assumption
    | with_reducible exact Frame.refl _ _
    | (with_reducible intro _; try extract_lets)
    | ((with_reducible apply Block.issue_frame); · rfl)
    | ((with_reducible apply Frame.via (Block.nextFx_frame _ _)); · rfl)
    | ((with_reducible apply Frame.via (Block.setVx_frame _ _ _ _)); · rfl)

theorem doVsub_frame x0 x1 x2 x3 x4 : Frame 154641 x4 (doVsub x0 x1 x2 x3 x4) := by
  unfold doVsub
  try extract_lets
  repeat' first
    | with_reducible assumption
    | with_reducible exact Frame.refl _ _
    | (with_reducible intro _; try extract_lets)
    | ((with_reducible apply Frame.via (Block.vectorOp_frame _ _ _ _ _ _ _)); · rfl)

theorem doVand_frame x0 x1 x2 x3 x4 : Frame 154641 x4 (doVand x0 x1 x2 x3 x4) := by
  unfold doVand
  try extract_lets
  repeat' first
    | with_reducible assumption
    | with_reducible exact Frame.refl _ _
    | (with_reducible intro _; try extract_lets)
    | ((with_reducible apply Frame.via (Block.vectorOp_frame _ _ _ _ _ _ _)); · rfl)

theorem doVidx_frame x0 x1 x2 : Frame 154641 x2 (doVidx x0 x1 x2) := by
  unfold doVidx
  try extract_lets
  repeat' first
    | with_reducible assumption
    | with_reducible exact Frame.refl _ _
    | (with_reducible intro _; try extract_lets)
    | ((with_reducible apply Block.issue_frame); · rfl)
    | ((with_reducible apply Frame.via (Block.nextFx_frame _ _)); · rfl)
    | ((with_reducible apply Frame.via (Block.setVx_frame _ _ _ _)); · rfl)

theorem doVclamp_frame x0 x1 x2 x3 x4 : Frame 154641 x4 (doVclamp x0 x1 x2 x3 x4) := by
  unfold doVclamp
  try extract_lets
  repeat' first
    | with_reducible assumption
    | with_reducible exact Frame.refl _ _
    | (with_reducible intro _; try extract_lets)
    | with_reducible apply Frame.ite
    | ((with_reducible apply Frame.via (Block.vectorOp_frame _ _ _ _ _ _ _)); · rfl)
    | (split <;> try extract_lets)

theorem Block.setAcc_frame x0 x1 x2 x3 : Frame 154641 x0 (Block.setAcc x0 x1 x2 x3) := by
  unfold Block.setAcc
  try extract_lets
  repeat' first
    | with_reducible assumption
    | with_reducible exact Frame.refl _ _
    | (with_reducible intro _; try extract_lets)
    | with_reducible apply Frame.ite
    | ((with_reducible apply Frame.via (Block.put_frame _ _ _)); · rfl)
    | ((with_reducible apply Frame.via (Block.nextFx_frame _ _)); · rfl)
    | ((with_reducible apply Frame.via (Block.setAx_frame _ _ _ _)); · rfl)
    | (split <;> try extract_lets)

theorem Block.accOp_frame x0 x1 x2 x3 x4 x5 x6 : Frame 154641 x0 (Block.accOp x0 x1 x2 x3 x4 x5 x6) := by
  unfold Block.accOp
  try extract_lets
  repeat' first
    | with_reducible assumption
    | with_reducible exact Frame.refl _ _
    | (with_reducible intro _; try extract_lets)
    | ((with_reducible apply Block.issue_frame); · rfl)
    | ((with_reducible apply Frame.via (Block.setAcc_frame _ _ _ _)); · rfl)

theorem doAmac_frame x0 x1 x2 x3 x4 : Frame 154641 x4 (doAmac x0 x1 x2 x3 x4) := by
  unfold doAmac
  try extract_lets
  repeat' first
    | with_reducible assumption
    | with_reducible exact Frame.refl _ _
    | (with_reducible intro _; try extract_lets)
    | ((with_reducible apply Frame.via (Block.accOp_frame _ _ _ _ _ _ _)); · rfl)

theorem doVsplat_frame x0 x1 x2 x3 : Frame 154641 x3 (doVsplat x0 x1 x2 x3) := by
  unfold doVsplat
  try extract_lets
  repeat' first
    | with_reducible assumption
    | with_reducible exact Frame.refl _ _
    | (with_reducible intro _; try extract_lets)
    | ((with_reducible apply Block.issue_frame); · rfl)
    | ((with_reducible apply Frame.via (Block.nextFx_frame _ _)); · rfl)
    | ((with_reducible apply Frame.via (Block.setVx_frame _ _ _ _)); · rfl)

theorem doVxor_frame x0 x1 x2 x3 x4 : Frame 154641 x4 (doVxor x0 x1 x2 x3 x4) := by
  unfold doVxor
  try extract_lets
  repeat' first
    | with_reducible assumption
    | with_reducible exact Frame.refl _ _
    | (with_reducible intro _; try extract_lets)
    | ((with_reducible apply Frame.via (Block.vectorOp_frame _ _ _ _ _ _ _)); · rfl)

theorem doVmul_frame x0 x1 x2 x3 x4 : Frame 154641 x4 (doVmul x0 x1 x2 x3 x4) := by
  unfold doVmul
  try extract_lets
  repeat' first
    | with_reducible assumption
    | with_reducible exact Frame.refl _ _
    | (with_reducible intro _; try extract_lets)
    | ((with_reducible apply Frame.via (Block.vectorOp_frame _ _ _ _ _ _ _)); · rfl)

theorem doAclr_frame x0 x1 x2 : Frame 154641 x2 (doAclr x0 x1 x2) := by
  unfold doAclr
  try extract_lets
  repeat' first
    | with_reducible assumption
    | with_reducible exact Frame.refl _ _
    | (with_reducible intro _; try extract_lets)
    | ((with_reducible apply Frame.via (Block.accOp_frame _ _ _ _ _ _ _)); · rfl)

theorem doVext_frame x0 x1 x2 x3 x4 : Frame 154641 x4 (doVext x0 x1 x2 x3 x4) := by
  unfold doVext
  try extract_lets
  repeat' first
    | with_reducible assumption
    | with_reducible exact Frame.refl _ _
    | (with_reducible intro _; try extract_lets)
    | ((with_reducible apply Block.issue_frame); · rfl)
    | ((with_reducible apply Frame.via (Block.result_frame _ _ _ _)); · rfl)

theorem Block.vectorShift_frame x0 x1 x2 x3 x4 x5 x6 : Frame 154641 x0 (Block.vectorShift x0 x1 x2 x3 x4 x5 x6) := by
  unfold Block.vectorShift
  try extract_lets
  repeat' first
    | with_reducible assumption
    | with_reducible exact Frame.refl _ _
    | (with_reducible intro _; try extract_lets)
    | ((with_reducible apply Block.issue_frame); · rfl)
    | ((with_reducible apply Frame.via (Block.nextFx_frame _ _)); · rfl)
    | ((with_reducible apply Frame.via (Block.setVx_frame _ _ _ _)); · rfl)

theorem doVshl_frame x0 x1 x2 x3 x4 : Frame 154641 x4 (doVshl x0 x1 x2 x3 x4) := by
  unfold doVshl
  try extract_lets
  repeat' first
    | with_reducible assumption
    | with_reducible exact Frame.refl _ _
    | (with_reducible intro _; try extract_lets)
    | ((with_reducible apply Frame.via (Block.vectorShift_frame _ _ _ _ _ _ _)); · rfl)

theorem doVadds_frame x0 x1 x2 x3 x4 : Frame 154641 x4 (doVadds x0 x1 x2 x3 x4) := by
  unfold doVadds
  try extract_lets
  repeat' first
    | with_reducible assumption
    | with_reducible exact Frame.refl _ _
    | (with_reducible intro _; try extract_lets)
    | ((with_reducible apply Frame.via (Block.vectorOp_frame _ _ _ _ _ _ _)); · rfl)

theorem doVsar_frame x0 x1 x2 x3 x4 : Frame 154641 x4 (doVsar x0 x1 x2 x3 x4) := by
  unfold doVsar
  try extract_lets
  repeat' first
    | with_reducible assumption
    | with_reducible exact Frame.refl _ _
    | (with_reducible intro _; try extract_lets)
    | ((with_reducible apply Frame.via (Block.vectorShift_frame _ _ _ _ _ _ _)); · rfl)

theorem doVceq_frame x0 x1 x2 x3 x4 : Frame 154641 x4 (doVceq x0 x1 x2 x3 x4) := by
  unfold doVceq
  try extract_lets
  repeat' first
    | with_reducible assumption
    | with_reducible exact Frame.refl _ _
    | (with_reducible intro _; try extract_lets)
    | ((with_reducible apply Frame.via (Block.vectorOp_frame _ _ _ _ _ _ _)); · rfl)

theorem doAaddv_frame x0 x1 x2 x3 : Frame 154641 x3 (doAaddv x0 x1 x2 x3) := by
  unfold doAaddv
  try extract_lets
  repeat' first
    | with_reducible assumption
    | with_reducible exact Frame.refl _ _
    | (with_reducible intro _; try extract_lets)
    | ((with_reducible apply Frame.via (Block.accOp_frame _ _ _ _ _ _ _)); · rfl)

theorem doVadd_frame x0 x1 x2 x3 x4 : Frame 154641 x4 (doVadd x0 x1 x2 x3 x4) := by
  unfold doVadd
  try extract_lets
  repeat' first
    | with_reducible assumption
    | with_reducible exact Frame.refl _ _
    | (with_reducible intro _; try extract_lets)
    | ((with_reducible apply Frame.via (Block.vectorOp_frame _ _ _ _ _ _ _)); · rfl)

theorem doVins_frame x0 x1 x2 x3 x4 : Frame 154641 x4 (doVins x0 x1 x2 x3 x4) := by
  unfold doVins
  try extract_lets
  repeat' first
    | with_reducible assumption
    | with_reducible exact Frame.refl _ _
    | (with_reducible intro _; try extract_lets)
    | with_reducible apply Frame.ite
    | ((with_reducible apply Block.issue_frame); · rfl)
    | ((with_reducible apply Frame.via (Block.nextFx_frame _ _)); · rfl)
    | ((with_reducible apply Frame.via (Block.setVx_frame _ _ _ _)); · rfl)
    | (split <;> try extract_lets)

theorem doVmax_frame x0 x1 x2 x3 x4 : Frame 154641 x4 (doVmax x0 x1 x2 x3 x4) := by
  unfold doVmax
  try extract_lets
  repeat' first
    | with_reducible assumption
    | with_reducible exact Frame.refl _ _
    | (with_reducible intro _; try extract_lets)
    | with_reducible apply Frame.ite
    | ((with_reducible apply Frame.via (Block.vectorOp_frame _ _ _ _ _ _ _)); · rfl)
    | (split <;> try extract_lets)

theorem doAmacs_frame x0 x1 x2 x3 x4 : Frame 154641 x4 (doAmacs x0 x1 x2 x3 x4) := by
  unfold doAmacs
  try extract_lets
  repeat' first
    | with_reducible assumption
    | with_reducible exact Frame.refl _ _
    | (with_reducible intro _; try extract_lets)
    | ((with_reducible apply Block.issue_frame); · rfl)
    | ((with_reducible apply Frame.via (Block.setAcc_frame _ _ _ _)); · rfl)

theorem doVsel_frame x0 x1 x2 x3 x4 : Frame 154641 x4 (doVsel x0 x1 x2 x3 x4) := by
  unfold doVsel
  try extract_lets
  repeat' first
    | with_reducible assumption
    | with_reducible exact Frame.refl _ _
    | (with_reducible intro _; try extract_lets)
    | ((with_reducible apply Frame.via (Block.vectorOp_frame _ _ _ _ _ _ _)); · rfl)

theorem doVor_frame x0 x1 x2 x3 x4 : Frame 154641 x4 (doVor x0 x1 x2 x3 x4) := by
  unfold doVor
  try extract_lets
  repeat' first
    | with_reducible assumption
    | with_reducible exact Frame.refl _ _
    | (with_reducible intro _; try extract_lets)
    | ((with_reducible apply Frame.via (Block.vectorOp_frame _ _ _ _ _ _ _)); · rfl)

theorem doAldv_frame x0 x1 x2 x3 : Frame 154641 x3 (doAldv x0 x1 x2 x3) := by
  unfold doAldv
  try extract_lets
  repeat' first
    | with_reducible assumption
    | with_reducible exact Frame.refl _ _
    | (with_reducible intro _; try extract_lets)
    | ((with_reducible apply Frame.via (Block.accOp_frame _ _ _ _ _ _ _)); · rfl)

theorem doAmsu_frame x0 x1 x2 x3 x4 : Frame 154641 x4 (doAmsu x0 x1 x2 x3 x4) := by
  unfold doAmsu
  try extract_lets
  repeat' first
    | with_reducible assumption
    | with_reducible exact Frame.refl _ _
    | (with_reducible intro _; try extract_lets)
    | ((with_reducible apply Frame.via (Block.accOp_frame _ _ _ _ _ _ _)); · rfl)

theorem doVsubs_frame x0 x1 x2 x3 x4 : Frame 154641 x4 (doVsubs x0 x1 x2 x3 x4) := by
  unfold doVsubs
  try extract_lets
  repeat' first
    | with_reducible assumption
    | with_reducible exact Frame.refl _ _
    | (with_reducible intro _; try extract_lets)
    | ((with_reducible apply Frame.via (Block.vectorOp_frame _ _ _ _ _ _ _)); · rfl)

theorem doAout_frame x0 x1 x2 x3 x4 : Frame 154641 x4 (doAout x0 x1 x2 x3 x4) := by
  unfold doAout
  try extract_lets
  repeat' first
    | with_reducible assumption
    | with_reducible exact Frame.refl _ _
    | (with_reducible intro _; try extract_lets)
    | ((with_reducible apply Block.issue_frame); · rfl)
    | ((with_reducible apply Frame.via (Block.nextFx_frame _ _)); · rfl)
    | ((with_reducible apply Frame.via (Block.setVx_frame _ _ _ _)); · rfl)

theorem doVmulq_frame x0 x1 x2 x3 x4 : Frame 154641 x4 (doVmulq x0 x1 x2 x3 x4) := by
  unfold doVmulq
  try extract_lets
  repeat' first
    | with_reducible assumption
    | with_reducible exact Frame.refl _ _
    | (with_reducible intro _; try extract_lets)
    | ((with_reducible apply Frame.via (Block.vectorOp_frame _ _ _ _ _ _ _)); · rfl)

theorem doVclt_frame x0 x1 x2 x3 x4 : Frame 154641 x4 (doVclt x0 x1 x2 x3 x4) := by
  unfold doVclt
  try extract_lets
  repeat' first
    | with_reducible assumption
    | with_reducible exact Frame.refl _ _
    | (with_reducible intro _; try extract_lets)
    | ((with_reducible apply Frame.via (Block.vectorOp_frame _ _ _ _ _ _ _)); · rfl)

theorem doAmul_frame x0 x1 x2 x3 x4 : Frame 154641 x4 (doAmul x0 x1 x2 x3 x4) := by
  unfold doAmul
  try extract_lets
  repeat' first
    | with_reducible assumption
    | with_reducible exact Frame.refl _ _
    | (with_reducible intro _; try extract_lets)
    | ((with_reducible apply Frame.via (Block.accOp_frame _ _ _ _ _ _ _)); · rfl)

theorem doVmin_frame x0 x1 x2 x3 x4 : Frame 154641 x4 (doVmin x0 x1 x2 x3 x4) := by
  unfold doVmin
  try extract_lets
  repeat' first
    | with_reducible assumption
    | with_reducible exact Frame.refl _ _
    | (with_reducible intro _; try extract_lets)
    | with_reducible apply Frame.ite
    | ((with_reducible apply Frame.via (Block.vectorOp_frame _ _ _ _ _ _ _)); · rfl)
    | (split <;> try extract_lets)

theorem doAsum_frame x0 x1 x2 x3 x4 : Frame 154641 x4 (doAsum x0 x1 x2 x3 x4) := by
  unfold doAsum
  try extract_lets
  repeat' first
    | with_reducible assumption
    | with_reducible exact Frame.refl _ _
    | (with_reducible intro _; try extract_lets)
    | with_reducible apply Frame.foldl
    | with_reducible apply Frame.foldlFst
    | with_reducible apply Frame.foldlSnd
    | ((with_reducible apply Block.issue_frame); · rfl)
    | ((with_reducible apply Frame.via (Block.result_frame _ _ _ _)); · rfl)
    | dsimp only

theorem doVsum_frame x0 x1 x2 x3 : Frame 154641 x3 (doVsum x0 x1 x2 x3) := by
  unfold doVsum
  try extract_lets
  repeat' first
    | with_reducible assumption
    | with_reducible exact Frame.refl _ _
    | (with_reducible intro _; try extract_lets)
    | with_reducible apply Frame.foldl
    | with_reducible apply Frame.foldlFst
    | with_reducible apply Frame.foldlSnd
    | ((with_reducible apply Block.issue_frame); · rfl)
    | ((with_reducible apply Frame.via (Block.result_frame _ _ _ _)); · rfl)
    | dsimp only

end Sys2Proof.Machine
end

