-- ==== Sys2Proof/Laws/FrameStock.lean ====
section
/-! SUPPORT. What each function of Machine/Stock.lean may change. -/

namespace Sys2Proof.Machine

theorem Block.discardRequest_frame x0 x1 : Frame 659481 x0 (Block.discardRequest x0 x1) := by
  unfold Block.discardRequest
  try extract_lets
  repeat' first
    | with_reducible assumption
    | with_reducible exact Frame.refl _ _
    | ((with_reducible apply Frame.via (Block.fwRaise_frame _ _ _)); · rfl)
    | ((with_reducible apply Frame.via (Block.setDom_frame _ _ _)); · rfl)

theorem Block.takeRequest_frame x0 x1 x2 : Frame 524288 x0 (Block.takeRequest x0 x1 x2) := by
  unfold Block.takeRequest
  try extract_lets
  repeat' first
    | with_reducible assumption
    | with_reducible exact Frame.refl _ _
    | with_reducible apply Frame.ite
    | ((with_reducible apply Frame.via (Block.setDom_frame _ _ _)); · rfl)
    | (split <;> try extract_lets)

theorem Block.request_frame x0 x1 x2 x3 : Frame 659481 x0 (Block.request x0 x1 x2 x3) := by
  unfold Block.request
  try extract_lets
  repeat' first
    | with_reducible assumption
    | with_reducible exact Frame.refl _ _
    | with_reducible apply Frame.ite
    | ((with_reducible apply Frame.via (Block.discardRequest_frame _ _)); · rfl)
    | ((with_reducible apply Frame.via (Block.takeRequest_frame _ _ _)); · rfl)
    | (split <;> try extract_lets)

theorem Block.nextOrder_frame x0 : Frame 524288 x0 (Block.nextOrder x0) := by
  unfold Block.nextOrder
  try extract_lets
  repeat' first
    | with_reducible assumption
    | with_reducible exact Frame.refl _ _
    | ((with_reducible apply Frame.put_stock); · rfl)

theorem Block.noteEnd_frame x0 x1 : Frame 524288 x0 (Block.noteEnd x0 x1) := by
  unfold Block.noteEnd
  try extract_lets
  repeat' first
    | with_reducible assumption
    | with_reducible exact Frame.refl _ _
    | with_reducible apply Frame.ite
    | ((with_reducible apply Frame.via (Block.setDom_frame _ _ _)); · rfl)
    | (split <;> try extract_lets)

theorem Block.noteStart_frame x0 x1 x2 x3 x4 : Frame 524288 x0 (Block.noteStart x0 x1 x2 x3 x4) := by
  unfold Block.noteStart
  try extract_lets
  repeat' first
    | with_reducible assumption
    | with_reducible exact Frame.refl _ _
    | with_reducible apply Frame.ite
    | ((with_reducible apply Frame.via (Block.setDom_frame _ _ _)); · rfl)
    | (split <;> try extract_lets)

theorem Block.startEngine_frame x0 x1 x2 x3 x4 : Frame 86033 x0 (Block.startEngine x0 x1 x2 x3 x4) := by
  unfold Block.startEngine
  try extract_lets
  repeat' first
    | with_reducible assumption
    | with_reducible exact Frame.refl _ _
    | (with_reducible intro _; try extract_lets)
    | with_reducible apply Frame.each
    | ((with_reducible apply Frame.via (Block.setReg_frame _ _ _)); · rfl)
    | ((with_reducible apply Frame.via (Block.setPm_frame _ _ _ _)); · rfl)
    | ((with_reducible apply Frame.via (Block.memPut_frame _ _ _)); · rfl)
    | ((with_reducible apply Frame.via (Block.fxStart_frame _ _)); · rfl)
    | with_reducible exact Frame.snd (by assumption)
    | with_reducible refine Frame.pair2 (by assumption) ?_
    | with_reducible refine Frame.pair3 (by assumption) ?_
    | with_reducible refine Frame.pair4 (by assumption) ?_
    | (split <;> try extract_lets)
    | (dsimp +zetaDelta only; split <;> try extract_lets)

theorem Block.loadBias_frame x0 x1 : Frame 16913 x0 (Block.loadBias x0 x1) := by
  unfold Block.loadBias
  try extract_lets
  repeat' first
    | with_reducible assumption
    | with_reducible exact Frame.refl _ _
    | (with_reducible intro _; try extract_lets)
    | with_reducible apply Frame.ite
    | with_reducible apply Frame.each
    | ((with_reducible apply Frame.via (Block.loadNco_frame _ _)); · rfl)
    | ((with_reducible apply Frame.via (Block.retuneNco_frame _ _)); · rfl)
    | ((with_reducible apply Frame.via (Block.setReg_frame _ _ _)); · rfl)
    | ((with_reducible apply Frame.via (Block.put_frame _ _ _)); · rfl)
    | ((with_reducible apply Frame.via (Block.commitEntry_frame _ _ _ _)); · rfl)
    | ((with_reducible apply Frame.via (Block.spStart_frame _ _)); · rfl)
    | (split <;> try extract_lets)

theorem Block.putBiasT0_frame x0 x1 : Frame 65536 x0 (Block.putBiasT0 x0 x1) := by
  unfold Block.putBiasT0
  try extract_lets
  repeat' first
    | with_reducible assumption
    | with_reducible exact Frame.refl _ _
    | ((with_reducible apply Frame.via (Block.memPut_frame _ _ _)); · rfl)

theorem Block.startRunOn_frame x0 x1 : Frame 1004049 x0 (Block.startRunOn x0 x1) := by
  unfold Block.startRunOn
  try extract_lets
  repeat' first
    | with_reducible assumption
    | with_reducible exact Frame.refl _ _
    | (with_reducible intro _; try extract_lets)
    | with_reducible apply Frame.ite
    | with_reducible apply Frame.each
    | ((with_reducible apply Frame.via (Block.noteStart_frame _ _ _ _ _)); · rfl)
    | ((with_reducible apply Frame.via (Block.startEngine_frame _ _ _ _ _)); · rfl)
    | ((with_reducible apply Frame.via (Block.raise_frame _ _ _)); · rfl)
    | ((with_reducible apply Frame.via (Block.put_frame _ _ _)); · rfl)
    | ((with_reducible apply Frame.via (Block.setDom_frame _ _ _)); · rfl)
    | ((with_reducible apply Frame.via (Block.checkFail_frame _ _)); · rfl)
    | ((with_reducible apply Frame.via (Block.buildTable_frame _ _ _ _)); · rfl)
    | ((with_reducible apply Frame.via (Block.loadBias_frame _ _)); · rfl)
    | ((with_reducible apply Frame.via (Block.putBiasT0_frame _ _)); · rfl)
    | ((with_reducible apply Frame.put_stock); · rfl)
    | with_reducible exact Frame.snd (by assumption)
    | with_reducible refine Frame.pair2 (by assumption) ?_
    | with_reducible refine Frame.pair3 (by assumption) ?_
    | with_reducible refine Frame.pair4 (by assumption) ?_
    | (split <;> try extract_lets)
    | (dsimp +zetaDelta only; split <;> try extract_lets)

theorem Block.queueDelta_frame x0 x1 x2 : Frame 987161 x0 (Block.queueDelta x0 x1 x2) := by
  unfold Block.queueDelta
  try extract_lets
  repeat' first
    | with_reducible assumption
    | with_reducible exact Frame.refl _ _
    | (with_reducible intro _; try extract_lets)
    | with_reducible apply Frame.ite
    | ((with_reducible apply Frame.via (Block.readTable_frame _ _)); · rfl)
    | ((with_reducible apply Frame.via (Block.queueRecord_frame _ _)); · rfl)
    | with_reducible exact Frame.snd (by assumption)
    | with_reducible refine Frame.pair2 (by assumption) ?_
    | with_reducible refine Frame.pair3 (by assumption) ?_
    | with_reducible refine Frame.pair4 (by assumption) ?_
    | (split <;> try extract_lets)
    | (dsimp +zetaDelta only; split <;> try extract_lets)

theorem doDenReqTake_frame x0 : Frame 659481 x0 (doDenReqTake x0) := by
  unfold doDenReqTake
  try extract_lets
  repeat' first
    | with_reducible assumption
    | with_reducible exact Frame.refl _ _
    | (with_reducible intro _; try extract_lets)
    | with_reducible apply Frame.ite
    | with_reducible apply Frame.each
    | ((with_reducible apply Frame.via (Block.put_frame _ _ _)); · rfl)
    | ((with_reducible apply Frame.via (Block.setReg_frame _ _ _)); · rfl)
    | ((with_reducible apply Frame.via (Block.nextOrder_frame _)); · rfl)
    | ((with_reducible apply Frame.via (Block.request_frame _ _ _ _)); · rfl)
    | (split <;> try extract_lets)

theorem Block.figure_frame x0 x1 x2 x3 x4 x5 : Frame 659513 x0 (Block.figure x0 x1 x2 x3 x4 x5) := by
  unfold Block.figure
  try extract_lets
  repeat' first
    | with_reducible assumption
    | with_reducible exact Frame.refl _ _
    | with_reducible apply Frame.ite
    | ((with_reducible apply Frame.via (Block.publish_frame _ _)); · rfl)
    | ((with_reducible apply Frame.via (Block.setDom_frame _ _ _)); · rfl)
    | (split <;> try extract_lets)

theorem Block.endSc10_frame x0 x1 x2 : Frame 660025 x0 (Block.endSc10 x0 x1 x2) := by
  unfold Block.endSc10
  try extract_lets
  repeat' first
    | with_reducible assumption
    | with_reducible exact Frame.refl _ _
    | (with_reducible intro _; try extract_lets)
    | with_reducible apply Frame.ite
    | with_reducible apply Frame.each
    | with_reducible apply Frame.foldl
    | with_reducible apply Frame.foldlFst
    | with_reducible apply Frame.foldlSnd
    | ((with_reducible apply Frame.via (Block.drawN_frame _ _)); · rfl)
    | ((with_reducible apply Frame.via (Block.writeLogged_frame _ _ _)); · rfl)
    | ((with_reducible apply Frame.via (Block.figure_frame _ _ _ _ _ _)); · rfl)
    | with_reducible exact Frame.snd (by assumption)
    | with_reducible refine Frame.pair2 (by assumption) ?_
    | with_reducible refine Frame.pair3 (by assumption) ?_
    | with_reducible refine Frame.pair4 (by assumption) ?_
    | (split <;> try extract_lets)
    | (dsimp +zetaDelta only; split <;> try extract_lets)
    | dsimp only

theorem Block.returnRef7_frame x0 x1 : Frame 524801 x0 (Block.returnRef7 x0 x1) := by
  unfold Block.returnRef7
  try extract_lets
  repeat' first
    | with_reducible assumption
    | with_reducible exact Frame.refl _ _
    | (with_reducible intro _; try extract_lets)
    | with_reducible apply Frame.ite
    | ((with_reducible apply Frame.via (Block.switchRef_frame _ _ _)); · rfl)
    | ((with_reducible apply Frame.put_stock); · rfl)
    | with_reducible exact Frame.snd (by assumption)
    | with_reducible refine Frame.pair2 (by assumption) ?_
    | with_reducible refine Frame.pair3 (by assumption) ?_
    | with_reducible refine Frame.pair4 (by assumption) ?_
    | (split <;> try extract_lets)
    | (dsimp +zetaDelta only; split <;> try extract_lets)

theorem Block.endSc11_frame x0 x1 x2 : Frame 660025 x0 (Block.endSc11 x0 x1 x2) := by
  unfold Block.endSc11
  try extract_lets
  repeat' first
    | with_reducible assumption
    | with_reducible exact Frame.refl _ _
    | (with_reducible intro _; try extract_lets)
    | with_reducible apply Frame.ite
    | with_reducible apply Frame.foldl
    | with_reducible apply Frame.foldlFst
    | with_reducible apply Frame.foldlSnd
    | ((with_reducible apply Frame.via (Block.drawN_frame _ _)); · rfl)
    | ((with_reducible apply Frame.via (Block.returnRef7_frame _ _)); · rfl)
    | ((with_reducible apply Frame.via (Block.figure_frame _ _ _ _ _ _)); · rfl)
    | with_reducible exact Frame.snd (by assumption)
    | with_reducible refine Frame.pair2 (by assumption) ?_
    | with_reducible refine Frame.pair3 (by assumption) ?_
    | with_reducible refine Frame.pair4 (by assumption) ?_
    | (split <;> try extract_lets)
    | (dsimp +zetaDelta only; split <;> try extract_lets)
    | dsimp only

theorem doDomainRunEnd_frame x0 x1 x2 : Frame 987705 x2 (doDomainRunEnd x0 x1 x2) := by
  unfold doDomainRunEnd
  try extract_lets
  repeat' first
    | with_reducible assumption
    | with_reducible exact Frame.refl _ _
    | (with_reducible intro _; try extract_lets)
    | with_reducible apply Frame.ite
    | with_reducible apply Frame.each
    | ((with_reducible apply Frame.via (Block.noteEnd_frame _ _)); · rfl)
    | ((with_reducible apply Frame.via (Block.nextOrder_frame _)); · rfl)
    | ((with_reducible apply Frame.via (Block.endSc10_frame _ _ _)); · rfl)
    | ((with_reducible apply Frame.via (Block.endSc11_frame _ _ _)); · rfl)
    | ((with_reducible apply Frame.via (Block.queueDelta_frame _ _ _)); · rfl)
    | ((with_reducible apply Frame.via (Block.fwRaise_frame _ _ _)); · rfl)
    | ((with_reducible apply Frame.put_stock); · rfl)
    | with_reducible exact Frame.snd (by assumption)
    | with_reducible refine Frame.pair2 (by assumption) ?_
    | with_reducible refine Frame.pair3 (by assumption) ?_
    | with_reducible refine Frame.pair4 (by assumption) ?_
    | (split <;> try extract_lets)
    | (dsimp +zetaDelta only; split <;> try extract_lets)

theorem Block.requestReturns_frame x0 : Frame 659481 x0 (Block.requestReturns x0) := by
  unfold Block.requestReturns
  try extract_lets
  repeat' first
    | with_reducible assumption
    | with_reducible exact Frame.refl _ _
    | (with_reducible intro _; try extract_lets)
    | with_reducible apply Frame.ite
    | with_reducible apply Frame.each
    | ((with_reducible apply Frame.via (Block.request_frame _ _ _ _)); · rfl)
    | ((with_reducible apply Frame.put_stock); · rfl)
    | (split <;> try extract_lets)

theorem Block.evaluate_frame x0 x1 : Frame 659481 x0 (Block.evaluate x0 x1) := by
  unfold Block.evaluate
  try extract_lets
  repeat' first
    | with_reducible assumption
    | with_reducible exact Frame.refl _ _
    | with_reducible apply Frame.ite
    | ((with_reducible apply Frame.via (Block.setDom_frame _ _ _)); · rfl)
    | ((with_reducible apply Frame.via (Block.request_frame _ _ _ _)); · rfl)
    | with_reducible exact Frame.snd (by assumption)
    | with_reducible refine Frame.pair2 (by assumption) ?_
    | with_reducible refine Frame.pair3 (by assumption) ?_
    | with_reducible refine Frame.pair4 (by assumption) ?_
    | (split <;> try extract_lets)
    | (dsimp +zetaDelta only; split <;> try extract_lets)

theorem doDomainMinGap_frame x0 x1 : Frame 524288 x1 (doDomainMinGap x0 x1) := by
  unfold doDomainMinGap
  try extract_lets
  repeat' first
    | with_reducible assumption
    | with_reducible exact Frame.refl _ _
    | with_reducible apply Frame.ite
    | ((with_reducible apply Frame.via (Block.setDom_frame _ _ _)); · rfl)
    | with_reducible exact Frame.snd (by assumption)
    | with_reducible refine Frame.pair2 (by assumption) ?_
    | with_reducible refine Frame.pair3 (by assumption) ?_
    | with_reducible refine Frame.pair4 (by assumption) ?_
    | (split <;> try extract_lets)
    | (dsimp +zetaDelta only; split <;> try extract_lets)

theorem Block.requestStarts_frame x0 : Frame 659481 x0 (Block.requestStarts x0) := by
  unfold Block.requestStarts
  try extract_lets
  repeat' first
    | with_reducible assumption
    | with_reducible exact Frame.refl _ _
    | (with_reducible intro _; try extract_lets)
    | with_reducible apply Frame.ite
    | with_reducible apply Frame.each
    | ((with_reducible apply Frame.via (Block.request_frame _ _ _ _)); · rfl)
    | ((with_reducible apply Frame.via (Block.nextOrder_frame _)); · rfl)
    | ((with_reducible apply Frame.put_stock); · rfl)
    | (split <;> try extract_lets)

theorem doTempEvaluate_frame x0 : Frame 659481 x0 (doTempEvaluate x0) := by
  unfold doTempEvaluate
  try extract_lets
  repeat' first
    | with_reducible assumption
    | with_reducible exact Frame.refl _ _
    | (with_reducible intro _; try extract_lets)
    | with_reducible apply Frame.ite
    | with_reducible apply Frame.each
    | ((with_reducible apply Frame.via (Block.requestStarts_frame _)); · rfl)
    | ((with_reducible apply Frame.via (Block.requestReturns_frame _)); · rfl)
    | ((with_reducible apply Frame.via (Block.nextOrder_frame _)); · rfl)
    | ((with_reducible apply Frame.via (Block.evaluate_frame _ _)); · rfl)
    | (split <;> try extract_lets)

theorem doDomainRunStart_frame x0 x1 : Frame 1004049 x1 (doDomainRunStart x0 x1) := by
  unfold doDomainRunStart
  try extract_lets
  repeat' first
    | with_reducible assumption
    | with_reducible exact Frame.refl _ _
    | (with_reducible intro _; try extract_lets)
    | with_reducible apply Frame.ite
    | ((with_reducible apply Frame.via (Block.noteStart_frame _ _ _ _ _)); · rfl)
    | ((with_reducible apply Frame.via (Block.put_frame _ _ _)); · rfl)
    | ((with_reducible apply Frame.via (Block.switchRef_frame _ _ _)); · rfl)
    | ((with_reducible apply Frame.via (Block.startRunOn_frame _ _)); · rfl)
    | ((with_reducible apply Frame.put_stock); · rfl)
    | with_reducible exact Frame.snd (by assumption)
    | with_reducible refine Frame.pair2 (by assumption) ?_
    | with_reducible refine Frame.pair3 (by assumption) ?_
    | with_reducible refine Frame.pair4 (by assumption) ?_
    | (split <;> try extract_lets)
    | (dsimp +zetaDelta only; split <;> try extract_lets)

end Sys2Proof.Machine
end

