-- ==== Sys2Proof/Laws/FrameJudge.lean ====
section
/-! SUPPORT. What each function of Machine/Judge.lean may change. -/

namespace Sys2Proof.Machine

theorem Block.refuse_frame x0 x1 x2 x3 x4 : Frame 16401 x0 (Block.refuse x0 x1 x2 x3 x4) := by
  unfold Block.refuse
  try extract_lets
  repeat' first
    | with_reducible assumption
    | with_reducible exact Frame.refl _ _
    | ((with_reducible apply Frame.via (Block.finish_frame _ _ _ _ _ _ _)); · rfl)

theorem Block.perform_frame {m : Nat} {s0 : Block} (x0 : Block) (x1 : Nat) (x2 : Packet) (x3 : Bool) (x4 : Block → Block) (hm : subMask 16401 m = true) (h4 : (∀ t, Frame m s0 t → Frame m s0 (x4 t))) (h : Frame m s0 x0) : Frame m s0 (Block.perform x0 x1 x2 x3 x4) := by
  unfold Block.perform
  try extract_lets
  repeat' first
    | with_reducible assumption
    | with_reducible apply Frame.ite
    | refine Frame.via (Block.refuse_frame _ _ _ _ _) (sub_trans rfl hm) ?_
    | with_reducible apply h4
    | with_reducible exact Frame.snd (by assumption)
    | with_reducible refine Frame.pair2 (by assumption) ?_
    | with_reducible refine Frame.pair3 (by assumption) ?_
    | with_reducible refine Frame.pair4 (by assumption) ?_
    | (split <;> try extract_lets)
    | (dsimp +zetaDelta only; split <;> try extract_lets)

theorem Block.answer_frame x0 x1 x2 x3 : Frame 16401 x0 (Block.answer x0 x1 x2 x3) := by
  unfold Block.answer
  try extract_lets
  repeat' first
    | with_reducible assumption
    | with_reducible exact Frame.refl _ _
    | ((with_reducible apply Frame.via (Block.finishPacket_frame _ _ _ _ _)); · rfl)

theorem doPacketTimeout_frame x0 x1 : Frame 16401 x1 (doPacketTimeout x0 x1) := by
  unfold doPacketTimeout
  try extract_lets
  repeat' first
    | with_reducible assumption
    | with_reducible exact Frame.refl _ _
    | with_reducible apply Frame.ite
    | ((with_reducible apply Frame.via (Block.finalReply_frame _ _ _ _ _ _ _)); · rfl)
    | ((with_reducible apply Frame.via (Block.setHost_frame _ _ _)); · rfl)
    | with_reducible exact Frame.snd (by assumption)
    | with_reducible refine Frame.pair2 (by assumption) ?_
    | with_reducible refine Frame.pair3 (by assumption) ?_
    | with_reducible refine Frame.pair4 (by assumption) ?_
    | (split <;> try extract_lets)
    | (dsimp +zetaDelta only; split <;> try extract_lets)

theorem doPacketAck_frame x0 x1 : Frame 675865 x1 (doPacketAck x0 x1) := by
  unfold doPacketAck
  try extract_lets
  repeat' first
    | with_reducible assumption
    | with_reducible exact Frame.refl _ _
    | with_reducible apply Frame.ite
    | ((with_reducible apply Frame.via (Block.setHost_frame _ _ _)); · rfl)
    | ((with_reducible apply Frame.via (Block.makeReady_frame _ _ _ _ _ _)); · rfl)
    | ((with_reducible apply Frame.via (Block.put_frame _ _ _)); · rfl)
    | ((with_reducible apply Frame.via (Block.bump_frame _ _ _)); · rfl)
    | ((with_reducible apply Frame.via (Block.discardRequest_frame _ _)); · rfl)
    | ((with_reducible apply Frame.via (Block.finalReply_frame _ _ _ _ _ _ _)); · rfl)
    | with_reducible exact Frame.snd (by assumption)
    | with_reducible refine Frame.pair2 (by assumption) ?_
    | with_reducible refine Frame.pair3 (by assumption) ?_
    | with_reducible refine Frame.pair4 (by assumption) ?_
    | (split <;> try extract_lets)
    | (dsimp +zetaDelta only; split <;> try extract_lets)

end Sys2Proof.Machine
end

