-- ==== Sys2Proof/Laws/FrameNodePackets.lean ====
section
/-! SUPPORT. What each function of Machine/NodePackets.lean may change. -/

namespace Sys2Proof.Machine

theorem Block.frmEngine_frame x0 x1 x2 : Frame 20497 x0 (Block.frmEngine x0 x1 x2) := by
  unfold Block.frmEngine
  try extract_lets
  repeat' first
    | with_reducible assumption
    | with_reducible exact Frame.refl _ _
    | with_reducible apply Frame.ite
    | ((with_reducible apply Frame.via (Block.put_frame _ _ _)); · rfl)
    | ((with_reducible apply Frame.via (Block.checkFoxMig_frame _)); · rfl)
    | ((with_reducible apply Frame.via (Block.setPc_frame _ _ _)); · rfl)
    | (split <;> try extract_lets)

theorem Block.runStep_frame {m : Nat} {s0 : Block} (x0 : Block) (x1 : Nat) (x2 : Nat) (x3 : Block → Packet → Block) (hm : subMask 16401 m = true) (h3 : (∀ t y0, Frame m s0 t → Frame m s0 (x3 t y0))) (h : Frame m s0 x0) : Frame m s0 (Block.runStep x0 x1 x2 x3) := by
  unfold Block.runStep
  try extract_lets
  repeat' first
    | with_reducible assumption
    | (with_reducible intro _; try extract_lets)
    | with_reducible apply Frame.ite
    | ((with_reducible apply Block.runHw_frame); · exact sub_trans rfl hm)
    | ((with_reducible apply Block.perform_frame); · exact sub_trans rfl hm)
    | with_reducible apply h3
    | with_reducible exact Frame.snd (by assumption)
    | with_reducible refine Frame.pair2 (by assumption) ?_
    | with_reducible refine Frame.pair3 (by assumption) ?_
    | with_reducible refine Frame.pair4 (by assumption) ?_
    | (split <;> try extract_lets)
    | (dsimp +zetaDelta only; split <;> try extract_lets)

theorem Block.stepAnswer_frame x0 x1 x2 x3 : Frame 16401 x0 (Block.stepAnswer x0 x1 x2 x3) := by
  unfold Block.stepAnswer
  try extract_lets
  repeat' first
    | with_reducible assumption
    | with_reducible exact Frame.refl _ _
    | ((with_reducible apply Frame.via (Block.answer_frame _ _ _ _)); · rfl)

theorem Block.openByPacket_frame {m : Nat} {s0 : Block} (x0 : Block) (x1 : Nat) (x2 : Packet) (x3 : Block → Block) (hm : subMask 17425 m = true) (h3 : (∀ t, Frame m s0 t → Frame m s0 (x3 t))) (h : Frame m s0 x0) : Frame m s0 (Block.openByPacket x0 x1 x2 x3) := by
  unfold Block.openByPacket
  try extract_lets
  repeat' first
    | with_reducible assumption
    | with_reducible apply Frame.ite
    | refine Frame.via (Block.openStep_frame _ _ _ _ _ _ _) (sub_trans rfl hm) ?_
    | refine Frame.via (Block.stepAnswer_frame _ _ _ _) (sub_trans rfl hm) ?_
    | with_reducible apply h3
    | with_reducible exact Frame.snd (by assumption)
    | with_reducible refine Frame.pair2 (by assumption) ?_
    | with_reducible refine Frame.pair3 (by assumption) ?_
    | with_reducible refine Frame.pair4 (by assumption) ?_
    | (split <;> try extract_lets)
    | (dsimp +zetaDelta only; split <;> try extract_lets)

theorem Block.queueNodes_frame x0 x1 x2 x3 : Frame 425489 x0 (Block.queueNodes x0 x1 x2 x3) := by
  unfold Block.queueNodes
  try extract_lets
  repeat' first
    | with_reducible assumption
    | with_reducible exact Frame.refl _ _
    | (with_reducible intro _; try extract_lets)
    | with_reducible apply Frame.each
    | ((with_reducible apply Frame.via (Block.setRunning_frame _ _ _ _)); · rfl)
    | ((with_reducible apply Frame.via (Block.submit_frame _ _)); · rfl)

theorem Block.armAndSeal_frame x0 x1 x2 : Frame 425489 x0 (Block.armAndSeal x0 x1 x2) := by
  unfold Block.armAndSeal
  try extract_lets
  repeat' first
    | with_reducible assumption
    | with_reducible exact Frame.refl _ _
    | ((with_reducible apply Frame.via (Block.sealStep_frame _ _ _ _)); · rfl)
    | ((with_reducible apply Frame.via (Block.queueNodes_frame _ _ _ _)); · rfl)

theorem doOneshot_frame x0 x1 : Frame 425489 x1 (doOneshot x0 x1) := by
  unfold doOneshot
  try extract_lets
  repeat' first
    | with_reducible assumption
    | with_reducible exact Frame.refl _ _
    | (with_reducible intro _; try extract_lets)
    | ((with_reducible apply Block.runStep_frame); · rfl)
    | ((with_reducible apply Block.openByPacket_frame); · rfl)
    | ((with_reducible apply Frame.via (Block.armAndSeal_frame _ _ _)); · rfl)

theorem Block.nodePacket_frame x0 x1 x2 x3 : Frame 425489 x0 (Block.nodePacket x0 x1 x2 x3) := by
  unfold Block.nodePacket
  try extract_lets
  repeat' first
    | with_reducible assumption
    | with_reducible exact Frame.refl _ _
    | (with_reducible intro _; try extract_lets)
    | ((with_reducible apply Block.runHw_frame); · rfl)
    | ((with_reducible apply Block.perform_frame); · rfl)
    | ((with_reducible apply Frame.via (Block.queueNodes_frame _ _ _ _)); · rfl)

theorem doHubStatusPacket_frame x0 x1 : Frame 425489 x1 (doHubStatusPacket x0 x1) := by
  unfold doHubStatusPacket
  try extract_lets
  repeat' first
    | with_reducible assumption
    | with_reducible exact Frame.refl _ _
    | (with_reducible intro _; try extract_lets)
    | ((with_reducible apply Frame.via (Block.nodePacket_frame _ _ _ _)); · rfl)

theorem doStepPktStatus_frame x0 x1 : Frame 16401 x1 (doStepPktStatus x0 x1) := by
  unfold doStepPktStatus
  try extract_lets
  repeat' first
    | with_reducible assumption
    | with_reducible exact Frame.refl _ _
    | (with_reducible intro _; try extract_lets)
    | ((with_reducible apply Block.runStep_frame); · rfl)
    | ((with_reducible apply Frame.via (Block.answer_frame _ _ _ _)); · rfl)

theorem doSense_frame x0 x1 : Frame 425489 x1 (doSense x0 x1) := by
  unfold doSense
  try extract_lets
  repeat' first
    | with_reducible assumption
    | with_reducible exact Frame.refl _ _
    | (with_reducible intro _; try extract_lets)
    | with_reducible apply Frame.ite
    | ((with_reducible apply Frame.via (Block.nodePacket_frame _ _ _ _)); · rfl)
    | (split <;> try extract_lets)

theorem Block.frmSpindle_frame x0 x1 x2 : Frame 16913 x0 (Block.frmSpindle x0 x1 x2) := by
  unfold Block.frmSpindle
  try extract_lets
  repeat' first
    | with_reducible assumption
    | with_reducible exact Frame.refl _ _
    | (with_reducible intro _; try extract_lets)
    | with_reducible apply Frame.ite
    | ((with_reducible apply Frame.via (Block.setSp_frame _ _ _)); · rfl)
    | ((with_reducible apply Frame.via (Block.put_frame _ _ _)); · rfl)
    | ((with_reducible apply Frame.via (Block.checkMigs_frame _)); · rfl)
    | (split <;> try extract_lets)

theorem doFrmLoadSeq_frame x0 x1 : Frame 16913 x1 (doFrmLoadSeq x0 x1) := by
  unfold doFrmLoadSeq
  try extract_lets
  repeat' first
    | with_reducible assumption
    | with_reducible exact Frame.refl _ _
    | (with_reducible intro _; try extract_lets)
    | with_reducible apply Frame.ite
    | with_reducible apply Frame.each
    | ((with_reducible apply Block.runHw_frame); · rfl)
    | ((with_reducible apply Block.perform_frame); · rfl)
    | ((with_reducible apply Frame.via (Block.commitEntry_frame _ _ _ _)); · rfl)
    | ((with_reducible apply Frame.via (Block.setSp_frame _ _ _)); · rfl)
    | ((with_reducible apply Frame.via (Block.answer_frame _ _ _ _)); · rfl)
    | (split <;> try extract_lets)

theorem doNodeWrite_frame x0 x1 : Frame 425489 x1 (doNodeWrite x0 x1) := by
  unfold doNodeWrite
  try extract_lets
  repeat' first
    | with_reducible assumption
    | with_reducible exact Frame.refl _ _
    | (with_reducible intro _; try extract_lets)
    | ((with_reducible apply Frame.via (Block.nodePacket_frame _ _ _ _)); · rfl)

theorem doFrmNodes_frame x0 x1 : Frame 425489 x1 (doFrmNodes x0 x1) := by
  unfold doFrmNodes
  try extract_lets
  repeat' first
    | with_reducible assumption
    | with_reducible exact Frame.refl _ _
    | (with_reducible intro _; try extract_lets)
    | ((with_reducible apply Block.runHw_frame); · rfl)
    | ((with_reducible apply Block.perform_frame); · rfl)
    | ((with_reducible apply Frame.via (Block.queueNodes_frame _ _ _ _)); · rfl)

theorem doStepPktSeal_frame x0 x1 : Frame 17425 x1 (doStepPktSeal x0 x1) := by
  unfold doStepPktSeal
  try extract_lets
  repeat' first
    | with_reducible assumption
    | with_reducible exact Frame.refl _ _
    | (with_reducible intro _; try extract_lets)
    | with_reducible apply Frame.ite
    | ((with_reducible apply Block.runStep_frame); · rfl)
    | ((with_reducible apply Frame.via (Block.stepAnswer_frame _ _ _ _)); · rfl)
    | ((with_reducible apply Frame.via (Block.sealStep_frame _ _ _ _)); · rfl)
    | (split <;> try extract_lets)

theorem doStepPktArm_frame x0 x1 : Frame 425489 x1 (doStepPktArm x0 x1) := by
  unfold doStepPktArm
  try extract_lets
  repeat' first
    | with_reducible assumption
    | with_reducible exact Frame.refl _ _
    | (with_reducible intro _; try extract_lets)
    | with_reducible apply Frame.ite
    | ((with_reducible apply Block.runStep_frame); · rfl)
    | ((with_reducible apply Frame.via (Block.stepAnswer_frame _ _ _ _)); · rfl)
    | ((with_reducible apply Frame.via (Block.queueNodes_frame _ _ _ _)); · rfl)
    | (split <;> try extract_lets)

theorem doFrmLoadFox_frame x0 x1 : Frame 20497 x1 (doFrmLoadFox x0 x1) := by
  unfold doFrmLoadFox
  try extract_lets
  repeat' first
    | with_reducible assumption
    | with_reducible exact Frame.refl _ _
    | (with_reducible intro _; try extract_lets)
    | with_reducible apply Frame.ite
    | with_reducible apply Frame.each
    | ((with_reducible apply Block.runHw_frame); · rfl)
    | ((with_reducible apply Block.perform_frame); · rfl)
    | ((with_reducible apply Frame.via (Block.setPm_frame _ _ _ _)); · rfl)
    | ((with_reducible apply Frame.via (Block.setEngine_frame _ _ _)); · rfl)
    | ((with_reducible apply Frame.via (Block.answer_frame _ _ _ _)); · rfl)
    | (split <;> try extract_lets)

theorem doFrmMode_frame x0 x1 : Frame 21009 x1 (doFrmMode x0 x1) := by
  unfold doFrmMode
  try extract_lets
  repeat' first
    | with_reducible assumption
    | with_reducible exact Frame.refl _ _
    | (with_reducible intro _; try extract_lets)
    | with_reducible apply Frame.ite
    | ((with_reducible apply Block.runHw_frame); · rfl)
    | ((with_reducible apply Block.perform_frame); · rfl)
    | ((with_reducible apply Frame.via (Block.answer_frame _ _ _ _)); · rfl)
    | ((with_reducible apply Frame.via (Block.frmSpindle_frame _ _ _)); · rfl)
    | ((with_reducible apply Frame.via (Block.frmEngine_frame _ _ _)); · rfl)
    | (split <;> try extract_lets)

theorem doStepPktOpen_frame x0 x1 : Frame 17425 x1 (doStepPktOpen x0 x1) := by
  unfold doStepPktOpen
  try extract_lets
  repeat' first
    | with_reducible assumption
    | with_reducible exact Frame.refl _ _
    | (with_reducible intro _; try extract_lets)
    | ((with_reducible apply Block.runStep_frame); · rfl)
    | ((with_reducible apply Block.openByPacket_frame); · rfl)
    | ((with_reducible apply Frame.via (Block.stepAnswer_frame _ _ _ _)); · rfl)

theorem doStepPktCancel_frame x0 x1 : Frame 152593 x1 (doStepPktCancel x0 x1) := by
  unfold doStepPktCancel
  try extract_lets
  repeat' first
    | with_reducible assumption
    | with_reducible exact Frame.refl _ _
    | (with_reducible intro _; try extract_lets)
    | with_reducible apply Frame.ite
    | ((with_reducible apply Block.runStep_frame); · rfl)
    | ((with_reducible apply Frame.via (Block.stepAnswer_frame _ _ _ _)); · rfl)
    | ((with_reducible apply Frame.via (Block.cancelStep_frame _ _ _)); · rfl)
    | (split <;> try extract_lets)

theorem doStepOpenComplete_frame x0 x1 : Frame 425489 x1 (doStepOpenComplete x0 x1) := by
  unfold doStepOpenComplete
  try extract_lets
  repeat' first
    | with_reducible assumption
    | with_reducible exact Frame.refl _ _
    | with_reducible apply Frame.ite
    | ((with_reducible apply Frame.via (Block.completeOpen_frame _ _)); · rfl)
    | ((with_reducible apply Frame.via (Block.armAndSeal_frame _ _ _)); · rfl)
    | ((with_reducible apply Frame.via (Block.stepAnswer_frame _ _ _ _)); · rfl)
    | with_reducible exact Frame.snd (by assumption)
    | with_reducible refine Frame.pair2 (by assumption) ?_
    | with_reducible refine Frame.pair3 (by assumption) ?_
    | with_reducible refine Frame.pair4 (by assumption) ?_
    | (split <;> try extract_lets)
    | (dsimp +zetaDelta only; split <;> try extract_lets)

theorem doNodeIncr_frame x0 x1 : Frame 425489 x1 (doNodeIncr x0 x1) := by
  unfold doNodeIncr
  try extract_lets
  repeat' first
    | with_reducible assumption
    | with_reducible exact Frame.refl _ _
    | (with_reducible intro _; try extract_lets)
    | ((with_reducible apply Frame.via (Block.nodePacket_frame _ _ _ _)); · rfl)

theorem doNodeRead_frame x0 x1 : Frame 425489 x1 (doNodeRead x0 x1) := by
  unfold doNodeRead
  try extract_lets
  repeat' first
    | with_reducible assumption
    | with_reducible exact Frame.refl _ _
    | (with_reducible intro _; try extract_lets)
    | with_reducible apply Frame.ite
    | ((with_reducible apply Frame.via (Block.nodePacket_frame _ _ _ _)); · rfl)
    | (split <;> try extract_lets)

end Sys2Proof.Machine
end

