-- ==== Sys2Proof/Laws/FrameSkein.lean ====
section
/-! SUPPORT. What each function of Machine/Skein.lean may change. -/

namespace Sys2Proof.Machine

theorem Block.delivered_frame x0 x1 : Frame 49152 x0 (Block.delivered x0 x1) := by
  unfold Block.delivered
  try extract_lets
  repeat' first
    | with_reducible assumption
    | with_reducible exact Frame.refl _ _
    | with_reducible apply Frame.ite
    | ((with_reducible apply Frame.via (Block.setPort_frame _ _ _)); · rfl)
    | ((with_reducible apply Frame.via (Block.setHost_frame _ _ _)); · rfl)
    | with_reducible exact Frame.snd (by assumption)
    | with_reducible refine Frame.pair2 (by assumption) ?_
    | with_reducible refine Frame.pair3 (by assumption) ?_
    | with_reducible refine Frame.pair4 (by assumption) ?_
    | (split <;> try extract_lets)
    | (dsimp +zetaDelta only; split <;> try extract_lets)

theorem Block.abortFrame_frame x0 x1 x2 x3 : Frame 135185 x0 (Block.abortFrame x0 x1 x2 x3) := by
  unfold Block.abortFrame
  try extract_lets
  repeat' first
    | with_reducible assumption
    | with_reducible exact Frame.refl _ _
    | ((with_reducible apply Frame.via (Block.put_frame _ _ _)); · rfl)
    | ((with_reducible apply Frame.via (Block.raise_frame _ _ _)); · rfl)
    | ((with_reducible apply Frame.via (Block.bump_frame _ _ _)); · rfl)
    | with_reducible exact Frame.snd (by assumption)
    | with_reducible refine Frame.pair2 (by assumption) ?_
    | with_reducible refine Frame.pair3 (by assumption) ?_
    | with_reducible refine Frame.pair4 (by assumption) ?_
    | (split <;> try extract_lets)
    | (dsimp +zetaDelta only; split <;> try extract_lets)

theorem Block.unselect_frame x0 x1 : Frame 16384 x0 (Block.unselect x0 x1) := by
  unfold Block.unselect
  try extract_lets
  repeat' first
    | with_reducible assumption
    | with_reducible exact Frame.refl _ _
    | (with_reducible intro _; try extract_lets)
    | ((with_reducible apply Frame.via (Block.setHost_frame _ _ _)); · rfl)
    | with_reducible exact Frame.snd (by assumption)
    | with_reducible refine Frame.pair2 (by assumption) ?_
    | with_reducible refine Frame.pair3 (by assumption) ?_
    | with_reducible refine Frame.pair4 (by assumption) ?_
    | (split <;> try extract_lets)
    | (dsimp +zetaDelta only; split <;> try extract_lets)

theorem Block.raisePort_frame x0 x1 : Frame 135193 x0 (Block.raisePort x0 x1) := by
  unfold Block.raisePort
  try extract_lets
  repeat' first
    | with_reducible assumption
    | with_reducible exact Frame.refl _ _
    | ((with_reducible apply Frame.via (Block.draw_frame _)); · rfl)
    | ((with_reducible apply Frame.via (Block.raise_frame _ _ _)); · rfl)
    | with_reducible exact Frame.snd (by assumption)
    | with_reducible refine Frame.pair2 (by assumption) ?_
    | with_reducible refine Frame.pair3 (by assumption) ?_
    | with_reducible refine Frame.pair4 (by assumption) ?_
    | (split <;> try extract_lets)
    | (dsimp +zetaDelta only; split <;> try extract_lets)

theorem Block.releaseReply_frame x0 x1 x2 : Frame 184345 x0 (Block.releaseReply x0 x1 x2) := by
  unfold Block.releaseReply
  try extract_lets
  repeat' first
    | with_reducible assumption
    | with_reducible exact Frame.refl _ _
    | with_reducible apply Frame.ite
    | ((with_reducible apply Frame.via (Block.setPort_frame _ _ _)); · rfl)
    | ((with_reducible apply Frame.via (Block.unselect_frame _ _)); · rfl)
    | ((with_reducible apply Frame.via (Block.raisePort_frame _ _)); · rfl)
    | ((with_reducible apply Frame.via (Block.bump_frame _ _ _)); · rfl)
    | ((with_reducible apply Frame.via (Block.put_frame _ _ _)); · rfl)
    | with_reducible exact Frame.snd (by assumption)
    | with_reducible refine Frame.pair2 (by assumption) ?_
    | with_reducible refine Frame.pair3 (by assumption) ?_
    | with_reducible refine Frame.pair4 (by assumption) ?_
    | (split <;> try extract_lets)
    | (dsimp +zetaDelta only; split <;> try extract_lets)

theorem Block.frame_frame {m : Nat} {s0 : Block} (x0 : Block) (x1 : Nat) (x2 : Nat) (x3 : Nat) (x4 : List (Nat × Nat)) (x5 : Wire) (x6 : Block → Nat) (x7 : Block → Option Held × Block) (hm : subMask 184345 m = true) (h7 : (∀ t, Frame m s0 t → Frame m s0 (x7 t).2)) (h : Frame m s0 x0) : Frame m s0 (Block.frame x0 x1 x2 x3 x4 x5 x6 x7) := by
  unfold Block.frame
  try extract_lets
  repeat' first
    | with_reducible assumption
    | (with_reducible intro _; try extract_lets)
    | with_reducible apply Frame.ite
    | refine Frame.via (Block.setPort_frame _ _ _) (sub_trans rfl hm) ?_
    | refine Frame.via (Block.delivered_frame _ _) (sub_trans rfl hm) ?_
    | refine Frame.via (Block.abortFrame_frame _ _ _ _) (sub_trans rfl hm) ?_
    | refine Frame.via (Block.releaseReply_frame _ _ _) (sub_trans rfl hm) ?_
    | with_reducible apply h7
    | with_reducible exact Frame.snd (by assumption)
    | with_reducible refine Frame.pair2 (by assumption) ?_
    | with_reducible refine Frame.pair3 (by assumption) ?_
    | with_reducible refine Frame.pair4 (by assumption) ?_
    | (split <;> try extract_lets)
    | (dsimp +zetaDelta only; split <;> try extract_lets)

theorem doNopFrame_frame x0 x1 x2 x3 x4 : Frame 184345 x4 (doNopFrame x0 x1 x2 x3 x4) := by
  unfold doNopFrame
  try extract_lets
  repeat' first
    | with_reducible assumption
    | with_reducible exact Frame.refl _ _
    | (with_reducible intro _; try extract_lets)
    | with_reducible apply Frame.ite
    | ((with_reducible apply Block.frame_frame); · rfl)
    | (split <;> try extract_lets)

theorem Block.selectReply_frame x0 x1 : Frame 16384 x0 (Block.selectReply x0 x1).2 := by
  unfold Block.selectReply
  try extract_lets
  repeat' first
    | with_reducible assumption
    | with_reducible exact Frame.refl _ _
    | ((with_reducible apply Frame.via (Block.setHost_frame _ _ _)); · rfl)
    | with_reducible exact Frame.snd (by assumption)
    | with_reducible refine Frame.pair2 (by assumption) ?_
    | with_reducible refine Frame.pair3 (by assumption) ?_
    | with_reducible refine Frame.pair4 (by assumption) ?_
    | (split <;> try extract_lets)
    | (dsimp +zetaDelta only; split <;> try extract_lets)
    | dsimp only

theorem doPktFetch_frame x0 x1 x2 x3 : Frame 184345 x3 (doPktFetch x0 x1 x2 x3) := by
  unfold doPktFetch
  try extract_lets
  repeat' first
    | with_reducible assumption
    | with_reducible exact Frame.refl _ _
    | (with_reducible intro _; try extract_lets)
    | ((with_reducible apply Block.frame_frame); · rfl)
    | ((with_reducible apply Frame.via (Block.selectReply_frame _ _)); · rfl)

theorem doFmtSet_frame x0 x1 x2 x3 x4 : Frame 184345 x4 (doFmtSet x0 x1 x2 x3 x4) := by
  unfold doFmtSet
  try extract_lets
  repeat' first
    | with_reducible assumption
    | with_reducible exact Frame.refl _ _
    | (with_reducible intro _; try extract_lets)
    | ((with_reducible apply Block.frame_frame); · rfl)
    | ((with_reducible apply Frame.via (Block.setReg_frame _ _ _)); · rfl)

theorem Block.memWords_frame x0 x1 x2 x3 : Frame 135193 x0 (Block.memWords x0 x1 x2 x3).2.2 := by
  unfold Block.memWords
  try extract_lets
  repeat' first
    | with_reducible assumption
    | with_reducible exact Frame.refl _ _
    | (with_reducible intro _; try extract_lets)
    | ((with_reducible apply Frame.via (Block.memRead_frame _ _ _ _)); · rfl)
    | with_reducible exact Frame.snd (by assumption)
    | with_reducible refine Frame.pair2 (by assumption) ?_
    | with_reducible refine Frame.pair3 (by assumption) ?_
    | with_reducible refine Frame.pair4 (by assumption) ?_
    | (split <;> try extract_lets)
    | (dsimp +zetaDelta only; split <;> try extract_lets)
    | dsimp only

theorem doMemRd_frame x0 x1 x2 x3 x4 : Frame 184345 x4 (doMemRd x0 x1 x2 x3 x4) := by
  unfold doMemRd
  try extract_lets
  repeat' first
    | with_reducible assumption
    | with_reducible exact Frame.refl _ _
    | (with_reducible intro _; try extract_lets)
    | ((with_reducible apply Block.frame_frame); · rfl)
    | ((with_reducible apply Frame.via (Block.memWords_frame _ _ _ _)); · rfl)
    | with_reducible exact Frame.snd (by assumption)
    | with_reducible refine Frame.pair2 (by assumption) ?_
    | with_reducible refine Frame.pair3 (by assumption) ?_
    | with_reducible refine Frame.pair4 (by assumption) ?_
    | (split <;> try extract_lets)
    | (dsimp +zetaDelta only; split <;> try extract_lets)

theorem Block.writeFrame_frame {m : Nat} {s0 : Block} (x0 : Block) (x1 : Nat) (x2 : Bool) (x3 : Nat) (x4 : List Word) (x5 : Bool) (x6 : Block → Nat → List Word → Block) (x7 : Block → Nat → List Word → Block) (hm : subMask 32768 m = true) (h6 : (∀ t y0 y1, Frame m s0 t → Frame m s0 (x6 t y0 y1))) (h7 : (∀ t y0 y1, Frame m s0 t → Frame m s0 (x7 t y0 y1))) (h : Frame m s0 x0) : Frame m s0 (Block.writeFrame x0 x1 x2 x3 x4 x5 x6 x7) := by
  unfold Block.writeFrame
  try extract_lets
  repeat' first
    | with_reducible assumption
    | with_reducible apply Frame.ite
    | refine Frame.via (Block.setPort_frame _ _ _) (sub_trans rfl hm) ?_
    | with_reducible apply h6
    | with_reducible apply h7
    | with_reducible exact Frame.snd (by assumption)
    | with_reducible refine Frame.pair2 (by assumption) ?_
    | with_reducible refine Frame.pair3 (by assumption) ?_
    | with_reducible refine Frame.pair4 (by assumption) ?_
    | (split <;> try extract_lets)
    | (dsimp +zetaDelta only; split <;> try extract_lets)

theorem Block.readRegs_frame x0 x1 x2 : Frame 523 x0 (Block.readRegs x0 x1 x2).2 := by
  induction x2 generalizing x0 x1 with
  | nil =>
    unfold Block.readRegs
    try extract_lets
    repeat' first
      | with_reducible assumption
      | with_reducible exact Frame.refl _ _
      | ((with_reducible apply Frame.via (Block.readReg_frame _ _ _)); · rfl)
      | with_reducible exact Frame.snd (by assumption)
      | with_reducible refine Frame.pair2 (by assumption) ?_
      | with_reducible refine Frame.pair3 (by assumption) ?_
      | with_reducible refine Frame.pair4 (by assumption) ?_
      | (split <;> try extract_lets)
      | (dsimp +zetaDelta only; split <;> try extract_lets)
      | dsimp only
  | cons b t ih =>
    unfold Block.readRegs
    try extract_lets
    repeat' first
      | ((with_reducible apply Frame.via (ih _ _)); · rfl)
      | with_reducible assumption
      | with_reducible exact Frame.refl _ _
      | ((with_reducible apply Frame.via (Block.readReg_frame _ _ _)); · rfl)
      | with_reducible exact Frame.snd (by assumption)
      | with_reducible refine Frame.pair2 (by assumption) ?_
      | with_reducible refine Frame.pair3 (by assumption) ?_
      | with_reducible refine Frame.pair4 (by assumption) ?_
      | (split <;> try extract_lets)
      | (dsimp +zetaDelta only; split <;> try extract_lets)
      | dsimp only


theorem doFmtRecover_frame x0 x1 : Frame 167961 x1 (doFmtRecover x0 x1) := by
  unfold doFmtRecover
  try extract_lets
  repeat' first
    | with_reducible assumption
    | with_reducible exact Frame.refl _ _
    | with_reducible apply Frame.ite
    | ((with_reducible apply Frame.via (Block.setPort_frame _ _ _)); · rfl)
    | ((with_reducible apply Frame.via (Block.setReg_frame _ _ _)); · rfl)
    | ((with_reducible apply Frame.via (Block.raisePort_frame _ _)); · rfl)
    | ((with_reducible apply Frame.via (Block.put_frame _ _ _)); · rfl)
    | (split <;> try extract_lets)

theorem Block.memPutWords_frame x0 x1 x2 : Frame 69633 x0 (Block.memPutWords x0 x1 x2) := by
  unfold Block.memPutWords
  try extract_lets
  repeat' first
    | with_reducible assumption
    | with_reducible exact Frame.refl _ _
    | (with_reducible intro _; try extract_lets)
    | with_reducible apply Frame.each
    | ((with_reducible apply Frame.via (Block.writePm_frame _ _ _ _)); · rfl)
    | ((with_reducible apply Frame.via (Block.writeScr_frame _ _ _ _)); · rfl)
    | ((with_reducible apply Frame.via (Block.memWrite_frame _ _ _)); · rfl)
    | with_reducible exact Frame.snd (by assumption)
    | with_reducible refine Frame.pair2 (by assumption) ?_
    | with_reducible refine Frame.pair3 (by assumption) ?_
    | with_reducible refine Frame.pair4 (by assumption) ?_
    | (split <;> try extract_lets)
    | (dsimp +zetaDelta only; split <;> try extract_lets)

theorem doAttnPulseEnd_frame x0 x1 : Frame 16 x1 (doAttnPulseEnd x0 x1) := by
  unfold doAttnPulseEnd
  try extract_lets
  repeat' first
    | with_reducible assumption
    | with_reducible exact Frame.refl _ _
    | (with_reducible intro _; try extract_lets)
    | with_reducible apply Frame.ite
    | ((with_reducible apply Frame.put_ev); · rfl)
    | with_reducible exact Frame.snd (by assumption)
    | with_reducible refine Frame.pair2 (by assumption) ?_
    | with_reducible refine Frame.pair3 (by assumption) ?_
    | with_reducible refine Frame.pair4 (by assumption) ?_
    | (split <;> try extract_lets)
    | (dsimp +zetaDelta only; split <;> try extract_lets)

theorem doStatus_frame x0 x1 x2 x3 : Frame 184345 x3 (doStatus x0 x1 x2 x3) := by
  unfold doStatus
  try extract_lets
  repeat' first
    | with_reducible assumption
    | with_reducible exact Frame.refl _ _
    | (with_reducible intro _; try extract_lets)
    | ((with_reducible apply Block.frame_frame); · rfl)

theorem Block.postPacket_frame x0 x1 x2 : Frame 16385 x0 (Block.postPacket x0 x1 x2) := by
  unfold Block.postPacket
  try extract_lets
  repeat' first
    | with_reducible assumption
    | with_reducible exact Frame.refl _ _
    | ((with_reducible apply Frame.via (Block.setHost_frame _ _ _)); · rfl)
    | ((with_reducible apply Frame.via (Block.bump_frame _ _ _)); · rfl)
    | ((with_reducible apply Frame.put_cmd); · rfl)

theorem doPktPost_frame x0 x1 x2 x3 : Frame 184345 x3 (doPktPost x0 x1 x2 x3) := by
  unfold doPktPost
  try extract_lets
  repeat' first
    | with_reducible assumption
    | with_reducible exact Frame.refl _ _
    | (with_reducible intro _; try extract_lets)
    | ((with_reducible apply Block.frame_frame); · rfl)
    | ((with_reducible apply Frame.via (Block.postPacket_frame _ _ _)); · rfl)

theorem doRepeat_frame x0 x1 x2 x3 : Frame 184345 x3 (doRepeat x0 x1 x2 x3) := by
  unfold doRepeat
  try extract_lets
  repeat' first
    | with_reducible assumption
    | with_reducible exact Frame.refl _ _
    | (with_reducible intro _; try extract_lets)
    | ((with_reducible apply Block.frame_frame); · rfl)

theorem doMemWr_frame x0 x1 x2 x3 x4 : Frame 249881 x4 (doMemWr x0 x1 x2 x3 x4) := by
  unfold doMemWr
  try extract_lets
  repeat' first
    | with_reducible assumption
    | with_reducible exact Frame.refl _ _
    | (with_reducible intro _; try extract_lets)
    | ((with_reducible apply Block.frame_frame); · rfl)
    | ((with_reducible apply Block.writeFrame_frame); · rfl)
    | ((with_reducible apply Frame.via (Block.memPutWords_frame _ _ _)); · rfl)

theorem Block.writeRegs_frame x0 x1 x2 : Frame 1507193 x0 (Block.writeRegs x0 x1 x2) := by
  unfold Block.writeRegs
  try extract_lets
  repeat' first
    | with_reducible assumption
    | with_reducible exact Frame.refl _ _
    | (with_reducible intro _; try extract_lets)
    | with_reducible apply Frame.each
    | ((with_reducible apply Frame.via (Block.writeReg_frame _ _ _ _)); · rfl)

theorem doRegWr_frame x0 x1 x2 x3 x4 : Frame 1507193 x4 (doRegWr x0 x1 x2 x3 x4) := by
  unfold doRegWr
  try extract_lets
  repeat' first
    | with_reducible assumption
    | with_reducible exact Frame.refl _ _
    | (with_reducible intro _; try extract_lets)
    | ((with_reducible apply Block.frame_frame); · rfl)
    | ((with_reducible apply Block.writeFrame_frame); · rfl)
    | ((with_reducible apply Frame.via (Block.writeRegs_frame _ _ _)); · rfl)

theorem doRegRd_frame x0 x1 x2 x3 x4 : Frame 184859 x4 (doRegRd x0 x1 x2 x3 x4) := by
  unfold doRegRd
  try extract_lets
  repeat' first
    | with_reducible assumption
    | with_reducible exact Frame.refl _ _
    | (with_reducible intro _; try extract_lets)
    | ((with_reducible apply Block.frame_frame); · rfl)
    | ((with_reducible apply Frame.via (Block.readRegs_frame _ _ _)); · rfl)
    | with_reducible exact Frame.snd (by assumption)
    | with_reducible refine Frame.pair2 (by assumption) ?_
    | with_reducible refine Frame.pair3 (by assumption) ?_
    | with_reducible refine Frame.pair4 (by assumption) ?_
    | (split <;> try extract_lets)
    | (dsimp +zetaDelta only; split <;> try extract_lets)

theorem doReplyReady_frame x0 x1 : Frame 32768 x1 (doReplyReady x0 x1) := by
  unfold doReplyReady
  try extract_lets
  repeat' first
    | with_reducible assumption
    | with_reducible exact Frame.refl _ _
    | ((with_reducible apply Frame.via (Block.setPort_frame _ _ _)); · rfl)
    | with_reducible exact Frame.snd (by assumption)
    | with_reducible refine Frame.pair2 (by assumption) ?_
    | with_reducible refine Frame.pair3 (by assumption) ?_
    | with_reducible refine Frame.pair4 (by assumption) ?_
    | (split <;> try extract_lets)
    | (dsimp +zetaDelta only; split <;> try extract_lets)

theorem doSelTimeout_frame x0 x1 x2 x3 : Frame 184337 x3 (doSelTimeout x0 x1 x2 x3) := by
  unfold doSelTimeout
  try extract_lets
  repeat' first
    | with_reducible assumption
    | with_reducible exact Frame.refl _ _
    | (with_reducible intro _; try extract_lets)
    | with_reducible apply Frame.ite
    | ((with_reducible apply Frame.via (Block.delivered_frame _ _)); · rfl)
    | ((with_reducible apply Frame.via (Block.setPort_frame _ _ _)); · rfl)
    | ((with_reducible apply Frame.via (Block.abortFrame_frame _ _ _ _)); · rfl)
    | (split <;> try extract_lets)

end Sys2Proof.Machine
end

