-- ==== Sys2Proof/Laws/FramePackets.lean ====
section
/-! SUPPORT. What each function of Machine/Packets.lean may change. -/

namespace Sys2Proof.Machine

theorem doPing_frame x0 x1 : Frame 16401 x1 (doPing x0 x1) := by
  unfold doPing
  try extract_lets
  repeat' first
    | with_reducible assumption
    | with_reducible exact Frame.refl _ _
    | (with_reducible intro _; try extract_lets)
    | ((with_reducible apply Block.runHw_frame); · rfl)
    | ((with_reducible apply Block.perform_frame); · rfl)
    | ((with_reducible apply Frame.via (Block.answer_frame _ _ _ _)); · rfl)

theorem doFoxLoad_frame x0 x1 : Frame 20497 x1 (doFoxLoad x0 x1) := by
  unfold doFoxLoad
  try extract_lets
  repeat' first
    | with_reducible assumption
    | with_reducible exact Frame.refl _ _
    | (with_reducible intro _; try extract_lets)
    | with_reducible apply Frame.ite
    | with_reducible apply Frame.each
    | ((with_reducible apply Block.runHw_frame); · rfl)
    | ((with_reducible apply Block.perform_frame); · rfl)
    | ((with_reducible apply Frame.via (Block.writeScr_frame _ _ _ _)); · rfl)
    | ((with_reducible apply Frame.via (Block.writePm_frame _ _ _ _)); · rfl)
    | ((with_reducible apply Frame.via (Block.answer_frame _ _ _ _)); · rfl)
    | (split <;> try extract_lets)

theorem Block.setClaims_frame x0 x1 x2 : Frame 135193 x0 (Block.setClaims x0 x1 x2) := by
  unfold Block.setClaims
  try extract_lets
  repeat' first
    | with_reducible assumption
    | with_reducible exact Frame.refl _ _
    | with_reducible apply Frame.ite
    | ((with_reducible apply Frame.via (Block.raisePort_frame _ _)); · rfl)
    | ((with_reducible apply Frame.via (Block.setReg_frame _ _ _)); · rfl)
    | (split <;> try extract_lets)

theorem doClaim_frame x0 x1 : Frame 151577 x1 (doClaim x0 x1) := by
  unfold doClaim
  try extract_lets
  repeat' first
    | with_reducible assumption
    | with_reducible exact Frame.refl _ _
    | (with_reducible intro _; try extract_lets)
    | with_reducible apply Frame.ite
    | ((with_reducible apply Block.runHw_frame); · rfl)
    | ((with_reducible apply Block.perform_frame); · rfl)
    | ((with_reducible apply Frame.via (Block.finishPacket_frame _ _ _ _ _)); · rfl)
    | ((with_reducible apply Frame.via (Block.setClaims_frame _ _ _)); · rfl)
    | ((with_reducible apply Frame.via (Block.answer_frame _ _ _ _)); · rfl)
    | (split <;> try extract_lets)

theorem Block.fifoWords_frame x0 x1 x2 x3 x4 : Frame 135193 x0 (Block.fifoWords x0 x1 x2 x3 x4).2.2 := by
  induction x3 generalizing x0 x1 x2 x4 with
  | zero =>
    unfold Block.fifoWords
    try extract_lets
    repeat' first
      | with_reducible assumption
      | with_reducible exact Frame.refl _ _
      | ((with_reducible apply Frame.via (Block.memRead_frame _ _ _ _)); · rfl)
      | with_reducible exact Frame.snd (by assumption)
      | with_reducible refine Frame.pair2 (by assumption) ?_
      | with_reducible refine Frame.pair3 (by assumption) ?_
      | with_reducible refine Frame.pair4 (by assumption) ?_
      | (split <;> try extract_lets)
      | (dsimp +zetaDelta only; split <;> try extract_lets)
      | dsimp only
  | succ n ih =>
    unfold Block.fifoWords
    try extract_lets
    repeat' first
      | ((with_reducible apply Frame.via (ih _ _ _ _)); · rfl)
      | with_reducible assumption
      | with_reducible exact Frame.refl _ _
      | ((with_reducible apply Frame.via (Block.memRead_frame _ _ _ _)); · rfl)
      | with_reducible exact Frame.snd (by assumption)
      | with_reducible refine Frame.pair2 (by assumption) ?_
      | with_reducible refine Frame.pair3 (by assumption) ?_
      | with_reducible refine Frame.pair4 (by assumption) ?_
      | (split <;> try extract_lets)
      | (dsimp +zetaDelta only; split <;> try extract_lets)
      | dsimp only


theorem doFifoRead_frame x0 x1 : Frame 151577 x1 (doFifoRead x0 x1) := by
  unfold doFifoRead
  try extract_lets
  repeat' first
    | with_reducible assumption
    | with_reducible exact Frame.refl _ _
    | (with_reducible intro _; try extract_lets)
    | ((with_reducible apply Block.runHw_frame); · rfl)
    | ((with_reducible apply Block.perform_frame); · rfl)
    | ((with_reducible apply Frame.via (Block.fifoWords_frame _ _ _ _ _)); · rfl)
    | ((with_reducible apply Frame.via (Block.writeFifoRp_frame _ _ _)); · rfl)
    | ((with_reducible apply Frame.via (Block.finish_frame _ _ _ _ _ _ _)); · rfl)
    | with_reducible exact Frame.snd (by assumption)
    | with_reducible refine Frame.pair2 (by assumption) ?_
    | with_reducible refine Frame.pair3 (by assumption) ?_
    | with_reducible refine Frame.pair4 (by assumption) ?_
    | (split <;> try extract_lets)
    | (dsimp +zetaDelta only; split <;> try extract_lets)

theorem doGuardArm_frame x0 x1 : Frame 16401 x1 (doGuardArm x0 x1) := by
  unfold doGuardArm
  try extract_lets
  repeat' first
    | with_reducible assumption
    | with_reducible exact Frame.refl _ _
    | (with_reducible intro _; try extract_lets)
    | with_reducible apply Frame.ite
    | with_reducible apply Frame.each
    | ((with_reducible apply Block.runHw_frame); · rfl)
    | ((with_reducible apply Block.perform_frame); · rfl)
    | ((with_reducible apply Frame.via (Block.armGuard_frame _ _ _)); · rfl)
    | ((with_reducible apply Frame.via (Block.answer_frame _ _ _ _)); · rfl)
    | (split <;> try extract_lets)

theorem doFoxCmd_frame x0 x1 : Frame 154641 x1 (doFoxCmd x0 x1) := by
  unfold doFoxCmd
  try extract_lets
  repeat' first
    | with_reducible assumption
    | with_reducible exact Frame.refl _ _
    | (with_reducible intro _; try extract_lets)
    | with_reducible apply Frame.ite
    | with_reducible apply Frame.each
    | with_reducible apply Frame.foldl
    | with_reducible apply Frame.foldlFst
    | with_reducible apply Frame.foldlSnd
    | ((with_reducible apply Block.runHw_frame); · rfl)
    | ((with_reducible apply Block.perform_frame); · rfl)
    | ((with_reducible apply Frame.via (Block.writeFields_frame _ _ _)); · rfl)
    | ((with_reducible apply Frame.via (Block.setReg_frame _ _ _)); · rfl)
    | ((with_reducible apply Frame.via (Block.fxCommand_frame _ _ _)); · rfl)
    | ((with_reducible apply Frame.via (Block.finish_frame _ _ _ _ _ _ _)); · rfl)
    | (split <;> try extract_lets)
    | dsimp only

theorem doIdent_frame x0 x1 : Frame 16401 x1 (doIdent x0 x1) := by
  unfold doIdent
  try extract_lets
  repeat' first
    | with_reducible assumption
    | with_reducible exact Frame.refl _ _
    | (with_reducible intro _; try extract_lets)
    | ((with_reducible apply Block.runHw_frame); · rfl)
    | ((with_reducible apply Block.perform_frame); · rfl)
    | ((with_reducible apply Frame.via (Block.answer_frame _ _ _ _)); · rfl)

theorem doDiscard_frame x0 x1 : Frame 16401 x1 (doDiscard x0 x1) := by
  unfold doDiscard
  try extract_lets
  repeat' first
    | with_reducible assumption
    | with_reducible exact Frame.refl _ _
    | (with_reducible intro _; try extract_lets)
    | ((with_reducible apply Block.runHw_frame); · rfl)
    | ((with_reducible apply Block.perform_frame); · rfl)
    | ((with_reducible apply Frame.via (Block.finalReply_frame _ _ _ _ _ _ _)); · rfl)
    | ((with_reducible apply Frame.via (Block.setHost_frame _ _ _)); · rfl)
    | with_reducible exact Frame.snd (by assumption)
    | with_reducible refine Frame.pair2 (by assumption) ?_
    | with_reducible refine Frame.pair3 (by assumption) ?_
    | with_reducible refine Frame.pair4 (by assumption) ?_
    | (split <;> try extract_lets)
    | (dsimp +zetaDelta only; split <;> try extract_lets)

theorem doSpindleCmd_frame x0 x1 : Frame 160281 x1 (doSpindleCmd x0 x1) := by
  unfold doSpindleCmd
  try extract_lets
  repeat' first
    | with_reducible assumption
    | with_reducible exact Frame.refl _ _
    | (with_reducible intro _; try extract_lets)
    | with_reducible apply Frame.ite
    | with_reducible apply Frame.each
    | ((with_reducible apply Block.runHw_frame); · rfl)
    | ((with_reducible apply Block.perform_frame); · rfl)
    | ((with_reducible apply Frame.via (Block.spCommand_frame _ _ _)); · rfl)
    | ((with_reducible apply Frame.via (Block.drawN_frame _ _)); · rfl)
    | ((with_reducible apply Frame.via (Block.answer_frame _ _ _ _)); · rfl)
    | with_reducible exact Frame.snd (by assumption)
    | with_reducible refine Frame.pair2 (by assumption) ?_
    | with_reducible refine Frame.pair3 (by assumption) ?_
    | with_reducible refine Frame.pair4 (by assumption) ?_
    | (split <;> try extract_lets)
    | (dsimp +zetaDelta only; split <;> try extract_lets)

theorem doEventInject_frame x0 x1 : Frame 151569 x1 (doEventInject x0 x1) := by
  unfold doEventInject
  try extract_lets
  repeat' first
    | with_reducible assumption
    | with_reducible exact Frame.refl _ _
    | (with_reducible intro _; try extract_lets)
    | ((with_reducible apply Block.runHw_frame); · rfl)
    | ((with_reducible apply Block.perform_frame); · rfl)
    | ((with_reducible apply Frame.via (Block.answer_frame _ _ _ _)); · rfl)
    | ((with_reducible apply Frame.via (Block.raiseWith_frame _ _ _ _)); · rfl)

theorem doLoopback_frame x0 x1 : Frame 16401 x1 (doLoopback x0 x1) := by
  unfold doLoopback
  try extract_lets
  repeat' first
    | with_reducible assumption
    | with_reducible exact Frame.refl _ _
    | (with_reducible intro _; try extract_lets)
    | ((with_reducible apply Block.runHw_frame); · rfl)
    | ((with_reducible apply Block.perform_frame); · rfl)
    | ((with_reducible apply Frame.via (Block.answer_frame _ _ _ _)); · rfl)

theorem Block.cancelMigOf_frame x0 x1 x2 {t : Block} (e : Block.cancelMigOf x0 x1 x2 = some t) : Frame 21009 x0 t := by
  unfold Block.cancelMigOf at e
  split at e
  · cases e; exact Frame.via (Block.cancelMig_frame _ _) rfl (Frame.refl _ _)
  · split at e
    · split at e
      · cases e
        exact Frame.via (Block.finishPacket_frame _ _ _ _ _) rfl
          (Frame.via (Block.put_frame _ _ _) rfl (Frame.put_fox rfl (Frame.refl _ _)))
      · cases e
    · cases e

theorem doMigrateCancel_frame x0 x1 : Frame 21009 x1 (doMigrateCancel x0 x1) := by
  unfold doMigrateCancel
  try extract_lets
  repeat' first
    | with_reducible assumption
    | with_reducible exact Frame.refl _ _
    | (with_reducible intro _; try extract_lets)
    | ((with_reducible apply Block.runHw_frame); · rfl)
    | ((with_reducible apply Frame.via (Block.cancelMigOf_frame _ _ _ (by assumption))); · rfl)
    | ((with_reducible apply Frame.via (Block.answer_frame _ _ _ _)); · rfl)
    | ((with_reducible apply Frame.via (Block.refuse_frame _ _ _ _ _)); · rfl)
    | with_reducible exact Frame.snd (by assumption)
    | with_reducible refine Frame.pair2 (by assumption) ?_
    | with_reducible refine Frame.pair3 (by assumption) ?_
    | with_reducible refine Frame.pair4 (by assumption) ?_
    | (split <;> try extract_lets)
    | (dsimp +zetaDelta only; split <;> try extract_lets)

theorem doMigrate_frame x0 x1 : Frame 21009 x1 (doMigrate x0 x1) := by
  unfold doMigrate
  try extract_lets
  repeat' first
    | with_reducible assumption
    | with_reducible exact Frame.refl _ _
    | (with_reducible intro _; try extract_lets)
    | with_reducible apply Frame.ite
    | ((with_reducible apply Block.runHw_frame); · rfl)
    | ((with_reducible apply Block.perform_frame); · rfl)
    | ((with_reducible apply Frame.via (Block.setSp_frame _ _ _)); · rfl)
    | ((with_reducible apply Frame.via (Block.put_frame _ _ _)); · rfl)
    | ((with_reducible apply Frame.put_fox); · rfl)
    | (split <;> try extract_lets)

theorem doSeqLoad_frame x0 x1 : Frame 16913 x1 (doSeqLoad x0 x1) := by
  unfold doSeqLoad
  try extract_lets
  repeat' first
    | with_reducible assumption
    | with_reducible exact Frame.refl _ _
    | (with_reducible intro _; try extract_lets)
    | with_reducible apply Frame.each
    | ((with_reducible apply Block.runHw_frame); · rfl)
    | ((with_reducible apply Block.perform_frame); · rfl)
    | ((with_reducible apply Frame.via (Block.commitEntry_frame _ _ _ _)); · rfl)
    | ((with_reducible apply Frame.via (Block.answer_frame _ _ _ _)); · rfl)

end Sys2Proof.Machine
end

