-- ==== Sys2Proof/Laws/FrameRequests.lean ====
section
/-! SUPPORT. What each function of Machine/Requests.lean may change. -/

namespace Sys2Proof.Machine

theorem doDomainStatus_frame x0 x1 : Frame 16401 x1 (doDomainStatus x0 x1) := by
  unfold doDomainStatus
  try extract_lets
  repeat' first
    | with_reducible assumption
    | with_reducible exact Frame.refl _ _
    | (with_reducible intro _; try extract_lets)
    | ((with_reducible apply Block.runFw_frame); · rfl)
    | ((with_reducible apply Block.perform_frame); · rfl)
    | ((with_reducible apply Frame.via (Block.answer_frame _ _ _ _)); · rfl)

theorem Block.promote_frame x0 x1 : Frame 397329 x0 (Block.promote x0 x1) := by
  unfold Block.promote
  try extract_lets
  repeat' first
    | with_reducible assumption
    | with_reducible exact Frame.refl _ _
    | with_reducible apply Frame.ite
    | ((with_reducible apply Frame.via (Block.hWrite_frame _ _ _)); · rfl)
    | ((with_reducible apply Frame.via (Block.showImages_frame _)); · rfl)
    | ((with_reducible apply Frame.via (Block.setHoard_frame _ _)); · rfl)
    | (split <;> try extract_lets)

theorem Block.runStore_frame {m : Nat} {s0 : Block} (x0 : Block) (x1 : Nat) (x2 : Nat) (x3 : Block → Packet → Block) (hm : subMask 16384 m = true) (h3 : (∀ t y0, Frame m s0 t → Frame m s0 (x3 t y0))) (h : Frame m s0 x0) : Frame m s0 (Block.runStore x0 x1 x2 x3) := by
  unfold Block.runStore
  try extract_lets
  repeat' first
    | with_reducible assumption
    | with_reducible apply Frame.ite
    | ((with_reducible apply Block.runFw_frame); · exact sub_trans rfl hm)
    | with_reducible apply h3
    | (split <;> try extract_lets)

theorem doCommit_frame x0 x1 : Frame 278545 x1 (doCommit x0 x1) := by
  unfold doCommit
  try extract_lets
  repeat' first
    | with_reducible assumption
    | with_reducible exact Frame.refl _ _
    | (with_reducible intro _; try extract_lets)
    | with_reducible apply Frame.ite
    | ((with_reducible apply Block.runStore_frame); · rfl)
    | ((with_reducible apply Block.perform_frame); · rfl)
    | ((with_reducible apply Frame.via (Block.answer_frame _ _ _ _)); · rfl)
    | ((with_reducible apply Frame.via (Block.refuse_frame _ _ _ _ _)); · rfl)
    | ((with_reducible apply Frame.via (Block.setHoard_frame _ _)); · rfl)
    | (split <;> try extract_lets)

theorem Block.setUpdate_frame x0 x1 : Frame 1048577 x0 (Block.setUpdate x0 x1) := by
  unfold Block.setUpdate
  try extract_lets
  repeat' first
    | with_reducible assumption
    | with_reducible exact Frame.refl _ _
    | ((with_reducible apply Frame.via (Block.put_frame _ _ _)); · rfl)
    | ((with_reducible apply Frame.put_update); · rfl)
    | with_reducible exact Frame.snd (by assumption)
    | with_reducible refine Frame.pair2 (by assumption) ?_
    | with_reducible refine Frame.pair3 (by assumption) ?_
    | with_reducible refine Frame.pair4 (by assumption) ?_
    | (split <;> try extract_lets)
    | (dsimp +zetaDelta only; split <;> try extract_lets)

theorem doKeepNodes_frame x0 x1 : Frame 425489 x1 (doKeepNodes x0 x1) := by
  unfold doKeepNodes
  try extract_lets
  repeat' first
    | with_reducible assumption
    | with_reducible exact Frame.refl _ _
    | (with_reducible intro _; try extract_lets)
    | ((with_reducible apply Block.runStore_frame); · rfl)
    | ((with_reducible apply Block.perform_frame); · rfl)
    | ((with_reducible apply Frame.via (Block.queueNodes_frame _ _ _ _)); · rfl)

theorem doMemFill_frame x0 x1 : Frame 81937 x1 (doMemFill x0 x1) := by
  unfold doMemFill
  try extract_lets
  repeat' first
    | with_reducible assumption
    | with_reducible exact Frame.refl _ _
    | (with_reducible intro _; try extract_lets)
    | with_reducible apply Frame.ite
    | with_reducible apply Frame.each
    | ((with_reducible apply Block.runFw_frame); · rfl)
    | ((with_reducible apply Block.perform_frame); · rfl)
    | ((with_reducible apply Frame.via (Block.answer_frame _ _ _ _)); · rfl)
    | ((with_reducible apply Frame.via (Block.memWrite_frame _ _ _)); · rfl)
    | (split <;> try extract_lets)

theorem Block.storePacket_frame {m : Nat} {s0 : Block} (x0 : Block) (x1 : Nat) (x2 : Packet) (x3 : Nat) (x4 : Nat) (x5 : Block → Block) (hm : subMask 151569 m = true) (h5 : (∀ t, Frame m s0 t → Frame m s0 (x5 t))) (h : Frame m s0 x0) : Frame m s0 (Block.storePacket x0 x1 x2 x3 x4 x5) := by
  unfold Block.storePacket
  try extract_lets
  repeat' first
    | with_reducible assumption
    | (with_reducible intro _; try extract_lets)
    | with_reducible apply Frame.ite
    | ((with_reducible apply Block.perform_frame); · exact sub_trans rfl hm)
    | refine Frame.via (Block.refuse_frame _ _ _ _ _) (sub_trans rfl hm) ?_
    | refine Frame.via (Block.configRefused_frame _) (sub_trans rfl hm) ?_
    | with_reducible apply h5
    | (split <;> try extract_lets)

theorem doConfigSave_frame x0 x1 : Frame 413713 x1 (doConfigSave x0 x1) := by
  unfold doConfigSave
  try extract_lets
  repeat' first
    | with_reducible assumption
    | with_reducible exact Frame.refl _ _
    | (with_reducible intro _; try extract_lets)
    | with_reducible apply Frame.each
    | ((with_reducible apply Block.runStore_frame); · rfl)
    | ((with_reducible apply Block.storePacket_frame); · rfl)
    | ((with_reducible apply Frame.via (Block.answer_frame _ _ _ _)); · rfl)
    | ((with_reducible apply Frame.via (Block.writeItem_frame _ _ _)); · rfl)

theorem Block.keepFlags_frame x0 x1 x2 x3 x4 : Frame 16385 x0 (Block.keepFlags x0 x1 x2 x3 x4) := by
  unfold Block.keepFlags
  try extract_lets
  repeat' first
    | with_reducible assumption
    | with_reducible exact Frame.refl _ _
    | (with_reducible intro _; try extract_lets)
    | ((with_reducible apply Frame.via (Block.put_frame _ _ _)); · rfl)
    | ((with_reducible apply Frame.via (Block.setRunning_frame _ _ _ _)); · rfl)

theorem Block.makePersistent_frame x0 x1 x2 x3 : Frame 413713 x0 (Block.makePersistent x0 x1 x2 x3) := by
  unfold Block.makePersistent
  try extract_lets
  repeat' first
    | with_reducible assumption
    | with_reducible exact Frame.refl _ _
    | with_reducible apply Frame.ite
    | ((with_reducible apply Frame.via (Block.promote_frame _ _)); · rfl)
    | ((with_reducible apply Frame.via (Block.commitTold_frame _ _ _ _)); · rfl)
    | ((with_reducible apply Frame.via (Block.setHoard_frame _ _)); · rfl)
    | with_reducible exact Frame.snd (by assumption)
    | with_reducible refine Frame.pair2 (by assumption) ?_
    | with_reducible refine Frame.pair3 (by assumption) ?_
    | with_reducible refine Frame.pair4 (by assumption) ?_
    | (split <;> try extract_lets)
    | (dsimp +zetaDelta only; split <;> try extract_lets)

theorem doImageRestore_frame x0 x1 : Frame 1015313 x1 (doImageRestore x0 x1) := by
  unfold doImageRestore
  try extract_lets
  repeat' first
    | with_reducible assumption
    | with_reducible exact Frame.refl _ _
    | (with_reducible intro _; try extract_lets)
    | with_reducible apply Frame.ite
    | with_reducible apply Frame.each
    | ((with_reducible apply Block.runStore_frame); · rfl)
    | ((with_reducible apply Block.perform_frame); · rfl)
    | ((with_reducible apply Frame.via (Block.torn_frame _)); · rfl)
    | ((with_reducible apply Frame.via (Block.restoreHubs_frame _ _ _ _ _)); · rfl)
    | ((with_reducible apply Frame.via (Block.buildTable_frame _ _ _ _)); · rfl)
    | ((with_reducible apply Frame.via (Block.makePersistent_frame _ _ _ _)); · rfl)
    | ((with_reducible apply Frame.via (Block.keepFlags_frame _ _ _ _ _)); · rfl)
    | ((with_reducible apply Frame.via (Block.life_frame _ _ _)); · rfl)
    | with_reducible exact Frame.snd (by assumption)
    | with_reducible refine Frame.pair2 (by assumption) ?_
    | with_reducible refine Frame.pair3 (by assumption) ?_
    | with_reducible refine Frame.pair4 (by assumption) ?_
    | (split <;> try extract_lets)
    | (dsimp +zetaDelta only; split <;> try extract_lets)

theorem doFwData_frame x0 x1 : Frame 413713 x1 (doFwData x0 x1) := by
  unfold doFwData
  try extract_lets
  repeat' first
    | with_reducible assumption
    | with_reducible exact Frame.refl _ _
    | (with_reducible intro _; try extract_lets)
    | with_reducible apply Frame.ite
    | ((with_reducible apply Block.runStore_frame); · rfl)
    | ((with_reducible apply Frame.via (Block.refuse_frame _ _ _ _ _)); · rfl)
    | ((with_reducible apply Block.perform_frame); · rfl)
    | ((with_reducible apply Frame.via (Block.answer_frame _ _ _ _)); · rfl)
    | ((with_reducible apply Frame.via (Block.hWrite_frame _ _ _)); · rfl)
    | with_reducible exact Frame.snd (by assumption)
    | with_reducible refine Frame.pair2 (by assumption) ?_
    | with_reducible refine Frame.pair3 (by assumption) ?_
    | with_reducible refine Frame.pair4 (by assumption) ?_
    | (split <;> try extract_lets)
    | (dsimp +zetaDelta only; split <;> try extract_lets)

theorem doItemWrite_frame x0 x1 : Frame 413713 x1 (doItemWrite x0 x1) := by
  unfold doItemWrite
  try extract_lets
  repeat' first
    | with_reducible assumption
    | with_reducible exact Frame.refl _ _
    | (with_reducible intro _; try extract_lets)
    | ((with_reducible apply Block.runStore_frame); · rfl)
    | ((with_reducible apply Block.storePacket_frame); · rfl)
    | ((with_reducible apply Frame.via (Block.writeItem_frame _ _ _)); · rfl)
    | ((with_reducible apply Frame.via (Block.answer_frame _ _ _ _)); · rfl)
    | ((with_reducible apply Frame.via (Block.applyItem_frame _ _)); · rfl)
    | with_reducible exact Frame.snd (by assumption)
    | with_reducible refine Frame.pair2 (by assumption) ?_
    | with_reducible refine Frame.pair3 (by assumption) ?_
    | with_reducible refine Frame.pair4 (by assumption) ?_
    | (split <;> try extract_lets)
    | (dsimp +zetaDelta only; split <;> try extract_lets)

theorem doCalSetup_frame x0 x1 : Frame 413713 x1 (doCalSetup x0 x1) := by
  unfold doCalSetup
  try extract_lets
  repeat' first
    | with_reducible assumption
    | with_reducible exact Frame.refl _ _
    | (with_reducible intro _; try extract_lets)
    | ((with_reducible apply Block.runStore_frame); · rfl)
    | ((with_reducible apply Block.storePacket_frame); · rfl)
    | ((with_reducible apply Frame.via (Block.answer_frame _ _ _ _)); · rfl)
    | ((with_reducible apply Frame.via (Block.writeItem_frame _ _ _)); · rfl)

theorem doFwActivate_frame x0 x1 : Frame 1465393 x1 (doFwActivate x0 x1) := by
  unfold doFwActivate
  try extract_lets
  repeat' first
    | with_reducible assumption
    | with_reducible exact Frame.refl _ _
    | (with_reducible intro _; try extract_lets)
    | with_reducible apply Frame.ite
    | ((with_reducible apply Block.runStore_frame); · rfl)
    | ((with_reducible apply Frame.via (Block.refuse_frame _ _ _ _ _)); · rfl)
    | ((with_reducible apply Block.storePacket_frame); · rfl)
    | ((with_reducible apply Frame.via (Block.writeBoot_frame _ _)); · rfl)
    | ((with_reducible apply Frame.via (Block.setUpdate_frame _ _)); · rfl)
    | ((with_reducible apply Frame.via (Block.bearRestart_frame _ _)); · rfl)
    | ((with_reducible apply Frame.put_den); · rfl)
    | (split <;> try extract_lets)

theorem doFwBegin_frame x0 x1 : Frame 1064977 x1 (doFwBegin x0 x1) := by
  unfold doFwBegin
  try extract_lets
  repeat' first
    | with_reducible assumption
    | with_reducible exact Frame.refl _ _
    | (with_reducible intro _; try extract_lets)
    | with_reducible apply Frame.ite
    | ((with_reducible apply Block.runStore_frame); · rfl)
    | ((with_reducible apply Block.perform_frame); · rfl)
    | ((with_reducible apply Frame.via (Block.answer_frame _ _ _ _)); · rfl)
    | ((with_reducible apply Frame.via (Block.setUpdate_frame _ _)); · rfl)
    | (split <;> try extract_lets)

theorem doFigureRead_frame x0 x1 : Frame 16401 x1 (doFigureRead x0 x1) := by
  unfold doFigureRead
  try extract_lets
  repeat' first
    | with_reducible assumption
    | with_reducible exact Frame.refl _ _
    | (with_reducible intro _; try extract_lets)
    | ((with_reducible apply Block.runFw_frame); · rfl)
    | ((with_reducible apply Block.perform_frame); · rfl)
    | ((with_reducible apply Frame.via (Block.answer_frame _ _ _ _)); · rfl)

theorem doTrailRead_frame x0 x1 : Frame 16401 x1 (doTrailRead x0 x1) := by
  unfold doTrailRead
  try extract_lets
  repeat' first
    | with_reducible assumption
    | with_reducible exact Frame.refl _ _
    | (with_reducible intro _; try extract_lets)
    | ((with_reducible apply Block.runStore_frame); · rfl)
    | ((with_reducible apply Block.perform_frame); · rfl)
    | ((with_reducible apply Frame.via (Block.finish_frame _ _ _ _ _ _ _)); · rfl)

theorem Block.restoreDomain_frame x0 x1 x2 x3 x4 : Frame 1015313 x0 (Block.restoreDomain x0 x1 x2 x3 x4).2 := by
  unfold Block.restoreDomain
  try extract_lets
  repeat' first
    | with_reducible assumption
    | with_reducible exact Frame.refl _ _
    | (with_reducible intro _; try extract_lets)
    | with_reducible apply Frame.each
    | ((with_reducible apply Frame.via (Block.reportSources_frame _ _ _)); · rfl)
    | ((with_reducible apply Frame.via (Block.restoreWrites_frame _ _ _)); · rfl)
    | ((with_reducible apply Frame.via (Block.restoreStep_frame _ _ _ _ _)); · rfl)
    | ((with_reducible apply Frame.via (Block.putTable_frame _ _ _ _)); · rfl)
    | ((with_reducible apply Frame.via (Block.beginRestoring_frame _)); · rfl)
    | ((with_reducible apply Frame.via (Block.queueRecord_frame _ _)); · rfl)
    | with_reducible exact Frame.snd (by assumption)
    | with_reducible refine Frame.pair2 (by assumption) ?_
    | with_reducible refine Frame.pair3 (by assumption) ?_
    | with_reducible refine Frame.pair4 (by assumption) ?_
    | (split <;> try extract_lets)
    | (dsimp +zetaDelta only; split <;> try extract_lets)
    | dsimp only

theorem doDomainRestore_frame x0 x1 : Frame 1015313 x1 (doDomainRestore x0 x1) := by
  unfold doDomainRestore
  try extract_lets
  repeat' first
    | with_reducible assumption
    | with_reducible exact Frame.refl _ _
    | (with_reducible intro _; try extract_lets)
    | with_reducible apply Frame.ite
    | ((with_reducible apply Block.runStore_frame); · rfl)
    | ((with_reducible apply Block.perform_frame); · rfl)
    | ((with_reducible apply Frame.via (Block.torn_frame _)); · rfl)
    | ((with_reducible apply Frame.via (Block.reportSources_frame _ _ _)); · rfl)
    | ((with_reducible apply Frame.via (Block.keepFlags_frame _ _ _ _ _)); · rfl)
    | ((with_reducible apply Frame.via (Block.life_frame _ _ _)); · rfl)
    | ((with_reducible apply Frame.via (Block.restoreDomain_frame _ _ _ _ _)); · rfl)
    | with_reducible exact Frame.snd (by assumption)
    | with_reducible refine Frame.pair2 (by assumption) ?_
    | with_reducible refine Frame.pair3 (by assumption) ?_
    | with_reducible refine Frame.pair4 (by assumption) ?_
    | (split <;> try extract_lets)
    | (dsimp +zetaDelta only; split <;> try extract_lets)

theorem doParamSet_frame x0 x1 : Frame 413713 x1 (doParamSet x0 x1) := by
  unfold doParamSet
  try extract_lets
  repeat' first
    | with_reducible assumption
    | with_reducible exact Frame.refl _ _
    | (with_reducible intro _; try extract_lets)
    | ((with_reducible apply Block.runStore_frame); · rfl)
    | ((with_reducible apply Block.storePacket_frame); · rfl)
    | ((with_reducible apply Frame.via (Block.hWrite_frame _ _ _)); · rfl)
    | ((with_reducible apply Frame.via (Block.answer_frame _ _ _ _)); · rfl)
    | ((with_reducible apply Frame.via (Block.setHoard_frame _ _)); · rfl)

theorem doItemRead_frame x0 x1 : Frame 16401 x1 (doItemRead x0 x1) := by
  unfold doItemRead
  try extract_lets
  repeat' first
    | with_reducible assumption
    | with_reducible exact Frame.refl _ _
    | (with_reducible intro _; try extract_lets)
    | ((with_reducible apply Block.runStore_frame); · rfl)
    | ((with_reducible apply Block.perform_frame); · rfl)
    | ((with_reducible apply Frame.via (Block.answer_frame _ _ _ _)); · rfl)
    | with_reducible exact Frame.snd (by assumption)
    | with_reducible refine Frame.pair2 (by assumption) ?_
    | with_reducible refine Frame.pair3 (by assumption) ?_
    | with_reducible refine Frame.pair4 (by assumption) ?_
    | (split <;> try extract_lets)
    | (dsimp +zetaDelta only; split <;> try extract_lets)

theorem doFwCheck_frame x0 x1 : Frame 1200145 x1 (doFwCheck x0 x1) := by
  unfold doFwCheck
  try extract_lets
  repeat' first
    | with_reducible assumption
    | with_reducible exact Frame.refl _ _
    | (with_reducible intro _; try extract_lets)
    | with_reducible apply Frame.ite
    | ((with_reducible apply Block.runStore_frame); · rfl)
    | ((with_reducible apply Frame.via (Block.refuse_frame _ _ _ _ _)); · rfl)
    | ((with_reducible apply Frame.via (Block.raise_frame _ _ _)); · rfl)
    | ((with_reducible apply Frame.via (Block.put_frame _ _ _)); · rfl)
    | ((with_reducible apply Frame.via (Block.setUpdate_frame _ _)); · rfl)
    | ((with_reducible apply Frame.via (Block.answer_frame _ _ _ _)); · rfl)
    | with_reducible exact Frame.snd (by assumption)
    | with_reducible refine Frame.pair2 (by assumption) ?_
    | with_reducible refine Frame.pair3 (by assumption) ?_
    | with_reducible refine Frame.pair4 (by assumption) ?_
    | (split <;> try extract_lets)
    | (dsimp +zetaDelta only; split <;> try extract_lets)

theorem doDomainGet_frame x0 x1 : Frame 16401 x1 (doDomainGet x0 x1) := by
  unfold doDomainGet
  try extract_lets
  repeat' first
    | with_reducible assumption
    | with_reducible exact Frame.refl _ _
    | (with_reducible intro _; try extract_lets)
    | ((with_reducible apply Block.runStore_frame); · rfl)
    | ((with_reducible apply Block.perform_frame); · rfl)
    | ((with_reducible apply Frame.via (Block.answer_frame _ _ _ _)); · rfl)

theorem doCountersRead_frame x0 x1 : Frame 16401 x1 (doCountersRead x0 x1) := by
  unfold doCountersRead
  try extract_lets
  repeat' first
    | with_reducible assumption
    | with_reducible exact Frame.refl _ _
    | (with_reducible intro _; try extract_lets)
    | ((with_reducible apply Block.runFw_frame); · rfl)
    | ((with_reducible apply Block.perform_frame); · rfl)
    | ((with_reducible apply Frame.via (Block.answer_frame _ _ _ _)); · rfl)

theorem doTrailClear_frame x0 x1 : Frame 413713 x1 (doTrailClear x0 x1) := by
  unfold doTrailClear
  try extract_lets
  repeat' first
    | with_reducible assumption
    | with_reducible exact Frame.refl _ _
    | (with_reducible intro _; try extract_lets)
    | with_reducible apply Frame.ite
    | ((with_reducible apply Block.runStore_frame); · rfl)
    | ((with_reducible apply Frame.via (Block.answer_frame _ _ _ _)); · rfl)
    | ((with_reducible apply Block.perform_frame); · rfl)
    | ((with_reducible apply Frame.via (Block.refuse_frame _ _ _ _ _)); · rfl)
    | ((with_reducible apply Block.storePacket_frame); · rfl)
    | ((with_reducible apply Frame.via (Block.writeItem_frame _ _ _)); · rfl)
    | ((with_reducible apply Frame.via (Block.put_frame _ _ _)); · rfl)
    | ((with_reducible apply Frame.via (Block.setFill_frame _ _)); · rfl)
    | ((with_reducible apply Frame.put_ev); · rfl)
    | (split <;> try extract_lets)

theorem doGuardStore_frame x0 x1 : Frame 413713 x1 (doGuardStore x0 x1) := by
  unfold doGuardStore
  try extract_lets
  repeat' first
    | with_reducible assumption
    | with_reducible exact Frame.refl _ _
    | (with_reducible intro _; try extract_lets)
    | ((with_reducible apply Block.runStore_frame); · rfl)
    | ((with_reducible apply Block.storePacket_frame); · rfl)
    | ((with_reducible apply Frame.via (Block.answer_frame _ _ _ _)); · rfl)
    | ((with_reducible apply Frame.via (Block.writeItem_frame _ _ _)); · rfl)

theorem doHoardRead_frame x0 x1 : Frame 16401 x1 (doHoardRead x0 x1) := by
  unfold doHoardRead
  try extract_lets
  repeat' first
    | with_reducible assumption
    | with_reducible exact Frame.refl _ _
    | (with_reducible intro _; try extract_lets)
    | ((with_reducible apply Block.runStore_frame); · rfl)
    | ((with_reducible apply Block.perform_frame); · rfl)
    | ((with_reducible apply Frame.via (Block.finish_frame _ _ _ _ _ _ _)); · rfl)

theorem doDomainSet_frame x0 x1 : Frame 413713 x1 (doDomainSet x0 x1) := by
  unfold doDomainSet
  try extract_lets
  repeat' first
    | with_reducible assumption
    | with_reducible exact Frame.refl _ _
    | (with_reducible intro _; try extract_lets)
    | ((with_reducible apply Block.runStore_frame); · rfl)
    | ((with_reducible apply Block.storePacket_frame); · rfl)
    | ((with_reducible apply Frame.via (Block.answer_frame _ _ _ _)); · rfl)
    | ((with_reducible apply Frame.via (Block.writeItem_frame _ _ _)); · rfl)

theorem doCalRun_frame x0 x1 : Frame 675865 x1 (doCalRun x0 x1) := by
  unfold doCalRun
  try extract_lets
  repeat' first
    | with_reducible assumption
    | with_reducible exact Frame.refl _ _
    | (with_reducible intro _; try extract_lets)
    | with_reducible apply Frame.ite
    | ((with_reducible apply Block.runStore_frame); · rfl)
    | ((with_reducible apply Frame.via (Block.refuse_frame _ _ _ _ _)); · rfl)
    | ((with_reducible apply Frame.via (Block.discardRequest_frame _ _)); · rfl)
    | ((with_reducible apply Frame.via (Block.request_frame _ _ _ _)); · rfl)
    | ((with_reducible apply Frame.via (Block.nextOrder_frame _)); · rfl)
    | ((with_reducible apply Frame.via (Block.answer_frame _ _ _ _)); · rfl)
    | (split <;> try extract_lets)

end Sys2Proof.Machine
end

