-- ==== Sys2Proof/Laws/FrameTap.lean ====
section
/-! SUPPORT. What each function of Machine/Tap.lean may change. -/

namespace Sys2Proof.Machine

theorem Block.abortGuards_frame x0 x1 : Frame 423441 x0 (Block.abortGuards x0 x1) := by
  unfold Block.abortGuards
  try extract_lets
  repeat' first
    | with_reducible assumption
    | with_reducible exact Frame.refl _ _
    | (with_reducible intro _; try extract_lets)
    | with_reducible apply Frame.each
    | ((with_reducible apply Frame.via (Block.setQueue_frame _ _ _ _)); · rfl)
    | ((with_reducible apply Frame.via (Block.complete_frame _ _ _ _)); · rfl)

theorem Block.tapTo_frame x0 x1 : Frame 425617 x0 (Block.tapTo x0 x1) := by
  unfold Block.tapTo
  try extract_lets
  repeat' first
    | with_reducible assumption
    | with_reducible exact Frame.refl _ _
    | (with_reducible intro _; try extract_lets)
    | with_reducible apply Frame.ite
    | with_reducible apply Frame.each
    | ((with_reducible apply Frame.via (Block.stopTrunk_frame _ _)); · rfl)
    | ((with_reducible apply Frame.via (Block.abortGuards_frame _ _)); · rfl)
    | ((with_reducible apply Frame.via (Block.startTrunk_frame _ _)); · rfl)
    | ((with_reducible apply Frame.put_tap); · rfl)
    | (split <;> try extract_lets)

theorem doTestLogicReset_frame x0 : Frame 425617 x0 (doTestLogicReset x0) := by
  unfold doTestLogicReset
  try extract_lets
  repeat' first
    | with_reducible assumption
    | with_reducible exact Frame.refl _ _
    | ((with_reducible apply Frame.via (Block.tapTo_frame _ _)); · rfl)

theorem Block.tapFrames_frame x0 x1 x2 : Frame 32768 x0 (Block.tapFrames x0 x1 x2) := by
  unfold Block.tapFrames
  try extract_lets
  repeat' first
    | with_reducible assumption
    | with_reducible exact Frame.refl _ _
    | (with_reducible intro _; try extract_lets)
    | with_reducible apply Frame.ite
    | with_reducible apply Frame.each
    | ((with_reducible apply Frame.via (Block.setPort_frame _ _ _)); · rfl)
    | (split <;> try extract_lets)

theorem doHighz_frame x0 x1 x2 : Frame 458385 x2 (doHighz x0 x1 x2) := by
  unfold doHighz
  try extract_lets
  repeat' first
    | with_reducible assumption
    | with_reducible exact Frame.refl _ _
    | with_reducible apply Frame.ite
    | ((with_reducible apply Frame.via (Block.tapTo_frame _ _)); · rfl)
    | ((with_reducible apply Frame.via (Block.tapFrames_frame _ _ _)); · rfl)
    | (split <;> try extract_lets)

theorem Block.capture_frame x0 x1 : Frame 128 x0 (Block.capture x0 x1) := by
  unfold Block.capture
  try extract_lets
  repeat' first
    | with_reducible assumption
    | with_reducible exact Frame.refl _ _
    | (with_reducible intro _; try extract_lets)
    | with_reducible apply Frame.ite
    | with_reducible apply Frame.foldl
    | with_reducible apply Frame.foldlFst
    | with_reducible apply Frame.foldlSnd
    | ((with_reducible apply Frame.put_tap); · rfl)
    | (split <;> try extract_lets)
    | dsimp only

theorem doBypass_frame x0 : Frame 425617 x0 (doBypass x0) := by
  unfold doBypass
  try extract_lets
  repeat' first
    | with_reducible assumption
    | with_reducible exact Frame.refl _ _
    | ((with_reducible apply Frame.via (Block.tapTo_frame _ _)); · rfl)

theorem doSample_frame x0 x1 : Frame 425617 x1 (doSample x0 x1) := by
  unfold doSample
  try extract_lets
  repeat' first
    | with_reducible assumption
    | with_reducible exact Frame.refl _ _
    | ((with_reducible apply Frame.via (Block.capture_frame _ _)); · rfl)
    | ((with_reducible apply Frame.via (Block.tapTo_frame _ _)); · rfl)

theorem doPreload_frame x0 x1 : Frame 425617 x1 (doPreload x0 x1) := by
  unfold doPreload
  try extract_lets
  repeat' first
    | with_reducible assumption
    | with_reducible exact Frame.refl _ _
    | ((with_reducible apply Frame.via (Block.tapTo_frame _ _)); · rfl)
    | ((with_reducible apply Frame.put_tap); · rfl)

theorem doIdcode_frame x0 : Frame 425617 x0 (doIdcode x0) := by
  unfold doIdcode
  try extract_lets
  repeat' first
    | with_reducible assumption
    | with_reducible exact Frame.refl _ _
    | ((with_reducible apply Frame.via (Block.tapTo_frame _ _)); · rfl)

theorem doClamp_frame x0 x1 x2 : Frame 458385 x2 (doClamp x0 x1 x2) := by
  unfold doClamp
  try extract_lets
  repeat' first
    | with_reducible assumption
    | with_reducible exact Frame.refl _ _
    | with_reducible apply Frame.ite
    | ((with_reducible apply Frame.via (Block.tapTo_frame _ _)); · rfl)
    | ((with_reducible apply Frame.via (Block.tapFrames_frame _ _ _)); · rfl)
    | (split <;> try extract_lets)

theorem doExtest_frame x0 x1 x2 x3 x4 : Frame 458385 x4 (doExtest x0 x1 x2 x3 x4) := by
  unfold doExtest
  try extract_lets
  repeat' first
    | with_reducible assumption
    | with_reducible exact Frame.refl _ _
    | with_reducible apply Frame.ite
    | ((with_reducible apply Frame.via (Block.capture_frame _ _)); · rfl)
    | ((with_reducible apply Frame.via (Block.tapTo_frame _ _)); · rfl)
    | ((with_reducible apply Frame.via (Block.tapFrames_frame _ _ _)); · rfl)
    | ((with_reducible apply Frame.put_tap); · rfl)
    | with_reducible exact Frame.snd (by assumption)
    | with_reducible refine Frame.pair2 (by assumption) ?_
    | with_reducible refine Frame.pair3 (by assumption) ?_
    | with_reducible refine Frame.pair4 (by assumption) ?_
    | (split <;> try extract_lets)
    | (dsimp +zetaDelta only; split <;> try extract_lets)

end Sys2Proof.Machine
end

