-- ==== Sys2Proof/Laws/Regs.lean ====
section
/-! SUPPORT. The laws of registers and their fields: what reads after a write, and that a write of a register changes
nothing else; and which registers the delivery of an event may change. -/

namespace Sys2Proof.Machine

/-! Bit fields. -/

theorem bitsOf_lt {n : Nat} (w : BitVec n) (hi lo : Nat) : bitsOf w hi lo < 2 ^ (hi - lo + 1) :=
  Nat.mod_lt _ (Nat.two_pow_pos _)

/-- A number cut at bits `lo` and `lo + k`. -/
theorem cut_field (w lo k : Nat) : w = w % 2 ^ lo + 2 ^ lo * (w / 2 ^ lo % 2 ^ k + 2 ^ k * (w / 2 ^ lo / 2 ^ k)) := by
  rw [Nat.mod_add_div, Nat.mod_add_div]

theorem withBits_toNat {n : Nat} (w : BitVec n) {hi lo : Nat} (v : Nat) (h : lo ≤ hi) (hn : hi < n) :
    (withBits w hi lo v).toNat = w.toNat % 2 ^ lo +
      2 ^ lo * (v % 2 ^ (hi - lo + 1) + 2 ^ (hi - lo + 1) * (w.toNat / 2 ^ lo / 2 ^ (hi - lo + 1))) := by
  unfold withBits bitsOf
  generalize hk : hi - lo + 1 = k
  have hw := cut_field w.toNat lo k
  have hv : v % 2 ^ k < 2 ^ k := Nat.mod_lt _ (Nat.two_pow_pos _)
  have hl : w.toNat % 2 ^ lo < 2 ^ lo := Nat.mod_lt _ (Nat.two_pow_pos _)
  have hlt := w.isLt
  generalize w.toNat % 2 ^ lo = L at *
  generalize w.toNat / 2 ^ lo % 2 ^ k = F at *
  have ha : w.toNat / 2 ^ lo / 2 ^ k < 2 ^ (n - lo - k) := by
    rw [Nat.div_div_eq_div_mul, ← Nat.pow_add]
    apply Nat.div_lt_of_lt_mul
    rw [← Nat.pow_add]
    have : lo + k + (n - lo - k) = n := by omega
    rw [this]; exact hlt
  generalize w.toNat / 2 ^ lo / 2 ^ k = A at *
  generalize v % 2 ^ k = V at *
  have e1 : w.toNat - F * 2 ^ lo + V * 2 ^ lo = L + 2 ^ lo * (V + 2 ^ k * A) := by
    rw [hw, Nat.mul_add, Nat.mul_add, Nat.mul_comm F, Nat.mul_comm V]; omega
  rw [e1, BitVec.toNat_ofNat]
  apply Nat.mod_eq_of_lt
  have e2 : V + 2 ^ k * A < 2 ^ k * 2 ^ (n - lo - k) := by
    have : 2 ^ k * (A + 1) ≤ 2 ^ k * 2 ^ (n - lo - k) := Nat.mul_le_mul_left _ ha
    rw [Nat.mul_add] at this; omega
  have e3 : 2 ^ lo * (V + 2 ^ k * A + 1) ≤ 2 ^ lo * (2 ^ k * 2 ^ (n - lo - k)) := Nat.mul_le_mul_left _ e2
  have e4 : 2 ^ lo * (2 ^ k * 2 ^ (n - lo - k)) = 2 ^ n := by
    rw [← Nat.pow_add, ← Nat.pow_add]; congr 1; omega
  rw [e4, Nat.mul_add (2 ^ lo) (V + 2 ^ k * A) 1] at e3
  omega

/-- A field reads what was written to it. -/
theorem bitsOf_withBits {n : Nat} (w : BitVec n) {hi lo : Nat} (v : Nat) (h : lo ≤ hi) (hn : hi < n) :
    bitsOf (withBits w hi lo v) hi lo = v % 2 ^ (hi - lo + 1) := by
  unfold bitsOf
  rw [withBits_toNat w v h hn]
  have hl : w.toNat % 2 ^ lo < 2 ^ lo := Nat.mod_lt _ (Nat.two_pow_pos _)
  rw [Nat.add_mul_div_left _ _ (Nat.two_pow_pos _), Nat.div_eq_of_lt hl, Nat.zero_add, Nat.add_mul_mod_self_left,
    Nat.mod_mod]

/-- A field below the one written keeps its value. -/
theorem bitsOf_withBits_below {n : Nat} (w : BitVec n) {hi lo hi' lo' : Nat} (v : Nat) (h : lo ≤ hi) (hn : hi < n)
    (h' : lo' ≤ hi') (hd : hi' < lo) : bitsOf (withBits w hi lo v) hi' lo' = bitsOf w hi' lo' := by
  unfold bitsOf
  rw [withBits_toNat w v h hn]
  have e : lo = lo' + (hi' - lo' + 1) + (lo - hi' - 1) := by omega
  have e2 : ∀ x y : Nat, (x % 2 ^ lo + 2 ^ lo * y) / 2 ^ lo' % 2 ^ (hi' - lo' + 1) = x / 2 ^ lo' % 2 ^ (hi' - lo' + 1) := by
    intro x y
    have hm : (x % 2 ^ lo + 2 ^ lo * y) % 2 ^ (lo' + (hi' - lo' + 1)) = x % 2 ^ (lo' + (hi' - lo' + 1)) := by
      rw [e, Nat.pow_add, Nat.mul_assoc, Nat.add_mul_mod_self_left, Nat.mod_mul_right_mod]
    rw [← Nat.mod_mul_right_div_self, ← Nat.mod_mul_right_div_self, ← Nat.pow_add, hm]
  exact e2 _ _

/-- A field above the one written keeps its value. -/
theorem bitsOf_withBits_above {n : Nat} (w : BitVec n) {hi lo hi' lo' : Nat} (v : Nat) (h : lo ≤ hi) (hn : hi < n)
    (hd : hi < lo') : bitsOf (withBits w hi lo v) hi' lo' = bitsOf w hi' lo' := by
  unfold bitsOf
  rw [withBits_toNat w v h hn]
  have hl : w.toNat % 2 ^ lo < 2 ^ lo := Nat.mod_lt _ (Nat.two_pow_pos _)
  have hv : v % 2 ^ (hi - lo + 1) < 2 ^ (hi - lo + 1) := Nat.mod_lt _ (Nat.two_pow_pos _)
  have e : 2 ^ lo' = 2 ^ lo * (2 ^ (hi - lo + 1) * 2 ^ (lo' - hi - 1)) := by
    rw [← Nat.pow_add, ← Nat.pow_add]; congr 1; omega
  generalize 2 ^ (hi - lo + 1) = K at *
  rw [e, ← Nat.div_div_eq_div_mul, ← Nat.div_div_eq_div_mul, ← Nat.div_div_eq_div_mul, ← Nat.div_div_eq_div_mul,
    Nat.add_mul_div_left _ _ (Nat.two_pow_pos _), Nat.div_eq_of_lt hl, Nat.zero_add,
    Nat.add_mul_div_left _ _ (by omega), Nat.div_eq_of_lt hv, Nat.zero_add]

/-! Registers. -/

/-- A register reads what was last written to it; every other register reads as before. -/
theorem Block.reg_setReg (s : Block) (a : Nat) (v : Word) (b : Nat) :
    (s.setReg a v).reg b = if b = a then v else s.reg b := Bank.get_set _ _ _ _ _

@[simp] theorem Block.reg_setReg_self (s : Block) (a : Nat) (v : Word) : (s.setReg a v).reg a = v := by
  rw [Block.reg_setReg, if_pos rfl]

theorem Block.reg_setReg_ne (s : Block) {a b : Nat} (v : Word) (h : b ≠ a) : (s.setReg a v).reg b = s.reg b := by
  rw [Block.reg_setReg, if_neg h]

theorem Block.reg_put_ne (s : Block) {f : Fld} {b : Nat} (v : Nat) (h : b ≠ f.addr) : (s.put f v).reg b = s.reg b :=
  s.reg_setReg_ne _ h

theorem Block.reg_putB_ne (s : Block) {f : Fld} {b : Nat} (v : Bool) (h : b ≠ f.addr) : (s.putB f v).reg b = s.reg b :=
  s.reg_put_ne _ h

theorem Block.reg_bump_ne (s : Block) {f : Fld} {b : Nat} (k : Nat) (h : b ≠ f.addr) : (s.bump f k).reg b = s.reg b :=
  s.reg_put_ne _ h

theorem Block.reg_setBit_ne (s : Block) {a b : Nat} (i : Nat) (v : Bool) (h : b ≠ a) : (s.setBit a i v).reg b = s.reg b :=
  s.reg_setReg_ne _ h

/-- A field lies in its register. -/
def Fld.ok (f : Fld) : Bool := decide (f.lo ≤ f.hi) && decide (f.hi < 32)

theorem Block.get_put (s : Block) {f : Fld} (v : Nat) (h : f.ok = true) : (s.put f v).get f = v % 2 ^ f.width := by
  simp only [Fld.ok, Bool.and_eq_true, decide_eq_true_eq] at h
  unfold Block.get Block.put
  rw [Block.reg_setReg_self]
  exact bitsOf_withBits _ _ h.1 h.2

theorem Block.get_put_ne (s : Block) {f g : Fld} (v : Nat) (h : g.addr ≠ f.addr) : (s.put f v).get g = s.get g := by
  unfold Block.get; rw [Block.reg_put_ne s v h]

/-- Two fields of one register do not overlap. -/
def Fld.apart (f g : Fld) : Bool := decide (g.lo ≤ g.hi) && (decide (g.hi < f.lo) || decide (f.hi < g.lo))

theorem Block.get_put_apart (s : Block) {f g : Fld} (v : Nat) (h : f.ok = true) (hd : f.apart g = true) :
    (s.put f v).get g = s.get g := by
  simp only [Fld.ok, Fld.apart, Bool.and_eq_true, Bool.or_eq_true, decide_eq_true_eq] at h hd
  by_cases ha : g.addr = f.addr
  · unfold Block.get Block.put
    rw [ha, Block.reg_setReg_self]
    rcases hd.2 with hb | hb
    · exact bitsOf_withBits_below _ _ h.1 h.2 hd.1 hb
    · exact bitsOf_withBits_above _ _ h.1 h.2 hb
  · exact s.get_put_ne v ha

theorem Block.flag_putB (s : Block) {f : Fld} (b : Bool) (h : f.ok = true) : (s.putB f b).flag f = b := by
  unfold Block.flag Block.putB
  rw [s.get_put _ h]
  have h1 : 2 ^ f.width = 2 * 2 ^ (f.hi - f.lo) := by unfold Fld.width; rw [Nat.pow_succ, Nat.mul_comm]
  have hp : 0 < 2 ^ (f.hi - f.lo) := Nat.two_pow_pos _
  cases b
  · simp
  · have : (1 : Nat) % 2 ^ f.width = 1 := Nat.mod_eq_of_lt (by rw [h1]; omega)
    simp [this]

/-! Which registers the delivery of an event may change (chapter 17): the lost and staging counts of the Trail, the
attention paths' pending bits and shed counts, the Ply path's counts. -/

/-- A register that the delivery of an event may change. -/
def evReg (a : Nat) : Bool :=
  a == 0xC104 || a == 0xC110 || a == 0xE200 || a == 0xE204 || a == 0xE208 || a == 0xE20C || a == 0xE218 || a == 0xE230 ||
    a == 0xE234 || (decide (0xE700 ≤ a) && decide (a ≤ 0xE884))

/-- `t` reads as `s` in every register that the delivery of an event leaves alone. -/
def EvKeeps (s t : Block) : Prop := ∀ a, evReg a = false → t.reg a = s.reg a

theorem EvKeeps.refl (s : Block) : EvKeeps s s := fun _ _ => rfl

theorem EvKeeps.trans {s t u : Block} (h : EvKeeps s t) (h' : EvKeeps t u) : EvKeeps s u :=
  fun a ha => (h' a ha).trans (h a ha)

theorem EvKeeps.setReg {s t : Block} (h : EvKeeps s t) (a : Nat) (v : Word) (ha : evReg a = true) :
    EvKeeps s (t.setReg a v) := fun b hb => by
  rw [Block.reg_setReg_ne t v (fun e => by rw [e, ha] at hb; cases hb)]; exact h b hb

theorem EvKeeps.put {s t : Block} (h : EvKeeps s t) (f : Fld) (v : Nat) (ha : evReg f.addr = true) :
    EvKeeps s (t.put f v) := h.setReg _ _ ha

theorem EvKeeps.of_regs {s t u : Block} (h : EvKeeps s t) (e : u.regs = t.regs) : EvKeeps s u := fun a ha => by
  have : u.reg a = t.reg a := by unfold Block.reg; rw [e]
  rw [this]; exact h a ha

theorem EvKeeps.ite {s t u : Block} {c : Prop} [Decidable c] (h : EvKeeps s t) (h' : EvKeeps s u) :
    EvKeeps s (if c then t else u) := by split <;> assumption

theorem EvKeeps.countTrail (s : Block) (n : Nat) : EvKeeps s (s.countTrail n) := by
  unfold Block.countTrail Block.addLost
  extract_lets c
  exact .ite (EvKeeps.put (EvKeeps.setReg (.refl s) _ _ rfl) _ _ rfl) (EvKeeps.of_regs (.refl s) rfl)

theorem EvKeeps.stage {s t : Block} (h : EvKeeps s t) (r : TrailRec) : EvKeeps s (t.stage r) := by
  unfold Block.stage Block.showTrail
  exact EvKeeps.put (EvKeeps.put (h.of_regs rfl) _ _ rfl) _ _ rfl

theorem EvKeeps.raiseTrail (s : Block) (r : Raise) : EvKeeps s (s.raiseTrail r) := by
  unfold Block.raiseTrail
  extract_lets x e t
  have ht : EvKeeps s t := EvKeeps.of_regs (.refl s) rfl
  exact .ite (.refl s) (.ite (EvKeeps.stage (ht.of_regs rfl) _) (.countTrail s _))

theorem EvKeeps.markDrop {s t : Block} (h : EvKeeps s t) (q : Nat) : EvKeeps s (t.markDrop q) := by
  unfold Block.markDrop; exact EvKeeps.put (h.of_regs rfl) _ _ rfl

theorem EvKeeps.raisePly (s : Block) (r : Raise) : EvKeeps s (s.raisePly r) := by
  unfold Block.raisePly Block.countPly Block.offerEvt Block.countSingle
  refine .ite (.refl s) (.ite ?_ ?_)
  · refine .ite (EvKeeps.of_regs (.refl s) rfl) (.ite (EvKeeps.of_regs (.refl s) rfl) ?_)
    exact EvKeeps.markDrop (EvKeeps.put (EvKeeps.of_regs (.refl s) rfl) _ _ rfl) 0
  · extract_lets
    exact .ite (EvKeeps.put (EvKeeps.put (.refl s) _ _ rfl) _ _ rfl) (EvKeeps.of_regs (.refl s) rfl)

theorem EvKeeps.countSingle {s t : Block} (h : EvKeeps s t) (p : Nat) : EvKeeps s (t.countSingle p) := by
  unfold Block.countSingle
  exact h.of_regs rfl

theorem EvKeeps.pulseIf {s t : Block} (h : EvKeeps s t) (p : Nat) (held : Bool) : EvKeeps s (t.pulseIf p held) := by
  unfold Block.pulseIf
  exact .ite (h.of_regs rfl) h

theorem EvKeeps.setPending {s t : Block} (hk : EvKeeps s t) (h src : Nat) (hr : src < 1036) :
    EvKeeps s (t.setPending h src) := by
  have hp : evReg ((if h = 0 then Reg.EV_PEND_A 0 else Reg.EV_PEND_B 0) + 4 * (src / 32)) = true := by
    have : src / 32 < 33 := by omega
    generalize src / 32 = i at *
    split
    · exact (by decide : ∀ i < 33, evReg (Reg.EV_PEND_A 0 + 4 * i) = true) i this
    · exact (by decide : ∀ i < 33, evReg (Reg.EV_PEND_B 0 + 4 * i) = true) i this
  unfold Block.setPending
  exact EvKeeps.setReg (hk.of_regs rfl) _ _ hp

theorem EvKeeps.raiseAttn (s : Block) (h : Nat) (r : Raise) (hr : r.src < 1036) (hh : h < 2) : EvKeeps s (s.raiseAttn h r) := by
  have hs : evReg (Reg.EV_SHED h) = true := by
    have : h = 0 ∨ h = 1 := by omega
    rcases this with rfl | rfl <;> rfl
  have h1 : EvKeeps s (s.setPending h r.src) := (EvKeeps.refl s).setPending h r.src hr
  unfold Block.raiseAttn
  extract_lets en c held t
  refine .ite (.refl s) (.ite ?_ ?_)
  · exact EvKeeps.pulseIf (((EvKeeps.refl s).countSingle _).setPending h r.src hr) _ _
  · clear_value c
    split
    · exact EvKeeps.put h1 _ _ hs
    · exact EvKeeps.put h1 _ _ hs
    · exact EvKeeps.put (.refl s) _ _ hs
    · exact EvKeeps.put (.refl s) _ _ hs

theorem EvKeeps.each {α : Type} {s t : Block} {l : List α} {f : Block → α → Block}
    (hf : ∀ u x, EvKeeps s u → EvKeeps s (f u x)) (h : EvKeeps s t) : EvKeeps s (t.each l f) := by
  unfold Block.each
  induction l generalizing t with
  | nil => exact h
  | cons x l ih => exact ih (hf t x h)

theorem EvKeeps.raiseFox (s : Block) (r : Raise) : EvKeeps s (s.raiseFox r) := by
  unfold Block.raiseFox
  refine .each (fun u p hu => ?_) (.refl s)
  unfold Block.setEngine
  exact hu.of_regs rfl

theorem EvKeeps.deliver (s : Block) (r : Raise) (hr : r.src < 1036) : EvKeeps s (s.deliver r) := by
  unfold Block.deliver
  exact ((((EvKeeps.raiseTrail s r).trans (.raisePly _ r)).trans (.raiseAttn _ 0 r hr (by decide))).trans
    (.raiseAttn _ 1 r hr (by decide))).trans (.raiseFox _ r)

theorem EvKeeps.followUps (a b : Block) : EvKeeps b (followUps a b).2 := by
  unfold Sys2Proof.Machine.followUps Block.when
  extract_lets lost full drop b1 b2
  have h1 : EvKeeps b b1 := .ite (EvKeeps.put (.refl b) _ _ rfl) (.refl b)
  exact .ite (EvKeeps.put h1 _ _ rfl) h1

theorem followUps_src (a b : Block) : ∀ n ∈ (followUps a b).1, n < 1036 := by
  intro n hn
  unfold followUps at hn
  simp only [List.mem_append] at hn
  rcases hn with (hn | hn) | hn <;> split at hn <;> simp at hn <;> omega

theorem EvKeeps.deliverAll (fuel : Nat) (l : List Raise) (s : Block) (hl : ∀ r ∈ l, r.src < 1036) :
    EvKeeps s (Block.deliverAll fuel l s) := by
  induction fuel generalizing l s with
  | zero => exact .refl s
  | succ n ih =>
    cases l with
    | nil => exact .refl s
    | cons r rs =>
      have h1 := EvKeeps.deliver s r (hl r List.mem_cons_self)
      have h2 := EvKeeps.followUps s (s.deliver r)
      refine (h1.trans h2).trans (ih _ _ ?_)
      intro x hx
      rcases List.mem_append.mp hx with hx | hx
      · exact hl x (List.mem_cons_of_mem _ hx)
      · obtain ⟨m, hm, rfl⟩ := List.mem_map.mp hx
        exact followUps_src _ _ m hm

/-- Raising an event changes no register but those of its delivery paths. -/
theorem Block.raise_reg (s : Block) (src d : Nat) {a : Nat} (h : evReg a = false) : (s.raise src d).reg a = s.reg a := by
  unfold Block.raise Block.raiseWith
  split
  · next hs => exact EvKeeps.deliverAll _ _ _ (by simp [reservedSource] at hs; simpa using hs.2) a h
  · rfl

theorem Block.raise_get (s : Block) (src d : Nat) {f : Fld} (h : evReg f.addr = false) : (s.raise src d).get f = s.get f := by
  unfold Block.get; rw [Block.raise_reg s src d h]

end Sys2Proof.Machine
end

