-- ==== Sys2Proof/Tests/Slice0.lean ====
section
/-! SUPPORT. Own tests: ill-formed commands that WellFormed refuses, states that meet the hypotheses of the statements clause by
clause, Fox words written out from their encodings, and single steps against the spec's tables. -/

namespace Sys2Proof.Tests

open Sys2Proof.Machine

/-- The state with words put at register addresses. -/
def put (s : State) (l : List (Nat × Word)) : State := s.withBlock (l.foldl (fun b p => b.setReg p.1 p.2) s.toBlock)

/-- Every domain is powered and firmware runs. -/
def up : State := put State.reset [(Reg.PWR_ON_LO, 0xFFFFFFFF), (Reg.PWR_ON_HI, 0xFFFFF), (Reg.BEAR_STATUS, 1), (Reg.DEN_STATUS, 1)]

/-- The state with its block changed. -/
def on (s : State) (f : Block → Block) : State := s.withBlock (f s.toBlock)

/-- A run of a spindle with definition `d`, at stage `st`. -/
def aRun (kind : RunKind) (d : BitVec 128) (st : Stage) : Run := { State.reset.newRun 0 0 kind with dfn := d, stage := st }

/-- `up` with spindle `n` at run `r`. -/
def busy (n : Nat) (r : Run) : State := on up (·.setAct n (some r))

/-! What meets the hypotheses of each statement, clause by clause. -/

theorem meets_StepRunsFront :
    ({ State.reset with pending := [Instr.nop 0, Instr.coldReset] }).pending = Instr.nop 0 :: [Instr.coldReset] := rfl

theorem meets_StepTicksWhenIdle : State.reset.pending = [] ∧ State.reset.coarse = true ∧ up.pending = [] ∧ up.coarse = false := by
  decide

theorem meets_FormsKeptByStep : ∃ t, Memory.wf State.reset.mem = true ∧ Bank.wf regReset State.reset.regs = true ∧
    step State.reset = .next t := ⟨_, rfl, rfl, rfl⟩

theorem meets_RaiseChangesOnlyDelivery : ¬ deliveryReg 0 ∧ Part.mem ∉ [Part.regs, .ev, .fox, .ply] := by
  simp [deliveryReg]; decide

/-- `up` at a local count. -/
def lasting (t : BitVec 64) : State := on up (·.withLocalCount t)

def lossDue : State := on up (fun b => b.withPower { b.power with lossDue := some (3, 1) })

theorem meets_PowerStatesFollow :
    (State.reset.coreOn = false ∧ State.reset.get Reg.PWR_LOSS_CAUSE = 0 ∧ State.reset.power.lowAtStart = false) ∧
    (let s := on State.reset (fun b => b.withPower { b.power with lowAtStart := true });
      s.coreOn = false ∧ s.get Reg.PWR_LOSS_CAUSE = 0 ∧ s.power.lowAtStart = true) ∧
    (lossDue.power.lossDue = some (3, 1) ∧ lossDue.coreOn = true) ∧
    (let s := on (lasting 10000) (fun b => b.withPower { b.power with lossDue := some (2, 0), lossAt := 0 });
      s.power.lossDue = some (2, 0) ∧ s.coreOn = true ∧ s.power.lossAt + 10000 ≤ s.now) ∧
    (let s := on State.reset (·.put Reg.PWR_LOSS_CAUSE 3);
      s.coreOn = false ∧ s.get Reg.PWR_LOSS_CAUSE ≠ 0 ∧ s.clockBad 1 = false ∧ s.get Reg.PWR_LOSS_CAUSE ≠ 1) ∧
    (let s := on State.reset (fun b => ((b.put Reg.PWR_LOSS_CAUSE 1).withPower { b.power with coolAt := some 0 }).withLocalCount 1000000000);
      s.coreOn = false ∧ s.get Reg.PWR_LOSS_CAUSE = 1 ∧ s.clockBad 1 = false ∧ s.power.coolAt = some 0 ∧ 0 + 10 ^ 9 ≤ s.now) := by
  decide

theorem meets_SuppliesAndGovernorFollow :
    (State.reset.writable Reg.PWR_OFF_LO = true ∧ State.reset.coreOn = false) ∧
    (up.writable Reg.PWR_OFF_LO = true ∧ up.coreOn = true) ∧ (up.domainOn 6 = true ∧ up.power.lossDue = none) ∧
    up.railDown 7 = false ∧ (on up (fun b => b.withPower { b.power with lossDue := some (2, 0) })).power.lossDue = some (2, 0) ∧
    (let s := on (put State.reset [(Reg.PWR_ON_LO, 0x41)]) (·.withLocalCount 1000000);
      s.domainOn 6 = true ∧ s.coreOn = false ∧ Bank.get (fun _ => 0) s.power.clkAt 3 + 10 ^ 6 ≤ s.now) ∧
    up.now < Bank.get (fun _ => 0) up.power.clkAt 3 + 10 ^ 6 ∧
    ((lasting 1000000).domainOn 6 = true ∧ (lasting 1000000).busySS 16 = false ∧
      (lasting 1000000).power.govMs < (lasting 1000000).now / 10 ^ 6) ∧
    up.now / 10 ^ 6 ≤ up.power.govMs ∧
    (State.reset.dueAfter State.reset.power.aonAt 31360 = true ∧ State.reset.coreOn = false ∧ lossDue.power.lossDue.isSome = true) ∧
    (up.dueAfter up.power.aonAt 31360 = true ∧ up.coreOn = true ∧ up.power.lossDue = none ∧ 1104 ≤ (1104#16).toInt) := by decide

theorem meets_ResetsFollow :
    (up.flag Reg.RST_STATUS_LOW = false ∧ up.flag Reg.RST_STATUS_AUTO = false ∧ up.coreOn = true) ∧
    (State.reset.flag Reg.RST_STATUS_LOW = false ∧ State.reset.coreOn = false ∧ State.reset.get Reg.PWR_LOSS_CAUSE = 0) ∧
    (let s := on up (fun b => (b.put Reg.RST_STATUS_AUTO 1).put Reg.RST_STATUS_HIGH_10MS 0);
      s.flag Reg.RST_STATUS_LOW = false ∧ s.coreOn = true ∧ s.flag Reg.RST_STATUS_AUTO = true ∧
        s.flag Reg.RST_STATUS_HIGH_10MS = false) ∧
    (let b := fun (s : State) => on s (fun b => (b.put Reg.RST_CNT_LOWS 1).put Reg.RST_STATUS_LOW 1);
      (b State.reset).get Reg.RST_CNT_LOWS ≠ 0 ∧ (b State.reset).flag Reg.RST_STATUS_LOW = true ∧ (b State.reset).coreOn = false ∧
        (b up).get Reg.RST_CNT_LOWS ≠ 0 ∧ (b up).flag Reg.RST_STATUS_LOW = true ∧ (b up).coreOn = true) ∧
    (let b := fun (s : State) => on s (fun b => (b.put Reg.RST_STATUS_LOW 1).withLocalCount 8000000000#64);
      (∀ s ∈ [State.reset, up], (b s).flag Reg.RST_STATUS_LOW = true ∧ (b s).power.stuckNever = false ∧
        98 * 10 ^ 9 * (b s).power.stuckS ≤ 100 * ((b s).now - ((b s).pair Reg.RST_T_LO Reg.RST_T_HI).toNat)) ∧
        (b up).coreOn = true ∧ (b State.reset).coreOn = false) ∧
    (let s := on (lasting 10000000) (fun b => ((b.put Reg.RST_STATUS_AUTO 1).put Reg.RST_STATUS_PIN 1).withPower
        { b.power with highAt := some 0 });
      s.flag Reg.RST_STATUS_AUTO = true ∧ s.flag Reg.RST_STATUS_PIN = true ∧ s.power.highAt = some 0 ∧ 0 + 10 ^ 7 ≤ s.now) ∧
    (up.writable Reg.SS_RESET = true ∧ up.coreOn = true) ∧
    (let s := put up [(Reg.SS_BUSY, 0x18C02)];
      s.coreOn = true ∧ (∀ n ∈ [1, 10, 11, 15, 16], s.busySS n = true ∧ Bank.get (fun _ => 0) s.power.ssDone n ≤ s.now) ∧
        (s.setBit Reg.SS_BUSY 15 false).fwUp = true) ∧
    (resetTime 1 = 1000 ∧ (let s := on up (fun b => b.withPower { b.power with ssDone := Bank.set (fun _ => 0) b.power.ssDone 1 1 });
      s.now < Bank.get (fun _ => 0) s.power.ssDone 1)) := by decide

theorem meets_TestPortFollows :
    up.tap.inst.drives = false ∧
    (let s := on State.reset (fun b => b.withTap { b.tap with inst := .clamp });
      s.coreOn = false ∧ s.tap.inst.drives = true) := by decide

/-- `up` with both Ply links UP. -/
def linked : State := on up (fun b => (b.put Reg.PLY_STATUS_IN_STATE 2).put Reg.PLY_STATUS_OUT_STATE 2)

/-- An inbound packet of channel 0 with sequence number 7 (Table 14.4). -/
def plyPacket (kind : Nat) (pl : List (BitVec 64)) : List (BitVec 64) :=
  let h := BitVec.ofNat 64 (kind * 2 ^ 60 + 7 * 2 ^ 36 + pl.length * 2 ^ 24)
  h :: pl ++ [BitVec.ofNat 64 ((crc32 ((h :: pl).flatMap beBytes)).toNat * 2 ^ 32)]

/-- `linked` with LINE0 in state `st`, `missed` markers missing of a limit of 2, and the superframe of tick 64 begun. -/
def line (st missed : Nat) (table : Nat := 0) : State := on linked (fun b =>
  (((b.put (Reg.LINE_STATUS_STATE 0) st).put (Reg.LINE_CTL_HOLD_LIMIT 0) 2).put (Reg.LINE_STATUS_TABLE_VALID 0) table).setLine 0
    { b.lineTb 0 with missed := missed, seen := true, qwSf := some 64 })

/-- `line` when the next marker's instant is past. -/
def overdue (st missed : Nat) : State := on (line st missed) (fun b => (b.setReg (Reg.LINE_TICK 0) 16777216).withLocalCount 10000000)

theorem meets_LineTimeFollows :
    linked.get Reg.PLY_STATUS_IN_STATE = 2 ∧
    (let h := 0x2000007001000000#64; let t := (plyPacket 2 [0x100#64]).getLastD 0;
      plyPacket 2 [0x100#64] = h :: [0x100#64] ++ [t] ∧ bitsOf t 63 32 = (crc32 ((h :: [0x100#64]).flatMap beBytes)).toNat ∧
        bitsOf h 63 60 = 2 ∧ bitsOf h 35 24 = 1 ∧ qwLayout (bitsOf h 59 52) [0x100#64] = true ∧ bitsOf h 63 60 ≠ 3) ∧
    (let b := 0x4000000000000002#64;
      bitsOf b 63 60 = 4 ∧ evenParity (b &&& 0xFFFFFFFE00000002#64) 63 0 = true ∧ evenParity b 32 2 = !b.getLsbD 0) ∧
    (bitsOf 0x4000000000000003#64 63 60 = 4 ∧ evenParity 0x4000000000000003#64 32 2 = (0x4000000000000003#64).getLsbD 0) ∧
    (linked.lineState 0 = 0 ∧ (line 2 0).lineState 0 ≠ 0 ∧ (line 2 0).markerDue 0 = false) ∧
    (∀ st ∈ [1, 2, 3, 4], ∀ m ∈ [0, 1], (overdue st m).lineState 0 = st ∧ (overdue st m).markerDue 0 = true ∧
      ((overdue st m).lineTb 0).missed = m ∧ max 1 ((overdue st m).get (Reg.LINE_CTL_HOLD_LIMIT 0)) = 2) ∧
    (let s := on up (·.put (Reg.LINE_STATUS_STATE 3) 2);
      up.writable (Reg.LINE_CTL 3) = true ∧ (up.writeFields (Reg.LINE_CTL 3) 1).flag (Reg.LINE_CTL_EN 3) = true ∧
        (s.writeFields (Reg.LINE_CTL 3) 0).flag (Reg.LINE_CTL_EN 3) = false ∧ (s.writeFields (Reg.LINE_CTL 3) 0).lineState 3 ≠ 0) := by decide +kernel

/-- A table for superframe `sf` of LINE0, as `s` takes it. -/
def tableAt (s : State) (sf : BitVec 64) : Option (Nat × List (BitVec 64)) × Block :=
  s.takePacket 2 (plyPacket 2 [sf * 0x100000000 + 1, 0x0100000301000001]) true qwLayout

theorem meets_LineTimeFollows_tables :
    qwValid (2 ^ 24) 0 (qwWindows 1 [0x0100000301000001#64]) = true ∧ qwValid (2 ^ 24) 0 (qwWindows 2 [0x0100000101000001#64]) = false ∧
    (tableAt (line 2 0) 64).1 = some (0, [0x4000000001, 0x0100000301000001]) ∧
    (tableAt (line 2 0) 65).1 = some (0, [0x4100000001, 0x0100000301000001]) ∧
    (tableAt (line 2 0) 64).2.sfBegun 0 64 = true ∧ (tableAt (line 2 0) 65).2.sfBegun 0 65 = false ∧
    ((tableAt (line 2 0) 65).2.lineTb 0).qwNext = [] ∧ (tableAt (line 2 0) 64).2.flag (Reg.LINE_STATUS_TABLE_VALID 0) = false ∧
    ((tableAt (line 2 0 1) 64).1 = some (0, [0x4000000001, 0x0100000301000001]) ∧ ((tableAt (line 2 0 1) 64).2.lineTb 0).qwSf = some 64 ∧
      (tableAt (line 2 0 1) 64).2.flag (Reg.LINE_STATUS_TABLE_VALID 0) = true) := by decide +kernel

/-- `linked` with the mains timebase on source `src` in state `st`, at 50 Hz, 20 ms after its last reference. -/
def mains (src st missing : Nat) (edge : Option Nat) (at' : BitVec 64 := 20000000) : State := on linked (fun b =>
  ((((b.put Reg.MAINS_CTL_SRC src).put Reg.MAINS_STATUS_STATE st).put (Reg.LINE_STATUS_STATE 0) 2).withLocalCount at').setMains
    { b.time.mains with missing := missing, edgeAt := edge, lastRefAt := some 0 })

theorem meets_MainsTimeFollows :
    (∀ m : Fin 4, (mains 1 1 m none).time.mains.best = none ∧ (mains 1 1 m none).time.mains.missing = m) ∧
    ((mains 1 1 0 none).mainsSrc ≠ 0 ∧ (mains 1 1 0 none).time.mains.edgeAt = none) ∧
    (let s := mains 1 1 0 (some 0);
      s.mainsSrc = 1 ∧ s.time.mains.edgeAt = some 0 ∧ 42 * (s.now - 0) ≤ 1000000000 ∧ 1000000000 ≤ 68 * (s.now - 0)) ∧
    (1000000000 < 42 * ((mains 1 1 0 (some 0) 23809524).now - 0) ∧ 68 * ((mains 1 1 0 (some 0) 14705882).now - 0) < 1000000000) ∧
    (let r := (mains 2 3 0 none).takePacket 3 (plyPacket 3 [0x0032000000000000#64 ||| 0xFF00#64, 0#64]) true
        (fun ch pl => decide (ch ≤ 3) && pl.length == 2);
      r.1 = some (0, [0x003200000000FF00#64, 0#64]) ∧ r.2.mainsSrc = 2 ∧ r.2.flag Reg.MAINS_CTL_TONE_ANY = false ∧
        0 = r.2.get Reg.MAINS_CTL_TONE_W ∧ r.2.time.mains.best = none ∧ r.2.get Reg.MAINS_CTL_TONE_MIN ≤ 255 ∧
        42 * 65536 ≤ bitsOf 0x003200000000FF00#64 63 32 ∧ bitsOf 0x003200000000FF00#64 63 32 ≤ 68 * 65536 ∧ r.2.lineState 0 = 2 ∧
        r.2.mainsState = 3) ∧
    ((mains 1 0 0 none).mainsState = 0 ∧ (mains 1 2 0 none).mainsState ≠ 0 ∧ (mains 1 2 0 none).cycleDue = false) ∧
    ((mains 1 2 1 none 45000000).mainsState = 2 ∧ (mains 1 2 1 none 45000000).cycleDue = true ∧ (mains 1 2 2 none 65000000).cycleDue = true) ∧
    ((mains 1 1 0 none).writable Reg.MAINS_CTL = true ∧ 3 < bitsOf 4#32 2 0 ∧ bitsOf 0x60#32 6 5 = 3 ∧
      (up.writeFields Reg.MAINS_CTL 1).mainsState = 0 ∧ ((mains 1 1 0 none).writeFields Reg.MAINS_CTL 1).mainsState ≠ 0) ∧
    up.writable Reg.MAINS_PHASE_OFS = true := by decide +kernel

theorem meets_SnapshotLatches : up.writable Reg.TB_CTL = true := by decide

/-- `up` with schedule entry 63 armed at local count 0, under policy `pol`. -/
def armed63 (pol tb : Nat) (late : Bool) : State := on up (fun b =>
  ((((b.put (Reg.SCH_CTL_ARM 63) 1).put (Reg.SCH_CTL_LATE_POL 63) pol).put (Reg.SCH_CTL_TB 63) tb).setReg (Reg.SCH_PERIOD 63) 0).setLate 63 late)

theorem meets_ScheduleFollows :
    up.writable (Reg.SCH_CTL 63) = true ∧
    (let b := (up.fireEntry 63).writeFields (Reg.SCH_CTL 63) 0; b.flag (Reg.SCH_CTL_ARM 63) = false) ∧
    (let b := ((put up [(Reg.SCH_PERIOD 63, 999)]).fireEntry 63).writeFields (Reg.SCH_CTL 63) 1;
      b.flag (Reg.SCH_CTL_ARM 63) = true ∧ b.armOk 63 = false) ∧
    (let b := ((put up [(Reg.SCH_PERIOD 63, 1000)]).fireEntry 63).writeFields (Reg.SCH_CTL 63) 1;
      b.flag (Reg.SCH_CTL_ARM 63) = true ∧ b.armOk 63 = true) ∧
    ((armed63 0 0 false).flag (Reg.SCH_CTL_ARM 63) = true ∧ up.flag (Reg.SCH_CTL_ARM 63) = false) ∧
    (∀ m : Fin 63, (armed63 0 0 false).schDue m = false ∧ (armed63 0 1 false).schDue m = false ∧ (armed63 1 0 true).schDue m = false) ∧
    ((armed63 0 0 false).schDue 63 = true ∧ Bank.get (fun _ => false) (armed63 0 0 false).time.schLate 63 = false) ∧
    ((armed63 0 1 false).schAt 63 ≤ (armed63 0 1 false).tbNow ((armed63 0 1 false).schTb 63) ∧ (armed63 0 1 false).schWaits 63 = true) ∧
    ((armed63 1 0 true).schDue 63 = true ∧ Bank.get (fun _ => false) (armed63 1 0 true).time.schLate 63 = true ∧
      (armed63 1 0 true).flag (Reg.SCH_CTL_LATE_POL 63) = true ∧ ((armed63 1 0 true).reg (Reg.SCH_PERIOD 63)).toNat = 0) := by
  decide +kernel

theorem meets_ArmedScheduleTimesKept :
    (∀ i : Fin 3, (armed63 0 0 false).writable (schTimeReg 63 i) = true) ∧ (armed63 0 0 false).writable (Reg.SCH_CTL 63) = true ∧
    (armed63 0 0 false).flag (Reg.SCH_CTL_ARM 63) = true ∧ (0x2000 ≤ schTimeReg 63 0 ∧ schTimeReg 63 2 < 65536) := by decide

/-- Only spindle `n` has a run. -/
abbrev Alone (s : State) (n : Fin 48) : Prop := ∀ m : Fin 48, m ≠ n → (s.sp m).act = none

/-- So what a statement asks of the other spindles' runs holds. -/
theorem alone_other {s : State} {n m : Fin 48} {q : Run} {P : Prop} (h : Alone s n) (hm : m ≠ n) (hq : (s.sp m).act = some q) : P := by
  rw [h m hm] at hq; cases hq

/-- Definitions: input AIN63 (source 1215), triggered in group 31 or not. -/
def dAin : BitVec 128 := 1215
def dTrigd : BitVec 128 := 1215 + 31 * 2 ^ 88 + 2 ^ 93

theorem meets_InputPathsFollow :
    (let s := busy 47 (aRun .seq dAin .line); let r := aRun .seq dAin .line;
      (s.sp 47).act = some r ∧ r.stage = .line ∧ onLine (dInput r.dfn) = true ∧ s.findLine (dInput r.dfn) = some 0 ∧ s.busySS 3 = false ∧
        Alone s 47) ∧
    (up.writable (Reg.XB_PIN 15) = true ∧ bitsOf 0x14BF#32 12 12 = 1 ∧ lineCodeValid (bitsOf 0x14BF#32 11 0) = true ∧
      bitsOf 0x0480#32 12 12 = 0 ∧ lineCodeValid (bitsOf 0x147F#32 11 0) = false ∧
      (up.put (Reg.XB_PIN_CODE 15) (bitsOf 0x14BF#32 11 0)).flag (Reg.XB_LINE_PINNED 15) = false) ∧
    (let b := Block.put (on up (fun b => (b.put (Reg.XB_LINE_PINNED 15) 1).put (Reg.XB_LINE_CODE 15) 0x4BF)).toBlock (Reg.XB_PIN_CODE 15)
        (bitsOf 0x14BF#32 11 0);
      b.flag (Reg.XB_LINE_PINNED 15) = true ∧ b.get (Reg.XB_LINE_CODE 15) = bitsOf 0x14BF#32 11 0) ∧
    (let s := on up (·.put (Reg.XB_PIN_EN 15) 1); s.flag (Reg.XB_PIN_EN 15) = true ∧ s.get (Reg.XB_LINE_USERS 15) = 0) ∧
    (let r := aRun .seq dAin .check; let s := busy 47 r;
      (s.sp 47).act = some r ∧ s.ballsBusy 47 (codeBalls 1215) = false ∧ s.ballsWanted 47 r = false) ∧
    (let r := aRun .seq dAin .checking; let s := on (busy 47 r) (·.withLocalCount 100000);
      (s.sp 47).act = some r ∧ r.stage = .checking ∧ r.since + cyclesNs 3072 ≤ s.now ∧ codeSource (dInput dAin) ≠ 1259 ∧
        codeSource (dInput dAin) ≠ 1231 ∧ codeDiff (dInput dAin) = false ∧ 2869 < 2870 ∧ 2930 < 2931 ∧
        (codeBalls (dInput dAin)).any (s.lastOpen 47) = false ∧
        (codeBalls (dInput dAin)).any ((on s (fun b => (codeBalls (dInput dAin)).foldl (fun b i => b.reportBall 47 true i) b)).lastOpen 47) =
          true) ∧
    (let r := aRun .seq dAin .settle; let s := busy 47 r;
      (s.sp 47).act = some r ∧ s.ballsChecking 47 (codeBalls 1215) = false ∧
        r.since + cyclesNs (dSettle r.dfn) ≤ s.now ∧ s.now < { r with since := 1 }.since + cyclesNs (dSettle r.dfn)) ∧
    (up.sp 47).act = none := by decide +kernel

theorem meets_ReferencesFollow :
    (let s := put up [(Reg.REF_STATUS, 0xB)];
      s.refSourceOk 3 = true ∧ (∀ u : Fin 12, s.get (Reg.REF_SEL_SRC u) ≠ 3) ∧ s.refSourceOk 0 = true ∧ s.refSourceOk 1 = true ∧
        s.get (Reg.REF_SEL_SRC 11) = 0) ∧
    (on up (·.put (Reg.REF_SEL_FAILOVER 11) 1)).flag (Reg.REF_SEL_FAILOVER 11) = true ∧
    (up.refEnabled 3 = true ∧ up.now < Bank.get (fun _ => 0) up.acq.refAt 3 + refTime 3 ∧
      Bank.get (fun _ => 0) (lasting 2000000).acq.refAt 3 + refTime 3 ≤ (lasting 2000000).now) ∧
    (up.writable (Reg.REF_SEL 11) = true ∧ (up.writeFields (Reg.REF_SEL 11) 0).get (Reg.REF_SEL_SRC 11) = up.get (Reg.REF_SEL_SRC 11) ∧
      (up.writeFields (Reg.REF_SEL 11) 1).get (Reg.REF_SEL_SRC 11) ≠ up.get (Reg.REF_SEL_SRC 11)) ∧
    (let s := lasting 200000; let b := on s (fun b => b.withAcq { b.acq with switchAt := Bank.set (fun _ => 0) b.acq.switchAt 11 1 });
      Bank.get (fun _ => 0) s.acq.upAt 11 + 200000 ≤ s.now ∧ Bank.get (fun _ => 0) s.acq.switchAt 11 + 200000 ≤ s.now ∧
        Bank.get (fun _ => 0) b.acq.upAt 11 + 200000 ≤ b.now ∧ b.now < Bank.get (fun _ => 0) b.acq.switchAt 11 + 200000) ∧
    up.writable Reg.REF_CTL = true := by decide

/-- Every reference is good. -/
def refs (s : State) : State := put s [(Reg.REF_STATUS, 0xF)]

/-- `s` at local count 10^9. -/
def later (s : State) : State := on s (·.withLocalCount 1000000000)

theorem meets_SamplingAndCalFollow :
    up.writable (Reg.FINE_QCLK 7) = true ∧
    (let s := on up (·.put (Reg.FINE_QCLK_PENDING 7) 1);
      s.flag (Reg.FINE_QCLK_PENDING 7) = true ∧ (∀ i : Fin 4, (s.sp (28 + i)).act = none) ∧ s.unitUp 7 = true) ∧
    (let r := aRun .seq dAin .ready; let s := busy 31 r;
      (s.sp 31).act = some r ∧ r.stage = .ready ∧ dTrig r.dfn = false ∧ s.unitUp (refUnit 31) = true ∧
        192 * s.now < s.edgeFrom 31 8000 15624 ∧ (later s).edgeFrom 31 8000 15624 ≤ 192 * (later s).now ∧
        (later (refs s)).refOk (refUnit 31) = true ∧ (later s).refOk (refUnit 31) = false ∧
        (later s).flag (Reg.REF_SEL_FORCE (refUnit 31)) = false) ∧
    (let r := { aRun .seq dTrigd .ready with waited := true, freed := true };
      let s := later (on (busy 47 r) (·.put (Reg.REF_SEL_FORCE 11) 1));
      (s.sp (32 + 15)).act = some r ∧ r.freed = true ∧ s.unitUp (refUnit 47) = true ∧ s.edgeFrom 47 8000 0 ≤ 192 * s.now ∧
        s.refOk (refUnit 47) = false ∧ s.flag (Reg.REF_SEL_FORCE (refUnit 47)) = true ∧ r.waited = true) ∧
    (let r := { aRun .seq dTrigd .ready with took := some 0 }; let s := refs (busy 47 r);
      (s.sp 47).act = some r ∧ r.took = some 0 ∧ dGroup r.dfn = 31 ∧ s.networkOf 47 = 2 ∧ r.stage = .ready ∧
        (later s).refOk (refUnit 47) = true ∧ Alone s 47 ∧ (later s).edgeFrom 47 8000 0 ≤ 192 * (later s).now ∧
        s.refOk (refUnit 47) = true ∧ 192 * s.now < s.edgeFrom 47 8000 0) := by decide +kernel

theorem meets_SamplingAndCalFollow_cal :
    (up.writable (Reg.FINE_CALREQ 31) = true ∧ bitsOf 0x800004BF#32 31 31 = 1 ∧ up.flag (Reg.FINE_CALSTAT_BUSY 31) = false ∧
      (on up (·.put (Reg.FINE_CALSTAT_BUSY 31) 1)).flag (Reg.FINE_CALSTAT_BUSY 31) = true ∧
      lineCodeValid (bitsOf 0x800004BF#32 11 0) = true ∧ lineCodeValid (bitsOf 0x80000000#32 11 0) = false) ∧
    (up.writable (Reg.SWIFT_CALREQ 15) = true ∧ up.flag (Reg.SWIFT_CALSTAT_BUSY 15) = false ∧
      (on up (·.put (Reg.SWIFT_CALSTAT_BUSY 15) 1)).flag (Reg.SWIFT_CALSTAT_BUSY 15) = true ∧ bitsOf 0x800034BF#32 14 12 < 4 ∧
      4 ≤ bitsOf 0x800044BF#32 14 12) ∧
    (let s := on up (fun b => b.setSp 31 { b.sp 31 with cal := some 0x800004BF });
      (s.sp 31).cal = some 0x800004BF ∧ s.mayBegin 31 = true ∧ (s.sp 31).act = none ∧ (s.sp 31).resume = [] ∧
        (s.sp 31).urgHeld = false ∧ s.flag (Reg.SP_STAT_URG_QUEUED 31) = false) ∧
    (let a := aRun .seq dAin .sampling; let s := on up (fun b => b.setSp 47 { b.sp 47 with act := some a, cal := some 0x800004BF, calGap := true });
      (s.sp 47).cal = some 0x800004BF ∧ s.mayBegin 47 = true ∧ (s.sp 47).act = some a ∧ a.kind ≠ .cal ∧ dLength a.dfn = 0 ∧
        (s.sp 47).calGap = true) ∧
    (let r := { aRun .cal dAin .sampling with samples := 1 }; let s := later (busy 31 r);
      (s.sp 31).act = some r ∧ r.kind = .cal ∧ r.stage = .sampling ∧ [0, 1, 2, 3, (4 : Int)].length = 5 * r.samples ∧
        s.periodAt 31 r (5 * r.samples) ≤ 192 * s.now) ∧
    (let r := { aRun .cal dAin .sampling with samples := 2 }; let s := later (busy 47 r);
      (s.sp (32 + 15)).act = some r ∧ r.kind = .cal ∧ r.stage = .sampling ∧ [131071, (-131072 : Int)].length = r.samples ∧
        s.inputAt (32 + 15) r (r.samples - 1) ≤ 192 * s.now) := by decide +kernel

theorem meets_OscillatorsAndResultsFollow :
    (up.writable Reg.SWIFT_NCO_LOAD = true ∧ (0x8000#32).getLsbD 15 = true ∧ up.unitUp (8 + 15 / 4) = true) ∧
    (up.writable (Reg.SWIFT_NCO_FREQ 15) = true ∧ (214747#32).toNat < 214748 ∧ 1073741824 < (1073741825#32).toNat ∧
      214748 ≤ (214748#32).toNat ∧ (1073741824#32).toNat ≤ 1073741824) ∧
    (let r := aRun .seq dAin .sampling; let s := later (on (busy 31 r) (·.put (Reg.FINE_CFG_CORR_EN 31) 0));
      let total := (sincOrder r + r.outs) * pOsr r.profile;
      (s.sp 31).act = some r ∧ r.kind ≠ .cal ∧ r.stage = .sampling ∧ pIntN r.profile = 0 ∧ pFir r.profile = 0 ∧ pDcK r.profile = 0 ∧
        r.pd = 0 ∧ r.got + (List.replicate total (0 : Int)).length = total ∧ s.periodAt 31 r total ≤ 192 * s.now ∧
        bitsOf (s.regAt (Reg.FINE_CFG 31) (s.periodAt 31 r total / 192)) 0 0 = 0) ∧
    (let r := { aRun .seq dAin .sampling with profile := 0 }; let s := later (on (busy 47 r) (·.put (Reg.SWIFT_CFG_CORR_EN 15) 0));
      let total := r.outs * pDec r.profile + 1;
      (s.sp (32 + 15)).act = some r ∧ r.stage = .sampling ∧ pAvg r.profile = 0 ∧ pBank r.profile = 0 ∧ pCic r.profile = 1 ∧
        pLockin r.profile = 0 ∧ r.got + (List.replicate total (0 : Int)).length = total ∧ 0 < total ∧
        s.inputAt (32 + 15) r (total - 1) ≤ 192 * s.now ∧
        bitsOf (s.regAt (Reg.SWIFT_CFG 15) (s.inputAt (32 + 15) r (total - 1) / 192 + 40)) 0 0 = 0) ∧
    (up.writable Reg.FILT_COEF_DATA = true ∧ up.get (coefFld 2 10 8) < 4) ∧
    (let s := on up (·.put (coefFld 2 10 8) 7); 4 ≤ s.get (coefFld 2 10 8) ∧ s.bankInUse 7 = false) := by decide +kernel

/-- `s` with entry `e` of spindle `n` defined as `d`. -/
def define (s : State) (n e : Nat) (d : BitVec 128) : State := on s (fun b => b.withAcq { b.acq with
  defs := Bank.set (fun _ => 0) b.acq.defs (16 * n + e) d })

/-- `s` with spindle `n` in state `st`. -/
def inState (s : State) (n st : Nat) : State := on s (·.put (Reg.SP_STAT_STATE n) st)

/-- `s` with FIFO `f` of 4 KiB at 0x10000 enabled under policy `pol`. -/
def withFifo (s : State) (f pol : Nat) : State := on s (fun b =>
  ((b.put (Reg.FIFO_BASE_BASE f) 16).put (Reg.FIFO_CFG_EN f) 1).put (Reg.FIFO_CFG_POLICY f) pol)

theorem meets_SpindleCommandsFollow :
    (up.writable (Reg.SP_CTL 47) = true ∧ up.writable (Reg.SP_CFG 47) = true ∧ up.spState 47 = 0) ∧
    ((inState up 47 1).spState 47 = 1 ∧ (inState up 47 2).spState 47 = 2 ∧ ((inState up 47 2).sp 47).act = none) ∧
    (let s := inState (busy 47 (aRun .seq dAin .settle)) 47 1;
      s.spState 47 ≠ 0 ∧ (s.sp 47).act = some (aRun .seq dAin .settle) ∧ (aRun .seq dAin .settle).kind ≠ .cal) ∧
    ((up.writeFields (Reg.SP_CFG 47) 0).flag (Reg.SP_CFG_FRM 47) = false) ∧
    (let s := inState up 47 1;
      (s.sp 47).act = none ∧ (s.sp 47).resume = [] ∧ (s.sp 47).cal = none ∧ (s.sp 47).urgHeld = false ∧
        s.flag (Reg.SP_STAT_URG_QUEUED 47) = false ∧ s.mayBegin 47 = true ∧ (s.sp 47).frmLoaded = false ∧
        s.refuseReason 47 (s.entryDef 47 (s.sp 47).next) ≠ 0) ∧
    (let s := define (inState up 47 1) 47 0 dAin; let d := s.entryDef 47 (s.sp 47).next;
      s.refuseReason 47 d = 0 ∧ s.stalls 47 d = false ∧ (on (withFifo s 47 2) (·.put (Reg.FIFO_WP_PTR 47) 256)).stalls 47 d = true) :=
  by decide +kernel

theorem meets_SpindleConfigOnlyWhileStopped :
    up.writable (Reg.SP_CFG 47) = true ∧ up.spState 47 = 0 ∧ (inState up 47 3).spState 47 ≠ 0 ∧ Reg.SP_CFG 47 < 65536 := by decide

/-- An urgent request to spindle 47, raised at local count 0. -/
def requested (s : State) : State := on s (fun b => b.setSp 47 { b.sp 47 with urgAt := some 0 })

theorem meets_TriggersAndUrgentsFollow :
    up.writable Reg.TG_FIRE = true ∧
    (let r := aRun .seq dTrigd .ready;
      (0x80000000#32).getLsbD 31 = true ∧ ((busy 47 r).sp 47).act = some r ∧ armedIn r 31 = true ∧ r.took = none) ∧
    (up.coreOn = true ∧ up.busySS 8 = false ∧ ((requested up).sp 47).urgAt.isSome = true ∧ (up.sp 47).urgAt = none) ∧
    (let b := fun (s : State) => (requested s).setSp 47 { (requested s).sp 47 with urgAt := none };
      let s := define up 47 0 dAin; let q := on s (·.put (Reg.SP_STAT_URG_QUEUED 47) 1); let a := on s (·.put (Reg.SP_STAT_URG_ACTIVE 47) 1);
      (b up).refuseReason 47 ((b up).entryDef 47 ((b up).urgentEntry 47)) ≠ 0 ∧
        (b s).refuseReason 47 ((b s).entryDef 47 ((b s).urgentEntry 47)) = 0 ∧ (b s).flag (Reg.SP_STAT_URG_QUEUED 47) = false ∧
        (b s).flag (Reg.SP_STAT_URG_ACTIVE 47) = false ∧
        (b q).refuseReason 47 ((b q).entryDef 47 ((b q).urgentEntry 47)) = 0 ∧ (b q).flag (Reg.SP_STAT_URG_QUEUED 47) = true ∧
        (b a).refuseReason 47 ((b a).entryDef 47 ((b a).urgentEntry 47)) = 0 ∧ (b a).flag (Reg.SP_STAT_URG_QUEUED 47) = false ∧
        (b a).flag (Reg.SP_STAT_URG_ACTIVE 47) = true) ∧
    (up.writable Reg.SP_URGENT = true ∧ bitsOf 47#32 5 0 < 48 ∧ 48 ≤ bitsOf 48#32 5 0 ∧ ((requested up).sp 47).urgAt = some 0 ∧
      (requested (lasting 10)).now ≤ 0 + 10 ∧ 0 + 10 < (requested (lasting 11)).now) ∧
    (let s := on up (fun b => b.setSp 47 { b.sp 47 with urgHeld := true, resume := [aRun .seq dAin .ready] });
      (s.sp 47).act = none ∧ s.mayBegin 47 = true ∧ (s.sp 47).urgHeld = true) ∧
    (let s := on up (·.put (Reg.SP_STAT_URG_QUEUED 47) 1);
      (s.sp 47).act = none ∧ s.mayBegin 47 = true ∧ (s.sp 47).urgHeld = false ∧ s.flag (Reg.SP_STAT_URG_QUEUED 47) = true ∧
        s.urgentFirst 47 = false) ∧
    (let s := on up (fun b => b.setSp 47 { b.sp 47 with resume := [aRun .seq dAin .ready] });
      (s.sp 47).act = none ∧ s.mayBegin 47 = true ∧ (s.sp 47).urgHeld = false ∧ s.flag (Reg.SP_STAT_URG_QUEUED 47) = false ∧
        (s.sp 47).resume = [aRun .seq dAin .ready]) := by
  decide +kernel

theorem meets_DefinitionsAndMigrationFollow :
    (up.writable Reg.SEQ_IDX = true ∧ up.get (seqFld 2 11 2) = bitsOf 3#32 11 2 ∧ up.get (seqFld 2 11 2) ≠ bitsOf 4#32 11 2) ∧
    (up.writable Reg.SEQ_DATA = true ∧ up.coreOn = true ∧ up.seqIgnored 48 0 = true ∧ up.seqIgnored 47 15 = false ∧
      up.get (seqFld 2 1 0) ≠ 3 ∧ (on up (·.put (seqFld 2 1 0) 3)).get (seqFld 2 1 0) = 3) ∧
    (let m : SpMigration := { dest := 1, tb := 0, instant := 0, host := 0, tag := 0 };
      let s := on (busy 0 (aRun .seq dAin .settle)) (fun b => b.setSp 0 { b.sp 0 with mig := some m });
      (s.sp 0).mig = some m ∧ m.instant ≤ s.tbNow m.tb ∧ m.dest < 48 ∧ m.dest ≠ 0 ∧ (s.sp 0).act = some (aRun .seq dAin .settle) ∧
        (aRun .seq dAin .settle).kind ≠ .cal ∧ s.flag (Reg.SP_STAT_URG_QUEUED 0) = false) ∧
    (let s := on up (fun b => (b.put (Reg.SP_CFG_FRM 47) 1).setSp 47 { b.sp 47 with frmLoaded := true });
      (s.sp 47).frmLoaded = true ∧ s.frmNodesRunning 0 47 = false ∧ (s.sp 47).act = none ∧ (s.sp 47).resume = [] ∧
        (s.sp 47).next = s.spBase 47 ∧ (s.sp 47).repsDone = 0 ∧ s.flag (Reg.SP_CFG_FRM 47) = true) := by decide +kernel

theorem meets_FifosFollow :
    (up.writable (Reg.FIFO_CFG 47) = true ∧ up.flag (Reg.FIFO_CFG_EN 47) = false ∧ bitsOf 0x20#32 5 5 = 1 ∧ bitsOf 0#32 5 5 = 0) ∧
    (let z := fun (s : State) => (s.put (Reg.FIFO_CFG_POLICY 47) (bitsOf 0x20#32 4 3)).put (Reg.FIFO_CFG_SIZE 47) (bitsOf 0x20#32 2 0);
      (z up).fifoRegionOk 47 = false ∧ (z (on up (·.put (Reg.FIFO_BASE_BASE 47) 16))).fifoRegionOk 47 = true) ∧
    (withFifo up 47 0).flag (Reg.FIFO_CFG_EN 47) = true ∧
    (up.writable (Reg.FIFO_RP 47) = true ∧ up.fifoLevel 47 = 0 ∧ (0#32).toNat % 65536 ≤ up.fifoLevel 47 ∧
      up.fifoLevel 47 < (1#32).toNat % 65536) ∧
    (up.writable (Reg.FIFO_STAT 47) = true ∧ bitsOf 0x10000#32 16 16 = 1 ∧ bitsOf 0x8000#32 16 16 = 0) ∧
    (let s := on (withFifo up 47 0) (·.put (Reg.FIFO_WP_PTR 47) 255);
      s.fifoLevel 47 < s.fifoCap 47 ∧ s.fifoCap 47 = 256 ∧ s.fifoBase 47 + s.fifoBytes 47 ≤ memSize) := by decide +kernel

/-- `s` with trunk `t`'s clock running and its hub 1 ACTIVE. -/
def running (s : State) (t : Nat) : State := on s (fun b =>
  (b.put (Reg.TRK_STATUS_UP t) 1).setHubRec (64 * t + 1) { b.hubRec (64 * t + 1) with state := 2 })

/-- A posted write of code 5 to leaf 0 of hub 1 of trunk 11 by requester `r`. -/
def write5 (r : Nat) : Txn := { Txn.to r 1 0 5 .none with trunk := 11, hub := 1 }

/-- Trunk 11 with such a write at the head of each requester of `rs`, leaf 0 of hub 1 of kind 1: 12 bits, codes 0 to `hi`. -/
def heads (rs : List Nat) (hi : Nat) : State := on (running up 11) (fun b =>
  rs.foldl (fun b r => b.setQueue 11 r [write5 r]) (b.withSett { b.sett with
    kmap := Bank.set (fun _ => 63#6) b.sett.kmap (16384 * 11) 1
    kdef := Bank.set (fun _ => 0) b.sett.kdef (64 * 11 + 1) 0xC000
    klim := Bank.set (fun _ => 0) b.sett.klim (64 * 11 + 1) (BitVec.ofNat 32 (hi * 65536)) }))

/-- `up` with word `w` alone on the wire of trunk 11, for its hubs to perform from reset on. -/
def wired (w : BitVec 48) : State := on (running up 11) (fun b => b.setTrunk 11 { b.trunk 11 with wire := [⟨w, 0, []⟩] })

/-- `w` has arrived at hub 1 of trunk 11. -/
def arrives (w : BitVec 48) : Bool := (wired w).hubUp 705 && decide ((wired w).arrived 11 w = some ⟨w, 0, []⟩)

theorem meets_NodeCommandsFollow :
    [commandWord 1 1 16383 postedTag 4095, commandWord 2 1 0 postedTag 0, commandWord 3 1 0 63 0, commandWord 4 1 0 0 0,
      commandWord 5 1 0 postedTag 0, commandWord 5 1 0 postedTag 1, commandWord 7 1 16383 postedTag 0, commandWord 8 1 0 63 0].all arrives =
    true := by decide +kernel

theorem meets_HubCommandsFollow :
    (let w := commandWord 9 0 0 postedTag 0;
      ((wired w).trunk 11).wire.find? (fun x => wordOp x.word == 8 || wordOp x.word == 9) = some ⟨w, 0, []⟩ ∧ wordOp w = 9 ∧
        (wired w).arrived 11 w = some ⟨w, 0, []⟩) ∧
    [commandWord 14 1 0 postedTag 0, commandWord 15 1 0 postedTag 0, commandWord 13 1 0x3000 63 4095,
      commandWord 6 1 (512 * 31 + 256) postedTag 0, commandWord 10 1 3 63 0, commandWord 11 1 0 postedTag 0,
      commandWord 12 1 0 postedTag 0, commandWord 13 1 0 63 4095, commandWord 13 1 0x1000 postedTag 4095,
      commandWord 13 1 (0x2000 + 64 * 63 + 2 + 1) postedTag 4095].all (fun w => arrives w && decide
        (((wired w).trunk 11).wire.find? (fun x => wordHub x.word == 1 && wordOp x.word != 9) = some ⟨w, 0, []⟩)) = true ∧
    (wordOp (commandWord 14 1 0 postedTag 0) = 14 ∧ wordOp (commandWord 15 1 0 postedTag 0) = 15 ∧
      wordOp (commandWord 13 1 0x3000 63 4095) = 13 ∧ wordLeaf (commandWord 13 1 0x3000 63 4095) / 4096 = 3 ∧
      (State.reset.trunk 11).wire = []) ∧
    (let w := commandWord 5 1 0 postedTag 1; let s := wired w;
      s.clockRuns 11 = true ∧ s.reached (s.takesAt 705 ⟨w, 0, []⟩) = true ∧ crc6 (w ^^^ 1#48).toNat ≠ bitsOf (w ^^^ 1#48) 5 0 ∧
        crc6 (commandWord 0 0 0 0 0 ^^^ 64#48).toNat ≠ bitsOf (commandWord 0 0 0 0 0 ^^^ 64#48) 5 0) ∧
    (3 * ((lasting 1366).hub 705).markerAt + 4096 ≤ 3 * (lasting 1366).now ∧ (lasting 1366).hubUp 705 = true) ∧
    (let s := put (running up 11) [(ownCopy 2 Reg.HUB_IDX, 0x1B)]; let q := on s (fun b => b.setHubRec 705 { b.hubRec 705 with state := 4 });
      s.writable Reg.HUB_CMD = true ∧ s.idxHub 2 = some (64 * 11 + 1) ∧ s.clockRuns 11 = true ∧ (s.hubRec 705).state ≠ 4 ∧
        (q.hubRec 705).state = 4 ∧ q.clockRuns 11 = true) ∧
    (let s := on (running up 11) (fun b => ((b.setHubRec 705 { b.hubRec 705 with state := 4, taint := true }).put Reg.SETT_QCFG_AUTO_REL 1).withLocalCount
        1000000#64);
      hubExists 11 1 = true ∧ s.fwUp = true ∧ (s.hubRec 705).state = 4 ∧ s.clockRuns 11 = true ∧ s.get Reg.SETT_QCFG_AUTO_REL ≠ 0 ∧
        (s.hubRec 705).quarAt + 1000000 * s.get Reg.SETT_QCFG_AUTO_REL ≤ s.now ∧ (s.hubRec 705).taint = true ∧ s.coreOn = true) ∧
    (let s := on (running up 11) (fun b => b.setHubRec 705 { b.hubRec 705 with state := 1, away := false, stopped := false });
      (s.hubRec 705).state = 1 ∧ s.clockRuns 11 = true ∧ (s.hub 705).powered = true ∧ (s.hub 705).silent = false ∧
        s.trainsOn 11 1 = false ∧ (s.hubRec 705).offset.natAbs ≤ 8) := by decide +kernel

theorem get_map {α : Type} {d : Nat → α} (a : Nat) (f : Nat → α) : ∀ (L : List Nat) (l : Nat), l ∈ L →
    Bank.get d (L.map (fun l => (a + l, f l))) (a + l) = f l := by
  intro L l h
  induction L with
  | nil => cases h
  | cons x t ih =>
    simp only [List.map_cons, Bank.get]
    split
    · rename_i e; rw [show x = l by omega]
    · rename_i e
      rcases List.mem_cons.mp h with h | h
      · exact absurd (by rw [h]) e
      · exact ih h

theorem foldl_same {α β : Type} {f g : β → α → β} : ∀ (L : List α) (b : β), (∀ x ∈ L, ∀ b, f b x = g b x) → L.foldl f b = L.foldl g b
  | [], _, _ => rfl
  | x :: t, b, h => by
    rw [List.foldl_cons, List.foldl_cons, h x (List.mem_cons_self ..), foldl_same t _ (fun y hy => h y (List.mem_cons_of_mem _ hy))]

theorem signature_congr {k k' : Nat → Nat} {n : Nat} (h : ∀ l, l < n → k l = k' l) : kindSignature k n = kindSignature k' n :=
  foldl_same _ _ (fun l hl b => by rw [h l (List.mem_range.mp hl)])

theorem crcStep_ne (c : Nat) : crcStep 16 0x1021 c true ≠ crcStep 16 0x1021 c false := by
  have hx : ∀ c2 : Nat, Nat.xor c2 0x1021 ≠ c2 := fun c2 hc => by
    have h : c2 ^^^ (c2 ^^^ 0x1021) = 0x1021 := by rw [← Nat.xor_assoc, Nat.xor_self, Nat.zero_xor]
    rw [show c2 ^^^ 0x1021 = c2 from hc, Nat.xor_self] at h
    cases h
  simp only [crcStep]
  cases (c / 2 ^ (16 - 1) % 2 == 1)
  · exact hx _
  · exact fun h => hx _ h.symm

/-- Maps that differ in the last bit of their last leaf alone have different signatures. -/
theorem signature_ne {k k' : Nat → Nat} {n : Nat} (h : ∀ l, l < n → k l = k' l) (h1 : k n = 63) (h2 : k' n = 62) :
    kindSignature k (n + 1) ≠ kindSignature k' (n + 1) := by
  have e := signature_congr h
  have last : ∀ j : Nat → Nat, kindSignature j (n + 1) =
      (List.range 6).foldl (fun c i => crcStep 16 0x1021 c (j n / 2 ^ (5 - i) % 2 == 1)) (kindSignature j n) := fun j => by
    simp only [kindSignature, List.range_succ, List.foldl_append, List.foldl_cons, List.foldl_nil]
  rw [last, last, e, h1, h2]
  exact crcStep_ne _

/-- Hub 1 of trunk 7 in TRAINING. -/
def inTraining : State := on (running up 7) (fun b => b.setHubRec 449 { b.hubRec 449 with state := 1, away := false, stopped := false })

/-- It, with the map `K` of the kinds of the leaves. -/
def training (K : Bank (BitVec 6)) : State := on inTraining (fun b => b.withSett { b.sett with kmap := K })

/-- What the statement on the end of a training asks the signature of. -/
def trained (s : State) (flight rlat : Nat) : Block :=
  let r := s.hubRec 449
  let u := s.hub 449
  let b := s.setHubRec 449 { r with
    flight := flight, taint := false, marker := false, armed := 0, coll := 0, discard := false, fresh := u.fresh, tgl := u.tgl }
  let b := b.put (Reg.TRK_FLAT_LAT 7) (b.measureFlat 7)
  let b := if 1 = 0 then b.put (Reg.TRK_RLAT_LAT 7) rlat else b
  let b := b.setHub 449 (b.trainLimits 7 { u with taint := false, markerErr := false, armed := 0 })
  b.each (trunkHubs 7) (fun b j =>
    if (b.hubRec j).flight ≠ 0 ∧ (b.hub j).powered then b.setHub j { b.hub j with flight := 16 * b.flat 7 - (b.hubRec j).flight } else b)

/-- The map of the leaves' own kinds, and one that differs in the last leaf. -/
def ownMap (last : Nat) : Bank (BitVec 6) :=
  (List.range 16384).map (fun l => (114688 + l, BitVec.ofNat 6 (if l = 16383 then last else ownKind 7 l)))

theorem ownMap_get {last l : Nat} (h : l < 16384) :
    Bank.get (fun _ => 63#6) (ownMap last) (114688 + l) = BitVec.ofNat 6 (if l = 16383 then last else ownKind 7 l) :=
  get_map 114688 _ _ _ (List.mem_range.mpr h)

theorem each_kmap {α : Type} {f : Block → α → Block} (h : ∀ b x, (f b x).sett.kmap = b.sett.kmap) : ∀ (l : List α) (b : Block),
    (b.each l f).sett.kmap = b.sett.kmap
  | [], _ => rfl
  | x :: t, b => (each_kmap h t (f b x)).trans (h b x)

theorem setHub_kmap (b : Block) (k : Nat) (u : Hub) : (b.setHub k u).sett.kmap = b.sett.kmap := rfl
theorem setHubRec_kmap (b : Block) (k : Nat) (r : HubRec) : (b.setHubRec k r).sett.kmap = b.sett.kmap := rfl

theorem trained_map (s : State) (flight rlat : Nat) : (trained s flight rlat).sett.kmap = s.sett.kmap := by
  unfold trained
  simp only [if_neg (show ¬ 1 = 0 by decide)]
  rw [each_kmap (fun b j => by split <;> rfl), setHub_kmap]
  exact setHubRec_kmap ..

theorem training_map (K : Bank (BitVec 6)) : (training K).sett.kmap = K := rfl

theorem training_kind {last l : Nat} (h : l < 16384) : (training (ownMap last)).kindAt 7 l = if l = 16383 then last % 64 else ownKind 7 l := by
  have hk : ownKind 7 l < 64 := by unfold ownKind; split <;> omega
  have e : 16384 * 7 + l = 114688 + l := by omega
  rw [Block.kindAt, training_map, e, ownMap_get h]
  split <;> simp only [BitVec.toNat_ofNat] <;> omega

theorem trained_kind {s : State} {flight rlat l : Nat} : (trained s flight rlat).kindAt 7 l = s.kindAt 7 l := by
  simp only [Block.kindAt, trained_map]

theorem meets_HubCommandsFollow_signature :
    ((inTraining.hubRec 449).state = 1 ∧ inTraining.clockRuns 7 = true ∧ (inTraining.hub 449).powered = true ∧
      (inTraining.hub 449).silent = false ∧ inTraining.trainsOn 7 1 = false ∧ (inTraining.hubRec 449).offset.natAbs ≤ 8) ∧
    (∀ K, (training K).hubRec 449 = inTraining.hubRec 449 ∧ (training K).clockRuns 7 = inTraining.clockRuns 7 ∧
      (training K).hub 449 = inTraining.hub 449 ∧ (training K).trainsOn 7 1 = inTraining.trainsOn 7 1) ∧
    kindSignature ((trained (training (ownMap 63)) 100 0).kindAt 7) 16384 = kindSignature (ownKind 7) 16384 ∧
    kindSignature ((trained (training (ownMap 62)) 100 0).kindAt 7) 16384 ≠ kindSignature (ownKind 7) 16384 := by
  have hl : ownKind 7 16383 = 63 := by decide
  refine ⟨by decide +kernel, fun K => ⟨rfl, rfl, rfl, rfl⟩, signature_congr (fun l h => ?_), fun e => ?_⟩
  · rw [trained_kind, training_kind h]
    split
    · rename_i e; rw [e, hl]
    · rfl
  · refine signature_ne (k := ownKind 7) (k' := (trained (training (ownMap 62)) 100 0).kindAt 7) (n := 16383) (fun l h => ?_) hl ?_ e.symm
    · rw [trained_kind, training_kind (by omega), if_neg (by omega)]
    · rw [trained_kind, training_kind (by omega)]; rfl

/-- Hub 1 of trunk 11 with the fire of step 31 to come. -/
def fires (armed : Word) (taint : Bool) (e : Nat := 0) : State := on up (fun b =>
  b.setHub 705 { b.hub 705 with fires := [(31, e)], armed := armed, taint := taint })

/-- `running up 11` where step 31 of one hub is SEALED. -/
def sealed31 : State := on (running up 11) (fun b =>
  ((b.setStep 31 { b.step' 31 with hubs := [705] }).put (Reg.STEP_STAT_STATE 31) 2).withLocalCount 100)

theorem meets_HubFiresFollow :
    (let s := running up 11; let came := 16 * (s.trunk 11).frame + (s.hubRec 705).flight;
      s.hubUp 705 = true ∧ s.clockRuns 11 = true ∧ (s.trunk 11).heard = [] ∧ s.commandBefore 705 (came + 512) = false ∧
        (on s (·.withLocalCount 10)).reached (came + 512) = true) ∧
    crc3 (markerWord 0 true 31 63 ^^^ 1).toNat ≠ bitsOf (markerWord 0 true 31 63 ^^^ 1) 2 0 ∧
    (let m := fun at' => markerWord 0 true 31 at';
      (∀ i : Fin 4, let w := m ([63, 64, 2111, 0].getD i 0); crc3 w.toNat = bitsOf w 2 0 ∧ bitsOf w 31 24 = 0xB8 ∧ bitsOf w 20 20 = 1) ∧
        bitsOf (m 63) 14 3 < 64 ∧ 64 ≤ bitsOf (m 64) 14 3 ∧ bitsOf (m 2111) 14 3 ≤ 2111 ∧
        bitsOf (markerWord 0 false 0 0) 20 20 = 0 ∧ crc3 (markerWord 0 false 0 0).toNat = bitsOf (markerWord 0 false 0 0) 2 0) ∧
    (∀ s ∈ [fires 0 false, fires 0x80000000 true, fires 0x80000000 false],
      (s.hub 705).fires = (31, 0) :: [] ∧ s.hubUp 705 = true ∧ s.reached 0 = true ∧ s.commandBefore 705 0 = false ∧
        (s.step' 31).refusers = []) ∧
    ((fires 0 false).hub 705).armed.getLsbD 31 = false ∧
    (((fires 0x80000000 true).hub 705).armed.getLsbD 31 = true ∧ ((fires 0x80000000 true).hub 705).taint = true) ∧
    (((fires 0x80000000 false).hub 705).armed.getLsbD 31 = true ∧ ((fires 0x80000000 false).hub 705).taint = false) ∧
    (let s := running up 11; s.clockRuns 11 = true ∧ (∀ i : Fin 32, s.stepState i = 0 ∧ (s.step' i).disarm = [])) ∧
    (let s := on (running up 11) (fun b => b.setStep 31 { b.step' 31 with disarm := [11] });
      (∀ j : Fin 32, s.stepState j ≠ 2 ∧ s.stepState j ≠ 5) ∧ (s.step' 31).disarm = [11] ∧
        (∀ j : Fin 32, j ≠ 31 → (s.step' j).disarm = [])) ∧
    (let m6 := 6 * (sealed31.now + 8);
      sealed31.stepState 31 = 2 ∧ (sealed31.step' 31).carried = [] ∧ (sealed31.step' 31).trunks = [11] ∧
        (∀ j : Fin 32, j ≠ 31 → sealed31.stepState j = 0 ∧ (sealed31.step' j).disarm = []) ∧ (sealed31.step' 31).disarm = [] ∧
        (sealed31.fireInstant 31 m6).2 = none ∧ (sealed31.fireInstant 31 m6).1.any (fun f =>
          decide (m6 + 64 + sealed31.flat 11 ≤ f ∧ f < m6 + 64 + sealed31.flat 11 + 2048)) = true) := by decide +kernel

/-- The trims' collections are in their form where none is set. -/
theorem meets_HubFiresFollow_form : Bank.wf nodeInit (fires 0x80000000 false).sett.active = true ∧
    Bank.wf nodeInit (fires 0x80000000 false).sett.shadow = true := ⟨rfl, rfl⟩

theorem meets_SlotsFollow :
    (let s := running up 11; let u := s.hub 705; let r := s.hubRec 705; let got := (sendSlot 1 u true).1;
      hubExists 11 1 = true ∧ s.clockRuns 11 = true ∧ u.powered = true ∧ u.silent = false ∧ r.discard = false ∧
        got / 2 ^ 58 % 64 = 0b110010 ∧ Nat.xor got (2 ^ 63) / 2 ^ 58 % 64 ≠ 0b110010 ∧ r.state = 2 ∧
        crc8 got = got / 2 ^ 10 % 256 ∧ got / 2 ^ 42 % 16 < 6 ∧ crc8 (Nat.xor got 1024) ≠ Nat.xor got 1024 / 2 ^ 10 % 256 ∧
        Nat.xor got 1024 / 2 ^ 58 % 64 = 0b110010 ∧ r.missing < 7) ∧
    (let s := on (running up 11) (fun b => b.setHubRec 705 { b.hubRec 705 with missing := 7, discard := true });
      7 ≤ (s.hubRec 705).missing ∧ (s.hubRec 705).discard = true) ∧
    (let s := on (running up 11) (fun b => b.setTag 705 14 { gen := 0, busy := some (write5 4), slots := 32 });
      (s.tagSt 705 14).busy = some (write5 4) ∧ 32 ≤ (s.tagSt 705 14).slots) := by decide +kernel

theorem meets_TrunksAndKindsFollow :
    (∀ d : Fin 5, ∀ k ∈ dieHubs d, (State.reset.hub k).powered = true) ∧
    ((on up (fun b => b.setHub 705 { b.hub 705 with powered := false })).hub 705).powered = false ∧ 705 ∈ dieHubs 4 ∧
    up.writable Reg.SETT_CTL = true ∧
    (let s := put up [(ownCopy 2 Reg.KIND_IDX, 62 * 16 + 11)]; let t := bitsOf (s.reg (ownCopy 2 Reg.KIND_IDX)) 3 0;
      s.writable Reg.KIND_DEF = true ∧ s.kindsOpen t = true ∧ bitsOf (s.reg (ownCopy 2 Reg.KIND_IDX)) 9 4 = 62 ∧
        kindOk (0xC000#32 &&& 0x3FFFF#32) (s.kindLim t 62) = true) ∧
    (let s := on (put up [(ownCopy 2 Reg.KIND_IDX, 62 * 16 + 11)]) (fun b => b.withSett { b.sett with
        kdef := Bank.set (fun _ => 0) b.sett.kdef (64 * 11 + 62) 0xC000 });
      kindOk (s.kindDef 11 62) (0x0FFF0000#32 &&& 0x0FFF0FFF#32) = true) ∧
    ((put up [(Reg.SETT_CTL, 0x800)]).kindsOpen 11 = false ∧ up.kindsOpen 12 = false) ∧
    bitsOf ((put up [(ownCopy 2 Reg.KIND_IDX, 63 * 16 + 11)]).reg (ownCopy 2 Reg.KIND_IDX)) 9 4 = 63 ∧
    (up.writable Reg.KMAP_DATA = true ∧ up.coreOn = true ∧ up.kindsOpen (bitsOf (up.reg (ownCopy 2 Reg.KMAP_IDX)) 3 0) = true) := by
  decide +kernel

theorem meets_StepRegistersFollow :
    (up.writable (Reg.STEP_CTL 31) = true ∧ bitsOf (0#32 ||| 1#32) 1 1 = 0 ∧ bitsOf (0x20#32 ||| 1#32) 2 2 = 0 ∧
      bitsOf (0x20#32 ||| 1#32) 5 3 ≤ 4 ∧ 4 < bitsOf (0x28#32 ||| 1#32) 5 3 ∧ up.stepState 31 ≠ 1 ∧ up.stepState 31 ≠ 2 ∧
      (up.step' 31).waiting = none ∧ (up.step' 31).disarm = []) ∧
    (let s := on up (fun b => b.setStep 31 { b.step' 31 with disarm := [11] });
      s.writable (Reg.STEP_CTL 31) = true ∧ s.stepState 31 ≠ 1 ∧ s.stepState 31 ≠ 2 ∧ (s.step' 31).waiting = none ∧
        (s.step' 31).disarm ≠ []) ∧
    (let s := on up (fun b => (b.put (Reg.STEP_STAT_STATE 31) 1).put (Reg.STEP_CTL_OWNER 31) (agentReq 1));
      s.stepMine 31 (agentReq 1) = true ∧ s.stepState 31 = 1 ∧ (s.step' 31).carried = [] ∧
        bitsOf (0#32 ||| 2#32) 0 0 = 0 ∧ bitsOf (0#32 ||| 2#32) 2 2 = 0 ∧ bitsOf (0#32 ||| 4#32) 0 0 = 0 ∧ bitsOf (0#32 ||| 4#32) 1 1 = 0) ∧
    (let s := on up (fun b => (b.put (Reg.STEP_STAT_STATE 31) 2).withLocalCount (BitVec.ofNat 64 (b.maxWait 31)));
      s.stepState 31 = 2 ∧ s.rstHeld = false ∧ (s.step' 31).sealedAt + (s.step' 31).heldFor + s.maxWait 31 ≤ s.now) ∧
    (let s := on (later up) (fun b => b.setStep 31 { b.step' 31 with fire := some 0 });
      (s.step' 31).fire = some 0 ∧ 0 + 16 * slotBits 11 ≤ 6 * s.now) := by
  decide +kernel

/-- Nobody is left out. -/
abbrev nobody : Nat → Bool := fun _ => false

theorem meets_ArbitrationFollows :
    (heads [0, 4] 5).competes 11 0 nobody 0 = true ∧ (heads [0, 4] 5).winner 11 0 nobody = some 0 ∧
    (let s := on (heads [4] 5) (fun b => b.withWhorl { b.whorl with slots := Bank.set (fun _ => 0x20#32) b.whorl.slots (64 * 22) 4 });
      s.competes 11 0 nobody 0 = false ∧ bitsOf (s.slotOf 11 (s.bankOf 11) (s.get (Reg.WH_STATUS_PTR 11))) 5 5 = 0 ∧
        s.competes 11 0 nobody (bitsOf (s.slotOf 11 (s.bankOf 11) (s.get (Reg.WH_STATUS_PTR 11))) 4 0) = true) ∧
    (let s := heads [4] 5; let rank := fun i => bitsOf (s.rankOf 11 (s.bankOf 11) i) 4 0;
      rank 4 < 23 ∧ s.competes 11 0 nobody (rank 4) = true ∧ s.competes 11 0 nobody 0 = false ∧
        bitsOf (s.slotOf 11 (s.bankOf 11) (s.get (Reg.WH_STATUS_PTR 11))) 5 5 = 1 ∧
        (∀ j : Fin 32, j < 4 → s.competes 11 0 nobody (rank j) = false ∨ 23 ≤ rank j)) ∧
    State.reset.masked 22 = true ∧
    ((write5 4).op = 1 ∧ (write5 4).owner = .none ∧ (write5 4).val % 4096 = 5 ∧
      (let l := (heads [4] 5).kindLim 11 ((heads [4] 5).kindAt 11 0);
        toBits 12 (clampInt (codeVal ((heads [4] 5).kindSigned 11 1) (bitsOf l 11 0)) (codeVal ((heads [4] 5).kindSigned 11 1) (bitsOf l 27 16))
          (codeVal ((heads [4] 5).kindSigned 11 1) 5)) = 5) ∧
      (let l := (heads [4] 4).kindLim 11 ((heads [4] 4).kindAt 11 0);
        toBits 12 (clampInt (codeVal ((heads [4] 4).kindSigned 11 1) (bitsOf l 11 0)) (codeVal ((heads [4] 4).kindSigned 11 1) (bitsOf l 27 16))
          (codeVal ((heads [4] 4).kindSigned 11 1) 5)) ≠ 5)) := by decide +kernel

/-- The positions of trunk 11: in reset, idle, granted, lowered, the Sett's own, withdrawn. -/
theorem meets_ArbitrationFollows_positions :
    (let a := (heads [4] 5).settleTrunk 11; let b := (a.clearIdle 11).tableSwap 11; let low := 0x10#5;
      a.clockRuns 11 = true ∧ a.whIdle 11 = false ∧ b.ownNext 11 = none ∧ b.winner 11 41 nobody = some 4 ∧
        b.winner 11 41 (fun r => low.getLsbD r) = none ∧ b.competes 11 41 nobody 0 = false) ∧
    (Block.settleTrunk (on (heads [4] 5) (·.setBit Reg.SS_BUSY 11 true)).toBlock 11).whIdle 11 = true ∧
    (let a := Block.settleTrunk (on (heads [4] 5) (fun b => b.setTrunk 11 { b.trunk 11 with own := [.hold 1] })).toBlock 11;
      let b := (a.clearIdle 11).tableSwap 11;
      a.clockRuns 11 = true ∧ a.whIdle 11 = false ∧ b.competes 11 41 nobody 0 = false ∧ (b.ownNext 11).isSome = true) := by decide +kernel

/-- Watch 3 of trunk 11 starving. -/
def starving : State := on up (fun b => (b.put (Reg.WH_WSTAT_STARVED 11 3) 1).setWait 11 3 5)

theorem meets_WhorlTablesFollow :
    up.writable (Reg.WH_CTL 11) = true ∧
    (let s := on (running up 11) (·.put (Reg.WH_CTL_SWAP_PENDING 11) 1);
      s.clockRuns 11 = true ∧ s.busySS 11 = false ∧ s.flag (Reg.WH_CTL_SWAP_PENDING 11) = true ∧ s.get (Reg.WH_STATUS_PTR 11) = 0) ∧
    (let s := put up [(ownCopy 2 Reg.WH_TIDX, 63 * 32 + 11), (ownCopy 2 Reg.WH_RIDX, 31 * 32 + 11)];
      s.writable Reg.WH_TDATA = true ∧ s.writable Reg.WH_RDATA = true ∧ s.coreOn = true ∧
        bitsOf (s.reg (ownCopy 2 Reg.WH_TIDX)) 3 0 < 12 ∧ s.domainOn (36 + 11) = true ∧
        (on s (fun b => b.setReg Reg.PWR_ON_HI 0)).domainOn (36 + 11) = false ∧ (on s (fun b => b.setReg Reg.PWR_ON_HI 0)).coreOn = true ∧
        bitsOf (s.reg (ownCopy 2 Reg.WH_TIDX)) 4 4 = s.bankOf 11 ∧ bitsOf (s.reg (ownCopy 2 Reg.WH_RIDX)) 4 4 = s.bankOf 11) ∧
    (let s := put up [(ownCopy 2 Reg.WH_TIDX, 63 * 32 + 16 + 11), (ownCopy 2 Reg.WH_RIDX, 31 * 32 + 16 + 11)];
      bitsOf (s.reg (ownCopy 2 Reg.WH_TIDX)) 4 4 ≠ s.bankOf 11 ∧ bitsOf (s.reg (ownCopy 2 Reg.WH_RIDX)) 4 4 ≠ s.bankOf 11 ∧
        bitsOf 22#32 4 0 < 23 ∧ 23 ≤ bitsOf 23#32 4 0 ∧ bitsOf 23#32 5 5 = 0 ∧ bitsOf 0x20#32 5 5 = 1) ∧
    (up.writable (Reg.WH_WSTAT 11 3) = true ∧ starving.flag (Reg.WH_WSTAT_STARVED 11 3) = true ∧
      max 1 (starving.get (Reg.WH_WATCH_LIMIT 11 3)) ≤ starving.waitOf 11 3) := by decide +kernel

/-- Window 255 on service point 1024 in mode `m`, with events, both references good. -/
def window (m : Nat) (above : Bool) : State := on (refs up) (fun b =>
  ((((b.put (Reg.W_CFG_MODE 255) m).put (Reg.W_CFG_INPUT 255) 1024).put (Reg.W_ACT_EV_EN 255) 1).setBit (Reg.OWL_ABOVE 7) 31 above).setOwlWin 255
    { b.owlWin 255 with known := true, since := some 0 })

/-- A self-check of window 255 from local count 0. -/
def checks (kind : Nat) (sampled : Bool) (at' : BitVec 64) : State := on (lasting at') (fun b => b.withOwl { b.owl with
  check := some { window := 255, kind := kind, code := 0, visit := false, start := 0, sampled := sampled } })

theorem meets_WindowsFollow :
    ((window 1 false).coreOn = true ∧ (window 1 false).busySS 13 = false ∧ (window 1 false).owlMode 255 ≠ 0 ∧
      (window 1 false).suspended 255 = false) ∧
    ((window 0 false).owlMode 255 = 0 ∧ (window 0 false).owlMust 255 = false ∧ (window 0 false).owlChecked 255 = false ∧
      (window 1 false).owlMust 255 = false ∧ (window 1 false).owlChecked 255 = false) ∧
    (let s := on (window 1 true) (fun b => b.withLocalCount (BitVec.ofNat 64 (2 * b.get (Reg.W_CFG_QUAL 255))));
      s.coreOn = true ∧ s.busySS 13 = false ∧ s.suspended 255 = false ∧ s.trips 255 (s.owlClass 255) = true ∧
        s.bit (Reg.OWL_LATCH 7) 31 = false ∧ (s.owlWin 255).since = some 0 ∧ 0 + 2 * s.get (Reg.W_CFG_QUAL 255) ≤ s.now ∧
        s.flag (Reg.W_ACT_EV_EN 255) = true ∧ s.flag (Reg.W_ACT_TRIG_EN 255) = false ∧ s.flag (Reg.W_ACT_URG_EN 255) = false ∧
        s.bit (Reg.OWL_GARM 7) 31 = false ∧ s.decideBefore 255 = []) ∧
    (up.writable (Reg.OWL_LATCH 7) = true ∧ up.writable Reg.OWL_GCMD = true ∧ up.writable (Reg.W_CFG 255) = true ∧
      up.writable (Reg.W_THR 255) = true) ∧
    (let s := window 1 true; let b := s.setBit (Reg.OWL_LATCH (255 / 32)) (255 % 32) false;
      (s.owlWin 255).wt.toNat / 2 = 1 / 2 ∧ (s.owlWin 255).wt.toNat / 2 ≠ 2 / 2 ∧ b.decisionAt 255 = some (2 * s.get (Reg.W_CFG_QUAL 255)) ∧
        2 * s.get (Reg.W_CFG_QUAL 255) / 2 = (2 * s.get (Reg.W_CFG_QUAL 255) + 1) / 2 ∧
        (up.setBit (Reg.OWL_LATCH (255 / 32)) (255 % 32) false).decisionAt 255 = none) ∧
    (bitsOf 0x30400#32 17 16 = 3 ∧ owlInputOk (bitsOf 0x3FF#32 11 0) = false ∧ owlInputOk (bitsOf 0x400#32 11 0) = true ∧
      bitsOf 0x400#32 17 16 ≠ 3 ∧ bitsOf (up.reg (Reg.W_CFG 255)) 15 0 ≠ bitsOf 0x400#32 15 0 ∧
      bitsOf ((window 0 false).reg (Reg.W_CFG 255)) 15 0 = bitsOf 0x400#32 15 0 ∧
      bitsOf ((window 0 false).reg (Reg.W_CFG 255)) 17 16 = bitsOf 0x400#32 17 16 ∧
      bitsOf ((window 1 false).reg (Reg.W_CFG 255)) 17 16 ≠ bitsOf 0x400#32 17 16 ∧
      bitsOf ((window 1 false).reg (Reg.W_CFG 255)) 17 16 ≠ bitsOf 0x20400#32 17 16 ∧ bitsOf 0x20400#32 17 16 ≠ 0 ∧
      bitsOf ((window 1 false).reg (Reg.W_CFG 255)) 15 0 = bitsOf 0x20400#32 15 0) ∧
    (signed 10 (bitsOf 0x02000000#32 25 16) < signed 10 (bitsOf 0x02000000#32 9 0) ∧
      signed 10 (bitsOf 0x01FF0200#32 9 0) ≤ signed 10 (bitsOf 0x01FF0200#32 25 16) ∧
      (up.writeFields (Reg.W_THR 255) (up.reg (Reg.W_THR 255))).reg (Reg.W_THR 255) = up.reg (Reg.W_THR 255) ∧
      signed 10 (bitsOf (up.reg (Reg.W_THR 255)) 9 0) ≤ signed 10 (bitsOf (up.reg (Reg.W_THR 255)) 25 16) ∧
      (up.writeFields (Reg.W_THR 255) 0x00010000).reg (Reg.W_THR 255) ≠ up.reg (Reg.W_THR 255)) ∧
    ((checks 1 false 50).coreOn = true ∧ 0 + 50 ≤ (checks 1 false 50).now ∧ 0 + 100 ≤ (checks 2 false 100).now ∧
      0 + 72 ≤ (checks 1 true 72).now ∧ 0 + 102 ≤ (checks 2 true 102).now ∧
      (checks 2 true 102).owl.check = some { window := 255, kind := 2, code := 0, visit := false, start := 0, sampled := true }) := by
  decide +kernel

/-- An auto visit is due. -/
def visits : State := on (lasting 1000000000) (fun b => b.put Reg.OWL_SCAUTO_EN 1)

theorem meets_WindowsFollow_visits :
    (let s := visits; let v := on s (fun b => (b.put (Reg.W_CFG_SC_AUTO 255) 1).put (Reg.W_CFG_MODE 255) 1);
      s.flag Reg.OWL_SCAUTO_EN = true ∧ s.coreOn = true ∧ s.busySS 13 = false ∧
        s.owl.visitAt + 1000 * max 1 (s.get Reg.OWL_SCAUTO_PERIOD) ≤ s.now ∧ s.owl.check = none ∧
        s.nextVisit (s.get Reg.OWL_SCAUTO_NEXT) = none ∧ v.nextVisit (v.get Reg.OWL_SCAUTO_NEXT) = some 255 ∧
        (checks 1 false 50).owl.check.isSome = true) := by decide +kernel

/-- FX`n` RUNNING with word `w` as its instruction at program counter `pc`. -/
def engine (n : Nat) (pc : Nat) (w : Word) : State := on up (fun b =>
  ((b.put (Reg.FX_STATUS_STATE n) 1).put (Reg.FX_PC_PC n) pc).withFox { b.fox with
    pm := Bank.set (fun _ => 0) b.fox.pm (16384 * n + pc) w })

theorem meets_EngineRegistersFollow :
    up.pcOk 15 (up.pc 15 + 4) = true ∧ (engine 15 16383 0).pcOk 15 ((engine 15 16383 0).pc 15 + 4) = false := by decide

theorem meets_IssueStops :
    (let s := engine 15 16383 0xFFFFFFFF;
      foxWord (.nop 15) = some (15, 1#32) ∧ s.fxUp 15 = true ∧ s.fxState 15 = 1 ∧ s.get Reg.WH_GSTATUS_MODE ≠ 2 ∧
        s.pmCheck 15 (s.get (Reg.FX_PC_PC 15)) ≤ 1 ∧ foxLegal (s.pmWord 15 (s.get (Reg.FX_PC_PC 15))) = false) ∧
    (let f := fun k => on (engine 15 0 1) (fun b => b.withFox { b.fox with pmErr := Bank.set (fun _ => 0) b.fox.pmErr (16384 * 15) k });
      (f 1).pmCheck 15 ((f 1).get (Reg.FX_PC_PC 15)) = 1 ∧ (f 1).pmWord 15 ((f 1).get (Reg.FX_PC_PC 15)) = 1 ∧
        2 ≤ (f 2).pmCheck 15 ((f 2).get (Reg.FX_PC_PC 15))) ∧
    ((on (engine 15 0 1) (·.put Reg.WH_GSTATUS_MODE 2)).get Reg.WH_GSTATUS_MODE = 2 ∧ ((engine 15 0 1).engine 15).part = []) := by
  decide

/-- One command of each instruction, with operands at the ends of their ranges. -/
def foxCommands : List Instr :=
  [.halt 15, .nop 15, .sync 15, .gets 15 15 11, .tempRd 15 15 63, .add 15 15 15 15, .sub 15 0 15 1, .and 15 1 0 15, .or 15 1 2 3,
   .xor 15 1 2 3, .shl 15 1 2 3, .shr 15 1 2 3, .sar 15 1 2 3, .lt 15 1 2 3, .ltu 15 1 2 3, .mul 15 1 2 3, .mulhs 15 1 2 3,
   .min 15 1 2 3, .max 15 1 2 3, .div 15 1 2 3, .addk 15 1 2 0x20000, .andk 15 1 2 0x3FFFF, .ork 15 1 2 0, .xork 15 1 2 1,
   .shiftk 15 1 2 0x5F, .ltk 15 1 2 0x1FFFF, .highk 15 1 0x3FFFFF, .load32 15 1 2 0x20000, .load16s 15 1 2 0x1FFFF, .load16u 15 1 2 0,
   .load8s 15 1 2 0, .load8u 15 1 2 0, .store32 15 1 2 0, .store16 15 1 2 0, .store8 15 1 2 0, .vload 15 7 2 0, .vstore 15 7 2 0,
   .ifeq 15 1 2 0x20000, .ifne 15 1 2 0x1FFFF, .iflt 15 1 2 0, .ifge 15 1 2 0, .iflo 15 1 2 0, .ifhs 15 1 2 0, .call 15 1 0x1FFFFF,
   .callr 15 1 2 0x20000] ++
  [.vadd 15 7 0 7, .vsub 15 7 0 7, .vadds 15 7 0 7, .vsubs 15 7 0 7, .vmul 15 7 0 7, .vmulq 15 7 0 7, .vmin 15 7 0 7, .vmax 15 7 0 7,
   .vand 15 7 0 7, .vor 15 7 0 7, .vxor 15 7 0 7, .vclt 15 7 0 7, .vceq 15 7 0 7, .vsel 15 7 0 7, .vsar 15 7 0 15, .vshl 15 7 0 15,
   .vsplat 15 7 15, .vext 15 15 7 15, .vins 15 7 15 15, .vsum 15 15 7, .vidx 15 7, .vclamp 15 7 0 7, .amac 15 3 7 0, .amsu 15 3 7 0,
   .amul 15 3 7 0, .aclr 15 3, .aaddv 15 3 7, .aldv 15 3 7, .amacs 15 3 7 15, .aout 15 7 3 15, .asum 15 15 3 15] ++
  [.nodeWr 15 15 0, .nodeInc 15 15 0, .nodeWrv 15 15 7 15 15, .nodeIncv 15 15 0 1 0, .nodeRd 15 15 1 true, .nodeRd 15 0 1 false,
   .nodeSense 15 15 1 true, .nodeSense 15 0 1 false, .nodeFence 15 15, .stepArmOpen 15 15 1 14 0, .stepArmOpen 15 15 1 0 7,
   .stepArmArm 15 15 1 2, .stepArmSeal 15 15 1, .stepArmCancel 15 15 1, .stepArmStatus 15 15 1, .waitLocal 15 15 14 1,
   .waitMains 15 15 2 1, .waitLine 15 15 1 3, .waitEvent 15 15 1 0xFF, .waitSignal 15 15 1, .qfPut 15 15 1 255,
   .statPull 15 15 1 2 1023 true, .statPull 15 15 1 2 0 false]

/-- FX15 issues `c` as its instruction at program counter 0. -/
def issues? (c : Instr) : Bool :=
  match foxWord c with
  | some (n, w) => let s := engine n 0 w
    c.wf && decide (w = s.pmWord n (s.get (Reg.FX_PC_PC n))) && s.fxUp n && decide (s.fxState n = 1) &&
      decide (s.get Reg.WH_GSTATUS_MODE ≠ 2) && decide ((s.engine n).pend = []) &&
      decide (s.pmCheck n (s.get (Reg.FX_PC_PC n)) = 0)
  | none => false

theorem issues_of {c : Instr} (h : issues? c = true) : ∃ n s, Issues c n s := by
  unfold issues? at h
  split at h
  · rename_i n w e
    simp only [Bool.and_eq_true, decide_eq_true_eq] at h
    obtain ⟨⟨⟨⟨⟨⟨h1, h2⟩, h3⟩, h4⟩, h5⟩, h6⟩, h7⟩ := h
    exact ⟨n, engine n 0 w, h1, by rw [e, ← h2], h3, h4, h5, h6, h7⟩
  · cases h

/-- Every instruction is issued somewhere: what the statements on instructions ask first. -/
theorem meets_Issues : ∀ c ∈ foxCommands, ∃ n s, Issues c n s := fun _ h =>
  issues_of (List.all_eq_true.mp (show foxCommands.all issues? = true by decide +kernel) _ h)

/-- FX15 about to issue `c`, its scalar registers 1 and 2 holding `a` and `b`. -/
def fx (c : Instr) (a b : Word) (f : Block → Block := id) : State :=
  on (engine 15 0 (match foxWord c with | some (_, w) => w | none => 0)) (fun s => f ((s.setSx 15 1 a).setSx 15 2 b))

theorem meets_ScalarOperationsFollow :
    (bitsOf 0x1F#18 6 5 = 0 ∧ bitsOf 0x3F#18 6 5 = 1 ∧ bitsOf 0x5F#18 6 5 = 2) ∧
    (let s := fx (.ifeq 15 1 2 0x3FFF) 7 7;
      s.sx 15 1 = s.sx 15 2 ∧ s.pcOk 15 ((s.pc 15 : Int) + 4 * (0x3FFF#18).toInt) = true ∧
        s.pcOk 15 ((s.pc 15 : Int) + 4 * (0x4000#18).toInt) = false ∧ s.pcOk 15 ((s.pc 15 : Int) + 4 * (0x3FFF#22).toInt) = true ∧
        ¬ (s.sx 15 1).toInt < (s.sx 15 2).toInt) ∧
    (let s := fx (.callr 15 1 2 0) 0 0xFFFF; s.pcOk 15 (((s.sx 15 2 + (0#18).signExtend 32).toNat / 4 * 4 : Nat) : Int) = true) := by
  decide

/-- The first and last places of each memory, and what lies between (R242, R243). -/
theorem meets_LoadsAndStoresFollow :
    (placeOf 0x7FE0 32 = .scratch 0x7FE0 ∧ placeOf 0x7FFF 1 = .scratch 0x7FFF ∧ placeOf 0x800000 4 = .mailbox 0 ∧
      placeOf 0x80FFFE 2 = .mailbox 0xFFFE ∧ placeOf 0x810000 4 = .memory 0x10000 ∧ placeOf 0xFFFFFC 4 = .memory 0x7FFFFC ∧
      placeOf 0x8000 4 = .fault 3 ∧ placeOf 0x7FFFFC 4 = .fault 3 ∧ placeOf 0x1000000 4 = .fault 3 ∧ placeOf 0x7FFE 4 = .fault 2) ∧
    (let s := fx (.load32 15 1 2 0) 0 0x7FFC; placeOf (s.sx 15 2 + (0#18).signExtend 32).toNat 4 = .scratch 0x7FFC) ∧
    (let s := fx (.load32 15 1 2 4) 0 0xFFFFF8 (fun b => b.memWrite 0x7FFFFC [1, 2, 3, 4]);
      placeOf (s.sx 15 2 + (4#18).signExtend 32).toNat 4 = .memory 0x7FFFFC ∧ (s.engine 15).wbuf = [] ∧
        (List.range 4).map (fun i => s.byteAt (0x7FFFFC + i)) = [some 1, some 2, some 3, some 4]) ∧
    (let s := fx (.store32 15 1 2 0) 0 0x810000; placeOf (s.sx 15 2 + (0#18).signExtend 32).toNat 4 = .memory 0x10000 ∧
      (s.engine 15).wbuf.length < 8 ∧ (wordBytes (s.sx 15 1)).length = 4 ∧ (vecBytes (s.vx 15 7)).length = 32) := by decide

theorem meets_FoxWordsReadBack : ∀ c ∈ foxCommands, ∃ n w, c.wf = true ∧ foxWord c = some (n, w) := by
  intro c h
  obtain ⟨n, s, i⟩ := meets_Issues c h
  exact ⟨n, _, i.1, i.2.1⟩

theorem meets_ScratchAccessedAtIssue :
    (let f := fun k => fx (.load32 15 1 2 0) 0 0x7FFC (fun b => b.withFox { b.fox with
        scrErr := Bank.set (fun _ => 0) b.fox.scrErr (32768 * 15 + 0x7FFF) k });
      placeOf ((f 0).sx 15 2 + (0#18).signExtend 32).toNat 4 = .scratch 0x7FFC ∧
        (∀ i : Fin 4, (f 0).scrCheck 15 (0x7FFC + i) = 0 ∧ (f 1).scrCheck 15 (0x7FFC + i) ≤ 1) ∧ (f 1).scrCheck 15 (0x7FFC + 3) = 1 ∧
        2 ≤ (f 2).scrCheck 15 (0x7FFC + 3)) ∧
    (let s := fx (.store32 15 1 2 0) 5 0x7FFC;
      placeOf (s.sx 15 2 + (0#18).signExtend 32).toNat (wordBytes (s.sx 15 1)).length = .scratch 0x7FFC) ∧
    issues? (.load32 15 1 2 0) = true ∧ issues? (.vstore 15 7 2 0) = true := by decide

theorem meets_MailboxWaitsForBuffer :
    (let s := fx (.load32 15 1 2 0) 0 0x800000; placeOf (s.sx 15 2 + (0#18).signExtend 32).toNat 4 = .mailbox 0 ∧ (s.engine 15).wbuf = []) ∧
    (let s := fx (.store32 15 1 2 0) 0 0x80FFFC (fun b => b.setEngine 15 { b.engine 15 with wbuf := [⟨0x10000, [1]⟩] });
      placeOf (s.sx 15 2 + (0#18).signExtend 32).toNat (wordBytes (s.sx 15 1)).length = .mailbox 0xFFFC ∧ (s.engine 15).wbuf ≠ []) := by decide

theorem meets_VectorOperationsFollow :
    -(2 ^ 39) ≤ (-(2 ^ 39) : Int) ∧ (2 ^ 39 - 1 : Int) < 2 ^ 39 ∧ issues? (.asum 15 15 3 15) = true := by decide

/-- FX15 at a WAIT with 1,024 transactions queued, or in another step's way. -/
theorem meets_NodeAndStepInstructionsFollow :
    (let s := fx (.nodeWr 15 1 2) 0 0; s.queued (5 + 15) + 16 ≤ 1024) ∧
    (let s := fx (.nodeWr 15 1 2) 0 0 (fun b => b.setQueue 11 20 (List.replicate 1024 (write5 20)));
      1024 < s.queued (5 + 15) + 1 ∧ s.nodeRoom 15 1 = false) ∧
    (let s := fx (.nodeFence 15 15) 0 0; s.queueEmpty 15 = true ∧ s.hasBusy 20 = false ∧ (s.engine 15).done = []) ∧
    (let s := fx (.stepArmOpen 15 15 1 0 4) 31 0;
      s.stepArg 15 1 = 31 ∧ (s.engine 15).holdAt = none ∧ (s.step' 31).waiting = none ∧ s.stepState 31 ≠ 1 ∧ s.stepState 31 ≠ 2 ∧
        (s.step' 31).disarm = []) ∧
    (let s := fx (.stepArmArm 15 15 1 2) 31 0 (fun b => (b.put (Reg.STEP_STAT_STATE 31) 1).put (Reg.STEP_CTL_OWNER 31) 20);
      s.stepMine 31 20 = true ∧ s.nodeRoom 15 1 = true ∧ s.armsQueued 20 31 = false ∧ s.stepState 31 = 1 ∧
        s.get (Reg.STEP_CTL_OWNER 31) = 20) ∧
    (let s := fx (.stepArmSeal 15 15 1) 31 0 (fun b => ((b.put (Reg.STEP_STAT_STATE 31) 1).put (Reg.STEP_CTL_OWNER 31) 20).setQueue 11 20
        [{ Txn.to 20 6 0 0 .none with trunk := 11, hub := 1, leaf := 512 * 31 }]);
      s.stepMine 31 20 = true ∧ s.armsQueued 20 31 = true) ∧
    (fx (.stepArmSeal 15 15 1) 31 0).stepMine 31 20 = false ∧
    (let s := fx (.waitLocal 15 15 2 1) 0 0; s.sPair 15 2 ≤ s.localCount ∧ s.sPair 15 2 ≤ s.mainsNow) ∧
    (let s := fx (.waitLocal 15 15 2 1) 0 1; s.localCount < s.sPair 15 2 ∧ s.mainsNow < s.sPair 15 2) ∧
    (let s := fx (.waitLine 15 15 1 3) 0 0 (fun b => (((b.put (Reg.LINE_STATUS_STATE 3) 2).setReg (Reg.LINE_QW 3 31) 0xFF000000).setLine 3
        { b.lineTb 3 with anchor := 400 }).withLocalCount 400 |>.setEngine 15 { b.engine 15 with holdAt := some 0 });
      (s.lineTb 3).qwPast.find? (fun v => v.leads ((s.engine 15).holdAt.getD s.now)) = none ∧
        (s.windows 3).find? (fun v => s.longEnough 3 v.len && s.windowOk 3 v ((s.engine 15).holdAt.getD s.now) &&
          decide (v.st ≤ 6 * s.now)) = some ⟨2400, 255, 0, 0⟩ ∧ s.handoverDue 15 = false) ∧
    (let s := fx (.waitLine 15 15 1 3) 0 0 (fun b => b.setLine 3 { b.lineTb 3 with qwPast := [⟨2400, 255, 0, 0⟩] });
      (s.lineTb 3).qwPast.find? (fun v => v.leads ((s.engine 15).holdAt.getD s.now)) = some ⟨2400, 255, 0, 0⟩) ∧
    (let s := fx (.waitSignal 15 15 1) 0 0 (fun b => (b.put (Reg.FX_CTL_FRM 15) 1).setEngine 15
        { b.engine 15 with holdAt := some 0, frmLoaded := true });
      (s.engine 15).holdAt ≠ none ∧ s.handoverDue 15 = true) ∧
    (fx (.waitLine 15 15 1 3) 0 0).windows 3 = [] ∧
    (let s := fx (.waitEvent 15 15 1 0x80) 0 0 (fun b => b.setEngine 15 { b.engine 15 with latches := 0xC0 });
      (s.engine 15).latches &&& 0x80#8 ≠ 0 ∧ (s.engine 15).latches &&& 0x01#8 = 0) ∧
    ((fx (.waitSignal 15 15 1) 0 0 (·.put (Reg.FX_STATUS_SIGNAL 15) 1)).flag (Reg.FX_STATUS_SIGNAL 15) = true ∧
      (fx (.waitSignal 15 15 1) 0 0).flag (Reg.FX_STATUS_SIGNAL 15) = false) ∧
    (let s := fx (.waitSignal 15 15 1) 9 0 (fun b => (b.setEngine 15 { b.engine 15 with holdAt := some 5 }).withLocalCount 14);
      let g := on s (·.put Reg.WH_GSTATUS_MODE 2); let w := s.pmWord 15 (s.get (Reg.FX_PC_PC 15));
      (s.engine 15).holdAt = some 5 ∧ s.fxUp 15 = true ∧ s.fxState 15 = 1 ∧ bitsOf w 31 26 = 0x3A ∧ foxLegal w = true ∧ bitsOf w 17 14 ≠ 0 ∧
        s.pmCheck 15 (s.get (Reg.FX_PC_PC 15)) = 0 ∧ 5 + (s.sx 15 (bitsOf w 17 14)).toNat ≤ s.now ∧ s.get Reg.WH_GSTATUS_MODE ≠ 2 ∧
        s.handoverDue 15 = false ∧ g.get Reg.WH_GSTATUS_MODE = 2 ∧ g.fxState 15 = 1 ∧ (g.engine 15).part = []) := by decide +kernel

theorem meets_SystemInstructionsFollow :
    ((fx (.halt 15) 0 0).queueEmpty 15 = true ∧ ((fx (.halt 15) 0 0).engine 15).wbuf = []) ∧
    (let s := fx (.halt 15) 0 0 (fun b => (b.setQueue 11 20 [write5 20]).setEngine 15 { b.engine 15 with wbuf := [⟨0x10000, [1]⟩] });
      s.queueEmpty 15 = false ∧ (s.engine 15).wbuf ≠ []) ∧
    (issues? (.tempRd 15 15 23) = true ∧ issues? (.tempRd 15 15 60) = true ∧ issues? (.gets 15 15 2) = true) ∧
    (bitsOf ((fx (.qfPut 15 1 2 0) 0x01000000 0).sx 15 1) 31 24 ≠ 0 ∧ bitsOf ((fx (.qfPut 15 1 2 0) 0x00FFFFFF 0).sx 15 1) 31 24 = 0) ∧
    ((fx (.qfPut 15 1 2 0) 0 0).flag (Reg.FX_QFRING_PLY 15) = false ∧
      (on up (·.put (Reg.FX_QFRING_PLY 15) 1)).flag (Reg.FX_QFRING_PLY 15) = true) := by decide

/-- FX15's ring of 4 KiB times 2^0 at 4 KiB times `base`. -/
def ring (base : Nat) : Block := up.put (Reg.FX_QFRING_BASE 15) base

/-- An engine's completions, stores, ring and migration. -/
theorem meets_EnginesFollow :
    (up.writable Reg.FX_GCMD = true ∧ maskEngines 0x8000#16 = [15] ∧ up.fxUp 15 = true ∧ up.fxState 15 = 0 ∧ up.frm 15 = false ∧
      up.actHalf 15 = 0 ∧ (engine 15 0 1).fxState 15 = 1) ∧
    (let s := on up (·.put (Reg.FX_STATUS_STATE 15) 2); s.fxState 15 = 2 ∧ s.queueEmpty 15 = true ∧ (s.engine 15).pend = [] ∧
      (s.engine 15).wbuf = []) ∧
    (let s := on up (fun b => b.setEngine 15 { b.engine 15 with done := [⟨some 15, 0, 7⟩] }); (s.engine 15).done = [⟨some 15, 0, 7⟩]) ∧
    (let s := on up (fun b => (b.setEngine 15 { b.engine 15 with done := [⟨none, 7, 0⟩] }).put (Reg.FX_STATUS_NODE_SEEN 15) 1);
      (s.engine 15).done = [⟨none, 7, 0⟩] ∧ s.flag (Reg.FX_STATUS_NODE_SEEN 15) = true) ∧
    (let s := on up (fun b => b.setEngine 15 { b.engine 15 with wbuf := [⟨0, [1]⟩, ⟨1, [2]⟩] });
      (s.engine 15).wbuf[1]? = some ⟨1, [2]⟩ ∧ ((s.engine 15).wbuf.take 1).any (fun y => y.meets ⟨1, [2]⟩) = false) ∧
    (up.writable Reg.FX_DBG_DATA = true ∧ up.fxState (bitsOf (up.reg (ownCopy 2 Reg.FX_DBG_IDX)) 11 8) = 0 ∧
      (engine 0 0 1).fxState (bitsOf ((engine 0 0 1).reg (ownCopy 2 Reg.FX_DBG_IDX)) 11 8) = 1) ∧
    (up.writable (Reg.FX_QFRING 15) = true ∧ up.flag (Reg.FX_QFRING_EN 15) = false ∧ (ring 0x10).fifoRegions = [] ∧
      (ring 0x10).ringRegions = [] ∧ ((ring 0x10).ringRegion 15).1 % ((ring 0x10).ringRegion 15).2 = 0 ∧
      0x10000 ≤ ((ring 0x10).ringRegion 15).1 ∧ ((ring 0x10).ringRegion 15).1 + ((ring 0x10).ringRegion 15).2 ≤ memSize ∧
      ¬ 0x10000 ≤ ((ring 0xF).ringRegion 15).1) ∧
    (let m : FoxMigration := { src := 0, dst := 15, tb := 0, instant := 0, host := 0, tag := 0 };
      let s := on (engine 0 0 1) (fun b => b.withFox { b.fox with mig := some m });
      s.fox.mig = some m ∧ s.flag Reg.FX_MIG_COPYING = false ∧ m.instant ≤ s.tbNow m.tb ∧
        (s.engine m.src).part = [] ∧ (on s (·.put Reg.FX_MIG_COPYING 1)).flag Reg.FX_MIG_COPYING = true ∧ (s.engine 0).wbuf = [] ∧
        (s.engine 0).pend = []) := by decide

/-- The first and last registers of each case. -/
theorem meets_RegisterAccessesFollow :
    (bitOf (2 ^ 31) 31 = true ∧ bitOf 0 0 = false ∧ bitOf 1 0 = true) ∧
    (65535 % 4 ≠ 0 ∧ State.reset.writable 0x1FFC = false) ∧
    (57920 % 4 = 0 ∧ up.writable 57920 = true ∧ 57920 ≠ Reg.SEQ_IDX ∧ 57920 ∈ indexRegs) ∧
    (up.writable 0x2C = true ∧ (regRow 0x2C).isSome = true ∧ (regRow 0).isSome = true) ∧
    (∀ a ∈ [Reg.WDT_CFG, Reg.WDT_KICK, Reg.TRAIL_WP, Reg.TRAIL_FFGEN, Reg.RST_CFG], up.writable a = true) ∧
    (36088 ∈ roPairs ∧ 16 ∈ roPairs ∧ up.domainOn (regDomain 36088) = true ∧ up.domainOn (regDomain 16) = true) := by decide +kernel

/-- `up` with DEN changed. -/
def den (f : Block → DenSt) : State := on up (fun b => b.withDen (f b))

theorem meets_BearBootAndSensorsFollow :
    (up.bearOn = true ∧ up.domainOn 6 = true ∧ up.busySS 16 = false) ∧
    (let s := on (den (fun b => { b.den with wdtAt := 0, wdtPeriod := 100 })) (·.withLocalCount 10000000000);
      s.bearOn = true ∧ 103 * s.den.wdtAt + 10 ^ 8 * s.den.wdtPeriod ≤ 103 * s.now) ∧
    (let s := den (fun b => { b.den with bootDue := true });
      s.den.bootDue = true ∧ s.domainOn 6 = true ∧ s.rstHeld = false ∧ s.hoardUp = true ∧ s.busySS 16 = false ∧
        s.dueAfter s.den.triedAt (10 ^ 9) = true) ∧
    (up.bootRec.trial = false ∧ up.get Reg.BOOT_FAILS < 3) ∧
    (let s := on up (fun b => (b.put Reg.BOOT_FAILS 3).put Reg.BOOT_ACTIVE 1);
      s.bootRec.trial = false ∧ s.get Reg.BOOT_ACTIVE ≠ s.bootRec.primary) ∧
    (let s := on (den (fun b => { b.den with waitConfirm := true, startAt := 0 })) (·.withLocalCount 10000000000);
      s.den.waitConfirm = true ∧ s.fwHoard = true ∧ s.deferring = false ∧ s.den.startAt + 10 ^ 10 ≤ s.now) ∧
    up.dueAfter up.den.sampledAt 125000 = true ∧ up.dueAfter up.den.scannedAt 1000000 = true ∧
    (List.replicate 36 (1281#16)).length ≤ 36 ∧ (List.replicate 24 (some (-513#16))).length ≤ 24 ∧
      up.sensorGone (24 + 35) = false := by decide +kernel

theorem meets_EventControllerFollows :
    (up.mayRaise 1035 = true ∧ up.mayRaise 0 = true ∧ up.mayRaise 880 = true ∧ State.reset.mayRaise 0 = false) ∧
    ((List.range 1036).any (fun i => decide (up.classOf i ≤ 1) && up.mayRaise i) = true) ∧
    ((later up).ev.interval < (later up).evInterval ∧ (later up).ev.trailCnt = [] ∧ (later up).ev.plyCnt = []) ∧
    (let s := on (later up) (fun b => b.withEv { b.ev with setIn := b.eventCycle, setBits := [(1, 1035)] });
      (later up).ev.setIn ≠ (later up).eventCycle ∧ s.ev.setIn = s.eventCycle ∧ (1, 32 * 32 + 11) ∈ s.ev.setBits) ∧
    (bitsOf 0xFFFFFFFF#32 7 0 ≤ bitsOf 0xFFFFFFFF#32 15 8 ∧ ¬ bitsOf 0x00FFFFFF#32 23 16 ≤ bitsOf 0x00FFFFFF#32 31 24) ∧
    (bitsOf 880#32 10 0 = 880 ∧ bitsOf 943#32 10 0 = 943 ∧ bitsOf 944#32 10 0 = 944 ∧ bitsOf 879#32 10 0 = 879) ∧
    (on up (·.put ⟨ownCopy 2 Reg.EV_CNT_IDX, 10, 0⟩ 1035)).get ⟨ownCopy 2 Reg.EV_CNT_IDX, 10, 0⟩ = 1035 := by decide +kernel

def aRec : TrailRec :=
  { kind := .single, injected := false, coarse := false, torn := false, time := 0, source := 1035, cls := 0, ffgen := 0, lost := 0, data := [] }

theorem meets_TrailFollows :
    up.ev.staged = [] ∧
    (let s := on up (fun b => b.withEv { b.ev with staged := [aRec] });
      s.ev.staged = [aRec] ∧ s.fwHoard = true ∧ s.deferring = false ∧ s.den.scanDue = none ∧ s.hoard.readOnly.elem 6 = false) ∧
    (let s := on up (fun b => b.withEv { b.ev with rseq := 130047 });
      aRec.data.length ≤ 8 ∧ s.hoard.readOnly.elem 6 = false ∧ s.ev.rseq.toNat + 2 < 2 ^ 64 ∧
        s.rowCount (trailAt (1024 + (s.ev.rseq.toNat + 1) % 130048) / 4096) < 950000) ∧
    (let s := den (fun b => { b.den with scanDue := some 1 }); s.den.scanDue = some 1 ∧ s.fwHoard = true ∧ s.deferring = false) := by
  decide +kernel

/-- `linked` with stream 63 of 2 slots of 4 KiB from result memory address 0x10000. -/
def stream (en : Nat) (f : Stream → Stream := id) : State := on linked (fun b =>
  ((((b.put (Reg.PLY_STREAM_BASE 63) 0x10).put (Reg.PLY_STREAM_SLOTS 63) 1).put (Reg.PLY_STREAM_SIZE 63) 0).put (Reg.PLY_STREAM_EN 63) en).setStream
    63 (f Stream.reset))

/-- A part of one unit for stream `k`: its words. -/
def aPart (k hdr : Nat) : List (BitVec 64) :=
  let h := BitVec.ofNat 64 (1 * 2 ^ 60 + k * 2 ^ 52 + 7 * 2 ^ 36 + 6 * 2 ^ 24)
  let pl : List (BitVec 64) := [BitVec.ofNat 64 hdr, 0, 1, 2, 3, 4]
  h :: pl ++ [BitVec.ofNat 64 ((crc32 ((h :: pl).flatMap beBytes)).toNat * 2 ^ 32)]

def lanes (st : Nat) : State := on up (fun b => b.put (Reg.PLY_LANE_STATE 15) st)

theorem meets_PlyFollows :
    (up.writable (Reg.PLY_STREAM 63) = true ∧ (stream 0).flag (Reg.PLY_STREAM_EN 63) = false ∧ (stream 1).flag (Reg.PLY_STREAM_EN 63) = true ∧
      (stream 0).streamOk 63 = true ∧ up.streamOk 63 = false) ∧
    (linked.takePacket 1 (aPart 63 0) true linked.statLayout).1 = none ∧
    (let o : OpenBlock := { bseq := 9, fmt := 0, acqStart := 0, acqEnd := 0, wave := 0, units := 3 };
      let s := stream 1 (fun t => { t with slots := Bank.set (fun _ => .empty) t.slots 0 (.opened o) });
      let w := 9 * 2 ^ 56 + 3 * 2 ^ 46;
      let r := s.takePacket 1 (aPart 63 w) true s.statLayout;
      r.1 = some (63, [BitVec.ofNat 64 w, 0, 1, 2, 3, 4]) ∧ bitsOf (BitVec.ofNat 64 w) 45 45 = 0 ∧
        openBlock (r.2.slotList 63) = some (0, o) ∧ o.bseq = bitsOf (BitVec.ofNat 64 w) 63 56 ∧ o.units = bitsOf (BitVec.ofNat 64 w) 55 46) ∧
    (let s := fx (.statPull 15 15 1 2 1023 true) 0x1FFE0 63;
      issues? (.statPull 15 15 1 2 1023 true) = true ∧ (s.sx 15 1).toNat % 32 = 0 ∧ (s.sx 15 2).toNat ≤ 63 ∧
        s.flag (Reg.PLY_STREAM_EN 63) = false) ∧
    ((fx (.statPull 15 15 1 2 0 false) 31 64).sx 15 1).toNat % 32 ≠ 0 ∧ 63 < ((fx (.statPull 15 15 1 2 0 false) 0 64).sx 15 2).toNat ∧
    (let s := on linked (fun b => (b.withPly { b.ply with resQ := [(0, 0)] }).withLocalCount 1000000);
      s.get Reg.PLY_STATUS_OUT_STATE = 2 ∧ s.outDue 2 = true ∧ s.outDue 0 = false ∧ s.outDue 1 = false) ∧
    up.outDue 2 = false ∧
    ((lanes 0).laneOn 15 = true ∧ (lanes 0).get (Reg.PLY_LANE_STATE 15) = 0 ∧ (lanes 2).get (Reg.PLY_LANE_STATE 15) ≠ 0) ∧
    (up.get (linkState 1) ≠ 2 ∧ up.linkOn 1 = true ∧ Bank.get (fun _ => 0) up.ply.tryAt 1 ≤ up.now ∧ up.pickWidth 1 = none ∧
      (lanes 1).pickWidth 1 = some (0, 15)) ∧
    up.writable Reg.PLY_CTL = true := by decide +kernel

/-- The first part of a block, whose slot is free. -/
theorem meets_PlyFollows_opens :
    let s := stream 1; let w := 9 * 2 ^ 56 + 2 ^ 45;
    let r := s.takePacket 1 (aPart 63 w) true s.statLayout;
    r.1 = some (63, [BitVec.ofNat 64 w, 0, 1, 2, 3, 4]) ∧ bitsOf (BitVec.ofNat 64 w) 45 45 = 1 ∧ bitsOf (BitVec.ofNat 64 w) 55 46 = 0 ∧
      (openBlock (((r.2.discardOpen 63).openIn 63 { bseq := 9, fmt := 0, acqStart := 0, acqEnd := 0, wave := 0, units := 0 }).slotList 63)).isSome =
        true := by decide +kernel

/-- A ready block of one unit and its header, which fits at 0x7FC0 of the scratch memory and does not at 0x7FE0. -/
theorem meets_PlyFollows_pull :
    let f := fun a => on (fx (.statPull 15 15 1 2 1023 true) a 63) (fun b => ((b.put (Reg.PLY_STREAM_EN 63) 1).put (Reg.PLY_STREAM_SLOTS 63) 1).setStream 63
      { Stream.reset with slots := Bank.set (fun _ => .empty) Stream.reset.slots 1 (.ready 0 9 1) });
    (f 0x7FC0).flag (Reg.PLY_STREAM_EN 63) = true ∧ oldestReady ((f 0x7FC0).slotList 63) = some (1, 9, 1) ∧
      0x7FC0 + 32 * min (1 + 1) 1023 ≤ 0x8000 ∧ 0x8000 < 0x7FE0 + 32 * min (1 + 1) 1023 ∧ 0x7FE0 % 32 = 0 := by decide +kernel

/-- `up` with domain `d` in state `st`. -/
def dom (d st : Nat) (f : Block → Block := id) : State := on up (fun b => f (b.setDom d { b.domain d with state := st }))

/-- Records of host domain 1023: one that names FX15, one on HOLD, one that lets no host in. -/
def recOf (i : Fin 3) : DomRec :=
  match i with
  | 0 => { factoryRecord 1023 with engine := 15 }
  | 1 => { factoryRecord 1023 with policy := 0x44 }
  | 2 => { factoryRecord 1023 with policy := 0 }

/-- A configuration store whose one record is that of host domain 1023. -/
def host1023 (i : Fin 3) (b : Block) : Block := b.setHoard { b.hoard with
  bytes := (((halfHeader 1 ++ itemBytes 0x5FF 1 ((recOf i).bytes 1023)).zipIdx (cfgAt 0 0)).map
    (fun p => (p.2, p.1))) }

/-- No record starts in the words of a configuration store that nothing has written. -/
theorem scan_none {s : Block} {h : Nat} : ∀ (fuel w last : Nat) (acc : List ItemRec), (∀ v, w ≤ v → s.itemAt h v = none) →
    s.scanItems h fuel w last acc = (acc, last) := by
  intro fuel
  induction fuel with
  | zero => intros; rfl
  | succ n ih =>
    intro w last acc hn
    rw [Block.scanItems, hn w (Nat.le_refl w)]
    exact ih (w + 1) last acc (fun v hv => hn v (Nat.le_of_succ_le hv))

theorem get_above {α : Type} {d : Nat → α} {b : Bank α} {k : Nat} (h : ∀ p ∈ b, p.1 ≠ k) : Bank.get d b k = d k := by
  induction b with
  | nil => rfl
  | cons p t ih =>
    rw [Bank.get, if_neg (h p (List.mem_cons_self ..)), ih (fun q hq => h q (List.mem_cons_of_mem _ hq))]

/-- The host domain's run, with its record stored. -/
def hostRun (i : Fin 3) : State := dom 1023 2 (host1023 i)

theorem hostRun_below (i : Fin 3) : ∀ p ∈ (hostRun i).hoard.bytes, p.1 < cfgAt 0 3 := by revert i; decide +kernel
theorem hostRun_place (i : Fin 3) (o : Nat) : (hostRun i).hPhys o = o := by
      have hw : (hostRun i).hoard.wear.remap = []   := by revert i; decide +kernel
      simp only [Block.hPhys, Block.hRow, hw, Bank.get]; omega
theorem hostRun_from (o : Nat) (h1 : cfgAt 0 3 ≤ o) : 40 * mib ≤ o := Nat.le_trans (by decide) h1
theorem hostRun_words  (v : Nat) (h : 3 ≤ v) (hv : v < 16384) : cfgAt 0 3 ≤ cfgAt 0 v ∧ cfgAt 0 v + 1 < 41 * mib := by simp only [cfgAt, mib]; omega
theorem hostRun_unlisted (i : Fin 3) (o : Nat) (h1 : cfgAt 0 3 ≤ o) : Bank.get hoardDefault (hostRun i).hoard.bytes o = hoardDefault o :=
  get_above (fun p q => Nat.ne_of_lt (Nat.lt_of_lt_of_le (hostRun_below i p q) h1))
theorem store_default (o : Nat) (h1 : cfgAt 0 3 ≤ o) (h2 : o < 41 * mib) : hoardDefault o = 0#8 := by
  rw [hoardDefault, if_pos (.inr ⟨hostRun_from o h1, h2⟩)]; rfl
theorem hostRun_zero (i : Fin 3) (o : Nat) (h1 : cfgAt 0 3 ≤ o) (h2 : o < 41 * mib) : (hostRun i).hByte o = 0#8 := by
  rw [Block.hByte, if_neg (by omega), hostRun_place i, hostRun_unlisted i o h1, store_default o h1 h2]
theorem hostRun_item (i : Fin 3) (v : Nat) (h : 3 ≤ v) (hv : v < 16384) : (hostRun i).hNat (cfgAt 0 v) 2 = 0 := by
  have e : (hostRun i).hBytes (cfgAt 0 v) 2 = [(hostRun i).hByte (cfgAt 0 v), (hostRun i).hByte (cfgAt 0 v + 1)] := by simp [Block.hBytes, List.range_succ]
  obtain ⟨a, b⟩ := hostRun_words v h hv
  rw [Block.hNat, e, hostRun_zero i _ a (by omega), hostRun_zero i _ (by omega) b]; rfl
theorem hostRun_empty (i : Fin 3) (v : Nat) (h : 3 ≤ v) : (hostRun i).itemAt 0 v = none := by
  unfold Block.itemAt
  by_cases hv : v < 16384
  · simp [hostRun_item i v h hv]
  · have : ∀ n, 1 ≤ itemWords n := fun n => by simp only [itemWords]; omega
    have := this ((hostRun i).hNat (cfgAt 0 v + 2) 2)
    exact if_neg (fun ⟨_, k, _⟩ => by omega)

theorem hostRun_live (i : Fin 3) : (hostRun i).liveHalf = some 0 := by revert i; decide +kernel
theorem hostRun_first (i : Fin 3) : (hostRun i).itemAt 0 1 = some ⟨0x5FF, 1, 16, cfgAt 0 1⟩ := by revert i; decide +kernel
theorem hostRun_second (i : Fin 3) : (hostRun i).itemAt 0 2 = none := by revert i; decide +kernel
theorem hostRun_value (i : Fin 3) : (hostRun i).hBytes (cfgAt 0 1 + 8) 16 = (recOf i).bytes 1023 := by revert i; decide +kernel

theorem hostRun_engine (i : Fin 3) : (hostRun i).item (0x200 + 1023) = some (1, (recOf i).bytes 1023) := by
  have h3 : (hostRun i).liveItems.1 = [⟨0x5FF, 1, 16, cfgAt 0 1⟩] := by
    have hs := scan_none (s := (hostRun i).toBlock) (h := 0) 16383 2 2 [⟨0x5FF, 1, 16, cfgAt 0 1⟩]
      (fun v a => by
        by_cases h : v = 2
        · rw [h]; exact hostRun_second i
        · exact hostRun_empty i v (by omega))
    have hu : (hostRun i).scanItems 0 (16383 + 1) 1 1 [] = ([⟨0x5FF, 1, 16, cfgAt 0 1⟩], 2) := by
      have e : 1 + itemWords 16 = 2 := rfl
      rw [Block.scanItems, hostRun_first i]
      simp only [e, List.nil_append]
      exact hs
    rw [Block.liveItems, hostRun_live i]
    exact congrArg Prod.fst hu
  have h4 : newest [(⟨0x5FF, 1, 16, cfgAt 0 1⟩ : ItemRec)] (0x200 + 1023) = some ⟨0x5FF, 1, 16, cfgAt 0 1⟩ := rfl
  rw [Block.item, h3, h4, ← hostRun_value i]

theorem meets_DomainsFollow_host : (hostRun 0).startable 1023 = true ∧ ∀ e ∈ domainList, e ≠ 1023 → (hostRun 0).startable e = false := by
  constructor
  · have h : (hostRun 0).domRec 1023 = { factoryRecord 1023 with engine := 15 } := by
      rw [Block.domRec, hostRun_engine 0]; decide
    have hs : (hostRun 0).served 1023 = false := by decide
    have he : (hostRun 0).engineFree 15 = true ∧ (hostRun 0).hubsMeet 1023 = false := by decide +kernel
    have hw : stepsWanted 1023 = 0 := by decide
    have h1 : ((hostRun 0).domain 1023).state = 2 ∧ (hostRun 0).fwHoard = true ∧ signed 16 ((hostRun 0).get Reg.DEN_TJ_DEN_TJ) < 1000 ∧
      (hostRun 0).imageRestoring = false := by decide +kernel
    simp only [Block.startable, h, hs, he, hw, h1]
    simp
  · decide +kernel

theorem meets_DomainsFollow :
    (domainCal 0 ≠ 0 ∧ domainCal 1023 = 12 ∧ domainCal 144 = 10 ∧ domainCal 191 = 10 ∧ domainCal 192 = 11 ∧ domainCal 194 = 11 ∧
      domainCal 112 = 8 ∧ domainCal 83 = 6) ∧
    ((up.domain 0).state = 0 ∧ ((dom 0 2).domain 0).state = 2 ∧ ((dom 0 5).domain 0).state = 5 ∧ State.reset.fwUp = false ∧ up.fwUp = true) ∧
    (let s := dom 1023 1; (s.domain 1023).state = 1 ∧ (s.domain 1023).started = none) ∧
    (let s := on up (fun b => b.setDom 0 { b.domain 0 with state := 1, started := some 0 });
      (s.domain 0).waived = false ∧ (s.domain 0).started = some 0 ∧ ¬ 0 + (s.domRec 0).minGap * 10 ^ 7 ≤ s.now) ∧
    up.startable 1023 = false ∧ ((dom 144 2).startable 144 = true ∧ ∀ e ∈ domainList, e ≠ 144 → (dom 144 2).startable e = false) ∧
    (let s := dom 112 2 (fun b => b.setDom 96 { b.domain 96 with state := 5 });
      s.startable 112 = true ∧ s.sc07Runs (domainUnit 112 / 4) = true ∧ ∀ e ∈ domainList, e ≠ 112 → s.startable e = false) ∧
    ((dom 192 2).startable 192 = true ∧ (dom 192 2).get (Reg.REF_SEL_SRC 7) = 0 ∧ ∀ e ∈ domainList, e ≠ 192 → (dom 192 2).startable e = false) ∧
    ((dom 0 2).startable 0 = true ∧ ∀ e ∈ domainList, e ≠ 0 → (dom 0 2).startable e = false) ∧
    (let m := List.replicate 47 (0 : Int);
      (up.fwUp = true ∧ ((dom 144 3).domain 144).state = 3 ∧ measCount 144 ≤ m.length ∧ (dom 144 3).den.figures = []) ∧
        4 = measCount 194 ∧ [0, 0, (0 : Int)].length < measCount 194) ∧
    (let s := on up (fun b => (b.setDom 0 { b.domain 0 with state := 3, engine := some 0 }).put (Reg.FX_STATUS_STATE 0) 1);
      (s.domain 0).engine ≠ none ∧ s.runEnded 0 = none) ∧
    (let s := fun st halt => on up (fun b => ((b.setDom 0 { b.domain 0 with state := 3, engine := some 0 }).put (Reg.FX_STATUS_STATE 0) st).setEngine 0
        { b.engine 0 with byHalt := halt });
      (s 3 true).runEnded 0 = some true ∧ (s 3 false).runEnded 0 = some false ∧ domainCal 0 ≠ 10 ∧ domainCal 0 ≠ 11 ∧
        ((dom 0 3).domain 0).engine = none) := by decide +kernel

/-- `up` with the Hoard changed. -/
def hoard (f : HoardSt → HoardSt) : State := on up (fun b => b.setHoard (f b.hoard))

/-- `up` deferring. -/
def defers : State := on (hoard (fun h => { h with deferOn := true })) (·.put Reg.HD_STATUS_DEFERRING 1)

theorem meets_StoreFollows :
    (up.hoardUp = true ∧ spanOk 0x5FFFE0 32 = true ∧ spanOk 0 4096 = true ∧ up.hoard.ue = [] ∧ State.reset.hoardUp = false) ∧
    (up.fwHoard = true ∧ up.deferring = false ∧ (List.replicate 32 (0#8)).length = 32 ∧
      up.rowCount (macroOffset 7 0x5FFFE0 / 4096) < 950000 ∧ hoardRegion (macroOffset 7 0x5FFFE0) = 11 ∧
      up.rowTakes (macroOffset 7 0x5FFFE0 / 4096) = true ∧ ¬ (41 * mib ≤ macroOffset 7 0x5FFFE0 ∧ macroOffset 7 0x5FFFE0 < 42 * mib)) ∧
    (¬ (0x700 ≤ 65535 ∧ 65535 ≤ 0x710) ∧ up.itemsLeft 1 = true ∧
      (hoard (fun h => { h with items := List.replicate 4096 0 })).itemsLeft 1 = false) ∧
    (State.reset.fwHoard = false ∧ defers.deferring = true ∧ defers.fwHoard = true ∧ defers.hoard.ageAt = 0 ∧
      (on defers (·.withLocalCount 1000000000)).deferring = true ∧ 0 + 10 ^ 9 ≤ (lasting 1000000000).now) ∧
    (let s := lasting 14400000000000; s.fwHoard = true ∧ s.deferring = false ∧ s.hoard.flushAt + 14400 * 10 ^ 9 ≤ s.now) ∧
    (let s := lasting 86400000000000; s.fwHoard = true ∧
      (s.hoard.history.headD (0, s.hoard.wear.rows)).1 + 86400 * 10 ^ 9 ≤ s.now) := by decide +kernel

/-- No image is in region 11. -/
theorem meets_StoreFollows_image : 11 ≠ up.currentImage + 2 := by
  unfold Block.currentImage
  split
  · split <;> omega
  all_goals omega

/-- A commit in progress into working image A. -/
def aCommit : Commit := { target := 1, seq := 1, jlast := 0, jofs := 0, src := none, owner := .none }

/-- Bytes of the images' headers that are valid in none. -/
def noImages (h : HoardSt) : HoardSt := { h with bytes := [0, 1, 2, 3].map (fun i => (12 * mib + i, 0)) ++ [0, 1, 2, 3].map (fun i => (20 * mib + i, 0)) }

/-- A dirty domain, and a journal as full as its record tells. -/
def dueCommit : State := on (hoard (fun h => noImages { h with dirty := [0] })) (·.put Reg.HD_JOURNAL_USED 65535)

theorem meets_JournalAndCommitsFollow :
    (up.hoard.appends = [] ∧ State.reset.fwHoard = false ∧ up.hoard.commit = none ∧ up.commitMinOver = true ∧ up.hoard.want = none) ∧
    (let r : JReq := { type := 1, flags := 0, domain := 0x3FF, runs := [], owner := .none };
      let s := hoard (fun h => { h with appends := [r], readOnly := [5] });
      s.hoard.appends = [r] ∧ s.fwHoard = true ∧ s.deferring = false ∧ s.hoard.readOnly.elem 5 = true) ∧
    (let r : JReq := { type := 2, flags := 0, domain := 5, runs := [], owner := .none };
      let s := hoard (fun h => noImages { h with appends := [r] });
      s.hoard.appends = [r] ∧ s.hoard.readOnly.elem 5 = false ∧ s.get Reg.HD_JOURNAL_USED + 1 ≤ 65536 ∧
        (s.setHoard { s.hoard with appends := [] }).journalRoom (1 + ((runsBody r.runs).length + 31) / 32) = true ∧
        1 + ((runsBody r.runs).length + 31) / 32 ≤ journalWords - s.hoard.next) ∧
    (let s := hoard (fun h => noImages { h with want := some .none, readOnly := [3] });
      s.hoard.want.isSome = true ∧ s.hoard.readOnly.elem (if s.currentImage = 1 then 4 else 3) = true ∧
        (hoard (fun h => noImages { h with want := some .none })).hoard.readOnly.elem 3 = false) ∧
    (dueCommit.hoard.want = none ∧ dueCommit.commitMinOver = true ∧ 65536 * dueCommit.commitFill ≤ 100 * dueCommit.get Reg.HD_JOURNAL_USED ∧
      dueCommit.hoard.readOnly.elem (if dueCommit.currentImage = 1 then 4 else 3) = false) ∧
    (defers.deferring = true ∧ (hoard (fun h => { h with commit := some aCommit })).hoard.commit.isSome = true ∧
      (hoard (fun h => { h with begunAt := some 0 })).commitMinOver = false) ∧
    (let s := hoard (fun h => { h with commit := some aCommit }); s.hoard.commit = some aCommit ∧ s.fwHoard = true ∧ s.deferring = false) := by
  decide +kernel

/-- A change stays to be committed, or there is none: no JSEQ is below 0. -/
theorem meets_JournalAndCommitsFollow_due :
    dueCommit.commitDue = true ∧ (hoard id).commitDue = false := by
  have hd : dueCommit.hoard.dirty = [0] := by decide
  have h0 : (hoard id).jseq = 0 ∧ (hoard id).hoard.dirty = [] := by decide
  simp [Block.commitDue, hd, h0]

theorem meets_JournalRecordReadsBack :
    let s := up; let body := List.replicate 31 (0#8);
    let len := 1 + (body.length + 31) / 32;
    1 ≤ 4 ∧ 0x3FF < 65536 ∧ s.hoard.next + len ≤ journalWords ∧ s.jseq + 1 < 2 ^ 64 ∧ s.hoard.wear.remap = [] ∧ s.hoard.readOnly = [] ∧
      journalAt s.hoard.next / 4096 = (journalAt s.hoard.next + 32 * len - 1) / 4096 ∧
      s.rowCount (journalAt s.hoard.next / 4096) < 950000 := by decide +kernel

/-- `up` with hub `k` marked for restore. -/
def marked (k : Nat) : State := on up (fun b => b.setHubRec k { b.hubRec k with restore := true, state := HUB_ACTIVE })

theorem meets_RestoresFollow :
    (up.fwHoard = true ∧ up.flag Reg.HD_STATUS_RESTORING = false ∧ State.reset.fwHoard = false ∧
      (on up (·.put Reg.HD_STATUS_RESTORING 1)).flag Reg.HD_STATUS_RESTORING = true) ∧
    (([(0, 0), (1, 256), (2, 512), (3, 576), (4, 640)] : List (Nat × Nat)).all (fun (d, k) => restoreOrder.elem k && dieOf (k / 64) == d &&
      (marked k).flagged [k] == [k]) = true) ∧
    up.flagged (restoreOrder.filter (fun k => dieOf (k / 64) == 4)) = [] ∧
    (let s := on up (·.put Reg.DEN_TJ_DEN_TJ 960);
      s.fwHoard = true ∧ s.hoard.deferOn = false ∧ 960 ≤ s.hoardTemp ∧ up.hoardTemp < 920 ∧ up.nvmOut = false) ∧
    (on up (fun b => b.withPower { b.power with railEffect := [(5, true)] })).nvmOut = true ∧
    (defers.fwHoard = true ∧ defers.hoard.deferOn = true ∧ defers.hoardTemp < 920 ∧ defers.nvmOut = false) := by decide +kernel

/-- A frame that is complete. -/
def good : Wire := ⟨true, 0, true, true⟩

theorem meets_FramesFollow :
    (up.samples = true ∧ good.complete = true ∧ (up.port 1).held = none ∧ up.coreOn = true ∧ up.autoRefused 0 = false) ∧
    (let a := up.frameAddr 1 0x10; a = 16 ∧ regSpanOk a 255 = true ∧ (∀ x ∈ regAddrs a 255, up.domainOn (regDomain x) = true) ∧
      up.regClaimed 1 (regAddrs a 255) = false ∧ up.crcOk 1 0x10 255 [up.addrField 1 0x10] good = true) ∧
    (let a := up.frameAddr 1 0x02810000; a = 0x810000 ∧ memSpanOk a 1020 = true ∧ up.memPowered a 1020 = true ∧ up.memClaimed 1 a = false) ∧
    (let a := up.frameAddr 0 0x02810000; let v : PortSt := { State.reset.port 0 with acc := true };
      let s := on up (fun b => b.setPort 1 { b.port 1 with wrote := some (b.now, true, 0x810000, [7]) });
      let u := (s.setPort 0 v).memPutWords a [9];
      good.same = true ∧ ((u.setPort 0 { u.port 0 with wrote := some (u.now, true, a, [9]) }).port 1).wrote = some (u.now, true, 0x810000, [7])) ∧
    ((up.host 1).outstanding < 32 ∧ bitsOf (([0x0000FF00#32] : List Word).headD 0) 15 8 = 255) ∧
    (let r : Reply := { tag := 5, words := [1, 2], final := true, echo := false, order := 0 };
      let s := on up (fun b => b.setHost 1 { b.host 1 with ready := [r] });
      (s.host 1).ready = [r] ∧ r.words.length ≤ 2 ∧ (1 : Nat) < r.words.length) := by decide +kernel

theorem meets_FramesFollow_checks :
    (fmtOk 0x00041810 = true ∧ fmtOk 0 = false) ∧
    (let s := on up (·.put (Reg.SKP_FMT_CRC_EN 1) 1); s.samples = true ∧ s.crcOk 1 1 0 [] good = false ∧
      s.crcOk 1 1 0 [] { good with crc := BitVec.ofNat 8 (frameCrc [(1, 8), (0, 8)]) } = true) ∧
    ([0x00, 0x01, 0x02, 0x10, 0x11, 0x20, 0x21, 0x30, 0x31, 0x3F].map frameOpcode = List.replicate 10 true ∧ frameOpcode 255 = false) ∧
    (regSpanOk (up.frameAddr 1 2) 1 = false ∧
      (let s := on up (·.setReg Reg.SK_CLAIM_A 0x40); regSpanOk (s.frameAddr 1 0x6000) 1 = true ∧
        s.regClaimed 1 (regAddrs (s.frameAddr 1 0x6000) 1) = true)) ∧
    ((on up (·.put Reg.RST_STATUS_AUTO 1)).flag Reg.RST_STATUS_AUTO = true ∧ (on up (·.put Reg.RST_STATUS_AUTO 1)).samples = true) ∧
    (State.reset.samples = true ∧ State.reset.autoRefused 1 = false ∧ State.reset.coreOn = false) ∧
    (let s := on up (fun b => b.setHost 1 { b.host 1 with hw := (List.range 32).map (fun i => Packet.post [BitVec.ofNat 32 (2 ^ 16 * i)] i false) });
      32 ≤ (s.host 1).outstanding) ∧
    ((up.host 0).ready = [] ∧ up.get (Reg.SKP_TMO_MS 0) ≠ 0) ∧
    (on up (·.put Reg.RST_STATUS_LOW 1)).samples = false ∧
    (let r : Held := ⟨[1], false, false, false, false⟩; ((on up (fun b => b.setPort 1 { b.port 1 with held := some r })).port 1).held = some r) ∧
    (let s := fun t => on (lasting t) (fun b => b.withEv { b.ev with pulse := Bank.set (fun _ => none) b.ev.pulse 1 (some 0) });
      Bank.get (fun _ => none) (s 0).ev.pulse 1 = some 0 ∧ 0 + 200 ≤ (s 200).now ∧ (s 199).now < 0 + 200 ∧
        Bank.get (fun _ => none) up.ev.pulse 1 = none) := by
  decide +kernel

/-- A packet with tag 5: its opcode, and its words after the header. -/
def pkt (op : Nat) (ws : List Word) : Packet := Packet.post (BitVec.ofNat 32 (2 ^ 24 * op + 5 * 2 ^ 16 + 256 * (ws.length + 1)) :: ws) 0 false

/-- A packet alone in the lane of firmware, or of hardware, of a host, and what holds once it has started. -/
structure Case where
  fw : Bool
  h : Nat
  op : Nat
  ws : List Word
  s : State
  f : Block → Packet → Bool

def Case.state (c : Case) : State := on c.s (fun b => b.setHost c.h (if c.fw then { b.host c.h with fw := [pkt c.op c.ws] }
  else { b.host c.h with hw := [pkt c.op c.ws] }))

def Case.ok (c : Case) : Bool :=
  c.state.hoardUp && (match if c.fw then c.state.startFw c.h c.op else c.state.startHw c.h c.op with
    | some (p, b) => decide (b.stateBad c.h p = none) && c.f b p
    | none => false)

/-- A case that is in order meets Starts, or Stored and Taken, and what it asks besides. -/
theorem Case.meets {c : Case} (h : c.ok = true) :
    ∃ s p b, (if c.fw then Stored s c.h c.op p b ∧ Taken s c.h c.op p b else Starts s c.h c.op p b) ∧ c.f b p = true := by
  unfold Case.ok at h
  simp only [Bool.and_eq_true] at h
  obtain ⟨hu, h⟩ := h
  split at h
  · rename_i p b e
    simp only [Bool.and_eq_true, decide_eq_true_eq] at h
    refine ⟨c.state, p, b, ?_, h.2⟩
    split at e <;> rename_i hf <;> simp only [hf, if_true, Stored, Taken, Starts]
    · exact ⟨⟨hu, e, h.1⟩, e, h.1⟩
    · exact ⟨e, h.1⟩
  · cases h

def hw (op : Nat) (ws : List Word) (f : Block → Packet → Bool := fun _ _ => true) (s : State := up) : Case := ⟨false, 0, op, ws, s, f⟩
def fw (op : Nat) (ws : List Word) (f : Block → Packet → Bool := fun _ _ => true) (s : State := up) : Case := ⟨true, 0, op, ws, s, f⟩

/-- `up` with spindle 1 running, spindles 2 and 3 in forerunner mode, 3 loaded, FX1 running, FX2 and FX3 in forerunner mode, FX3 loaded. -/
def placed : State := on up (fun b =>
  let b := (((b.put (Reg.SP_STAT_STATE 1) 1).put (Reg.SP_CFG_FRM 2) 1).put (Reg.SP_CFG_FRM 3) 1).put (Reg.FX_STATUS_STATE 1) 1
  let b := (b.setSp 3 { b.sp 3 with frmLoaded := true }).put (Reg.FX_CTL_FRM 2) 1
  (b.put (Reg.FX_CTL_FRM 3) 1).setEngine 3 { b.engine 3 with frmLoaded := true })

/-- `placed` with a MIGRATE of tag 5 pending, or with one that runs and holds no place. -/
def moving (p : Bool) : State := on placed (fun b =>
  (b.setHost 0 { b.host 0 with running := [pkt 0x90 [0x01, 0, 0]] }).withFox { b.fox with mig := if p then some ⟨1, 0, 0, 0, 0, 5⟩ else none })

def generalCases : List Case :=
  [hw 0x00 [], hw 0x01 [1, 0], hw 0x02 [3], hw 0x03 [], hw 0xF0 [1, 2], hw 0xF1 [1035], hw 0x10 [0xFFFFFFFF, 0x1FFFF],
   hw 0x11 [0x3F3F] (fun b p => !b.flag (Reg.FIFO_CFG_EN (p.f 1 5 0))),
   hw 0x11 [0x3F3F] (fun b p => b.flag (Reg.FIFO_CFG_EN (p.f 1 5 0))) (on up (·.put (Reg.FIFO_CFG_EN 63) 1)),
   hw 0x70 [1, 0, 0, 0, 0, 0, 0, 0, 0x80000000],
   hw 0x90 [0x00000200, 0, 0] (fun b p => p.f 1 0 0 == 0 && b.spMigBusy (p.f 1 13 8) (p.f 1 21 16)) placed,
   hw 0x90 [0x00000100, 0, 0] (fun b p => p.f 1 0 0 == 0 && !b.spMigBusy (p.f 1 13 8) (p.f 1 21 16)) placed,
   hw 0x90 [0x00020101, 0, 0] (fun b p => p.f 1 0 0 == 1 && b.fxMigBusy (p.f 1 13 8) (p.f 1 21 16)) placed,
   hw 0x90 [0x00000101, 0, 0] (fun b p => p.f 1 0 0 == 1 && !b.fxMigBusy (p.f 1 13 8) (p.f 1 21 16)) placed,
   hw 0x91 [5] (fun b p => (b.cancelMigOf 0 (p.f 1 7 0)).isSome) (moving true),
   hw 0x91 [5] (fun b p => (b.cancelMigOf 0 (p.f 1 7 0)).isNone) (moving false),
   hw 0x92 [0x02F, 0, 0, 0, 0] (fun b _ => !b.seqIgnored 47 0) placed,
   hw 0x92 [0x002, 0, 0, 0, 0] (fun b _ => b.seqIgnored 2 0) placed,
   hw 0x93 [1, 0] (fun b _ => !b.fxStill 1) placed, hw 0x93 [0x1F, 0] (fun b _ => b.fxStill 15), hw 0x93 [0x0F, 0] (fun b _ => b.fxStill 15),
   hw 0x36 [0x10000 + 0xFFFF] (fun _ p => p.f 1 20 19 == 0),
   hw 0xA0 [0x15E] (fun b p => b.spState (p.f 1 6 1) == 0 && p.f 1 8 8 == 1),
   hw 0xA0 [0x004] (fun b p => b.spState (p.f 1 6 1) == 0 && b.flag (Reg.SP_CFG_FRM (p.f 1 6 1))) placed,
   hw 0xA0 [0x11F] (fun b p => b.fxStill (p.f 1 6 1)), hw 0xA0 [0x005] (fun b p => b.fxStill (p.f 1 6 1) && b.frm (p.f 1 6 1)) placed,
   hw 0xA0 [0x102] (fun b p => b.spState (p.f 1 6 1) != 0) placed, hw 0xA0 [0x103] (fun b p => !b.fxStill (p.f 1 6 1)) placed,
   hw 0xA1 [0, 0] (fun b _ => !b.frm 0) placed, hw 0xA1 [3, 0] (fun b _ => b.frm 3 && (b.engine 3).frmLoaded) placed,
   hw 0xA1 [2, 0, 7] (fun b _ => b.frm 2 && !(b.engine 2).frmLoaded) placed, hw 0xA1 [0x102, 0, 7] (fun b _ => b.frm 2 && !(b.engine 2).frmLoaded) placed,
   hw 0xA2 [0, 0, 0, 0, 0] (fun b _ => !b.flag (Reg.SP_CFG_FRM 0)) placed, hw 0xA2 [3, 0, 0, 0, 0] (fun b _ => (b.sp 3).frmLoaded) placed,
   hw 0xA2 [2, 0, 0, 0, 0] (fun b _ => b.flag (Reg.SP_CFG_FRM 2) && !(b.sp 2).frmLoaded) placed,
   hw 0xA2 [0x102, 0, 0, 0, 0] (fun b _ => b.flag (Reg.SP_CFG_FRM 2) && !(b.sp 2).frmLoaded) placed,
   hw 0xA3 [0] (fun b _ => !b.unitFrm 0 0) placed, hw 0xA3 [6] (fun b _ => b.unitFrm 0 3 && b.unitLoaded 0 3) placed,
   hw 0xA3 [5, 0x100000, 0x10000, 0] (fun b _ => b.unitFrm 1 2 && !b.unitLoaded 1 2) placed]

theorem meets_GeneralPacketsFollow : ∀ c ∈ generalCases, c.ok = true := List.all_eq_true.mp (by decide +kernel)

/-- `up` with steps 30 and 31: 31 OPEN under requester 3, 30 sealing. -/
def stepped : State := on up (fun b =>
  ((b.put (Reg.STEP_STAT_STATE 31) 1).put (Reg.STEP_CTL_OWNER 31) 3).setStep 30 { b.step' 30 with sealing := some .none })

/-- Step 31's disarm is due, so that an open waits. -/
def disarming : State := on up (fun b => b.setStep 31 { b.step' 31 with disarm := [0] })

def code (r : OpenRes × Block) (n : Nat) : Bool := match r.1 with
  | .code c => c == n
  | .waits => false

def nodeCases : List Case :=
  [hw 0x20 [0, 0x10001, 5], hw 0x21 [0, 0x10001, 5], hw 0x22 [0, 0x10001, 1], hw 0x22 [0, 0x10001, 0], hw 0x23 [0x1000000], hw 0x23 [0],
   hw 0x25 [0x100003],
   hw 0x24 [31, 0, 0, 0] (fun b p => code (b.openStep 31 3 0 0 (some (p.word 3 ++ p.word 2)) (.packet 0 5 0)) 0),
   hw 0x24 [31, 0, 0, 0] (fun b p => code (b.openStep 31 3 0 0 (some (p.word 3 ++ p.word 2)) (.packet 0 5 0)) 1) stepped,
   hw 0x24 [31, 0, 0, 0] (fun b p => (b.openStep 31 3 0 0 (some (p.word 3 ++ p.word 2)) (.packet 0 5 0)).1 == .waits) disarming,
   hw 0x24 [0x100 + 31, 0] (fun b _ => !b.stepMine 31 3), hw 0x24 [0x100 + 31] (fun b _ => b.stepMine 31 3) stepped,
   hw 0x24 [0x100 + 31, 0] (fun b _ => b.stepMine 31 3) stepped,
   hw 0x24 [0x200 + 30] (fun b _ => (b.step' 30).sealing.isSome) stepped, hw 0x24 [0x200 + 31] (fun b _ => (b.step' 31).sealing == none) stepped,
   hw 0x24 [0x300 + 31] (fun b _ => b.stepState 31 == 1 && b.get (Reg.STEP_CTL_OWNER 31) == 3) stepped,
   hw 0x24 [0x300 + 31] (fun b _ => b.stepState 31 == 0), hw 0x24 [0x400 + 31],
   hw 0x24 [0x500 + 31, 0, 0, 0] (fun b p => code (b.openStep 31 3 0 0 (some (p.word 3 ++ p.word 2)) (.packet 0 5 0)) 0),
   hw 0x24 [0x500 + 31, 0, 0, 0] (fun b p => code (b.openStep 31 3 0 0 (some (p.word 3 ++ p.word 2)) (.packet 0 5 0)) 1) stepped,
   hw 0x24 [0x500 + 31, 0, 0, 0] (fun b p => (b.openStep 31 3 0 0 (some (p.word 3 ++ p.word 2)) (.packet 0 5 0)).1 == .waits) disarming]

theorem meets_NodeAndStepPacketsFollow : ∀ c ∈ nodeCases, c.ok = true := List.all_eq_true.mp (by decide +kernel)

/-- An open of step 31 by `o` that waits, its disarm done, with packet `p` running. -/
def opening (p : Packet) (o : TxnOwner) : State := on up (fun b =>
  (b.setHost 0 { b.host 0 with running := [p] }).setStep 31 { b.step' 31 with waiting := some ⟨3, 0, o⟩ })

theorem meets_NodeAndStepPacketsFollow_opens :
    (up.step' 31).waiting = none ∧ (disarming.step' 31).disarm ≠ [] ∧
    (let w : OpenReq := ⟨3, 0, .none⟩; ((opening (pkt 0x24 [31, 0, 0, 0]) .none).step' 31).waiting = some w ∧
      ((opening (pkt 0x24 [31, 0, 0, 0]) .none).step' 31).disarm = []) ∧
    (let w : OpenReq := ⟨3, 0, .packet 0 5 0⟩; let f := fun x => opening (pkt 0x24 [x, 0, 0, 0]) (.packet 0 5 0);
      ((f 31).step' 31).waiting = some w ∧ ((f 31).step' 31).disarm = [] ∧
        ((((f 31).openNow 31 3 0).host 0).runningTag 4) = none ∧
        (((f 31).openNow 31 3 0).host 0).runningTag 5 = some (pkt 0x24 [31, 0, 0, 0]) ∧ (pkt 0x24 [31, 0, 0, 0]).f 1 10 8 ≠ 5 ∧
        (((f (0x500 + 31)).openNow 31 3 0).host 0).runningTag 5 = some (pkt 0x24 [0x500 + 31, 0, 0, 0]) ∧
        (pkt 0x24 [0x500 + 31, 0, 0, 0]).f 1 10 8 = 5) := by decide +kernel

/-- Host 1 has posted `p` alone. -/
def posted (p : Packet) : State := on up (fun b => b.setHost 1 { b.host 1 with posted := [p] })

/-- What the judgement of `p` is, of the state in which it is no longer posted. -/
def judged (p : Packet) : Option (Nat × Nat) :=
  let s := posted p
  (s.setHost 1 { s.host 1 with posted := [] }).judgement 1 { p with ackAt := s.now }

theorem meets_PacketsFollow :
    ((up.host 1).posted = [] ∧ State.reset.interpUp = false ∧ (posted (pkt 0 [])).interpUp = true ∧ ((posted (pkt 0 [])).host 1).posted = [pkt 0 []]) ∧
    ({ pkt 0 [] with busy := true }).busy = true ∧ (pkt 0 []).busy = false ∧
    (judged (pkt 0xFF []) = some (0x10, 0) ∧ judged (pkt 0x00 []) = none ∧ judged (pkt 0x32 [0]) = none ∧ judged (pkt 0x62 []) = none ∧
      judged (pkt 0x90 [0x100, 0, 0]) = none) ∧
    (longOpcode 0x00 = false ∧ longOpcode 0x32 = false ∧ longOpcode 0x62 = true ∧ longOpcode 0x90 = true ∧ hwOpcode 0x00 = true ∧
      hwOpcode 0x32 = false ∧ hwOpcode 0x62 = false ∧ hwOpcode 0x90 = true) ∧
    (let s := on up (fun b => (b.setHost 1 { b.host 1 with fw := [pkt 0x32 [0]] }).withLocalCount 100000000);
      (s.host 1).fw = [pkt 0x32 [0]] ∧ s.interpUp = true ∧ (pkt 0x32 [0]).ackAt + s.fwWait ≤ s.now ∧ up.now < (pkt 0x32 [0]).ackAt + up.fwWait) ∧
    (let p := { pkt 0x00 [] with words := [0x00050101] };
      let s := on up (fun b => b.setHost 1 { b.host 1 with hw := [p], running := [{ pkt 0x10 [] with order := 1 }] });
      (s.host 1).hw = [p] ∧ p.opcode = 0 ∧ s.interpUp = true ∧ p.seq = true ∧ ∀ q ∈ (s.host 1).open, p.order ≤ q.order) ∧
    (let s := (fw 0x32 [0]).state; let w := on s (fun b => (b.withCmd { b.cmd with lastFw := 0 }).setHost 1 (b.host 0));
      (s.host 0).fw = [pkt 0x32 [0]] ∧ s.fwUp = true ∧ s.fwBusy = false ∧ s.cmd.lastFw ≠ 0 ∧ s.fwWaits (1 - 0) = false ∧
        w.cmd.lastFw = 0 ∧ w.fwWaits (1 - 0) = true ∧ State.reset.fwUp = false ∧
        (on s (fun b => b.setHost 1 { b.host 1 with running := [pkt 0x32 [0]] })).fwBusy = true) ∧
    (let s := on up (fun b => b.setHost 1 { b.host 1 with running := [pkt 0 []] }); (s.host 1).runningTag (pkt 0 []).tag = some (pkt 0 []) ∧
      (pkt 0 []).drop = false) ∧
    (let p := { pkt 0 [] with drop := true };
      let s := on up (fun b => b.setHost 1 { b.host 1 with running := [p] }); (s.host 1).runningTag p.tag = some p ∧ p.drop = true) := by
  decide +kernel

/-- Every step is OPEN. -/
def allOpen (b : Block) : Block := (List.range 32).foldl (fun b i => b.put (Reg.STEP_STAT_STATE i) 1) b

/-- `up` with an update of host `h`. -/
def updates (h : Nat) (checked : Bool) : State := on up (fun b => b.setUpdate (some ⟨h, false, 2 * mib, 4096, checked⟩))

def ready7 (b : Block) (_ : Packet) : Bool := !b.deferring && !b.hoard.readOnly.elem 7 && b.itemsLeft 1

def storeCases : List Case :=
  [fw 0x04 [0x7FF8] (fun b _ => !b.deferring && !b.hoard.readOnly.elem 7 && b.itemsLeft 12),
   fw 0x04 [0x7FF8] (fun b _ => !b.deferring && !b.hoard.readOnly.elem 7 && !b.itemsLeft 12) (hoard (fun h => { h with items := List.replicate 4085 0 })),
   fw 0x05 [0xFFFF] (fun b p => b.item (p.f 1 15 0) == none),
   fw 0x06 [0xFFFF, 0] ready7, fw 0x71 [0, 0, 0, 0, 0, 0, 0, 0] ready7, fw 0x31 [1023, 0, 0, 0] ready7, fw 0x35 [0, 0] ready7,
   fw 0x34 [0x3FFF, 0, 0, 0, 0, 0, 0, 0, 0] (fun b _ => !b.deferring && b.itemsLeft 1 && !b.hoard.readOnly.elem 10),
   fw 0x04 [8] (fun b _ => b.deferring) defers, fw 0x06 [1, 0] (fun b _ => b.deferring) defers,
   fw 0x31 [1, 0, 0, 0] (fun b _ => b.deferring) defers, fw 0x34 [1, 0, 0, 0, 0, 0, 0, 0, 0] (fun b _ => b.deferring) defers,
   fw 0x30 [0] (fun b _ => !(b.domRec 0).hold && (b.domRec 0).hostEn), fw 0x32 [1023], fw 0x33 [1023],
   fw 0x42 [] (fun b _ => b.deferring) defers,
   fw 0x42 [] (fun b _ => !(b.hoard.commit.isSome || b.hoard.want.isSome || b.deferring) && !b.commitMinOver && b.hoard.dirty == [0])
     (hoard (fun h => { h with begunAt := some 0, dirty := [0] })),
   fw 0x42 [] (fun b _ => !(b.hoard.commit.isSome || b.hoard.want.isSome || b.deferring) && b.commitMinOver && b.hoard.dirty == [0])
     (hoard (fun h => { h with dirty := [0] })),
   fw 0x42 [] (fun b _ => !(b.hoard.commit.isSome || b.hoard.want.isSome || b.deferring) && b.jseq == 0 && b.hoard.dirty == []),
   fw 0x43 [0, 0x10001] (fun b _ => !b.deferring && !b.imageRestoring), fw 0x44 [0, 251], fw 0x50 [0xF001FFFF], fw 0x51 [0],
   fw 0x51 [1] (fun b _ => !b.deferring && b.clearedLately) (on up (fun b => b.withEv { b.ev with clearedAt := some 0 })),
   fw 0x51 [1] (fun b p => ready7 b p && !b.clearedLately),
   fw 0x52 [0x1FFFFF], fw 0x53 [], fw 0x80 [0x20000, 4, 9],
   fw 0x60 [0, 0x200000] (fun b _ => b.update.any (·.host != 0)) (updates 1 false), fw 0x60 [0, 0x200000] (fun b _ => b.update.isNone),
   fw 0x60 [0, 288] (fun b _ => b.update.any (·.host == 0)) (updates 0 false),
   fw 0x61 [0, 0] (fun b _ => b.ownUpdate 0 == none), fw 0x61 [0, 0] (fun b _ => b.ownUpdate 0 == none) (updates 1 false),
   fw 0x61 [4092, 0] (fun b p => b.ownUpdate 0 == some ⟨0, false, 2 * mib, 4096, false⟩ && decide ((p.word 1).toNat + 4 * (p.words.length - 2) ≤ 4096) &&
     !b.deferring && !b.hoard.readOnly.elem (hoardRegion (2 * mib))) (updates 0 false),
   fw 0x61 [4096, 0] (fun b p => b.ownUpdate 0 == some ⟨0, false, 2 * mib, 4096, false⟩ && decide (4096 < (p.word 1).toNat + 4 * (p.words.length - 2)))
     (updates 0 false),
   fw 0x62 [] (fun b _ => b.ownUpdate 0 == none), fw 0x62 [] (fun b _ => (b.ownUpdate 0).isSome) (updates 0 false),
   fw 0x63 [] (fun b _ => b.update == none), fw 0x63 [] (fun b p => b.update.any (·.checked) && ready7 b p) (updates 0 true)]

theorem meets_StorePacketsFollow : (∀ c ∈ storeCases, c.ok = true) ∧ State.reset.hoardUp = false :=
  ⟨List.all_eq_true.mp (by decide +kernel), by decide⟩

/-- Items are read from the Hoard alone. -/
theorem hByte_congr {b c : Block} (h : b.hoard = c.hoard) : b.hByte = c.hByte := by
  funext o; simp only [Block.hByte, Block.hPhys, Block.hRow, h]
theorem hBytes_congr {b c : Block} (h : b.hoard = c.hoard) : b.hBytes = c.hBytes := by
  funext o n; simp only [Block.hBytes, hByte_congr h]
theorem hBad_congr {b c : Block} (h : b.hoard = c.hoard) : b.hBad = c.hBad := by
  funext o n; simp only [Block.hBad, Block.hUe, Block.hPhys, Block.hRow, h]
theorem itemAt_congr {b c : Block} (h : b.hoard = c.hoard) : b.itemAt = c.itemAt := by
  funext k w; unfold Block.itemAt Block.hNat; rw [hBytes_congr h, hBad_congr h]
theorem scan_congr {b c : Block} (h : b.hoard = c.hoard) (k fuel w last : Nat) (acc : List ItemRec) :
    b.scanItems k fuel w last acc = c.scanItems k fuel w last acc := by
  induction fuel generalizing w last acc with
  | zero => rfl
  | succ n ih => simp only [Block.scanItems, itemAt_congr h, ih]
theorem half_congr {b c : Block} (h : b.hoard = c.hoard) : b.liveHalf = c.liveHalf := by
  unfold Block.liveHalf Block.halfOk Block.halfSeq Block.hNat; rw [hBytes_congr h, hBad_congr h]
theorem live_congr {b c : Block} (h : b.hoard = c.hoard) : b.liveItems = c.liveItems := by
  unfold Block.liveItems
  rw [half_congr h]
  split
  · exact scan_congr h ..
  · rfl
theorem item_congr {b c : Block} (h : b.hoard = c.hoard) : b.item = c.item := by
  funext k
  unfold Block.item
  rw [live_congr h, hBytes_congr h]

/-- An item that is stored. -/
theorem meets_StorePacketsFollow_item : ∃ g v, (hostRun 0).item (0x200 + 1023) = some (g, v) := ⟨_, _, hostRun_engine 0⟩

/-- What decides whether a change stays to be committed, in the cases of COMMIT above. -/
theorem meets_StorePacketsFollow_due (b : Block) :
    (b.hoard.dirty = [0] → b.commitDue = true) ∧ (b.jseq = 0 → b.hoard.dirty = [] → b.commitDue = false) :=
  ⟨fun h => by simp [Block.commitDue, h], fun h h' => by simp [Block.commitDue, h, h']⟩

/-- `hostRun` with a CAL_RUN of its domain at the front of host 0's firmware lane. -/
def hostFw (i : Fin 3) : State := (fw 0x30 [1023] (fun _ _ => true) (hostRun i)).state

/-- CAL_RUN of a domain whose record lets the host in, holds it, or lets no host in. -/
theorem meets_StorePacketsFollow_record (i : Fin 3) : ∃ (s : State) (p : Packet) (b : Block), s.hoardUp = true ∧ s.startFw 0 0x30 = some (p, b) ∧ p.f 1 9 0 = 1023 ∧
    b.domRec 1023 = recOf i := by
  have h : (hostFw i).hoardUp = true ∧ ((hostFw i).startFw 0 0x30).any (fun x => x.1.f 1 9 0 == 1023 && decide (x.2.hoard = (hostRun i).hoard)) := by
    revert i; decide +kernel
  obtain ⟨hu, hx⟩ := h
  generalize hs : (hostFw i).startFw 0 0x30 = o at hx
  obtain _ | ⟨p, b⟩ := o
  · simp at hx
  simp only [Option.any_some, Bool.and_eq_true, beq_iff_eq, decide_eq_true_eq] at hx
  refine ⟨_, p, b, hu, hs, hx.1, ?_⟩
  have hr : ∀ j : Fin 3, DomRec.ofBytes ((recOf j).bytes 1023) = recOf j := by decide
  rw [Block.domRec, item_congr hx.2, hostRun_engine i]
  exact hr i
theorem meets_StorePacketsFollow_policy : (recOf 0).hold = false ∧ (recOf 0).hostEn = true ∧ (recOf 1).hold = true ∧
    (recOf 2).hold = false ∧ (recOf 2).hostEn = false := by decide

/-- The header of an image with no fields but its MAGIC. -/
def imageHead : List Byte := leBytes 4 0x4E4C4E49 ++ List.replicate 248 0#8

theorem crc_zeros {c d : Word} (n : Nat) (h : (List.replicate 31 (0#8)).foldl crcByte c = d) :
    (List.replicate (n + 31) (0#8)).foldl crcByte c = (List.replicate n (0#8)).foldl crcByte d := by
  rw [Nat.add_comm, ← List.replicate_append_replicate, List.foldl_append, h]

/-- Its CRC, 31 bytes at a time. -/
theorem imageHead_crc : crc32 imageHead = 0xC9A82D6C := by
  have h0 : (leBytes 4 0x4E4C4E49).foldl crcByte 0xFFFFFFFF#32 = 0x8F0BFB00 := by decide +kernel
  have h1 : (List.replicate 248 (0#8)).foldl crcByte 0x8F0BFB00 = 0x3657D293 := (crc_zeros (c := 0x8F0BFB00) (d := 0x1C2D5E31) 217 (by decide +kernel)).trans
    ((crc_zeros (d := 0x627E488A) 186 (by decide +kernel)).trans ((crc_zeros (d := 0x15F8AA9E) 155 (by decide +kernel)).trans
    ((crc_zeros (d := 0x48D74B51) 124 (by decide +kernel)).trans ((crc_zeros (d := 0x043AF83A) 93 (by decide +kernel)).trans
    ((crc_zeros (d := 0x3D2E5457) 62 (by decide +kernel)).trans ((crc_zeros (d := 0x9E0FF30F) 31 (by decide +kernel)).trans
    (crc_zeros (d := 0x3657D293) 0 (by decide +kernel))))))))
  rw [crc32, imageHead, List.foldl_append, h0, h1]
  decide

/-- The Hoard with a valid image A, and none B. -/
def imageA (h : HoardSt) : HoardSt :=
  { h with bytes := ((imageHead ++ leBytes 4 0xC9A82D6C).zipIdx (12 * mib)).map (fun p => (p.2, p.1)) ++ [0, 1, 2, 3].map (fun i => (20 * mib + i, 0)) }

theorem image_valid {b : Block} (h : b.hoard = (hoard imageA).hoard) : b.imageValid 1 = true ∧ b.imageValid 2 = false ∧ b.currentImage = 1 := by
  have hb : ∀ o, b.hByte o = (hoard imageA).hByte o := fun o => by simp only [Block.hByte, Block.hPhys, Block.hRow, h]
  have hn : ∀ o n, b.hBytes o n = (hoard imageA).hBytes o n := fun o n => by simp only [Block.hBytes, hb]
  have hu : b.hBad (imageBase 1) 256 = false := by
    have : (hoard imageA).hoard.ue = [] := by decide +kernel
    simp [Block.hBad, Block.hUe, h, this, Bank.get]
  have h1 : (hoard imageA).hBytes (imageBase 1) 252 = imageHead := by decide +kernel
  have h2 : leNat ((hoard imageA).hBytes (imageBase 1) 4) = 0x4E4C4E49 ∧ leNat ((hoard imageA).hBytes (imageBase 1 + 252) 4) = 0xC9A82D6C ∧
    leNat ((hoard imageA).hBytes (imageBase 2) 4) = 0 := by decide +kernel
  have v1 : b.imageValid 1 = true := by simp [Block.imageValid, Block.hNat, hn, h1, h2, hu, imageHead_crc]
  have v2 : b.imageValid 2 = false := by simp [Block.imageValid, Block.hNat, hn, h2]
  exact ⟨v1, v2, by simp [Block.currentImage, v1, v2]⟩

/-- A restore packet that starts where image A is good, and what holds then. -/
def Case.restores (c : Case) : Bool :=
  c.state.hoardUp && c.fw && (match c.state.startFw c.h c.op with
    | some (p, b) => decide (b.hoard = (hoard imageA).hoard) && decide (p = pkt c.op c.ws) && c.f b p
    | none => false)

theorem Case.meets_restore {c : Case} (h : c.restores = true) (hp : c.op = 0x40 ∧ c.ws = [1] ∨ c.op = 0x41 ∧ c.ws = [0x10000]) :
    ∃ s p b, Stored s c.h c.op p b ∧ b.restoreSource p = some 1 ∧ c.f b p = true := by
  unfold Case.restores at h
  simp only [Bool.and_eq_true] at h
  obtain ⟨⟨hu, -⟩, h⟩ := h
  split at h
  · rename_i p b e
    simp only [Bool.and_eq_true, decide_eq_true_eq] at h
    obtain ⟨⟨hi, rfl⟩, hf⟩ := h
    obtain ⟨v1, -, vc⟩ := image_valid hi
    have hs : b.restoreSource (pkt c.op c.ws) = some 1 ∧ (pkt c.op c.ws).upto = none ∧ ((pkt c.op c.ws).opcode = 0x40 ∨ (pkt c.op c.ws).opcode = 0x41) := by
      obtain ⟨h1, h2⟩ | ⟨h1, h2⟩ := hp <;> rw [h1, h2]
      · have : (pkt 0x40 [1]).opcode = 0x40 ∧ (pkt 0x40 [1]).f 1 1 0 = 1 := by decide
        exact ⟨by simp only [Block.restoreSource, this, vc, v1, if_true], by decide, by decide⟩
      · have : (pkt 0x41 [0x10000]).opcode = 0x41 ∧ (pkt 0x41 [0x10000]).f 1 17 16 = 1 := by decide
        exact ⟨by simp only [Block.restoreSource, this, v1, Nat.reduceEqDiff, reduceIte], by decide, by decide⟩
    refine ⟨c.state, _, b, ⟨hu, e, ?_⟩, hs.1, hf⟩
    obtain ⟨h1, h2, h3 | h3⟩ := hs <;> simp [Block.stateBad, h1, h2, h3]
  · cases h

def restoreCases : List Case :=
  [fw 0x40 [1] (fun b _ => b.restoreBlocked) (on (hoard imageA) (·.put Reg.HD_STATUS_RESTORING 1)),
   fw 0x41 [0x10000] (fun b _ => b.restoreBlocked) (on (hoard imageA) (·.put Reg.HD_STATUS_RESTORING 1)),
   fw 0x40 [1] (fun b _ => !b.restoreBlocked && decide ((b.restoreTbs restoreOrder).length ≤ b.freeSteps.length)) (hoard imageA),
   fw 0x40 [1] (fun b _ => !b.restoreBlocked && decide (b.freeSteps.length < (b.restoreTbs restoreOrder).length)) (on (hoard imageA) allOpen),
   fw 0x41 [0x10000] (fun b _ => !b.restoreBlocked && (b.domain 0).state == 0 && b.freeSteps != []) (hoard imageA)]

theorem meets_StorePacketsFollow_restores : ∀ c ∈ restoreCases, c.restores = true := List.all_eq_true.mp (by decide +kernel)

/-! Ill-formed commands, one for each kind of check, and well-formed neighbours of them. -/

theorem test_wf :
    [Instr.registerWrite 2 2 0, .readLoCapture 0 0x7011, .governorEvaluate 48000001 0, .qwPacket [] true, .fineResult 7 3 [],
     .vadd 0 8 0 0, .amac 0 4 0 0, .vext 0 0 8 0, .waitLocal 0 0 3 0, .waitMains 0 0 0 0, .shiftk 0 0 0 0x60, .shiftk 0 0 0 0x20000,
     .gets 0 0 12].all (fun c => !c.wf) = true ∧
    [Instr.registerWrite 2 4 0, .readLoCapture 0 0x7010, .governorEvaluate 48000000 0, .qwPacket [1] true, .fineResult 7 3 [0],
     .vadd 0 7 0 0, .amac 0 3 0 0, .vext 0 15 7 15, .waitLocal 0 0 14 0, .waitMains 0 0 2 0, .shiftk 0 0 0 0x5F, .gets 0 0 11].all (·.wf) = true := by decide

/-! Words of instructions, from Table 10.14 of the spec and, for the other formats, field by field from Table 10.1. -/

theorem test_words_of_table_10_14 :
    [Instr.highk 4 1 0x900, .ork 4 1 1 4, .addk 4 2 0 64, .addk 4 3 0 0x1000, .vload 4 0 3 0, .vclamp 4 0 1 2, .nodeWrv 4 1 0 2 15,
     .addk 4 5 0 6, .stepArmOpen 4 4 5 0 2, .stepArmArm 4 4 5 1, .stepArmSeal 4 4 5, .qfPut 4 6 7 0, .halt 4].map (fun c => (foxWord c).map (·.2)) =
    [some 0x20400900, some 0x10440004, some 0x08800040, some 0x08C01000, some 0x600C0000, some 0xC0048015, some 0xE04080F2, some 0x09400006,
     some 0xE5140010, some 0xE5144001, some 0xE5140002, some 0xF19C0000, some 0x00000000] := by decide

/-- ADD s1, s2, s3 (R); IFNE s1, s2, −1 (B); CALL s15, −1 (L); AMAC a3, v7, v1 (R); WAIT s4, EVENT 0x81; SAR; STORE32. -/
theorem test_words_by_field :
    (foxWord (.add 0 1 2 3)).map (·.2) = some 0b000001_0001_0010_0011_00000000000000#32 ∧
    (foxWord (.sar 0 1 2 3)).map (·.2) = some 0b000001_0001_0010_0011_00000000000111#32 ∧
    (foxWord (.ifne 0 1 2 (-1))).map (·.2) = some 0b100001_0001_0010_111111111111111111#32 ∧
    (foxWord (.call 0 15 (-1))).map (·.2) = some 0b100110_1111_1111111111111111111111#32 ∧
    (foxWord (.store32 0 1 2 4)).map (·.2) = some 0b010101_0001_0010_000000000000000100#32 ∧
    (foxWord (.amac 0 3 7 1)).map (·.2) = some 0b110001_0011_0111_0001_00000000000000#32 := by decide

/-! Check values and addresses of the spec. -/

/-- The ASCII bytes "123456789" (R325, R394). -/
theorem test_crc_check_values :
    crc32 [0x31, 0x32, 0x33, 0x34, 0x35, 0x36, 0x37, 0x38, 0x39] = 0xCBF43926 ∧ crcOf 8 7 0 0x313233343536373839 71 0 = 0xF4 := by decide +kernel

/-- R192, and the worked examples of chapters 10 and 12. -/
theorem test_node_addresses : nodeAddr 3 17 10816 = 0x346A40 ∧ nodeAddr 2 16 4 = 0x240004 ∧ nodeAddr 8 16 6 = 0x840006 := by decide

/-- The packets of the worked exchange of chapter 16. -/
theorem test_packet_fields :
    let p := Packet.post [0x20210500, 0x00440000, 0x00040040, 0x07F00800, 0x08050812] 0 false
    let q := Packet.post [0x24220300, 0x00001D09, 0x00440000] 0 false
    (p.opcode = 0x20 ∧ p.tag = 0x21 ∧ p.len = 5 ∧ p.lenOk = true ∧ p.nodes 1 = [0x440000, 0x440040, 0x440080, 0x4400C0] ∧
      [0, 1, 2, 3].map (p.code 3) = [0x800, 0x7F0, 0x812, 0x805]) ∧
    (q.opcode = 0x24 ∧ q.lenOk = true ∧ q.f 1 4 0 = 9 ∧ q.f 1 10 8 = 5 ∧ q.f 1 13 11 = 3 ∧ q.stepBase = 2) := by decide

/-- TAG_BUSY, as it is answered there; and a final reply with no data but w1 of DETAIL 0xFF_FFFF. -/
theorem test_replies : replyWords 0x20210500 0x13 false true false 0 [] = [0x20210213, 0x40000000] ∧
    replyWords 0x20210500 0 false false false 0xFFFFFF [0] = [0x20210300, 0x00FFFFFF, 0] := by decide

/-- What a command leaves, where it answers a next state. -/
def after {α : Type} (o : Host.Outcome State Fault Refusal) (f : State → α) : Option α :=
  match o with
  | .next t => some (f t)
  | _ => none

/-! Instructions (Tables 10.3 to 10.6). -/

theorem test_highk : after (exec (.highk 15 1 0x900) (fx (.highk 15 1 0x900) 0 0)) (fun t => (t.sx 15 1, t.pc 15)) = some (0x00240000, 4) := by
  decide +kernel
theorem test_div : after (exec (.div 15 3 1 2) (fx (.div 15 3 1 2) 0x80000000 0xFFFFFFFF)) (·.sx 15 3) = some 0x80000000 ∧
    after (exec (.div 15 3 1 2) (fx (.div 15 3 1 2) 7 0)) (·.sx 15 3) = some 0 ∧
    after (exec (.div 15 3 1 2) (fx (.div 15 3 1 2) 0xFFFFFFF9 2)) (·.sx 15 3) = some 0xFFFFFFFD := by decide +kernel
theorem test_mulhs : after (exec (.mulhs 15 3 1 2) (fx (.mulhs 15 3 1 2) 0xFFFFFFFF 2)) (·.sx 15 3) = some 0xFFFFFFFF := by decide +kernel
theorem test_sar : after (exec (.sar 15 1 1 2) (fx (.sar 15 1 1 2) 0x80000000 33)) (·.sx 15 1) = some 0xC0000000 := by decide +kernel
theorem test_ltu : after (exec (.ltu 15 3 1 2) (fx (.ltu 15 3 1 2) 1 0x80000000)) (·.sx 15 3) = some 1 ∧
    after (exec (.lt 15 3 1 2) (fx (.lt 15 3 1 2) 1 0x80000000)) (·.sx 15 3) = some 0 := by decide +kernel
/-- s0 discards what is written (R241). -/
theorem test_s0 : after (exec (.add 15 0 1 2) (fx (.add 15 0 1 2) 1 2)) (·.sx 15 0) = some 0 := by decide +kernel
/-- Lanes saturate, and VSEL reads its destination. -/
theorem test_vadds : after (exec (.vadds 15 1 2 3) (fx (.vadds 15 1 2 3) 0 0 (fun b => (b.setVx 15 2 0x7FFF).setVx 15 3 1)))
    (·.vx 15 1) = some 0x7FFF := by decide +kernel

/-! Steps, frames, packets and the registers. -/

/-- Table 8.12: marker 4 carries FV = 1, FIRE_ID = 6 and FIRE_AT = 892. -/
theorem test_marker_of_table_8_12 :
    let s := on up (fun b => (((b.put (Reg.TRK_FLAT_LAT 4) 144).put (Reg.TRK_STATUS_UP 4) 1).put (Reg.STEP_STAT_STATE 6) 2).setStep 6
      { b.step' 6 with hubs := [4 * 64 + 16], fire := some 3009228 })
    let w := ((s.formMarker 3008192 4).trunk 4).marker
    bitsOf w 31 24 = 0xB8 ∧ bitsOf w 20 20 = 1 ∧ bitsOf w 19 15 = 6 ∧ bitsOf w 14 3 = 892 := by decide +kernel

/-- Table 15.7, frame 5: aborted with reason ADDRESS. -/
theorem test_frame_address : after (exec (.memWr 1 0x800101 [0] good) up) (fun t => ((t.port 1).abt, t.get (Reg.SKP_ABORT_REASON 1),
    t.get (Reg.SKP_ABORT_OPCODE 1))) = some (true, 4, 0x21) := by decide +kernel
/-- A PING answers the local count. -/
theorem test_ping : after (exec (.ping 0) (on (hw 0x00 []).state (·.withLocalCount 0x123456789A))) (fun t => (t.host 0).ready.map (·.words)) =
    some [[0x00050400, 0, 0x3456789A, 0x12]] := by decide +kernel
/-- A loaded oscillator and a new frequency (the worked example of chapter 5). -/
theorem test_nco : after (exec (.ncoFreqWrite 9 0x01000000) up) (·.reg (Reg.SWIFT_NCO_FREQ 9)) = some 0x01000000 := by decide +kernel
/-- The _HI half is captured when the _LO register is read (R52). -/
theorem test_read_lo : after (exec (.readLoCapture 1 0x7010) (on up (·.withLocalCount 0x500000000))) (fun t => t.captured 1 0x7010) = some (some 5) := by
  decide +kernel
theorem test_watchdog_key : after (exec (.wdtKick 2 0xC35A) (on up (·.withLocalCount 7))) (·.den.wdtAt) = some 7 ∧
    after (exec (.wdtKick 2 0xC35B) (on up (·.withLocalCount 7))) (·.den.wdtAt) = some up.den.wdtAt := by decide +kernel
/-- The check value that R394 gives over "123456789". -/
theorem test_frame_crc : frameCrc [(0x31, 8), (0x32, 8), (0x33, 8), (0x34, 8), (0x35, 8), (0x36, 8), (0x37, 8), (0x38, 8), (0x39, 8)] = 0xF4 := by
  decide +kernel

/-- A tick adds 1 ns, or 32,000 while the count is coarse. -/
theorem test_tick : after (step up) (·.localCount) = some (up.localCount + 1) ∧
    after (step State.reset) (·.localCount) = some (State.reset.localCount + 32000) := by decide +kernel
/-- The front of the queue runs, and the rest stays. -/
theorem test_queue : after (step { up with pending := [.wdtKick 2 0xC35A, .coldReset] }) (·.pending) = some [.coldReset] := by decide +kernel

end Sys2Proof.Tests
end

section
/-! PROOFS, chapter 0: what cold reset leaves, the power states, and the accesses to registers. -/

namespace Sys2Proof.Machine

/-! Cold reset. -/

/-- No register has been written after cold reset, so each reads its table's value. -/
theorem Block.reset_reg (a : Nat) : Block.reset.reg a = regReset a := rfl

/-- The values that Tables 15.10, 16.18, 18.12, 18.13, 20.5 and 20.6 give. -/
theorem Block.reset_reg_tables :
    Block.reset.reg Reg.TOP_ID = 0x053004AF ∧ Block.reset.reg Reg.TOP_REV = 0x10 ∧
    (∀ p : Fin 2, Block.reset.reg (Reg.SKP_FMT p) = 0x00041810) ∧ (∀ p : Fin 2, Block.reset.reg (Reg.SKP_TMO p) = 10) ∧
    Block.reset.reg Reg.CMD_CFG = 100 ∧ Block.reset.reg Reg.AFE_CTL = 1 ∧ Block.reset.reg Reg.PWR_ON_LO = 1 ∧
    Block.reset.reg Reg.PWR_ON_HI = 0 ∧ Block.reset.reg Reg.RST_CFG = 8 ∧ Block.reset.reg Reg.RST_STATUS = 8 ∧
    Block.reset.reg Reg.TRAIL_TOKENS = 1400 ∧ Block.reset.reg (Reg.EV_EN_T 0) = 0xFFFFFFFF ∧
    Block.reset.reg (Reg.EV_EN_T 32) = 0xFFF := by
  simp only [Block.reset_reg]; decide

theorem Block.reset_spState : ∀ n : Fin 48, Block.reset.spState n = 0 := by decide
theorem Block.reset_fxState : ∀ n : Fin 16, Block.reset.fxState n = 0 := by decide
theorem Block.reset_stepState : ∀ i : Fin 32, Block.reset.stepState i = 0 := by decide
theorem Block.reset_lineState : ∀ w : Fin 4, Block.reset.lineState w = 0 := by decide
theorem Block.reset_mainsState : Block.reset.mainsState = 0 := by decide
theorem Block.reset_coreOn : Block.reset.coreOn = false := by decide

/-- Settles O6: the registers read their tables' values, and each state field of a unit is 0 in those. -/
theorem resetLeaves : Obligations.ResetLeaves := by
  unfold Obligations.ResetLeaves
  obtain ⟨hid, hrev, hfmt, htmo, hcmd, hafe, hlo, hhi, hcfg, hrst, htok, hen, hen'⟩ := Block.reset_reg_tables
  exact ⟨rfl, rfl, rfl, hid, hrev, hfmt, htmo, hcmd, hafe, hlo, hhi, hcfg, hrst, htok, hen, hen', Block.reset_coreOn,
    Block.reset_spState, Block.reset_fxState, Block.reset_stepState, Block.reset_lineState, Block.reset_mainsState⟩

/-! The return of CORE. PowerStatesFollow speaks of every state, also of one whose pending Fox migration names a host that is
no port. After a thermal loss the governor goes to CAP; where it stood in HOLD, the engines that it held run again, a migration
that no longer may wait is cancelled, and its host's packet is answered with status 0x22. The header of that reply goes to the
host's CMD_LAST, and CMD_LAST of a host far out of range is any register: here PWR_STATUS. -/

/-- The number of a host whose CMD_LAST would be PWR_STATUS. -/
def strayHost : Nat := 14070

theorem powerGood_addr_eq_cmdLast : Reg.PWR_STATUS_POWER_GOOD.addr = Reg.CMD_LAST strayHost := rfl

/-- CORE is down after a thermal loss, cool for 1 s, the governor in HOLD and FX0 held; every other domain is powered. A
migration from the idle FX1 to FX2 is pending for the stray host, whose packet of tag 0 runs. -/
def strayMigration : State := { State.reset with
  regs := [(Reg.FX_STATUS 0, 5), (Reg.PWR_ON_LO, 0xFFFFFFFD), (Reg.PWR_ON_HI, 0xFFFFF), (Reg.PWR_LOSS, 1), (Reg.GOV_STATUS, 2)]
  localCount := 1000000000
  power := { PowerSt.reset with coolAt := some 0 }
  fox := { FoxSt.reset with mig := some { src := 1, dst := 2, tb := 0, instant := 0, host := strayHost, tag := 0 } }
  cmd := { CmdSt.reset with hosts := [(strayHost, { HostSt.reset with running := [Packet.post [] 0 false] })] } }

/-- `strayMigration` meets what PowerStatesFollow supposes of a state at CORE_RETURN. -/
theorem strayMigration_may_return :
    strayMigration.coreOn = false ∧ strayMigration.get Reg.PWR_LOSS_CAUSE ≠ 0 ∧ strayMigration.clockBad 1 = false ∧
      strayMigration.power.coolAt = some 0 ∧ 0 + 10 ^ 9 ≤ strayMigration.now := by decide

/-- The header of the reply, as the return of CORE leaves it: 2 words, status 0x22. -/
theorem strayMigration_reply : (doCoreReturn strayMigration.toBlock).reg (Reg.CMD_LAST strayHost) = 0x222 := by decide +kernel

theorem strayMigration_loses_power_good :
    (doCoreReturn strayMigration.toBlock).flag Reg.PWR_STATUS_POWER_GOOD = false := by
  rw [Block.flag, Block.get, powerGood_addr_eq_cmdLast, strayMigration_reply]
  decide

theorem yields_coreReturn {s : State} {P : Block → Prop} (h : Yields .coreReturn s P) : P (doCoreReturn s.toBlock) := by
  obtain ⟨b, hb, hP⟩ := h
  have hs : s.withBlock (doCoreReturn s.toBlock) = s.withBlock b := Host.Outcome.next.inj hb
  rwa [← State.withBlock_toBlock s (doCoreReturn s.toBlock), hs]

/-- Refutes O8: the clause of CORE_RETURN fails for `strayMigration`, where the reply to a packet of a host that is no port goes
to PWR_STATUS. No state that the block reaches names such a host; the statement does not ask for that. -/
theorem not_powerStatesFollow : ¬ Obligations.PowerStatesFollow := by
  unfold Obligations.PowerStatesFollow
  rintro ⟨-, -, -, -, hreturn⟩
  obtain ⟨hcore, hcause, hclock, hcool, hnow⟩ := strayMigration_may_return
  obtain ⟨-, hgood, -⟩ := yields_coreReturn (hreturn strayMigration hcore hcause hclock fun _ => ⟨0, hcool, hnow⟩)
  exact Bool.false_ne_true (strayMigration_loses_power_good.symm.trans hgood)

/-! Access codes (R11). -/

theorem bitOf_eq_testBit (w i : Nat) : bitOf w i = w.testBit i := by
  rw [Nat.testBit_eq_decide_div_mod_eq]; rfl

/-- A bit after a write, by its access code. -/
theorem RegRow.getLsbD_merge (r : RegRow) (old v : Word) (i : Fin 32) :
    (r.merge old v).getLsbD i =
      if bitOf r.rw i then v.getLsbD i else old.getLsbD i && !(bitOf r.w1c i && v.getLsbD i) := by
  simp only [RegRow.merge, BitVec.getLsbD_or, BitVec.getLsbD_and, BitVec.getLsbD_not, BitVec.getLsbD_ofNat, bitOf_eq_testBit,
    i.isLt, decide_true, Bool.true_and]
  cases r.rw.testBit i <;> simp

theorem RegRow.getLsbD_merge_of_not_rw (r : RegRow) {old v : Word} {i : Fin 32} (h : bitOf r.rw i = false) :
    (r.merge old v).getLsbD i = (old.getLsbD i && !(bitOf r.w1c i && v.getLsbD i)) := by
  rw [r.getLsbD_merge, h, if_neg Bool.false_ne_true]

/-! Writes by address (R384, R506–R508). -/

theorem Block.writeReg_of_not_writable (s : Block) (ag : Nat) {a : Nat} (v : Word) (h : s.writable a = false) :
    s.writeReg ag a v = s := by simp [Block.writeReg, h]

theorem Block.writeReg_of_index (s : Block) (ag : Nat) {a : Nat} (v : Word) (hw : s.writable a = true) (hs : a ≠ Reg.SEQ_IDX)
    (hi : a ∈ indexRegs) : s.writeReg ag a v = s.writeFields (ownCopy ag a) v := by simp [Block.writeReg, hw, hs, hi]

theorem Block.writeFields_of_row (s : Block) {a : Nat} (v : Word) {r : RegRow} (ha : a < 0x10000) (hr : regRow a = some r) :
    s.writeFields a v = s.setReg a (r.merge (s.reg a) v) := by
  rw [Block.writeFields, Nat.mod_eq_of_lt ha, hr]

theorem indexRegs_above : ∀ a ∈ indexRegs, 0x1000 ≤ a := by decide

theorem Block.writeReg_of_top (s : Block) (ag : Nat) {a : Nat} (v : Word) (hw : s.writable a = true) (ha : a < 0x1000) :
    s.writeReg ag a v = s.writeFields a v := by
  have hi : a ∉ indexRegs := fun h => by have := indexRegs_above a h; omega
  simp [Block.writeReg, hw, hi, Nat.div_eq_of_lt ha]

/-- Registers of blocks 12–15 go through the system's writes. -/
theorem Block.writeReg_of_system (s : Block) (ag : Nat) {a : Nat} (v : Word) (hw : s.writable a = true) (hi : a ∉ indexRegs)
    (ha : 0xC000 ≤ a) : s.writeReg ag a v = s.writeSystem ag a v := by
  obtain ⟨k, hk⟩ : ∃ k, a / 0x1000 = k + 12 := ⟨a / 0x1000 - 12, by omega⟩
  simp only [Block.writeReg, hw, hk, List.elem_eq_mem, decide_eq_true_eq, hi, and_false, if_false]
  rfl

/-- The registers of which R462 and R474 speak. -/
def fwRegs : List Nat := [Reg.WDT_CFG, Reg.WDT_KICK, Reg.TRAIL_WP, Reg.TRAIL_FFGEN, Reg.RST_CFG]

theorem fwRegs_place : ∀ a ∈ fwRegs, a ∉ indexRegs ∧ 0xC000 ≤ a := by decide

/-- A Skein host's write to them is ignored. -/
theorem Block.writeReg_of_host (s : Block) {ag a : Nat} (v : Word) (hw : s.writable a = true) (hag : ag ≠ 2) (ha : a ∈ fwRegs) :
    s.writeReg ag a v = s := by
  obtain ⟨hi, hb⟩ := fwRegs_place a ha
  rw [s.writeReg_of_system ag v hw hi hb, Block.writeSystem, if_pos]
  exact ⟨hag, .inl (List.elem_eq_true_of_mem ha)⟩

theorem doRegisterWrite_of_aligned (s : Block) (ag : Nat) (a : Fin 65536) (v : Word) (ha : a.val % 4 = 0) :
    doRegisterWrite ag a v s = s.writeReg ag a v := if_pos ⟨ha, a.isLt⟩

theorem doRegisterWrite_ignored (s : Block) (ag : Nat) (a : Fin 65536) (v : Word) (h : s.writeReg ag a v = s) :
    doRegisterWrite ag a v s = s := by rw [doRegisterWrite, h, ite_self]

theorem doRegisterWrite_misaligned (s : Block) (ag a : Nat) (v : Word) (h : a % 4 ≠ 0) : doRegisterWrite ag a v s = s :=
  if_neg fun hc => h hc.1

/-! Reads of register pairs (R52, R509). -/

/-- The registers whose read goes to what an index register names (R384, R508). -/
def portReads : List Nat :=
  [Reg.SEQ_DATA, Reg.FILT_COEF_DATA, Reg.FILT_DC_VAL, Reg.KMAP_DATA, Reg.WH_TDATA, Reg.WH_RDATA, Reg.FX_DBG_DATA, Reg.EV_CNT_DATA]

theorem roPairs_place : ∀ a ∈ roPairs, a ∉ portReads ∧ a + 4 ∉ portReads ∧ a + 4 ∉ roPairs := by decide +kernel

/-- Beside the data ports a read captures, takes a capture, or only reads. -/
theorem Block.readReg_of_plain (s : Block) (ag : Nat) {a : Nat} (h : a ∉ portReads) :
    s.readReg ag a =
      if a ∈ roPairs then
        (s.readWord ag a, s.withHiCap (Bank.set (fun _ => none) s.hiCap (0x10000 * ag + a) (some (s.readWord ag (a + 4)))))
      else if 4 ≤ a ∧ a - 4 ∈ roPairs then ((s.captured ag (a - 4)).getD (s.readWord ag a), s)
      else (s.readWord ag a, s) := by
  simp only [portReads, List.mem_cons, List.not_mem_nil, or_false, not_or] at h
  simp only [Block.readReg, h, if_false, List.elem_eq_mem, decide_eq_true_eq]

theorem Block.readReg_of_lo (s : Block) (ag : Nat) {a : Nat} (h : a ∈ roPairs) :
    (s.readReg ag a).2 = s.withHiCap (Bank.set (fun _ => none) s.hiCap (0x10000 * ag + a) (some (s.readWord ag (a + 4)))) := by
  rw [s.readReg_of_plain ag (roPairs_place a h).1, if_pos h]

theorem Block.readReg_of_hi (s : Block) (ag : Nat) {a : Nat} (h : a ∈ roPairs) :
    (s.readReg ag (a + 4)).1 = (s.captured ag a).getD (s.readWord ag (a + 4)) := by
  obtain ⟨-, hport, hpair⟩ := roPairs_place a h
  rw [s.readReg_of_plain ag hport, if_neg hpair, Nat.add_sub_cancel, if_pos ⟨by omega, h⟩]

theorem Block.readReg_of_captured (s : Block) (ag : Nat) {a : Nat} {w : Word} (h : a ∈ roPairs) (hc : s.captured ag a = some w) :
    (s.readReg ag (a + 4)).1 = w := by rw [s.readReg_of_hi ag h, hc]; rfl

/-- A captured half is its reader's alone. -/
theorem Block.captured_withHiCap_set (s : Block) (ag o : Nat) (a : Nat) (w : Option Word) :
    (s.withHiCap (Bank.set (fun _ => none) s.hiCap (0x10000 * ag + a) w)).captured o a =
      if o = ag then w else s.captured o a := by
  have hk : 0x10000 * o + a = 0x10000 * ag + a ↔ o = ag := by omega
  simp only [Block.captured, Block.withHiCap_hiCap, Bank.get_set, hk]

theorem doReadLoCapture_of_on (s : Block) (ag : Nat) {a : Nat} (h : a ∈ roPairs) (hd : s.domainOn (regDomain a) = true) :
    doReadLoCapture ag a s =
      s.withHiCap (Bank.set (fun _ => none) s.hiCap (0x10000 * ag + a) (some (s.readWord ag (a + 4)))) := by
  rw [doReadLoCapture, if_pos ⟨List.elem_eq_true_of_mem h, hd⟩, s.readReg_of_lo ag h]

theorem does_registerWrite {s : State} {ag : Fin 3} {a : Fin 65536} {v : Word} {b : Block}
    (h : doRegisterWrite ag a v s.toBlock = b) : Does (.registerWrite ag a v) s b := by subst h; rfl

theorem does_readLoCapture {s : State} {ag : Fin 3} {a : Fin 65536} {b : Block}
    (h : doReadLoCapture ag a s.toBlock = b) : Does (.readLoCapture ag a) s b := by subst h; rfl

/-- Settles O46: the merge of a row bit by bit, one rule for each way that a write takes, and the capture of the high half. -/
theorem registerAccessesFollow : Obligations.RegisterAccessesFollow := by
  unfold Obligations.RegisterAccessesFollow
  refine ⟨fun r old v i => ⟨?_, ?_, ?_⟩, ?ignored, ?index, ?subsystem0, ?firmware, fun s ag a ha hd => ⟨?_, ?_, ?_⟩⟩
  · intro h; simp only [r.getLsbD_merge, h, if_true]
  · intro h h1 hv; simp only [r.getLsbD_merge_of_not_rw h, h1, hv, Bool.and_self, Bool.not_true, Bool.and_false]
  · rintro h (h1 | hv)
    · simp only [r.getLsbD_merge_of_not_rw h, h1, Bool.false_and, Bool.not_false, Bool.and_true]
    · simp only [r.getLsbD_merge_of_not_rw h, hv, Bool.and_false, Bool.not_false, Bool.and_true]
  case ignored =>
    rintro s ag a v (h | h)
    · exact does_registerWrite (doRegisterWrite_misaligned _ _ _ v h)
    · exact does_registerWrite (doRegisterWrite_ignored _ _ a v (s.writeReg_of_not_writable ag v h))
  case index =>
    intro s ag a v h4 hw hs hi
    exact does_registerWrite ((doRegisterWrite_of_aligned _ _ a v h4).trans (s.writeReg_of_index ag v hw hs hi))
  case subsystem0 =>
    intro s ag a v r h4 hw ha hr
    exact does_registerWrite ((doRegisterWrite_of_aligned _ _ a v h4).trans
      ((s.writeReg_of_top ag v hw ha).trans (s.writeFields_of_row v a.isLt hr)))
  case firmware =>
    intro s ag a v hw ha
    refine does_registerWrite (doRegisterWrite_ignored _ _ a v (s.writeReg_of_host v hw ?_ ha))
    exact Nat.ne_of_lt ag.isLt
  · exact does_readLoCapture (doReadLoCapture_of_on _ _ ha hd)
  · exact fun b hb => b.readReg_of_captured ag ha hb
  · refine ⟨_, does_readLoCapture (doReadLoCapture_of_on _ _ ha hd), ?_, fun o ho => ?_⟩
    · exact Block.readReg_of_captured _ _ ha (by rw [Block.captured_withHiCap_set, if_pos rfl])
    · rw [Block.captured_withHiCap_set, if_neg (fun e => ho (Fin.ext e))]

end Sys2Proof.Machine
end

section
/-! PROOFS, chapter 2: the tick of an idle queue, snapshots, schedule entries, line time and mains time. -/

namespace Sys2Proof.Machine

/-- A command does what its function makes of the block. -/
theorem does_of_exec {c : Instr} {s : State} {b b' : Block} (h : exec c s = .next (s.withBlock b')) (e : b' = b) :
    Does c s b := e ▸ h

theorem Block.each_invariant {α : Type} {P : Block → Prop} {s : Block} {l : List α} {f : Block → α → Block} (h : P s)
    (hf : ∀ t x, P t → P (f t x)) : P (s.each l f) := by
  induction l generalizing s with
  | nil => exact h
  | cons x l ih => exact ih (hf s x h)

/-! The tick (R50, R51). -/

theorem step_of_idle {s : State} (h : s.pending = []) : step s = .next (s.withBlock s.toBlock.tick) := by rw [step, h]

theorem Block.tick_of_fine {s : Block} (h : s.coarse = false) : s.tick = s.withLocalCount (s.localCount + 1) := by
  rw [Block.tick, h]; rfl

theorem Block.markLate_localCount (s : Block) (tb : Nat) (a b : Count) : (s.markLate tb a b).localCount = s.localCount :=
  (s.markLate_frame tb a b).localCount_eq rfl

theorem Block.when_put_localCount (s : Block) (c : Bool) (f : Fld) (v : Nat) : (s.when c (·.put f v)).localCount = s.localCount := by
  unfold Block.when; split <;> rfl

theorem Block.tick_localCount (s : Block) : s.tick.localCount = s.localCount + (if s.coarse then 32000 else 1) := by
  cases h : s.coarse with
  | false => rw [Block.tick_of_fine h]; rfl
  | true => simp only [Block.tick, h, if_true, Block.markLate_localCount, Block.when_put_localCount, Block.withLocalCount_localCount]

/-- Settles O2: the tick counts by its two amounts, and its frame leaves every other part of the statement alone. -/
theorem stepTicksWhenIdle : Obligations.StepTicksWhenIdle := by
  unfold Obligations.StepTicksWhenIdle
  intro s h
  have hf := s.toBlock.tick_frame
  exact ⟨s.toBlock.tick, step_of_idle h, s.toBlock.tick_localCount, Block.tick_of_fine, hf.mem_eq rfl, hf.sett_eq rfl,
    hf.fox_eq rfl, hf.acq_eq rfl, hf.hoard_eq rfl, hf.cmd_eq rfl⟩

/-! Register pairs and the snapshot (R53, Table 2.6). -/

theorem Block.reg_setPair_ne (s : Block) {a b c : Nat} (v : Count) (ha : c ≠ a) (hb : c ≠ b) :
    (s.setPair a b v).reg c = s.reg c := by
  rw [Block.setPair, Block.reg_setReg_ne _ _ hb, Block.reg_setReg_ne _ _ ha]

theorem Block.pair_setPair (s : Block) {a b : Nat} (h : a ≠ b) (v : Count) : (s.setPair a b v).pair a b = v := by
  rw [Block.pair, Block.setPair, Block.reg_setReg_self, Block.reg_setReg_ne _ _ h, Block.reg_setReg_self,
    BitVec.extractLsb'_append_extractLsb'_eq_extractLsb' (by omega)]
  exact BitVec.extractLsb'_eq_self

theorem Block.pair_setPair_ne (s : Block) {a b c d : Nat} (v : Count) (hca : c ≠ a) (hcb : c ≠ b) (hda : d ≠ a) (hdb : d ≠ b) :
    (s.setPair a b v).pair c d = s.pair c d := by
  rw [Block.pair, Block.pair, s.reg_setPair_ne v hca hcb, s.reg_setPair_ne v hda hdb]

/-- The line counts `c` of the first `n` lines in their pairs of registers. -/
def Block.snapLines (s : Block) (c : Nat → Count) (n : Nat) : Block :=
  s.each (List.range n) (fun x w => x.setPair (Reg.SNAP_LINE_LO w) (Reg.SNAP_LINE_HI w) (c w))

theorem Block.snapLines_succ (s : Block) (c : Nat → Count) (n : Nat) :
    s.snapLines c (n + 1) = (s.snapLines c n).setPair (Reg.SNAP_LINE_LO n) (Reg.SNAP_LINE_HI n) (c n) := by
  rw [Block.snapLines, Block.each, List.range_succ, List.foldl_append]; rfl

theorem Block.snapLines_reg (s : Block) (c : Nat → Count) {a n : Nat}
    (h : ∀ w < n, a ≠ Reg.SNAP_LINE_LO w ∧ a ≠ Reg.SNAP_LINE_HI w) : (s.snapLines c n).reg a = s.reg a := by
  induction n with
  | zero => rfl
  | succ n ih =>
    obtain ⟨hlo, hhi⟩ := h n n.lt_succ_self
    rw [s.snapLines_succ, Block.reg_setPair_ne _ _ hlo hhi, ih fun w hw => h w (Nat.lt_succ_of_lt hw)]

theorem Block.snapLines_pair (s : Block) (c : Nat → Count) {w n : Nat} (h : w < n) :
    (s.snapLines c n).pair (Reg.SNAP_LINE_LO w) (Reg.SNAP_LINE_HI w) = c w := by
  induction n with
  | zero => omega
  | succ n ih =>
    rw [s.snapLines_succ]
    by_cases hw : w = n
    · subst hw
      exact Block.pair_setPair _ (by unfold Reg.SNAP_LINE_LO Reg.SNAP_LINE_HI; omega) _
    · rw [Block.pair_setPair_ne, ih (by omega)] <;> simp only [Reg.SNAP_LINE_LO, Reg.SNAP_LINE_HI] <;> omega

/-- The registers of a snapshot that hold no line count. -/
def Block.snapRest (s : Block) : Block :=
  ((s.setPair Reg.SNAP_LOCAL_LO Reg.SNAP_LOCAL_HI s.localCount).setPair Reg.SNAP_MAINS_LO Reg.SNAP_MAINS_HI s.mainsNow).setReg
    Reg.SNAP_STATE (BitVec.ofNat 32 s.tbStates)

theorem Block.snap_eq (s : Block) : s.snap = s.snapRest.snapLines s.lineNow 4 := rfl

theorem Block.setReg_withRegs (s : Block) (a : Nat) (v : Word) (r) : (s.setReg a v).withRegs r = s.withRegs r := rfl

theorem Block.setPair_withRegs (s : Block) (a b : Nat) (v : Count) (r) : (s.setPair a b v).withRegs r = s.withRegs r := by
  rw [Block.setPair, Block.setReg_withRegs, Block.setReg_withRegs]

/-- A snapshot writes registers only. -/
theorem Block.snap_withRegs (s : Block) (r) : s.snap.withRegs r = s.withRegs r := by
  rw [s.snap_eq, Block.snapLines]
  refine Block.each_invariant (P := fun t => t.withRegs r = s.withRegs r) ?_ fun t w h => (t.setPair_withRegs _ _ _ r).trans h
  rw [Block.snapRest, Block.setReg_withRegs, Block.setPair_withRegs, Block.setPair_withRegs]

/-- No line's pair is among the registers of the local count, the mains count and the states. -/
theorem snapRest_addr_ne_line {a w : Nat} (h : a ≤ Reg.SNAP_MAINS_HI ∨ Reg.SNAP_STATE ≤ a) (hw : w < 4) :
    a ≠ Reg.SNAP_LINE_LO w ∧ a ≠ Reg.SNAP_LINE_HI w := by
  unfold Reg.SNAP_MAINS_HI Reg.SNAP_STATE at h; unfold Reg.SNAP_LINE_LO Reg.SNAP_LINE_HI; omega

theorem Block.snap_reg_rest (s : Block) {a : Nat} (h : a ≤ Reg.SNAP_MAINS_HI ∨ Reg.SNAP_STATE ≤ a) :
    s.snap.reg a = s.snapRest.reg a := by
  rw [s.snap_eq, Block.snapLines_reg _ _ fun w hw => snapRest_addr_ne_line h hw]

theorem Block.snap_reg_of_other (s : Block) {a : Nat} (hl : a ≠ Reg.SNAP_LOCAL_LO) (hl' : a ≠ Reg.SNAP_LOCAL_HI)
    (hm : a ≠ Reg.SNAP_MAINS_LO) (hm' : a ≠ Reg.SNAP_MAINS_HI) (hs : a ≠ Reg.SNAP_STATE)
    (hw : ∀ w < 4, a ≠ Reg.SNAP_LINE_LO w ∧ a ≠ Reg.SNAP_LINE_HI w) : s.snap.reg a = s.reg a := by
  rw [s.snap_eq, Block.snapLines_reg _ _ hw, Block.snapRest, Block.reg_setReg_ne _ _ hs, Block.reg_setPair_ne _ _ hm hm',
    Block.reg_setPair_ne _ _ hl hl']

theorem Block.snap_local (s : Block) : s.snap.pair Reg.SNAP_LOCAL_LO Reg.SNAP_LOCAL_HI = s.localCount := by
  rw [Block.pair, s.snap_reg_rest (by decide), s.snap_reg_rest (by decide), Block.snapRest, Block.reg_setReg_ne _ _ (by decide),
    Block.reg_setReg_ne _ _ (by decide), ← Block.pair, Block.pair_setPair_ne _ _ (by decide) (by decide) (by decide) (by decide),
    Block.pair_setPair _ (by decide)]

theorem Block.snap_mains (s : Block) : s.snap.pair Reg.SNAP_MAINS_LO Reg.SNAP_MAINS_HI = s.mainsNow := by
  rw [Block.pair, s.snap_reg_rest (by decide), s.snap_reg_rest (by decide), Block.snapRest, Block.reg_setReg_ne _ _ (by decide),
    Block.reg_setReg_ne _ _ (by decide), ← Block.pair, Block.pair_setPair _ (by decide)]

theorem Block.snap_state (s : Block) : s.snap.reg Reg.SNAP_STATE = BitVec.ofNat 32 s.tbStates := by
  rw [s.snap_reg_rest (by decide), Block.snapRest, Block.reg_setReg_self]

/-- A state fits its three bits. -/
theorem Block.lineState_lt (s : Block) (w : Nat) : s.lineState w < 8 := bitsOf_lt _ _ _

theorem Block.mainsState_lt (s : Block) : s.mainsState < 8 := bitsOf_lt _ _ _

/-- Each state has three bits of SNAP_STATE. -/
theorem Block.snap_states (s : Block) :
    (∀ w : Fin 4, bitsOf (s.snap.reg Reg.SNAP_STATE) (3 * w + 2) (3 * w) = s.lineState w) ∧
      bitsOf (s.snap.reg Reg.SNAP_STATE) 14 12 = s.mainsState := by
  have h0 := s.lineState_lt 0
  have h1 := s.lineState_lt 1
  have h2 := s.lineState_lt 2
  have h3 := s.lineState_lt 3
  have hm := s.mainsState_lt
  simp only [s.snap_state, bitsOf, BitVec.toNat_ofNat, Block.tbStates]
  refine ⟨fun w => ?_, by omega⟩
  match w with
  | 0 => change _ / 2 ^ 0 % 2 ^ 3 = s.lineState 0; omega
  | 1 => change _ / 2 ^ 3 % 2 ^ 3 = s.lineState 1; omega
  | 2 => change _ / 2 ^ 6 % 2 ^ 3 = s.lineState 2; omega
  | 3 => change _ / 2 ^ 9 % 2 ^ 3 = s.lineState 3; omega

/-- Settles O14: each register of the snapshot by the place that wrote it last, and every other one by its address. -/
theorem snapshotLatches : Obligations.SnapshotLatches := by
  unfold Obligations.SnapshotLatches
  intro s hw
  obtain ⟨hline, hmains⟩ := s.snap_states
  refine ⟨s.snap, does_of_exec rfl (if_pos hw), s.snap_local, s.snap_mains, fun w => ?_, hline, hmains, ?_, s.snap_withRegs s.regs⟩
  · rw [s.snap_eq, Block.snapLines_pair _ _ w.isLt]
  · exact fun a hl hl' hm hm' hs h => s.snap_reg_of_other hl hl' hm hm' hs fun w hw => h ⟨w, hw⟩

/-! Schedule entries (R54–R58). -/

theorem Block.each_of_fixed {α : Type} {s : Block} {l : List α} {f : Block → α → Block} (h : ∀ x ∈ l, f s x = s) :
    s.each l f = s := by
  induction l with
  | nil => rfl
  | cons x l ih =>
    rw [Block.each, List.foldl_cons, h x List.mem_cons_self]
    exact ih fun y hy => h y (List.mem_cons_of_mem _ hy)

theorem Block.setLate_schDue (s : Block) (n : Nat) (b : Bool) (m : Nat) : (s.setLate n b).schDue m = s.schDue m := rfl

theorem Block.schDue_of_schWaits {s : Block} {n : Nat} (h : s.schWaits n = true) : s.schDue n = false := by
  simp [Block.schDue, h]

theorem Block.schWaits_of_schDue {s : Block} {n : Nat} (h : s.schDue n = true) : s.schWaits n = false := by
  simp only [Block.schDue, Bool.and_eq_true, Bool.not_eq_true'] at h
  exact h.2

theorem Block.fireEntry_of_not_due {s : Block} {n : Nat} (h : s.schDue n = false) : s.fireEntry n = s := by
  simp [Block.fireEntry, h]

theorem Block.fireEntry_in_time {s : Block} {n : Nat} (h : s.schDue n = true)
    (hl : Bank.get (fun _ => false) s.time.schLate n = false) : s.fireEntry n = (s.schFire n).schAdvance n 1 := by
  simp [Block.fireEntry, h, hl]

/-- A late entry with no period: it fires or is skipped by its policy, and ends. -/
theorem Block.fireEntry_late_once {s : Block} {n : Nat} (h : s.schDue n = true)
    (hl : Bank.get (fun _ => false) s.time.schLate n = true) (hp : (s.reg (Reg.SCH_PERIOD n)).toNat = 0) :
    s.fireEntry n =
      (((((if s.flag (Reg.SCH_CTL_LATE_POL n) then s else s.schFire n).schAdvance n 1).bump (Reg.SCH_STAT_SKIPS n) 0).setLate n
        false).put (Reg.SCH_STAT_LATE n) 1).raise 831 0 := by
  simp [Block.fireEntry, h, hl, hp]

/-- With no lower entry due, the fires up to entry `n` are that of entry `n`. -/
theorem Block.fire_upTo {s : Block} {n : Nat} (h : ∀ m < n, s.schDue m = false) :
    s.each (List.range (n + 1)) Block.fireEntry = s.fireEntry n := by
  have hb : s.each (List.range n) Block.fireEntry = s :=
    Block.each_of_fixed fun m hm => Block.fireEntry_of_not_due (h m (List.mem_range.mp hm))
  rw [Block.each, List.range_succ, List.foldl_append]
  exact congrArg (Block.fireEntry · n) hb

theorem doSchedFire_of_waiting {s : Block} {n : Nat} (h : ∀ m < n, s.schDue m = false) (hw : s.schWaits n = true)
    (ht : s.schAt n ≤ s.tbNow (s.schTb n)) : doSchedFire n s = s.setLate n true := by
  have hd : doSchedFire n s = (s.setLate n true).each (List.range (n + 1)) Block.fireEntry := by
    simp [doSchedFire, Block.when, hw, ht]
  rw [hd, Block.fire_upTo fun m hm => (s.setLate_schDue n true m).trans (h m hm)]
  exact Block.fireEntry_of_not_due (Block.schDue_of_schWaits hw)

theorem doSchedFire_of_due {s : Block} {n : Nat} (h : ∀ m < n, s.schDue m = false) (hd : s.schDue n = true) :
    doSchedFire n s = s.fireEntry n := by
  rw [← Block.fire_upTo h]
  simp [doSchedFire, Block.when, Block.schWaits_of_schDue hd]

/-! A write of SCH_CTL (R55). -/

theorem Block.writeSchCtl_disarmed {s b : Block} {n : Nat} {v : Word} (hb : (s.fireEntry n).writeFields (Reg.SCH_CTL n) v = b)
    (h : b.flag (Reg.SCH_CTL_ARM n) = false) : s.writeSchCtl n v = b := by
  simp only [Block.writeSchCtl, hb, h, Bool.not_false, if_true]

theorem Block.writeSchCtl_refused {s b : Block} {n : Nat} {v : Word} (hb : (s.fireEntry n).writeFields (Reg.SCH_CTL n) v = b)
    (h : b.flag (Reg.SCH_CTL_ARM n) = true) (ho : b.armOk n = false) :
    s.writeSchCtl n v = (b.put (Reg.SCH_CTL_ARM n) 0).put (Reg.SCH_STAT_BAD n) 1 := by
  simp only [Block.writeSchCtl, hb, h, ho, Bool.not_true, Bool.false_eq_true, if_false]

theorem Block.writeSchCtl_armed {s b c : Block} {n : Nat} {v : Word} (hb : (s.fireEntry n).writeFields (Reg.SCH_CTL n) v = b)
    (h : b.flag (Reg.SCH_CTL_ARM n) = true) (ho : b.armOk n = true)
    (hc : ((b.put (Reg.SCH_STAT_BAD n) 0).put (Reg.SCH_STAT_FIRES n) 0).put (Reg.SCH_STAT_SKIPS n) 0 = c) :
    s.writeSchCtl n v = c.setLate n (decide (c.schAt n < c.tbNow (c.schTb n))) := by
  simp only [Block.writeSchCtl, hb, h, ho, hc, Bool.not_true, Bool.false_eq_true, if_false, if_true]

/-! A write of the times of an entry (R58). -/

theorem Block.writeSchTime_armed {s : Block} {n : Nat} (a : Nat) (v : Word) (h : s.flag (Reg.SCH_CTL_ARM n) = true) :
    s.writeSchTime n a v = s.put (Reg.SCH_STAT_WR_IGNORED n) 1 := if_pos h

theorem Block.writeSchTime_unarmed {s : Block} {n : Nat} (a : Nat) (v : Word) (h : s.flag (Reg.SCH_CTL_ARM n) = false) :
    s.writeSchTime n a v = s.setReg a v := if_neg (by rw [h]; exact Bool.false_ne_true)

/-- Settles O15: the three branches of the write of SCH_CTL, the two of the write of a time, and the three fires. -/
theorem scheduleFollows : Obligations.ScheduleFollows := by
  unfold Obligations.ScheduleFollows
  refine ⟨fun s n v hw => ?_, fun s n i v hw => ?_, fun s n hlow => ?_⟩
  · have hd : doSchCtlWrite n v s.toBlock = s.writeSchCtl n v := if_pos hw
    exact ⟨fun h => does_of_exec rfl (hd.trans (Block.writeSchCtl_disarmed rfl h)),
      fun h ho => does_of_exec rfl (hd.trans (Block.writeSchCtl_refused rfl h ho)),
      fun h ho => does_of_exec rfl (hd.trans (Block.writeSchCtl_armed rfl h ho rfl))⟩
  · have hd : doSchTimeWrite n i v s.toBlock = s.writeSchTime n (schTimeReg n i) v := if_pos hw
    exact ⟨fun h => does_of_exec rfl (hd.trans (Block.writeSchTime_armed _ v h)),
      fun h => does_of_exec rfl (hd.trans (Block.writeSchTime_unarmed _ v h))⟩
  · refine ⟨fun hw ht => does_of_exec rfl (doSchedFire_of_waiting hlow hw ht), fun hd hl => ?_, fun hd hl hp => ?_⟩
    · exact does_of_exec rfl ((doSchedFire_of_due hlow hd).trans (Block.fireEntry_in_time hd hl))
    · refine does_of_exec rfl ((doSchedFire_of_due hlow hd).trans ((Block.fireEntry_late_once hd hl hp).trans ?_))
      split <;> rfl

theorem idxOf_eq_none {f : Nat → Nat} {k a : Nat} (h : ∀ n < k, f n ≠ a) : idxOf f k a = none := by
  simpa [idxOf] using h

/-- An index is found by its own register where no lower one has that address. -/
theorem idxOf_self {f : Nat → Nat} {k n : Nat} (hn : n < k) (h : ∀ m < n, f m ≠ f n) : idxOf f k (f n) = some n := by
  simpa [idxOf, List.find?_range_eq_some, hn] using h

theorem schTimeReg_eq (n : Nat) (i : Fin 3) : schTimeReg n i = 0x7804 + 0x10 * n + 4 * i := by
  match i with
  | 0 => rfl
  | 1 => unfold schTimeReg Reg.SCH_AT_HI; simp; omega
  | 2 => unfold schTimeReg Reg.SCH_PERIOD; simp; omega

/-- The registers of one kind of time are found under the entries of that kind alone. -/
theorem idxOf_schTime (f : Nat → Nat) (j : Fin 3) (hf : ∀ m, f m = schTimeReg m j) (n : Fin 64) (i : Fin 3) :
    idxOf f 64 (schTimeReg n i) = if i = j then some n.val else none := by
  split
  · next h =>
    rw [h, ← hf]
    exact idxOf_self n.isLt fun m hm => by rw [hf, hf, schTimeReg_eq, schTimeReg_eq]; omega
  · next h =>
    have hij := Fin.val_ne_of_ne h
    exact idxOf_eq_none fun m _ => by rw [hf, schTimeReg_eq, schTimeReg_eq]; omega

theorem schTimeReg_range (n : Fin 64) (i : Fin 3) : Reg.SCH_CTL 0 < schTimeReg n i ∧ schTimeReg n i < Reg.SCH_STAT 0 := by
  rw [schTimeReg_eq, Reg.SCH_CTL, Reg.SCH_STAT]; omega

/-- Of the registers of blocks 6 and 7 only the entries' own stand as high as their times. -/
theorem Block.writeFlow_schTime (s : Block) (ag : Nat) (n : Fin 64) (i : Fin 3) (v : Word) :
    s.writeFlow ag (schTimeReg n i) v = s.writeSchTime n (schTimeReg n i) v := by
  have hlow := (schTimeReg_range n i).1
  have hne : ∀ r ≤ Reg.SCH_CTL 0, schTimeReg n i ≠ r := fun r hr => by omega
  have hnone : ∀ (f : Nat → Nat) (k : Nat), (∀ m < k, f m ≤ Reg.SCH_CTL 0) → idxOf f k (schTimeReg n i) = none :=
    fun f k h => idxOf_eq_none fun m hm => (hne _ (h m hm)).symm
  have hctl : idxOf Reg.SCH_CTL 64 (schTimeReg n i) = none :=
    idxOf_eq_none fun m _ => by rw [schTimeReg_eq, Reg.SCH_CTL]; omega
  rw [Block.writeFlow, if_neg (hne _ (by decide)), if_neg (hne _ (by decide)), if_neg (hne _ (by decide)),
    if_neg (hne _ (by decide)), if_neg (hne _ (by decide)), if_neg (hne _ (by decide)), if_neg (hne _ (by decide)),
    hnone Reg.SP_CTL 48 (by decide), hnone Reg.SP_CFG 48 (by decide), hnone Reg.LINE_CTL 4 (by decide), hctl,
    hnone Reg.FIFO_BASE 48 (by decide), hnone Reg.FIFO_CFG 48 (by decide), hnone Reg.FIFO_RP 48 (by decide),
    hnone Reg.FIFO_WM 48 (by decide), hnone Reg.FIFO_STAT 48 (by decide),
    idxOf_schTime Reg.SCH_AT_LO 0 fun _ => rfl, idxOf_schTime Reg.SCH_AT_HI 1 fun _ => rfl,
    idxOf_schTime Reg.SCH_PERIOD 2 fun _ => rfl]
  match i with
  | 0 | 1 | 2 => rfl

theorem Block.writeReg_of_flow (s : Block) (ag : Nat) {a : Nat} (v : Word) (hw : s.writable a = true) (hi : a ∉ indexRegs)
    (ha : a / 0x1000 = 7) : s.writeReg ag a v = s.writeFlow ag a v := by
  simp [Block.writeReg, hw, hi, ha]

theorem indexRegs_not_sch : ∀ a ∈ indexRegs, a < Reg.SCH_CTL 0 ∨ Reg.SCH_STAT 0 ≤ a := by decide

theorem doRegisterWrite_schTime (s : Block) (ag : Fin 3) (n : Fin 64) (i : Fin 3) (a : Fin 65536) (v : Word)
    (hw : s.writable (schTimeReg n i) = true) (ha : a.val = schTimeReg n i) :
    doRegisterWrite ag a v s = s.writeSchTime n (schTimeReg n i) v := by
  obtain ⟨hlo, hhi⟩ := schTimeReg_range n i
  have h4 : a.val % 4 = 0 := by rw [ha, schTimeReg_eq]; omega
  have h7 : schTimeReg n i / 0x1000 = 7 := by rw [Reg.SCH_CTL] at hlo; rw [Reg.SCH_STAT] at hhi; omega
  have hi : schTimeReg n i ∉ indexRegs := fun h => by have := indexRegs_not_sch _ h; omega
  rw [doRegisterWrite_of_aligned _ _ _ _ h4, ha, s.writeReg_of_flow ag v hw hi h7, s.writeFlow_schTime]

theorem Block.flag_put_one (s : Block) {f : Fld} (h : f.ok = true) : (s.put f 1).flag f = true := s.flag_putB true h

/-- Settles O16: both ways of writing come to the same write of the entry's time, which only marks SCH_STAT. -/
theorem armedScheduleTimesKept : Obligations.ArmedScheduleTimesKept := by
  unfold Obligations.ArmedScheduleTimesKept
  intro s n i v hw hwt harm
  have hkeep (a : Nat) (h : a < Reg.SCH_STAT 0) : (s.put (Reg.SCH_STAT_WR_IGNORED n) 1).reg a = s.reg a :=
    s.reg_put_ne 1 (by change a ≠ Reg.SCH_STAT n; unfold Reg.SCH_STAT at *; omega)
  have htime := Block.writeSchTime_armed (schTimeReg n i) v harm
  exact ⟨does_of_exec rfl ((if_pos hw).trans htime),
    fun ag a ha => does_registerWrite ((doRegisterWrite_schTime _ ag n i a v hwt ha).trans htime), s.flag_put_one rfl,
    hkeep _ (schTimeReg_range n 0).2, hkeep _ (schTimeReg_range n 1).2, hkeep _ (schTimeReg_range n 2).2⟩

/-! Inbound packets (R369): the payload of a packet framed by its header and its trailer. -/

/-- Sequence number `seq` does not follow the last one. -/
def Block.seqGap (s : Block) (seq : Nat) : Bool :=
  match s.ply.inSeq with
  | some q => decide ((q + 1) % 65536 ≠ seq)
  | none => false

theorem Block.when_bump_ply (s : Block) (c : Bool) (f : Fld) (k : Nat) : (s.when c (·.bump f k)).ply = s.ply := by
  cases c <;> rfl

section Packet

variable {s : Block} {kind : Nat} {h t : BitVec 64} {pl : List (BitVec 64)} {ok : Nat → List (BitVec 64) → Bool}

theorem packet_header : (h :: pl ++ [t]).headD 0 = h := rfl

theorem packet_payload : ((h :: pl ++ [t]).drop 1).dropLast = pl := by simp

theorem packet_trailer : (h :: pl ++ [t]).getLastD 0 = t := List.getLastD_concat ..

/-- A packet whose CRC is right goes past the check of its blocks and CRC. -/
theorem packet_crc_passes {a b : Nat} (h : a = b) : ¬ ((!true) = true ∨ a ≠ b) :=
  fun hn => hn.elim Bool.false_ne_true fun hn => hn h

/-- The check of a header turns away just what it does not ask for. -/
theorem packet_head_passes : ¬ (bitsOf h 63 60 ≠ kind ∨ bitsOf h 35 24 ≠ pl.length ∨ pl.length = 0 ∨ 258 < pl.length ∨
      (!ok (bitsOf h 59 52) pl) = true) ↔
    bitsOf h 63 60 = kind ∧ bitsOf h 35 24 = pl.length ∧ pl.length ≠ 0 ∧ pl.length ≤ 258 ∧ ok (bitsOf h 59 52) pl = true := by
  simp only [not_or, ne_eq, Decidable.not_not, Nat.not_lt, Bool.not_eq_true', Bool.not_eq_false]

theorem Block.takePacket_invalid (hup : s.get Reg.PLY_STATUS_IN_STATE = 2) :
    s.takePacket kind (h :: pl ++ [t]) false ok = (none, (s.bump Reg.PLY_CNT0_IN_CRC 1).raise 755 0) := by
  rw [Block.takePacket, if_neg fun hn => hn hup, if_pos (.inl rfl)]

theorem Block.takePacket_badCrc (hup : s.get Reg.PLY_STATUS_IN_STATE = 2)
    (hc : bitsOf t 63 32 ≠ (crc32 ((h :: pl).flatMap beBytes)).toNat) :
    s.takePacket kind (h :: pl ++ [t]) true ok = (none, (s.bump Reg.PLY_CNT0_IN_CRC 1).raise 755 0) := by
  simp only [Block.takePacket, packet_header, packet_payload, packet_trailer]
  rw [if_neg fun hn => hn hup, if_pos (.inr hc)]

theorem Block.takePacket_badHead (hup : s.get Reg.PLY_STATUS_IN_STATE = 2)
    (hc : bitsOf t 63 32 = (crc32 ((h :: pl).flatMap beBytes)).toNat)
    (hh : ¬ (bitsOf h 63 60 = kind ∧ bitsOf h 35 24 = pl.length ∧ pl.length ≠ 0 ∧ pl.length ≤ 258 ∧
      ok (bitsOf h 59 52) pl = true)) :
    s.takePacket kind (h :: pl ++ [t]) true ok = (none, s.bump Reg.PLY_CNT0_IN_BAD 1) := by
  simp only [Block.takePacket, packet_header, packet_payload, packet_trailer]
  rw [if_neg fun hn => hn hup, if_neg (packet_crc_passes hc), if_pos (Decidable.byContradiction fun hn => hh (packet_head_passes.mp hn))]

theorem Block.takePacket_good (hup : s.get Reg.PLY_STATUS_IN_STATE = 2)
    (hc : bitsOf t 63 32 = (crc32 ((h :: pl).flatMap beBytes)).toNat)
    (hh : bitsOf h 63 60 = kind ∧ bitsOf h 35 24 = pl.length ∧ pl.length ≠ 0 ∧ pl.length ≤ 258 ∧
      ok (bitsOf h 59 52) pl = true) :
    s.takePacket kind (h :: pl ++ [t]) true ok = (some (bitsOf h 59 52, pl),
      (s.when (s.seqGap (bitsOf h 51 36)) (·.bump Reg.PLY_CNT0_IN_GAP 1)).withPly { s.ply with inSeq := some (bitsOf h 51 36) }) := by
  simp only [Block.takePacket, packet_header, packet_payload, packet_trailer]
  rw [if_neg fun hn => hn hup, if_neg (packet_crc_passes hc), if_neg (packet_head_passes.mpr hh)]
  simp only [Block.when_bump_ply]
  rfl

end Packet

/-! Line blocks (R368). -/

theorem doLineBlock_good {s : Block} {blk : BitVec 64} (hup : s.get Reg.PLY_STATUS_IN_STATE = 2) (hk : bitsOf blk 63 60 = 4)
    (ho : evenParity (blk &&& 0xFFFFFFFE00000002#64) 63 0 = true) (he : evenParity blk 32 2 = !blk.getLsbD 0) :
    doLineBlock blk s = s.marker (bitsOf blk 59 58) (BitVec.ofNat 32 (bitsOf blk 57 26)) (bitsOf blk 25 2 + 1) := by
  rw [doLineBlock, if_neg (by omega), if_pos ⟨hk, ho, he⟩]

theorem doLineBlock_bad {s : Block} {blk : BitVec 64} (hup : s.get Reg.PLY_STATUS_IN_STATE = 2) (hk : bitsOf blk 63 60 = 4)
    (he : evenParity blk 32 2 = blk.getLsbD 0) : doLineBlock blk s = (s.bump Reg.PLY_CNT0_IN_BAD 1).raise 767 0 := by
  rw [doLineBlock, if_neg (by omega), if_neg]
  rintro ⟨-, -, h⟩
  exact (Bool.not_eq_self _).mp (h.symm.trans he)

/-! Missing markers (R37, R38). -/

/-- A marker of LINE`w` is missing: counted, before any change of state. -/
def Block.countMissing (s : Block) (w : Nat) : Block :=
  (s.setLine w { s.lineTb w with missed := (s.lineTb w).missed + 1, landed := 0 }).bump (Reg.LINE_CNT_MISSING w) 1

/-- The superframe that a missing marker was to begin. -/
def Block.beginMissed (s : Block) (w : Nat) (l : LineTb) : Block :=
  s.beginSuperframe w (l.lastTick + BitVec.ofNat 32 (l.sfLen * (l.missed + 1))) l.sfLen

theorem Block.countMissing_holdLimit (s : Block) (w : Nat) :
    (s.countMissing w).get (Reg.LINE_CTL_HOLD_LIMIT w) = s.get (Reg.LINE_CTL_HOLD_LIMIT w) := by
  have h : (Reg.LINE_CTL_HOLD_LIMIT w).addr ≠ (Reg.LINE_CNT_MISSING w).addr := by
    change Reg.LINE_CTL w ≠ Reg.LINE_CNT w
    unfold Reg.LINE_CTL Reg.LINE_CNT; omega
  exact Block.get_put_ne _ _ h

/-- The limit of HOLD_LIMIT markers, 0 as 1. -/
def Block.holdLimit (s : Block) (w : Nat) : Nat := max 1 (s.get (Reg.LINE_CTL_HOLD_LIMIT w))

theorem Block.missMarker_eq {s b : Block} {w : Nat}
    (hb : (if s.lineState w = 2 then (s.countMissing w).enterLine w 3 else s.countMissing w) = b) :
    s.missMarker w =
      (if s.lineState w ≠ 4 ∧ s.holdLimit w ≤ (s.lineTb w).missed + 1 then (b.bump (Reg.LINE_CNT_LOST w) 1).enterLine w 4
        else b).beginMissed w (s.lineTb w) := by
  subst hb
  unfold Block.holdLimit
  rw [← s.countMissing_holdLimit]
  rfl

theorem doMarkerMissing_not_due {s : Block} {w : Nat} (h : s.lineState w = 0 ∨ s.markerDue w = false) : doMarkerMissing w s = s :=
  if_pos (h.imp_right fun h => by rw [h]; rfl)

theorem doMarkerMissing_due {s : Block} {w : Nat} (h : s.lineState w ≠ 0) (hd : s.markerDue w = true) :
    doMarkerMissing w s = s.missMarker w :=
  if_neg (by simp [h, hd])

/-! Writes of LINE_CTL (Table 2.9). -/

theorem doLineCtlWrite_keeps {s : Block} {w : Nat} {v : Word} (hw : s.writable (Reg.LINE_CTL w) = true)
    (h : (s.writeFields (Reg.LINE_CTL w) v).flag (Reg.LINE_CTL_EN w) = true ∨ (s.writeFields (Reg.LINE_CTL w) v).lineState w = 0) :
    doLineCtlWrite w v s = s.writeFields (Reg.LINE_CTL w) v := (if_pos hw).trans (if_pos h)

theorem doLineCtlWrite_off {s b : Block} {w : Nat} {v : Word} (hw : s.writable (Reg.LINE_CTL w) = true)
    (hb : s.writeFields (Reg.LINE_CTL w) v = b) (he : b.flag (Reg.LINE_CTL_EN w) = false) (h0 : b.lineState w ≠ 0) :
    doLineCtlWrite w v s = (b.enterLine w 0).setLine w
      { b.lineTb w with cnt := s.lineNow w, anchor := b.now, seen := false, missed := 0, landed := 0 } := by
  subst hb
  exact (if_pos hw).trans (if_neg (by simp [he, h0]))

/-! Tables of quiet windows (R39). -/

theorem doQwPacket_taken {s b : Block} {ws : List (BitVec 64)} {w : Nat} {pl : List (BitVec 64)}
    (h : s.takePacket 2 ws true qwLayout = (some (w, pl), b)) :
    doQwPacket ws true s =
      b.takeTable w (BitVec.ofNat 32 (bitsOf (pl.headD 0) 63 32)) (qwWindows (bitsOf (pl.headD 0) 5 0) (pl.drop 1)) := by
  rw [doQwPacket, h]

section Table

variable {s : Block} {w : Nat} {sf : Word} {wins : List (Nat × Nat)}

theorem Block.takeTable_waits (hb : s.sfBegun w sf = false) (hv : qwValid (2 ^ 24) 0 wins = true) :
    s.takeTable w sf wins = s.setLine w { s.lineTb w with
      qwNext := (s.lineTb w).qwNext.filter (fun q => q.sf != sf) ++ [{ sf := sf, wins := wins, at' := s.now }] } :=
  (if_neg (by rw [hb]; exact Bool.false_ne_true)).trans (if_pos hv)

theorem Block.takeTable_broken (hb : s.sfBegun w sf = false) (hv : qwValid (2 ^ 24) 0 wins = false)
    (hn : ∀ q, q ∈ (s.lineTb w).qwNext → q.sf ≠ sf) : s.takeTable w sf wins = (s.qwDiscard w).qwFault w sf :=
  (if_neg (by rw [hb]; exact Bool.false_ne_true)).trans
    ((if_neg (by rw [hv]; exact Bool.false_ne_true)).trans (if_neg (by simpa using hn)))

theorem Block.takeTable_late (hb : s.sfBegun w sf = true)
    (hg : ¬ ((s.lineTb w).qwSf = some sf ∧ s.flag (Reg.LINE_STATUS_TABLE_VALID w) = true)) :
    s.takeTable w sf wins = (s.qwDiscard w).qwFault w sf := (if_pos hb).trans (if_neg hg)

theorem Block.takeTable_second (hb : s.sfBegun w sf = true)
    (hg : (s.lineTb w).qwSf = some sf ∧ s.flag (Reg.LINE_STATUS_TABLE_VALID w) = true) :
    s.takeTable w sf wins = s.qwDiscard w := (if_pos hb).trans (if_pos hg)

end Table

/-- Settles O12: each clause is one branch of its command, a missing marker's by the state and by the hold limit. -/
theorem lineTimeFollows : Obligations.LineTimeFollows := by
  unfold Obligations.LineTimeFollows
  refine ⟨fun s kind h t pl ok hup => ?packet, fun s blk hup hk ho he => does_of_exec rfl (doLineBlock_good hup hk ho he),
    fun s blk hup hk he => does_of_exec rfl (doLineBlock_bad hup hk he), fun s w h => does_of_exec rfl (doMarkerMissing_not_due h),
    fun s w h0 hd => ?missing, fun s w v hw => ?ctl, fun s ws w pl b hp => ?table⟩
  case packet =>
    exact ⟨fun hc hh => Block.takePacket_good hup hc hh, fun hc hh => Block.takePacket_badHead hup hc hh,
      fun hc => Block.takePacket_badCrc hup hc, Block.takePacket_invalid hup⟩
  case missing =>
    have he := doMarkerMissing_due h0 hd
    refine ⟨fun h2 hl => does_of_exec rfl (he.trans ?_), fun h2 hl => does_of_exec rfl (he.trans ?_),
      fun h2 hl => does_of_exec rfl (he.trans ?_)⟩
    · rw [Block.missMarker_eq (if_neg h2), if_neg fun hn => hl.elim hn.1 (Nat.not_lt.mpr hn.2)]; rfl
    · rw [Block.missMarker_eq (if_pos h2), if_neg fun hn => Nat.not_lt.mpr hn.2 hl]; rfl
    · rw [Block.missMarker_eq (if_neg (by omega)), if_pos ⟨by omega, hl⟩]; rfl
  case ctl =>
    exact ⟨fun h => does_of_exec rfl (doLineCtlWrite_keeps hw h), fun he h0 => does_of_exec rfl (doLineCtlWrite_off hw rfl he h0)⟩
  case table =>
    have he := doQwPacket_taken hp
    exact ⟨fun hb hv => does_of_exec rfl (he.trans (Block.takeTable_waits hb hv)),
      fun hb hv hn => does_of_exec rfl (he.trans (Block.takeTable_broken hb hv hn)),
      fun hb hg => does_of_exec rfl (he.trans (Block.takeTable_late hb hg)),
      fun hb hg => does_of_exec rfl (he.trans (Block.takeTable_second hb hg))⟩

/-! The mains timebase beyond its registers. -/

theorem Block.setMains_setMains (s : Block) (m m' : MainsTb) : (s.setMains m).setMains m' = s.setMains m' := rfl

theorem Block.setMains_reg (s : Block) (m : MainsTb) (a : Nat) : (s.setMains m).reg a = s.reg a := rfl

theorem Block.setMains_localCount (s : Block) (m : MainsTb) : (s.setMains m).localCount = s.localCount := rfl

@[simp] theorem Block.setMains_get (s : Block) (m : MainsTb) (f : Fld) : (s.setMains m).get f = s.get f := rfl

@[simp] theorem Block.setMains_mainsSrc (s : Block) (m : MainsTb) : (s.setMains m).mainsSrc = s.mainsSrc := rfl

@[simp] theorem Block.setMains_mainsState (s : Block) (m : MainsTb) : (s.setMains m).mainsState = s.mainsState := rfl

theorem MainsTb.forget_best {m : MainsTb} (h : m.best = none) : { m with best := none } = m := by rw [← h]

theorem Block.takeBest_of_none {s : Block} (h : s.time.mains.best = none) : s.takeBest = s := by rw [Block.takeBest, h]

/-- The internal angle comes from the stretches of the count alone. -/
theorem Block.mainsAngle_congr {s b : Block} (hs : b.time.mains.seg = s.time.mains.seg) (hp : b.time.mains.past = s.time.mains.past)
    (t : Nat) : b.mainsAngle t = s.mainsAngle t := by
  simp only [Block.mainsAngle, Block.mainsAt, hs, hp]

/-! Mains edges (R43, R48). -/

theorem doMainsEdge_first {s : Block} (h0 : s.mainsSrc ≠ 0) (hb : s.time.mains.best = none) (he : s.time.mains.edgeAt = none) :
    doMainsEdge s = s.setMains { s.time.mains with edgeAt := some s.now } := by
  simp only [doMainsEdge, Block.takeBest_of_none hb, he, Block.setMains_mainsSrc, if_neg h0]

theorem doMainsEdge_next {s : Block} {t : Nat} (hb : s.time.mains.best = none) (he : s.time.mains.edgeAt = some t) :
    doMainsEdge s =
      if edgeUsable (s.now - t) then (s.setMains { s.time.mains with edgeAt := some s.now }).usableEdge (s.now - t)
      else (s.setMains { s.time.mains with edgeAt := some s.now }).badEdge := by
  simp only [doMainsEdge, Block.takeBest_of_none hb, he]
  rfl

theorem Block.usableEdge_of_pin {s : Block} {dt : Nat} (h : s.mainsSrc = 1) :
    s.usableEdge dt =
      let b := (s.setMains { s.time.mains with pinAt := some s.now }).put Reg.MAINS_STATUS_HALF_AMBIG 0
      b.mainsRef (angleErr (b.mainsAngle b.now)) (65536 * 10 ^ 9 / dt) b.now 1 := by
  simp only [Block.usableEdge, Block.setMains_mainsSrc, h]

theorem Block.badEdge_of_pin {s : Block} (h : s.mainsSrc = 1) : s.badEdge = s.mainsOutOfRange := by
  simp only [Block.badEdge, h]

/-! Mains tones (R44–R46). -/

/-- A report of LINE`w`: its reference, at the local instant of the tick that it states. -/
def Block.toneRef (s : Block) (w : Nat) (pl : List (BitVec 64)) : ToneRef :=
  { freq := bitsOf (pl.headD 0) 63 32, phase := bitsOf (pl.headD 0) 31 16
    at' := s.lineToLocal w (nearest64 (s.lineNow w) (BitVec.ofNat 32 (bitsOf (pl.getD 1 0) 63 32)))
    conf := bitsOf (pl.headD 0) 15 8, came := s.now }

theorem Block.toneRef_phase (s : Block) (w : Nat) (pl : List (BitVec 64)) : (s.toneRef w pl).phase = bitsOf (pl.headD 0) 31 16 := by
  rw [Block.toneRef]

theorem Block.toneRef_at' (s : Block) (w : Nat) (pl : List (BitVec 64)) : (s.toneRef w pl).at' =
    s.lineToLocal w (nearest64 (s.lineNow w) (BitVec.ofNat 32 (bitsOf (pl.getD 1 0) 63 32))) := by rw [Block.toneRef]

/-- A usable report came. -/
def Block.toneSeen (s : Block) : Block := s.setMains { s.time.mains with toneAt := some s.now }

theorem Block.toneSeen_mainsAngle (s : Block) (t : Nat) : s.toneSeen.mainsAngle t = s.mainsAngle t :=
  Block.mainsAngle_congr rfl rfl t

theorem Block.usableTone_at_once {s : Block} (r : ToneRef) (hb : s.time.mains.best = none)
    (ha : s.flag Reg.MAINS_CTL_TONE_ANY = false) :
    s.usableTone r = s.toneSeen.trackTone r := by
  have hm : { s.time.mains with toneAt := some s.now, best := none } = { s.time.mains with toneAt := some s.now } :=
    MainsTb.forget_best (m := { s.time.mains with toneAt := some s.now }) hb
  have hf : s.toneSeen.flag Reg.MAINS_CTL_TONE_ANY = false := ha
  rw [Block.usableTone, Block.takeBest_of_none hb, if_pos (by rw [← Block.toneSeen, hf]; rfl), Block.setMains_setMains]
  exact congrArg (fun m => (s.setMains m).trackTone r) hm

theorem Block.toneReport_tracked {s : Block} {w : Nat} {pl : List (BitVec 64)} (hsrc : s.mainsSrc = 2)
    (ha : s.flag Reg.MAINS_CTL_TONE_ANY = false) (hw : w = s.get Reg.MAINS_CTL_TONE_W) (hb : s.time.mains.best = none)
    (hc : s.get Reg.MAINS_CTL_TONE_MIN ≤ bitsOf (pl.headD 0) 15 8) (hlo : 42 * 65536 ≤ bitsOf (pl.headD 0) 63 32)
    (hhi : bitsOf (pl.headD 0) 63 32 ≤ 68 * 65536) (hl : s.lineState w = 2) :
    s.toneReport w pl = s.toneSeen.trackTone (s.toneRef w pl) := by
  have hu : ((s.flag Reg.MAINS_CTL_TONE_ANY || w == s.get Reg.MAINS_CTL_TONE_W) &&
      decide (s.get Reg.MAINS_CTL_TONE_MIN ≤ bitsOf (pl.headD 0) 15 8) &&
      (decide (42 * 65536 ≤ bitsOf (pl.headD 0) 63 32) && decide (bitsOf (pl.headD 0) 63 32 ≤ 68 * 65536)) &&
      s.lineState w == LOCKED) = true := by
    simp only [← hw, hc, hlo, hhi, hl, beq_self_eq_true, decide_true, Bool.or_true, Bool.and_self]
  rw [← Block.usableTone_at_once _ hb ha]
  simp only [Block.toneReport, hsrc]
  exact if_pos hu

theorem doTonePacket_taken {s b : Block} {ws : List (BitVec 64)} {w : Nat} {pl : List (BitVec 64)}
    (h : s.takePacket 3 ws true (fun ch pl => decide (ch ≤ 3) && pl.length == 2) = (some (w, pl), b)) :
    doTonePacket ws true s = b.toneReport w pl := by rw [doTonePacket, h]

/-- The smaller of two phase errors, the first of two that are the same size. -/
def nearerErr (e0 e1 : Int) : Int := if e0.natAbs ≤ e1.natAbs then e0 else e1

/-- While no half cycle has been followed, a report is taken on the nearer of the two. -/
theorem Block.toneErr_of_idle {s : Block} (r : ToneRef) (h : s.mainsIdle = true) :
    angleErr (s.mainsAngle r.at' + 65536 - s.toneAngle r) =
      nearerErr (angleErr (s.mainsAngle r.at' + 65536 - r.phase / 2))
        (angleErr (s.mainsAngle r.at' + 65536 - (r.phase / 2 + 32768))) := by
  have ha : s.toneAngle r =
      if (angleErr (s.mainsAngle r.at' + 65536 - r.phase / 2)).natAbs ≤
          (angleErr (s.mainsAngle r.at' + 65536 - (r.phase / 2 + 32768))).natAbs then r.phase / 2
      else r.phase / 2 + 32768 := by
    cases hh : s.time.mains.half <;> simp only [Block.toneAngle, hh, h, if_true]
  rw [ha, nearerErr]
  split <;> rfl

/-! A reference (R48). -/

theorem Block.enterMains_eq (s : Block) (st : Nat) :
    ∃ c, s.enterMains st = (s.put Reg.MAINS_STATUS_STATE st).when c (·.put Reg.FINE_STATUS_UNALIGNED_SEEN 1) := ⟨_, rfl⟩

theorem Block.when_put_get_ne (s : Block) (c : Bool) {f g : Fld} (v : Nat) (h : g.addr ≠ f.addr) :
    (s.when c (·.put f v)).get g = s.get g := by
  cases c
  · rfl
  · exact s.get_put_ne v h

theorem Block.enterMains_get (s : Block) (st : Nat) {f : Fld} (hm : f.addr ≠ Reg.MAINS_STATUS) (hf : f.addr ≠ Reg.FINE_STATUS) :
    (s.enterMains st).get f = s.get f := by
  obtain ⟨c, h⟩ := s.enterMains_eq st
  rw [h, Block.when_put_get_ne _ c 1 hf, Block.get_put_ne _ _ hm]

theorem Block.enterMains_mainsState (s : Block) (st : Nat) : (s.enterMains st).mainsState = st % 8 := by
  obtain ⟨c, h⟩ := s.enterMains_eq st
  rw [Block.mainsState, h, Block.when_put_get_ne _ c 1 (by decide), Block.get_put _ _ rfl]
  rfl

theorem toBits_lt (n : Nat) (x : Int) : toBits n x < 2 ^ n := by
  have h := Int.emod_lt_of_pos x (Int.natCast_pos.mpr (Nat.two_pow_pos n))
  unfold toBits
  omega

theorem Block.mainsRef_err (s : Block) (err : Int) (f t src : Nat) :
    (s.mainsRef err f t src).get Reg.MAINS_ERR_ERR = toBits 16 err := by
  unfold Block.mainsRef
  rw [Block.get_put_ne _ _ (by decide), Block.enterMains_get _ _ (by decide) (by decide), Block.setMains_get, Block.get_put _ _ rfl]
  exact Nat.mod_eq_of_lt (toBits_lt 16 err)

theorem Block.mainsRef_inUse (s : Block) (err : Int) (f t src : Nat) :
    (s.mainsRef err f t src).get Reg.MAINS_STATUS_IN_USE = src % 4 := Block.get_put _ _ rfl

theorem Block.mainsRef_mainsState_of_idle {s : Block} (err : Int) (f t src : Nat) (h : s.mainsState = 0 ∨ s.mainsState = 3) :
    (s.mainsRef err f t src).mainsState = 1 := by
  simp only [Block.mainsRef, if_pos h]
  exact (Block.get_put_apart _ _ rfl rfl).trans (Block.enterMains_mainsState _ 1)

theorem Block.mainsIdle_iff (s : Block) : s.mainsIdle = true ↔ s.mainsState = 0 ∨ s.mainsState = 3 := by
  simp [Block.mainsIdle]

theorem Block.trackTone_of_idle {s : Block} (r : ToneRef) (h : s.mainsIdle = true) :
    s.trackTone r =
      ((s.setMains { s.time.mains with half := some (r.at', s.toneAngle r, r.freq) }).mainsRef
        (angleErr (s.mainsAngle r.at' + 65536 - s.toneAngle r)) r.freq r.came 2).put Reg.MAINS_STATUS_HALF_AMBIG 1 :=
  if_pos (.inl h)

/-- A tone that brings ACQUIRING. -/
theorem Block.trackTone_acquires {s : Block} (r : ToneRef) (h : s.mainsState = 0 ∨ s.mainsState = 3) :
    (s.trackTone r).get Reg.MAINS_ERR_ERR =
        toBits 16 (nearerErr (angleErr (s.mainsAngle r.at' + 65536 - r.phase / 2))
          (angleErr (s.mainsAngle r.at' + 65536 - (r.phase / 2 + 32768)))) ∧
      (s.trackTone r).mainsState = 1 ∧ (s.trackTone r).get Reg.MAINS_STATUS_IN_USE = 2 ∧
      (s.trackTone r).flag Reg.MAINS_STATUS_HALF_AMBIG = true := by
  have hi := s.mainsIdle_iff.mpr h
  rw [Block.trackTone_of_idle r hi, Block.toneErr_of_idle r hi]
  refine ⟨(Block.get_put_ne _ _ (by decide)).trans (Block.mainsRef_err ..), ?_, ?_, Block.flag_put_one _ rfl⟩
  · exact (Block.get_put_apart _ _ rfl rfl).trans (Block.mainsRef_mainsState_of_idle _ _ _ _ h)
  · exact (Block.get_put_apart _ _ rfl rfl).trans (Block.mainsRef_inUse ..)

/-! Missing cycles (R48). -/

theorem doMainsCycleMissing_of_tracked {s : Block} (h0 : s.mainsSrc ≠ 0) (hb : s.time.mains.best = none) :
    doMainsCycleMissing s = if s.mainsState = 0 ∨ !s.cycleDue then s else s.missCycle := by
  simp only [doMainsCycleMissing, if_neg h0, Block.takeBest_of_none hb]

theorem Block.missCycle_counts {s : Block} (h : s.time.mains.missing < 2 ∨ s.mainsState = 3) :
    s.missCycle = s.setMains { s.time.mains with
      missing := s.time.mains.missing + 1, good := 0, agree := 0, disagree := 0 } :=
  if_neg fun hn => h.elim (fun h => by omega) hn.2

theorem Block.missCycle_third {s b : Block} (hs : s.mainsState = 2) (hm : s.time.mains.missing = 2)
    (hb : s.setMains { s.time.mains with missing := 3, good := 0, agree := 0, disagree := 0 } = b) :
    s.missCycle = ((((b.slewFrom b.mainsFreq s.time.mains.held).enterMains 3).put Reg.MAINS_STATUS_IN_USE 0).put
      Reg.MAINS_STATUS_LOST_SEEN 1).raise 828 3 := by
  subst hb
  simp only [Block.missCycle, hm, Block.setMains_mainsState, hs]
  rfl

/-! Half-cycle shifts (R46, R47): a stretch moved by half a cycle differs in its count alone. -/

@[simp] theorem MainsSeg.half_anchor (g : MainsSeg) : g.half.anchor = g.anchor := by rw [MainsSeg.half]
@[simp] theorem MainsSeg.half_part (g : MainsSeg) : g.half.part = g.part := by rw [MainsSeg.half]
@[simp] theorem MainsSeg.half_freq (g : MainsSeg) : g.half.freq = g.freq := by rw [MainsSeg.half]
@[simp] theorem MainsSeg.half_aim (g : MainsSeg) : g.half.aim = g.aim := by rw [MainsSeg.half]
@[simp] theorem MainsSeg.half_cnt (g : MainsSeg) : g.half.cnt = g.cnt + 32768 := by rw [MainsSeg.half]

theorem MainsSeg.half_ramp (g : MainsSeg) : g.half.ramp = g.ramp := by
  rw [MainsSeg.ramp, MainsSeg.ramp, g.half_freq, g.half_aim]

theorem MainsSeg.half_area (g : MainsSeg) (t : Nat) : g.half.area t = g.area t := by
  rw [MainsSeg.area, MainsSeg.area, g.half_ramp, g.half_anchor, g.half_part, g.half_freq, g.half_aim]

theorem Count.add_right_comm (a b c : Count) : a + b + c = a + c + b := by
  rw [BitVec.add_assoc, BitVec.add_comm b, ← BitVec.add_assoc]

theorem Count.add_sub_right_comm (a b c : Count) : a + b - c = a - c + b := by
  rw [BitVec.sub_eq_add_neg, BitVec.sub_eq_add_neg, Count.add_right_comm]

theorem MainsSeg.half_countAt (g : MainsSeg) (t : Nat) : g.half.countAt t = g.countAt t + 32768 := by
  rw [MainsSeg.countAt, MainsSeg.countAt, g.half_area, g.half_anchor, g.half_cnt, g.half_freq, apply_ite (· + 32768),
    Count.add_right_comm, Count.add_sub_right_comm]

/-- Where every stretch has moved by half a cycle, so has the count at any instant. -/
theorem Block.mainsAt_of_half {s b : Block} (hs : b.time.mains.seg = s.time.mains.seg.half)
    (hp : b.time.mains.past = s.time.mains.past.map MainsSeg.half) (t : Nat) : b.mainsAt t = s.mainsAt t + 32768 := by
  simp only [Block.mainsAt, hs, hp, ← List.map_cons, List.find?_map]
  have hf : (fun g : MainsSeg => decide (g.anchor ≤ t)) ∘ MainsSeg.half = fun g => decide (g.anchor ≤ t) := by
    funext g; rw [Function.comp, g.half_anchor]
  rw [← MainsSeg.half_countAt, hf, Option.getD_map]

theorem Block.markLate_mains (s : Block) (tb : Nat) (a b : Count) : (s.markLate tb a b).time.mains = s.time.mains := by
  refine Block.each_invariant (P := fun t => t.time.mains = s.time.mains) rfl fun t n ht => ?_
  split <;> exact ht

theorem Block.markLate_reg (s : Block) (tb : Nat) (a b : Count) (r : Nat) : (s.markLate tb a b).reg r = s.reg r := by
  rw [Block.reg, (s.markLate_frame tb a b).regs_eq rfl]; rfl

theorem Block.put_time (s : Block) (f : Fld) (v : Nat) : (s.put f v).time = s.time := rfl

theorem Block.put_localCount (s : Block) (f : Fld) (v : Nat) : (s.put f v).localCount = s.localCount := rfl

/-- Every stretch of the count moved by half a cycle, before the marks. -/
def Block.halved (s : Block) : Block :=
  let m := s.time.mains
  s.setMains { m with
    seg := m.seg.half, past := m.past.map MainsSeg.half, shifts := m.shifts + 1, agree := 0, disagree := 0
    half := m.half.map (fun h => (h.1, (h.2.1 + 32768) % 65536, h.2.2)) }

theorem Block.halfShift_eq (s : Block) : ∃ b a st, s.halfShift =
    (((s.halved.markLate 5 b a).put Reg.MAINS_STATUS_HALF_AMBIG 0).put Reg.MAINS_STATUS_HALF_SHIFT_SEEN 1).raise 830 st :=
  ⟨_, _, _, rfl⟩

theorem Block.halfShift_mains (s : Block) : s.halfShift.time.mains = s.halved.time.mains := by
  obtain ⟨b, a, st, h⟩ := s.halfShift_eq
  rw [h, (Block.raise_frame _ 830 st).time_eq rfl, Block.put_time, Block.put_time, Block.markLate_mains]

theorem Block.halfShift_now (s : Block) : s.halfShift.now = s.now := by
  obtain ⟨b, a, st, h⟩ := s.halfShift_eq
  rw [Block.now, h, (Block.raise_frame _ 830 st).localCount_eq rfl, Block.put_localCount, Block.put_localCount,
    Block.markLate_localCount]
  exact congrArg _ (s.setMains_localCount _)

theorem Block.halfShift_reg (s : Block) {r : Nat} (hr : r ≠ Reg.MAINS_STATUS) (he : evReg r = false) :
    s.halfShift.reg r = s.reg r := by
  obtain ⟨b, a, st, h⟩ := s.halfShift_eq
  rw [h, Block.raise_reg _ _ _ he, Block.reg_put_ne _ _ hr, Block.reg_put_ne _ _ hr, Block.markLate_reg]
  exact s.setMains_reg _ r

theorem Block.halfShift_mainsNow (s : Block) : s.halfShift.mainsNow = s.mainsNow + 32768 := by
  have hm := s.halfShift_mains
  rw [Block.mainsNow, Block.mainsNow, s.halfShift_now, Block.mainsAt_of_half (s := s) (by rw [hm]; rfl) (by rw [hm]; rfl), Block.get,
    s.halfShift_reg (by decide) rfl, ← Block.get]
  exact Count.add_right_comm ..

theorem Block.halfShift_ambig (s : Block) : s.halfShift.flag Reg.MAINS_STATUS_HALF_AMBIG = false := by
  obtain ⟨b, a, st, h⟩ := s.halfShift_eq
  rw [h, Block.flag, Block.raise_get _ _ _ rfl, Block.get_put_apart _ _ rfl rfl, Block.get_put _ _ rfl]
  rfl

theorem Block.halfShift_seen (s : Block) : s.halfShift.flag Reg.MAINS_STATUS_HALF_SHIFT_SEEN = true := by
  obtain ⟨b, a, st, h⟩ := s.halfShift_eq
  rw [h, Block.flag, Block.raise_get _ _ _ rfl, Block.get_put _ _ rfl]
  rfl

/-- Settles O13: the commands by their branches, the tone at the entry of ACQUIRING by the nearer half cycle, and the half-cycle
shift by the stretches of the count. -/
theorem mainsTimeFollows : Obligations.MainsTimeFollows := by
  unfold Obligations.MainsTimeFollows
  refine ⟨fun s h0 hb he => does_of_exec rfl (doMainsEdge_first h0 hb he), fun s t hsrc hb he hhi hlo => ?usable,
    fun s t hsrc hb he hout => ?range, fun s ws w pl b hp hsrc ha hw hb hc hlo hhi hl => ?tone,
    fun s h0 hb h => ?none, fun s h0 hb hst hd h => ?counts, fun s h0 hb hst hd h => ?third, fun s v hw => ?ctl,
    fun s v hw => does_of_exec rfl (if_pos hw),
    fun s => ⟨s.halfShift_mainsNow, s.halfShift_ambig, s.halfShift_seen, s.halfShift_now⟩⟩
  case usable =>
    refine does_of_exec rfl ((doMainsEdge_next hb he).trans ((if_pos ?_).trans (Block.usableEdge_of_pin hsrc)))
    simpa [edgeUsable] using ⟨hhi, hlo⟩
  case range =>
    refine does_of_exec rfl ((doMainsEdge_next hb he).trans ((if_neg ?_).trans (Block.badEdge_of_pin hsrc)))
    simp only [edgeUsable, Bool.and_eq_true, decide_eq_true_eq]
    omega
  case tone =>
    have hd := (doTonePacket_taken hp).trans (Block.toneReport_tracked hsrc ha hw hb hc hlo hhi hl)
    refine ⟨does_of_exec rfl hd, fun hst => ⟨_, does_of_exec rfl hd, ?_⟩⟩
    have hacq := Block.trackTone_acquires (s := b.toneSeen) (b.toneRef w pl) hst
    rwa [b.toneSeen_mainsAngle, b.toneRef_phase, b.toneRef_at', nearerErr] at hacq
  case none =>
    refine does_of_exec rfl ((doMainsCycleMissing_of_tracked h0 hb).trans (if_pos (h.imp_right fun h => ?_)))
    rw [h]; rfl
  case counts =>
    refine does_of_exec rfl ((doMainsCycleMissing_of_tracked h0 hb).trans ((if_neg ?_).trans (Block.missCycle_counts h)))
    simp [hst, hd]
  case third =>
    refine does_of_exec rfl ((doMainsCycleMissing_of_tracked h0 hb).trans ((if_neg ?_).trans (Block.missCycle_third hst h rfl)))
    simp [hst, hd]
  case ctl =>
    exact ⟨fun h => does_of_exec rfl ((if_pos hw).trans (if_neg h)), fun h => does_of_exec rfl ((if_pos hw).trans (if_pos h))⟩

end Sys2Proof.Machine
end

section
/-! PROOFS, chapters 4 and 7: triggers, urgent requests and restarts. -/

namespace Sys2Proof.Machine

theorem Block.each_cons {α : Type} (s : Block) (x : α) (l : List α) (f : Block → α → Block) :
    s.each (x :: l) f = (f s x).each l f := rfl

/-! One trigger (R173, R174): what it does to the activity of each spindle. -/

theorem Block.setSp_sp (s : Block) (n : Nat) (p : Spindle) (i : Nat) : (s.setSp n p).sp i = if i = n then p else s.sp i :=
  Bank.get_set ..

theorem Block.setAct_act (s : Block) (n : Nat) (r : Option Run) (i : Nat) :
    ((s.setAct n r).sp i).act = if i = n then r else (s.sp i).act := by
  rw [Block.setAct, Block.setSp_sp, apply_ite Spindle.act]

/-- A run after a trigger of group `g` at local count `t`. -/
def Run.trigger (r : Run) (g t : Nat) : Run := if armedIn r g ∧ r.took = none then { r with took := some t } else r

theorem Run.trigger_of_armed {r : Run} {g : Nat} (t : Nat) (ha : armedIn r g = true) (ht : r.took = none) :
    r.trigger g t = { r with took := some t } := if_pos ⟨ha, ht⟩

theorem Run.trigger_of_not_armed {r : Run} {g : Nat} (t : Nat) (ha : armedIn r g = false) : r.trigger g t = r :=
  if_neg fun h => Bool.false_ne_true (ha.symm.trans h.1)

theorem Run.trigger_of_took {r : Run} (g t : Nat) (h : r.took ≠ none) : r.trigger g t = r := if_neg fun hn => h hn.2

theorem Run.trigger_trigger (r : Run) (g t : Nat) : (r.trigger g t).trigger g t = r.trigger g t := by
  by_cases h : armedIn r g = true ∧ r.took = none
  · rw [Run.trigger_of_armed t h.1 h.2]
    exact Run.trigger_of_took g t (Option.some_ne_none t)
  · rw [show r.trigger g t = r from if_neg h, show r.trigger g t = r from if_neg h]

/-- Spindle `n` meets a trigger of group `g`. -/
def Block.triggerSp (g : Nat) (s : Block) (n : Nat) : Block :=
  match (s.sp n).act with
  | some r => if armedIn r g ∧ r.took = none then s.setAct n (some { r with took := some s.now }) else s
  | none => s

theorem Block.trigger_eq (s : Block) (g : Nat) : s.trigger g = s.each spindleList (Block.triggerSp g) := rfl

theorem Block.triggerSp_now (s : Block) (g n : Nat) : (s.triggerSp g n).now = s.now := by
  unfold Block.triggerSp
  split
  · split <;> rfl
  · rfl

theorem Block.triggerSp_act (s : Block) (g n i : Nat) :
    ((s.triggerSp g n).sp i).act = if i = n then (s.sp i).act.map (·.trigger g s.now) else (s.sp i).act := by
  by_cases hi : i = n
  · subst hi
    rw [if_pos rfl, Block.triggerSp]
    cases hr : (s.sp i).act with
    | none => exact hr
    | some r =>
      rw [Option.map_some, Run.trigger]
      dsimp only
      split
      · rw [Block.setAct_act, if_pos rfl]
      · exact hr
  · rw [if_neg hi, Block.triggerSp]
    split
    · split
      · rw [Block.setAct_act, if_neg hi]
      · rfl
    · rfl

/-- A second meeting changes no run, so over a list it matters only whether the spindle stands in it. -/
theorem Block.each_triggerSp_act (s : Block) (g i : Nat) (l : List Nat) :
    ((s.each l (Block.triggerSp g)).sp i).act = if i ∈ l then (s.sp i).act.map (·.trigger g s.now) else (s.sp i).act := by
  induction l generalizing s with
  | nil => simp [Block.each]
  | cons n l ih =>
    rw [Block.each_cons, ih, Block.triggerSp_act, Block.triggerSp_now]
    by_cases hi : i = n
    · simp [hi, Option.map_map, Function.comp_def, Run.trigger_trigger]
    · simp [hi]

theorem Block.trigger_act (s : Block) (g : Nat) (n : Fin 48) :
    ((s.trigger g).sp n).act = (s.sp n).act.map (·.trigger g s.now) := by
  rw [s.trigger_eq, Block.each_triggerSp_act, if_pos (show n.val ∈ spindleList from List.mem_range.mpr n.isLt)]

theorem Block.trigger_now (s : Block) (g : Nat) : (s.trigger g).now = s.now :=
  congrArg BitVec.toNat ((s.trigger_frame g).localCount_eq rfl)

/-! Several triggers at once (Table 7.4). -/

/-- A run after triggers of the groups `l` at local count `t`. -/
def Run.triggers (r : Run) (l : List Nat) (t : Nat) : Run := l.foldl (fun r g => r.trigger g t) r

theorem Run.triggers_of_took {r : Run} (l : List Nat) (t : Nat) (h : r.took ≠ none) : r.triggers l t = r := by
  induction l with
  | nil => rfl
  | cons g l ih => rw [Run.triggers, List.foldl_cons, Run.trigger_of_took g t h]; exact ih

/-- The first group in which the run is armed gives it its trigger, and the later ones leave it. -/
theorem Run.triggers_of_armed {r : Run} {g : Nat} {l : List Nat} (t : Nat) (hg : g ∈ l) (ha : armedIn r g = true)
    (ht : r.took = none) : r.triggers l t = { r with took := some t } := by
  induction l with
  | nil => exact absurd hg List.not_mem_nil
  | cons k l ih =>
    rw [Run.triggers, List.foldl_cons]
    cases hk : armedIn r k with
    | true =>
      rw [Run.trigger_of_armed t hk ht]
      exact Run.triggers_of_took l t (Option.some_ne_none t)
    | false =>
      have hne : g ≠ k := fun h => Bool.false_ne_true (hk.symm.trans (h ▸ ha))
      rw [Run.trigger_of_not_armed t hk]
      exact ih ((List.mem_cons.mp hg).resolve_left hne)

theorem Block.each_trigger_act (s : Block) (l : List Nat) (n : Fin 48) :
    ((s.each l Block.trigger).sp n).act = (s.sp n).act.map (·.triggers l s.now) := by
  induction l generalizing s with
  | nil => exact Option.map_id'.symm
  | cons g l ih =>
    rw [Block.each_cons, ih, Block.trigger_act, Block.trigger_now, Option.map_map]
    rfl

theorem doTgFire_of_writable {s : Block} (v : Word) (hw : s.writable Reg.TG_FIRE = true) :
    doTgFire v s = s.each ((List.range 32).filter (fun g => v.getLsbD g)) Block.trigger := if_pos hw

/-- An armed run of a group that the write names takes the trigger. -/
theorem doTgFire_act_of_armed {s : Block} {v : Word} {g : Fin 32} {n : Fin 48} {r : Run} (hw : s.writable Reg.TG_FIRE = true)
    (hv : v.getLsbD g = true) (hr : (s.sp n).act = some r) (ha : armedIn r g = true) (ht : r.took = none) :
    ((doTgFire v s).sp n).act = some { r with took := some s.now } := by
  have hg : g.val ∈ (List.range 32).filter (fun g => v.getLsbD g) := List.mem_filter.mpr ⟨List.mem_range.mpr g.isLt, hv⟩
  rw [doTgFire_of_writable v hw, Block.each_trigger_act, hr, Option.map_some, Run.triggers_of_armed _ hg ha ht]

/-! Urgent requests (R175). -/

section Register

variable {s : Block} {n : Nat}

theorem Block.registerUrgent_refused (h : s.refuseReason n (s.entryDef n (s.urgentEntry n)) ≠ 0) :
    s.registerUrgent n = s.recordRefusal n (s.urgentEntry n) (s.refuseReason n (s.entryDef n (s.urgentEntry n)))
      (s.entryDef n (s.urgentEntry n)) := if_pos h

theorem Block.registerUrgent_merged (h : s.refuseReason n (s.entryDef n (s.urgentEntry n)) = 0)
    (hq : s.flag (Reg.SP_STAT_URG_QUEUED n) = true) : s.registerUrgent n = s.bump (Reg.SP_CNT_URG_MERGED n) 1 :=
  (if_neg fun hn => hn h).trans (if_pos hq)

theorem Block.registerUrgent_queued (h : s.refuseReason n (s.entryDef n (s.urgentEntry n)) = 0)
    (hq : s.flag (Reg.SP_STAT_URG_QUEUED n) = false) (ha : s.flag (Reg.SP_STAT_URG_ACTIVE n) = true) :
    s.registerUrgent n = s.put (Reg.SP_STAT_URG_QUEUED n) 1 :=
  (if_neg fun hn => hn h).trans ((if_neg (ne_true_of_eq_false hq)).trans (if_pos ha))

theorem Block.registerUrgent_started (h : s.refuseReason n (s.entryDef n (s.urgentEntry n)) = 0)
    (hq : s.flag (Reg.SP_STAT_URG_QUEUED n) = false) (ha : s.flag (Reg.SP_STAT_URG_ACTIVE n) = false) :
    s.registerUrgent n = ((s.abortForUrgent n).startUrgent n).checkMigs :=
  (if_neg fun hn => hn h).trans ((if_neg (ne_true_of_eq_false hq)).trans (if_neg (ne_true_of_eq_false ha)))

theorem doUrgentRegister_of_raised (hc : s.coreOn = true) (hb : s.busySS 8 = false) (h : (s.sp n).urgAt.isSome = true) :
    doUrgentRegister n s = (s.setSp n { s.sp n with urgAt := none }).registerUrgent n := if_pos ⟨hc, by rw [hb]; rfl, h⟩

theorem doUrgentRegister_of_none (h : (s.sp n).urgAt = none) : doUrgentRegister n s = s :=
  if_neg fun hn => by rw [h] at hn; exact Bool.false_ne_true hn.2.2

/-- With no request raised, one is raised now. -/
theorem Block.raiseUrgent_of_none (h : (s.sp n).urgAt = none) :
    s.raiseUrgent n = s.setSp n { s.sp n with urgAt := some s.now } := by
  simp [Block.raiseUrgent, h]

/-- One within 10 ns of the last is one request with it. -/
theorem Block.raiseUrgent_within {t : Nat} (h : (s.sp n).urgAt = some t) (ht : s.now ≤ t + 10) : s.raiseUrgent n = s := by
  simp [Block.raiseUrgent, h, Nat.not_lt.mpr ht]

/-- An older one is registered first. -/
theorem Block.raiseUrgent_after {t : Nat} (h : (s.sp n).urgAt = some t) (ht : t + 10 < s.now) :
    s.raiseUrgent n = if ((s.takeUrgent n).sp n).urgAt.isSome then s.takeUrgent n
      else (s.takeUrgent n).setSp n { (s.takeUrgent n).sp n with urgAt := some (s.takeUrgent n).now } := by
  simp only [Block.raiseUrgent, h, if_pos ht]

end Register

theorem doSpUrgent_of_spindle {s : Block} {v : Word} (hw : s.writable Reg.SP_URGENT = true) (hk : bitsOf v 5 0 < 48) :
    doSpUrgent v s = s.raiseUrgent (bitsOf v 5 0) := (if_pos hw).trans (if_pos hk)

theorem doSpUrgent_of_no_spindle {s : Block} {v : Word} (hw : s.writable Reg.SP_URGENT = true) (hk : 48 ≤ bitsOf v 5 0) :
    doSpUrgent v s = s := (if_pos hw).trans (if_neg (Nat.not_lt.mpr hk))

/-! Restarts (R105, R175): the held urgent entry, an aborted urgent run, the queued request, an aborted run. -/

section Restart

variable {s : Block} {n : Nat}

theorem Block.urgentFirst_of_resume {r : Run} {rest : List Run} (h : (s.sp n).resume = r :: rest) :
    s.urgentFirst n = (r.kind == .urgent) := by rw [Block.urgentFirst, h]

variable (ha : (s.sp n).act = none) (hm : s.mayBegin n = true)
include ha hm

/-- Neither an activity nor the quad stands before a restart. -/
theorem restart_not_blocked : ¬ ((s.sp n).act.isSome = true ∨ (!s.mayBegin n) = true) := by simp [ha, hm]

theorem doEntryRestart_held (hh : (s.sp n).urgHeld = true) : doEntryRestart n s = s.startUrgent n :=
  (if_neg (restart_not_blocked ha hm)).trans (if_pos hh)

theorem doEntryRestart_queued (hh : (s.sp n).urgHeld = false) (hq : s.flag (Reg.SP_STAT_URG_QUEUED n) = true)
    (hf : s.urgentFirst n = false) : doEntryRestart n s = (s.put (Reg.SP_STAT_URG_QUEUED n) 0).startUrgent n :=
  (if_neg (restart_not_blocked ha hm)).trans ((if_neg (ne_true_of_eq_false hh)).trans (if_pos ⟨hq, by rw [hf]; rfl⟩))

theorem doEntryRestart_aborted {r : Run} {rest : List Run} (hh : (s.sp n).urgHeld = false)
    (hq : s.flag (Reg.SP_STAT_URG_QUEUED n) = false ∨ r.kind = .urgent) (hr : (s.sp n).resume = r :: rest) :
    doEntryRestart n s = s.restart n r := by
  have hnot : ¬ (s.flag (Reg.SP_STAT_URG_QUEUED n) = true ∧ (!s.urgentFirst n) = true) := by
    rw [Block.urgentFirst_of_resume hr]
    rintro ⟨hq', hf⟩
    rcases hq with hq | hk
    · exact ne_true_of_eq_false hq hq'
    · rw [hk] at hf; exact Bool.false_ne_true hf
  refine (if_neg (restart_not_blocked ha hm)).trans ((if_neg (ne_true_of_eq_false hh)).trans ((if_neg hnot).trans ?_))
  rw [hr]

end Restart

/-- Settles O23: a trigger by what it makes of an armed run, the registration by its four branches, the request by the age of
the last one, and the restarts in their order. -/
theorem triggersAndUrgentsFollow : Obligations.TriggersAndUrgentsFollow := by
  unfold Obligations.TriggersAndUrgentsFollow
  refine ⟨fun s v hw => does_of_exec rfl (doTgFire_of_writable v hw),
    fun s v g n r hw hv hr ha ht => ⟨_, rfl, doTgFire_act_of_armed hw hv hr ha ht⟩, fun s n hc hb hu => ?register,
    fun s n h => does_of_exec rfl (doUrgentRegister_of_none h), fun s v hw => ?raise, fun s n ha hm => ?restart⟩
  case register =>
    have hd := doUrgentRegister_of_raised hc hb hu
    exact ⟨fun h => does_of_exec rfl (hd.trans (Block.registerUrgent_refused h)),
      fun h hq => does_of_exec rfl (hd.trans (Block.registerUrgent_merged h hq)),
      fun h hq ha => does_of_exec rfl (hd.trans (Block.registerUrgent_queued h hq ha)),
      fun h hq ha => does_of_exec rfl (hd.trans (Block.registerUrgent_started h hq ha))⟩
  case raise =>
    exact ⟨fun hk => does_of_exec rfl (doSpUrgent_of_no_spindle hw hk),
      fun hk h => does_of_exec rfl ((doSpUrgent_of_spindle hw hk).trans (Block.raiseUrgent_of_none h)),
      fun t hk h ht => does_of_exec rfl ((doSpUrgent_of_spindle hw hk).trans (Block.raiseUrgent_within h ht)),
      fun t hk h ht => does_of_exec rfl ((doSpUrgent_of_spindle hw hk).trans (Block.raiseUrgent_after h ht))⟩
  case restart =>
    exact ⟨fun hh => does_of_exec rfl (doEntryRestart_held ha hm hh),
      fun hh hq hf => does_of_exec rfl (doEntryRestart_queued ha hm hh hq hf),
      fun r rest hh hq hr => does_of_exec rfl (doEntryRestart_aborted ha hm hh hq hr)⟩

end Sys2Proof.Machine
end

section
/-! PROOFS, chapter 9: time tables, rankings and watches of the Whorl. -/

namespace Sys2Proof.Machine

/-! The swap of the banks (R232). -/

theorem doSwap_of_writable {s : Block} {t : Nat} (hw : s.writable (Reg.WH_CTL t) = true) :
    doSwap t s = s.put (Reg.WH_CTL_SWAP_PENDING t) 1 := if_pos hw

theorem doTableSwap_of_pending {s : Block} {t : Nat} (hc : s.clockRuns t = true) (hb : s.busySS 11 = false)
    (hp : s.flag (Reg.WH_CTL_SWAP_PENDING t) = true) (h0 : s.get (Reg.WH_STATUS_PTR t) = 0) :
    doTableSwap t s = ((s.put (Reg.WH_CTL_ACTIVE t) (1 - s.bankOf t)).put (Reg.WH_CTL_SWAP_PENDING t) 0).raise (961 + 2 * t)
      (1 - s.bankOf t) :=
  (if_pos ⟨hc, by rw [hb]; rfl⟩).trans (if_pos ⟨hp, h0⟩)

/-! An agent's index (R508). -/

/-- A write to a register of the map leaves the agents' own indexes as they are. -/
theorem Block.put_ownCopy (s : Block) {f : Fld} (v ag a : Nat) (h : f.addr < 0x10000) :
    (s.put f v).reg (ownCopy ag a) = s.reg (ownCopy ag a) :=
  s.reg_put_ne v (by unfold ownCopy; omega)

/-- An access that left the index as it was in `s` advances it from there. -/
theorem Block.advanceIdx_of_reg {s x : Block} {ag a : Nat} (hi lo : Nat) (h : x.reg (ownCopy ag a) = s.reg (ownCopy ag a)) :
    x.advanceIdx ag a hi lo = x.put ⟨ownCopy ag a, hi, lo⟩ (bitsOf (s.reg (ownCopy ag a)) hi lo + 1) := by
  rw [Block.advanceIdx, Block.get, h]

theorem whCfgIgnored_addr_lt {t : Nat} (h : t < 12) : (Reg.WH_STATUS_CFG_IGNORED t).addr < 0x10000 := by
  simp only [Reg.WH_STATUS_CFG_IGNORED, Reg.WH_STATUS]; omega

/-- The mark of an ignored write leaves the agents' own indexes as they are. -/
theorem Block.put_whCfgIgnored_ownCopy (s : Block) {t : Nat} (v ag a : Nat) (h : t < 12) :
    (s.put (Reg.WH_STATUS_CFG_IGNORED t) v).reg (ownCopy ag a) = s.reg (ownCopy ag a) :=
  s.put_ownCopy v ag a (whCfgIgnored_addr_lt h)

/-! Writes through an agent's window (R232, R233): both tables take and refuse a write alike. -/

/-- A write of a table of trunk `t` that would leave `x`: it does nothing where no such trunk is up (R238), and where it is ignored
it leaves the mark alone. -/
def Block.tableWrite (s : Block) (t : Nat) (ignored : Prop) [Decidable ignored] (x : Block) : Block :=
  if 12 ≤ t ∨ !s.domainOn (36 + t) then s else if ignored then s.put (Reg.WH_STATUS_CFG_IGNORED t) 1 else x

section TableWrite

variable {s x : Block} {ag a hi lo t : Nat} {ignored : Prop} [Decidable ignored]

theorem Block.tableWrite_of_off (hd : s.domainOn (36 + t) = false) : s.tableWrite t ignored x = s :=
  if_pos (.inr (by rw [hd]; rfl))

theorem Block.tableWrite_of_on (ht : t < 12) (hd : s.domainOn (36 + t) = true) :
    s.tableWrite t ignored x = if ignored then s.put (Reg.WH_STATUS_CFG_IGNORED t) 1 else x :=
  if_neg (by simpa [hd] using ht)

theorem Block.tableWrite_off_advanceIdx (hd : s.domainOn (36 + t) = false) :
    (s.tableWrite t ignored x).advanceIdx ag a hi lo =
      s.put ⟨ownCopy ag a, hi, lo⟩ (bitsOf (s.reg (ownCopy ag a)) hi lo + 1) := by
  rw [Block.tableWrite_of_off hd, Block.advanceIdx_of_reg hi lo rfl]

theorem Block.tableWrite_ignored_advanceIdx (ht : t < 12) (hd : s.domainOn (36 + t) = true) (h : ignored) :
    (s.tableWrite t ignored x).advanceIdx ag a hi lo = (s.put (Reg.WH_STATUS_CFG_IGNORED t) 1).put ⟨ownCopy ag a, hi, lo⟩
      (bitsOf (s.reg (ownCopy ag a)) hi lo + 1) := by
  rw [Block.tableWrite_of_on ht hd, if_pos h, Block.advanceIdx_of_reg hi lo (s.put_whCfgIgnored_ownCopy 1 ag a ht)]

theorem Block.tableWrite_taken_advanceIdx (ht : t < 12) (hd : s.domainOn (36 + t) = true) (h : ¬ ignored)
    (hx : x.reg (ownCopy ag a) = s.reg (ownCopy ag a)) :
    (s.tableWrite t ignored x).advanceIdx ag a hi lo =
      x.put ⟨ownCopy ag a, hi, lo⟩ (bitsOf (s.reg (ownCopy ag a)) hi lo + 1) := by
  rw [Block.tableWrite_of_on ht hd, if_neg h, Block.advanceIdx_of_reg hi lo hx]

end TableWrite

theorem doWhTdataAccess_read {s : Block} (ag : Nat) (hc : s.coreOn = true) :
    doWhTdataAccess ag none s = s.advanceIdx ag Reg.WH_TIDX 10 5 := if_pos hc

theorem doWhTdataAccess_write {s : Block} {ag : Nat} {v w : Word} (hw : s.writable Reg.WH_TDATA = true)
    (hi : s.reg (ownCopy ag Reg.WH_TIDX) = w) :
    doWhTdataAccess ag (some v) s =
      (s.tableWrite (bitsOf w 3 0) (bitsOf w 4 4 = s.bankOf (bitsOf w 3 0) ∨ (bitsOf v 5 5 = 0 ∧ 23 ≤ bitsOf v 4 0))
        (s.withWhorl { s.whorl with
          slots := Bank.set (fun _ => 0x20#32) s.whorl.slots
            (64 * (2 * bitsOf w 3 0 + bitsOf w 4 4) + bitsOf w 10 5) (v &&& 0x3F#32) })).advanceIdx ag Reg.WH_TIDX 10 5 := by
  subst hi; exact if_pos hw

theorem doWhRdataAccess_read {s : Block} (ag : Nat) (hc : s.coreOn = true) :
    doWhRdataAccess ag none s = s.advanceIdx ag Reg.WH_RIDX 9 5 := if_pos hc

theorem doWhRdataAccess_write {s : Block} {ag : Nat} {v w : Word} (hw : s.writable Reg.WH_RDATA = true)
    (hi : s.reg (ownCopy ag Reg.WH_RIDX) = w) :
    doWhRdataAccess ag (some v) s =
      (s.tableWrite (bitsOf w 3 0) (bitsOf w 4 4 = s.bankOf (bitsOf w 3 0))
        (s.withWhorl { s.whorl with
          ranks := Bank.set (fun j => BitVec.ofNat 32 (j % 32)) s.whorl.ranks
            (32 * (2 * bitsOf w 3 0 + bitsOf w 4 4) + bitsOf w 9 5) (v &&& 0x1F#32) })).advanceIdx ag Reg.WH_RIDX 9 5 := by
  subst hi; exact if_pos hw

/-- A slot left open, or owned by one of the requesters 0–22, is not refused for its owner. -/
theorem slot_not_ignored {v : Word} {b bank : Nat} (hb : b ≠ bank) (h : bitsOf v 5 5 = 1 ∨ bitsOf v 4 0 < 23) :
    ¬ (b = bank ∨ (bitsOf v 5 5 = 0 ∧ 23 ≤ bitsOf v 4 0)) := by omega

/-! The clear of a watch (R236). -/

theorem doWatchClear_of_writable {s : Block} {t w : Nat} (hw : s.writable (Reg.WH_WSTAT t w) = true) :
    doWatchClear t w s =
      (((if s.flag (Reg.WH_WSTAT_STARVED t w) = true ∧ max 1 (s.get (Reg.WH_WATCH_LIMIT t w)) ≤ s.waitOf t w
        then s.setAgain t w true else s).put (Reg.WH_WSTAT_STARVED t w) 0).put (Reg.WH_WSTAT_PEAK t w) (s.waitOf t w)) := by
  have hclear : bitsOf 0x1000000#32 24 24 = 1 := by decide
  have hwait (c : Prop) [Decidable c] : (if c then s.setAgain t w true else s).waitOf t w = s.waitOf t w := by split <;> rfl
  simp only [doWatchClear, if_pos hw, Block.writeWstat, if_pos hclear, Bool.and_eq_true, decide_eq_true_eq, hwait]

/-- Settles O33: the swap by its two conditions, an access to a table by what the window's index names, and the clear of a watch. -/
theorem whorlTablesFollow : Obligations.WhorlTablesFollow := by
  unfold Obligations.WhorlTablesFollow
  refine ⟨fun s t hw => does_of_exec rfl (doSwap_of_writable hw),
    fun s t hc hb hp h0 => does_of_exec rfl (doTableSwap_of_pending hc hb hp h0),
    fun s ag v hw hc => ?slots, fun s ag v hw hc => ?ranks, fun s t w hw => does_of_exec rfl (doWatchClear_of_writable hw)⟩
  case slots =>
    have hd := doWhTdataAccess_write (ag := ag) (v := v) hw rfl
    exact ⟨does_of_exec rfl ((doWhTdataAccess_read ag hc).trans (Block.advanceIdx_of_reg _ _ rfl)),
      fun _ hoff => does_of_exec rfl (hd.trans (Block.tableWrite_off_advanceIdx hoff)),
      fun ht hon h => does_of_exec rfl (hd.trans (Block.tableWrite_ignored_advanceIdx ht hon h)),
      fun ht hon hb h => does_of_exec rfl (hd.trans (Block.tableWrite_taken_advanceIdx ht hon (slot_not_ignored hb h) rfl))⟩
  case ranks =>
    have hd := doWhRdataAccess_write (ag := ag) (v := v) hw rfl
    exact ⟨does_of_exec rfl ((doWhRdataAccess_read ag hc).trans (Block.advanceIdx_of_reg _ _ rfl)),
      fun _ hoff => does_of_exec rfl (hd.trans (Block.tableWrite_off_advanceIdx hoff)),
      fun ht hon h => does_of_exec rfl (hd.trans (Block.tableWrite_ignored_advanceIdx ht hon h)),
      fun ht hon hb => does_of_exec rfl (hd.trans (Block.tableWrite_taken_advanceIdx ht hon hb rfl))⟩

end Sys2Proof.Machine
end

section
/-! PROOFS, chapter 12: the Owl windows' classes, decisions, latches, arms, configuration and self-checks. -/

namespace Sys2Proof.Machine

/-! Classes as the input moves, and at the end of a suspension (R302, R305). -/

theorem doWindowClassChange_of_on {s : Block} {w : Nat} (v : Int) (hc : s.coreOn = true) (hb : s.busySS 13 = false)
    (hm : s.owlMode w ≠ 0) (hs : s.suspended w = false) :
    doWindowClassChange w v s =
      s.setClass w (nextClass (s.owlLo w) (s.owlHi w) (s.owlHyst w) (spanLevel v) (s.owlClass w)) :=
  if_neg (by simp [hc, hb, hm, hs])

theorem Block.get_setBit_ne (s : Block) {a : Nat} {f : Fld} (i : Nat) (b : Bool) (h : f.addr ≠ a) :
    (s.setBit a i b).get f = s.get f := by rw [Block.get, Block.reg_setBit_ne s i b h, Block.get]

section Suspension

variable {s : Block} {w : Nat}

/-- What ends a suspension is a bit above which the windows' own registers lie, so their configuration stands. -/
theorem Block.endSuspension_get (s : Block) (w : Nat) {f : Fld} (h : 0xB400 + w ≤ f.addr) :
    (s.setBit (Reg.OWL_SUSP (w / 32)) (w % 32) false).get f = s.get f :=
  s.get_setBit_ne _ _ (by unfold Reg.OWL_SUSP; omega)

theorem Block.endSuspension_owlMode (s : Block) (w : Nat) :
    (s.setBit (Reg.OWL_SUSP (w / 32)) (w % 32) false).owlMode w = s.owlMode w :=
  s.endSuspension_get w (by simp only [Reg.W_CFG_MODE, Reg.W_CFG]; omega)

theorem Block.endSuspension_owlLo (s : Block) (w : Nat) :
    (s.setBit (Reg.OWL_SUSP (w / 32)) (w % 32) false).owlLo w = s.owlLo w :=
  congrArg (signed 10) (s.endSuspension_get w (by simp only [Reg.W_THR_LO, Reg.W_THR]; omega))

theorem Block.endSuspension_owlHi (s : Block) (w : Nat) :
    (s.setBit (Reg.OWL_SUSP (w / 32)) (w % 32) false).owlHi w = s.owlHi w :=
  congrArg (signed 10) (s.endSuspension_get w (by simp only [Reg.W_THR_HI, Reg.W_THR]; omega))

theorem doSuspendEnd_of_free (v : Int) (hc : s.coreOn = true) (hb : s.busySS 13 = false) (hm : s.owlMust w = false)
    (hk : s.owlChecked w = false) :
    doSuspendEnd w v s = if s.owlMode w = 0 then s.setBit (Reg.OWL_SUSP (w / 32)) (w % 32) false
      else (s.setBit (Reg.OWL_SUSP (w / 32)) (w % 32) false).setClass w
        (plainClass (s.owlLo w) (s.owlHi w) (spanLevel v)) := by
  have hfree : ¬ (s.owlMust w = true ∨ s.owlChecked w = true ∨ (!s.coreOn) = true ∨ s.busySS 13 = true) := by
    simp [hc, hb, hm, hk]
  simp only [doSuspendEnd, if_neg hfree, Block.endSuspension_owlMode, Block.endSuspension_owlLo, Block.endSuspension_owlHi]

end Suspension

/-! Decisions (R303, R306): the latch sets, and a window that only raises an event does no more. -/

section Decision

variable {s : Block} {w : Nat}

theorem Block.decides_of_lasted {t : Nat} (hs : s.suspended w = false) (ht : s.trips w (s.owlClass w) = true)
    (hl : s.bit (Reg.OWL_LATCH (w / 32)) (w % 32) = false) (hsince : (s.owlWin w).since = some t)
    (hq : t + 2 * s.get (Reg.W_CFG_QUAL w) ≤ s.now) : s.decides w = true := by
  have hd : s.decisionAt w = some (t + 2 * s.get (Reg.W_CFG_QUAL w)) := by rw [Block.decisionAt, hsince]; rfl
  simp [Block.decides, hs, ht, hl, hd, hq]

theorem doWindowDecision_of_decides (hc : s.coreOn = true) (hb : s.busySS 13 = false) (hd : s.decides w = true)
    (hfirst : s.decideBefore w = []) : doWindowDecision w s = s.trip w := by
  rw [doWindowDecision, if_neg (by simp [hc, hb, hd]), hfirst]; rfl

/-- What window `w` keeps of a decision: its count, its time and its class. -/
def Block.tripWin (s : Block) (w : Nat) : OwlWin :=
  { s.owlWin w with
    wcnt := withBits (s.owlWin w).wcnt 15 0 (satAdd 16 (bitsOf (s.owlWin w).wcnt 15 0) 1)
    wt := s.localCount
    wstat := withBits (s.owlWin w).wstat 1 0 (s.owlClass w) }

/-- Window `w` after a decision and before its actions. -/
def Block.latched (s : Block) (w : Nat) : Block :=
  (s.setOwlWin w (s.tripWin w)).setBit (Reg.OWL_LATCH (w / 32)) (w % 32) true

theorem Block.latched_reg (s : Block) (w : Nat) {a : Nat} (h : a ≠ Reg.OWL_LATCH (w / 32)) :
    (s.latched w).reg a = s.reg a := Block.reg_setBit_ne _ _ _ h

theorem evReg_of_lt {a : Nat} (h : a < 0xC104) : evReg a = false := by simp [evReg]; omega

/-- The event of a decision leaves the settings of the further actions as they were. -/
theorem Block.latched_raise_reg (s : Block) (w d : Nat) {a : Nat} (h : a ≠ Reg.OWL_LATCH (w / 32)) (ha : a < 0xC104) :
    ((s.latched w).raise w d).reg a = s.reg a :=
  (Block.raise_reg _ _ _ (evReg_of_lt ha)).trans (s.latched_reg w h)

theorem Block.flag_congr {s t : Block} {f : Fld} (h : t.reg f.addr = s.reg f.addr) : t.flag f = s.flag f := by
  rw [Block.flag, Block.get, h, Block.flag, Block.get]

theorem wAct_ne_latch (w : Nat) : Reg.W_ACT w ≠ Reg.OWL_LATCH (w / 32) := by unfold Reg.W_ACT Reg.OWL_LATCH; omega

theorem Block.trip_event_only (hw : w < 256) (he : s.flag (Reg.W_ACT_EV_EN w) = true)
    (ht : s.flag (Reg.W_ACT_TRIG_EN w) = false) (hu : s.flag (Reg.W_ACT_URG_EN w) = false)
    (hg : s.bit (Reg.OWL_GARM (w / 32)) (w % 32) = false) :
    s.trip w = (s.latched w).raise w (bitsOf (s.tripWin w).wstat 6 0) := by
  have hact (d) : ((s.latched w).raise w d).reg (Reg.W_ACT w) = s.reg (Reg.W_ACT w) :=
    s.latched_raise_reg w d (wAct_ne_latch w) (by unfold Reg.W_ACT; omega)
  have harm (d) : ((s.latched w).raise w d).reg (Reg.OWL_GARM (w / 32)) = s.reg (Reg.OWL_GARM (w / 32)) :=
    s.latched_raise_reg w d (by unfold Reg.OWL_GARM Reg.OWL_LATCH; omega) (by unfold Reg.OWL_GARM; omega)
  have he' : (s.latched w).flag (Reg.W_ACT_EV_EN w) = true :=
    (Block.flag_congr (s.latched_reg w (wAct_ne_latch w))).trans he
  have ht' (d) : ((s.latched w).raise w d).flag (Reg.W_ACT_TRIG_EN w) = false := (Block.flag_congr (hact d)).trans ht
  have hu' (d) : ((s.latched w).raise w d).flag (Reg.W_ACT_URG_EN w) = false := (Block.flag_congr (hact d)).trans hu
  have hg' (d) : ((s.latched w).raise w d).bit (Reg.OWL_GARM (w / 32)) (w % 32) = false := by
    rw [← hg, Block.bit, harm, Block.bit]
  unfold Block.trip
  extract_lets o c o' s₁ s₂ s₃ s₄
  have h₂ : s₂ = (s.latched w).raise w (bitsOf (s.tripWin w).wstat 6 0) := if_pos he'
  have h₃ : s₃ = s₂ := if_neg (by rw [h₂, ht']; exact Bool.false_ne_true)
  have h₄ : s₄ = s₂ := (if_neg (by rw [h₃, h₂, hu']; exact fun h => Bool.false_ne_true h.1)).trans h₃
  rw [h₄, h₂]
  exact if_neg (by rw [hg']; exact Bool.false_ne_true)

end Decision

/-! Latches and guard arms (R304, R307). -/

theorem doLatchClear_of_writable {s : Block} {i : Nat} (v : Word) (hw : s.writable (Reg.OWL_LATCH i) = true) :
    doLatchClear i v s = s.writeLatch i v := if_pos hw

section Latch

variable {s : Block} {w c : Nat}

theorem Block.clearLatch_same_cycle (h : (s.owlWin w).wt.toNat / 2 = c / 2) : s.clearLatch w c = s := if_pos h

variable (h : (s.owlWin w).wt.toNat / 2 ≠ c / 2)
include h

theorem Block.clearLatch_no_trip (hd : (s.setBit (Reg.OWL_LATCH (w / 32)) (w % 32) false).decisionAt w = none) :
    s.clearLatch w c = s.setBit (Reg.OWL_LATCH (w / 32)) (w % 32) false := by
  simp only [Block.clearLatch, if_neg h, hd]

variable {d : Nat} (hd : (s.setBit (Reg.OWL_LATCH (w / 32)) (w % 32) false).decisionAt w = some d)
include hd

theorem Block.clearLatch_counts_anew (hc : d / 2 ≠ c / 2) : s.clearLatch w c =
    (s.setBit (Reg.OWL_LATCH (w / 32)) (w % 32) false).setOwlWin w { s.owlWin w with since := some (c + 2) } := by
  simp only [Block.clearLatch, if_neg h, hd, if_neg hc]

theorem Block.clearLatch_with_decision (hc : d / 2 = c / 2) : s.clearLatch w c =
    if (s.setBit (Reg.OWL_LATCH (w / 32)) (w % 32) false).decides w
    then (s.setBit (Reg.OWL_LATCH (w / 32)) (w % 32) false).trip w else s.setBit (Reg.OWL_LATCH (w / 32)) (w % 32) false := by
  simp only [Block.clearLatch, if_neg h, hd, if_pos hc]

end Latch

theorem doOwlArm_of_writable {s : Block} (w : Nat) (hw : s.writable Reg.OWL_GCMD = true) :
    doOwlArm w s = s.armGuard w true := if_pos hw

theorem doOwlDisarm_of_writable {s : Block} (w : Nat) (hw : s.writable Reg.OWL_GCMD = true) :
    doOwlDisarm w s = s.armGuard w false := if_pos hw

/-! Writes of a window's configuration and thresholds (R299, R300, R308). -/

/-- Window `w` shows no class. -/
def Block.showNoClass (s : Block) (w : Nat) : Block :=
  (s.setBit (Reg.OWL_ABOVE (w / 32)) (w % 32) false).setBit (Reg.OWL_BELOW (w / 32)) (w % 32) false

section Config

variable {s : Block} {w : Nat} {v : Word}

theorem doWCfgWrite_of_writable (hw : s.writable (Reg.W_CFG w) = true) : doWCfgWrite w v s = s.writeWcfg w v := if_pos hw

theorem cfg_refused_iff : (bitsOf v 17 16 = 3 ∨ (!owlInputOk (bitsOf v 11 0)) = true) ↔
    (bitsOf v 17 16 = 3 ∨ owlInputOk (bitsOf v 11 0) = false) := by rw [Bool.not_eq_true']

theorem Block.writeWcfg_ignored (h : bitsOf v 17 16 = 3 ∨ owlInputOk (bitsOf v 11 0) = false) :
    s.writeWcfg w v = s.put Reg.OWL_STATUS_CFG_IGNORED_SEEN 1 := if_pos (cfg_refused_iff.mpr h)

variable (h : ¬ (bitsOf v 17 16 = 3 ∨ owlInputOk (bitsOf v 11 0) = false))
include h

theorem Block.writeWcfg_other_input (hi : bitsOf (s.reg (Reg.W_CFG w)) 15 0 ≠ bitsOf v 15 0) {b : Block}
    (hb : s.writeFields (Reg.W_CFG w) v = b) : s.writeWcfg w v = (b.suspend w (b.now + 40)).showNoClass w := by
  subst hb
  exact (if_neg (mt cfg_refused_iff.mp h)).trans (if_pos hi)

variable (hi : bitsOf (s.reg (Reg.W_CFG w)) 15 0 = bitsOf v 15 0)
include hi

theorem Block.writeWcfg_same_mode (hm : bitsOf (s.reg (Reg.W_CFG w)) 17 16 = bitsOf v 17 16) :
    s.writeWcfg w v = s.writeFields (Reg.W_CFG w) v :=
  (if_neg (mt cfg_refused_iff.mp h)).trans ((if_neg (not_not_intro hi)).trans (if_pos hm))

variable (hm : bitsOf (s.reg (Reg.W_CFG w)) 17 16 ≠ bitsOf v 17 16) {b : Block} (hb : s.writeFields (Reg.W_CFG w) v = b)
include hm hb

theorem Block.writeWcfg_on_off (h0 : bitsOf v 17 16 = 0 ∨ bitsOf (s.reg (Reg.W_CFG w)) 17 16 = 0) :
    s.writeWcfg w v = (b.setOwlWin w { b.owlWin w with known := false, since := none }).showNoClass w := by
  subst hb
  exact (if_neg (mt cfg_refused_iff.mp h)).trans ((if_neg (not_not_intro hi)).trans ((if_neg hm).trans (if_pos h0)))

theorem Block.writeWcfg_other_mode (hv : bitsOf v 17 16 ≠ 0) (ho : bitsOf (s.reg (Reg.W_CFG w)) 17 16 ≠ 0) :
    s.writeWcfg w v =
      b.setOwlWin w { b.owlWin w with since := if b.trips w (s.owlClass w) then some s.now else none } := by
  have hnow : b.now = s.now := by
    rw [Block.now, ← hb, (Block.writeFields_frame s (Reg.W_CFG w) v).localCount_eq rfl, Block.now]
  rw [← hnow]
  subst hb
  exact (if_neg (mt cfg_refused_iff.mp h)).trans ((if_neg (not_not_intro hi)).trans ((if_neg hm).trans
    (if_neg (not_or.mpr ⟨hv, ho⟩))))

end Config

section Thresholds

variable {s : Block} {w : Nat} {v : Word}

theorem doWThrWrite_of_writable (hw : s.writable (Reg.W_THR w) = true) : doWThrWrite w v s = s.writeWthr w v := if_pos hw

theorem Block.writeWthr_ignored (h : signed 10 (bitsOf v 25 16) < signed 10 (bitsOf v 9 0)) :
    s.writeWthr w v = s.put Reg.OWL_STATUS_CFG_IGNORED_SEEN 1 := if_pos h

variable (h : signed 10 (bitsOf v 9 0) ≤ signed 10 (bitsOf v 25 16)) {b : Block} (hb : s.writeFields (Reg.W_THR w) v = b)
include h hb

theorem Block.writeWthr_same (hs : b.reg (Reg.W_THR w) = s.reg (Reg.W_THR w)) : s.writeWthr w v = b := by
  subst hb
  exact (if_neg (Int.not_lt.mpr h)).trans (if_pos hs.symm)

theorem Block.writeWthr_other (hs : b.reg (Reg.W_THR w) ≠ s.reg (Reg.W_THR w)) :
    s.writeWthr w v = (b.suspend w (b.now + 40)).showNoClass w := by
  subst hb
  exact (if_neg (Int.not_lt.mpr h)).trans (if_neg hs.symm)

end Thresholds

/-! Self-checks (R311–R313). -/

section SelfCheck

variable {s : Block} {k : OwlCheck}

theorem doSelfCheckTie_of_running {c : Nat} (hk : s.owl.check = some k) (hc : s.coreOn = true) (h1 : k.kind = 1)
    (ht : k.start + 50 ≤ s.now) (h0 : c ≠ 0) : doSelfCheckTie c s = (s.put Reg.OWL_SCSTAT_CLASS c).checkSampled k := by
  simp only [doSelfCheckTie, hk]
  exact if_pos ⟨h1, h0, ht, hc⟩

theorem doSelfCheckSwap_of_running {c n : Nat} (hk : s.owl.check = some k) (hc : s.coreOn = true) (h2 : k.kind = 2)
    (ht : k.start + 100 ≤ s.now) (h0 : c ≠ 0) (hn : n ≠ 0) :
    doSelfCheckSwap c n s = ((s.put Reg.OWL_SCSTAT_CLASS c).put Reg.OWL_SCSTAT_CLASS_N n).checkSampled k := by
  simp only [doSelfCheckSwap, hk]
  exact if_pos ⟨h2, h0, hn, ht, hc⟩

/-- No check runs, and the last one reads as done. -/
def Block.checkDone (s : Block) : Block :=
  ((s.withOwl { s.owl with check := none }).put Reg.OWL_SCSTAT_DONE 1).put Reg.OWL_SCSTAT_BUSY 0

/-- The window of check `k` leaves its suspension at local count `t`, and what waited for the check's end follows. -/
def Block.leaveCheck (s : Block) (k : OwlCheck) (t : Nat) : Block :=
  (if s.trips k.window (s.owlClass k.window) then
    s.setOwlWin k.window { s.owlWin k.window with since := some t } else s).afterCheck k

/-- Neither the end of a check nor the judgement of its result takes time. -/
theorem Block.checkDone_now (s : Block) : s.checkDone.now = s.now := by
  rw [Block.now, Block.checkDone, Block.put_localCount, Block.put_localCount, Block.withOwl_localCount, Block.now]

theorem Block.judgeTie_now (s : Block) (k : OwlCheck) : (s.judgeTie k).now = s.now :=
  congrArg BitVec.toNat ((s.judgeTie_frame k).localCount_eq rfl)

variable (hk : s.owl.check = some k) (hs : k.sampled = true)
include hk hs

theorem doSelfCheckEnd_of_sampled {b : Block} (hb : (if k.kind = 1 then s.checkDone.judgeTie k else s.checkDone) = b)
    (ht : k.start + (if k.kind = 1 then 72 else 102) ≤ s.now) : doSelfCheckEnd s = b.leaveCheck k b.now := by
  subst hb
  rw [doSelfCheckEnd, hk]
  exact if_neg (by simp [hs, ht])

theorem doSelfCheckEnd_tie (h1 : k.kind = 1) (ht : k.start + 72 ≤ s.now) :
    doSelfCheckEnd s = (s.checkDone.judgeTie k).leaveCheck k s.now := by
  rw [doSelfCheckEnd_of_sampled hk hs (if_pos h1) (by rwa [if_pos h1]), Block.judgeTie_now, Block.checkDone_now]

theorem doSelfCheckEnd_swap (h2 : k.kind = 2) (ht : k.start + 102 ≤ s.now) :
    doSelfCheckEnd s = s.checkDone.leaveCheck k s.now := by
  have h1 : k.kind ≠ 1 := by rw [h2]; decide
  rw [doSelfCheckEnd_of_sampled hk hs (if_neg h1) (by rwa [if_neg h1]), Block.checkDone_now]

end SelfCheck

/-! Automatic visits (R313). -/

section Visit

variable {s : Block} (he : s.flag Reg.OWL_SCAUTO_EN = true) (hc : s.coreOn = true) (hb : s.busySS 13 = false)
  (ht : s.owl.visitAt + s.visitPeriod ≤ s.now)
include he hc hb ht

/-- A visit has fallen due. -/
theorem visit_not_early : ¬ ((!s.flag Reg.OWL_SCAUTO_EN) = true ∨ (!s.coreOn) = true ∨ s.busySS 13 = true ∨
    s.now < s.owl.visitAt + s.visitPeriod) := by simp [he, hc, hb, ht]

theorem doAutoVisit_waits (hk : s.owl.check.isSome = true) :
    doAutoVisit s = s.withOwl { s.owl with due := true, visitAt := s.owl.visitAt + s.visitPeriod } :=
  (if_neg (visit_not_early he hc hb ht)).trans (if_pos hk)

theorem doAutoVisit_begins (hk : s.owl.check = none) :
    doAutoVisit s = (s.withOwl { s.owl with visitAt := s.owl.visitAt + s.visitPeriod }).beginVisit :=
  (if_neg (visit_not_early he hc hb ht)).trans (if_neg (by rw [hk]; exact Bool.false_ne_true))

end Visit

/-- Which windows a visit includes, and which is next, stand in registers alone. -/
theorem Block.beginVisit_withOwl_none {s : Block} (o : OwlSt) (h : s.nextVisit (s.get Reg.OWL_SCAUTO_NEXT) = none) :
    (s.withOwl o).beginVisit = s.withOwl { o with due := false } := by
  have h' : (s.withOwl o).nextVisit ((s.withOwl o).get Reg.OWL_SCAUTO_NEXT) = none := h
  rw [Block.beginVisit, h']; rfl

theorem Block.beginVisit_withOwl_some {s : Block} (o : OwlSt) {w : Nat}
    (h : s.nextVisit (s.get Reg.OWL_SCAUTO_NEXT) = some w) :
    (s.withOwl o).beginVisit = ((s.withOwl { o with due := false }).put Reg.OWL_SCAUTO_NEXT
      ((s.nextVisit ((w + 1) % 256)).getD w)).visitWindow w := by
  have h' : (s.withOwl o).nextVisit ((s.withOwl o).get Reg.OWL_SCAUTO_NEXT) = some w := h
  rw [Block.beginVisit, h']; rfl

/-- Settles O34: each clause is one branch of its command; the class at a suspension's end is taken from settings that the end
leaves alone, and a decision that only raises an event leaves the other actions' settings alone. -/
theorem windowsFollow : Obligations.WindowsFollow := by
  unfold Obligations.WindowsFollow
  refine ⟨fun s w v hc hb hm hs => does_of_exec rfl (doWindowClassChange_of_on v hc hb hm hs),
    fun s w v hc hb hm hk => ?suspension,
    fun s w t hc hb hs ht hl hsince hq he htg hu hg hfirst => does_of_exec rfl ((doWindowDecision_of_decides hc hb
      (Block.decides_of_lasted hs ht hl hsince hq) hfirst).trans (Block.trip_event_only w.isLt he htg hu hg)),
    fun s i v hw => does_of_exec rfl (doLatchClear_of_writable v hw),
    fun s w c => ⟨Block.clearLatch_same_cycle, Block.clearLatch_no_trip,
      fun d h hd => ⟨Block.clearLatch_counts_anew h hd, Block.clearLatch_with_decision h hd⟩⟩,
    fun s w hw => ⟨does_of_exec rfl (doOwlArm_of_writable w hw), does_of_exec rfl (doOwlDisarm_of_writable w hw)⟩,
    fun s w v hw => ?config, fun s w v hw => ?thresholds,
    fun s k hk hc => ⟨fun h1 ht c h0 => ?tie, fun h2 ht c n h0 hn => ?swap⟩,
    fun s k hk hs => ⟨fun h1 ht => does_of_exec rfl (doSelfCheckEnd_tie hk hs h1 ht),
      fun h2 ht => does_of_exec rfl (doSelfCheckEnd_swap hk hs h2 ht)⟩,
    fun s he hc hb ht => ?visit⟩
  case suspension =>
    have hd := doSuspendEnd_of_free v hc hb hm hk
    exact ⟨fun h0 => does_of_exec rfl (hd.trans (if_pos h0)), fun h0 => does_of_exec rfl (hd.trans (if_neg h0))⟩
  case config =>
    have hd := doWCfgWrite_of_writable (v := v) hw
    exact ⟨fun h => does_of_exec rfl (hd.trans (Block.writeWcfg_ignored h)),
      fun h hi => does_of_exec rfl (hd.trans (Block.writeWcfg_other_input h hi rfl)),
      fun h hi hm => does_of_exec rfl (hd.trans (Block.writeWcfg_same_mode h hi hm)),
      fun h hi hm => ⟨fun h0 => does_of_exec rfl (hd.trans (Block.writeWcfg_on_off h hi hm rfl h0)),
        fun hv ho => does_of_exec rfl (hd.trans (Block.writeWcfg_other_mode h hi hm rfl hv ho))⟩⟩
  case thresholds =>
    have hd := doWThrWrite_of_writable (v := v) hw
    exact ⟨fun h => does_of_exec rfl (hd.trans (Block.writeWthr_ignored h)),
      fun h hs => does_of_exec rfl (hd.trans (Block.writeWthr_same h rfl hs)),
      fun h hs => does_of_exec rfl (hd.trans (Block.writeWthr_other h rfl hs))⟩
  case tie => exact does_of_exec rfl (doSelfCheckTie_of_running hk hc h1 ht (Fin.val_ne_of_ne h0))
  case swap =>
    exact does_of_exec rfl (doSelfCheckSwap_of_running hk hc h2 ht (Fin.val_ne_of_ne h0) (Fin.val_ne_of_ne hn))
  case visit =>
    have hd := doAutoVisit_begins he hc hb ht
    exact ⟨fun hk => does_of_exec rfl (doAutoVisit_waits he hc hb ht hk),
      fun hk hn => does_of_exec rfl ((hd hk).trans (Block.beginVisit_withOwl_none _ hn)),
      fun w hk hn => does_of_exec rfl ((hd hk).trans (Block.beginVisit_withOwl_some _ hn))⟩

end Sys2Proof.Machine
end
